-- ==== Sys2Proof/Word.lean ====
section
/-!
DEFINITION. Word.lean: the plain types of the QX5120 model. A table is a list of (key, value) pairs in one canonical
form (keys rising, no entry equal to what an unlisted key reads as); its operations stand in Machine/Table.lean.
-/
namespace Sys2Proof

/-- A byte of a frame, an entry, a record or a memory. -/
abbrev Byte := BitVec 8

/-- The 16 bytes of a grain in one row as one word; byte 0, the first in time, is bits [127:120] (R50). -/
abbrev Grain := BitVec 128

/-- A row sequence number, 48 bits, wrapping (R10, R11). -/
abbrev Rsn := BitVec 48

/-- A sparse table in canonical form: keys rising, no default value listed. -/
abbrev Table (α : Type) := List (Nat × α)

/-- A byte memory: listed (address, byte) pairs; an unlisted address reads as 0 (log entry 4). -/
abbrev Memory := Table Byte

end Sys2Proof
end

