-- ==== Sys2Proof/Operand.lean ====
section
/-!
DEFINITION. Operand.lean: the operands of the commands: the parameter names of the manual, the entry that carries a
Drepex command, the tables that commands read from host buffers, received rows, messages of the pair, and measurements
that events bring. All of it is plain data.
-/
namespace Sys2Proof

/-- Every parameter the manual names (R420, R423). The name of class.field is written classField. The sixteen windows
host.winK_base, host.winK_size and host.winK_flags (R469) are three names here, K standing where an object number stands. -/
inductive Pn where
  -- lane, R89, R117, R276, R338
  | laneMode | laneTxPrecode | laneRxPrecode | laneTraceText | laneClocking | laneAnchor | laneRxPolarity
  | laneTraceCheck | laneTraceExpected | laneTimAction | laneSelfAllowed | laneSdThreshold | laneSdRcfThreshold
  | laneLoupe | laneTxEnable | laneRxEnable | laneTxTaps | laneTxSwing | laneTxPolarity | laneRxAdapt
  | laneRxCoupling | lanePrbsTx | lanePrbsPattern | lanePrbsRx
  | laneTheta | laneRxStatus | laneWiringStatus | laneTestStatus | laneTxCfgStatus | laneRxCfgStatus
  -- lane counts, R118, R241, R339, R402
  | lanePmCorrSym | lanePmCorrCw | lanePmUncCw | lanePmRce | lanePmInvRows | lanePmFeUnc | lanePmFeRce
  | lanePmCandRej | lanePmFalseLock | lanePmRsnJump | lanePmLof | lanePmTraceCrc | lanePmMgmtFcs
  | lanePmEs | lanePmSes | lanePmUas | lanePmMgmtDrop | lanePmApsCrc | lanePmApsBadcode
  | lanePrbsBits | lanePrbsErrors | lanePrbsLockLoss | laneWiringEvents
  | lanePmCwHist0 | lanePmCwHist1 | lanePmCwHist2 | lanePmCwHist3 | lanePmCwHist4 | lanePmCwHist5
  | lanePmCwHist6 | lanePmCwHist7 | lanePmCwHist8 | lanePmCwHist9 | lanePmCwHist10 | lanePmCwHist11
  | lanePmCwHist12 | lanePmCwHist13 | lanePmCwHist14 | lanePmCwHist15 | lanePmCwHist16
  -- tributary, R89, R152, R153, R276
  | tribTraceText | tribSignalLabel | tribLabelCheck | tribExpectedLabel | tribPlmAction | tribTraceCheck
  | tribTraceExpected | tribTimAction | tribSdThreshold | tribLockstepRealign | tribInterpretation
  | tribStatus | tribRing | tribPoolUsed
  | tribPmRxPjPos | tribPmRxPjNeg | tribPmRxNdf | tribPmInvPtr | tribPmTxPjPos | tribPmTxPjNeg | tribPmTxNdf
  | tribPmBip | tribPmFeBip | tribPmSlip | tribPmTraceCrc
  -- dune, R176 to R178
  | duneStatus | duneDOut | duneEIn | duneDOutShadow | duneEInShadow | duneFreeCyclesIn | duneFreeCyclesOut
  | dunePmMsrWords | dunePmMsrRows | dunePmMsaWords | dunePmFqWords | dunePmMoves
  -- map and caravan, R208 to R210
  | mapGeneration | mapCommitRsn | mapEarliestCommit | mapStageEntries | mapStageRecords | mapStageDigest
  | mapCommitStatus | caravanLoopRows | caravanNextEntry
  | mapPmCommits | mapPmAborts | mapPmShadowEcc | mapPmLag
  -- prot and merge, R238 to R241
  | protRevertive | protWtr | protHoldoff | protSdEnable | protDirection | protApsLane | protApsRemoteGroup
  | mergePreferred | mergeSkewWarn | protStatus | mergeStatus
  | protPmSwitches | protPmWtrExpired | protPmFeChanges
  | mergePmRowsA | mergePmRowsB | mergePmPlaneChanges | mergePmDoubleInvalid | mergePmDiffer
  -- timing, R306 to R309
  | timingRefEnable | timingRefFreq | timingLrefLane | timingLrefQlOverride | timingRefPriority
  | timingRefAcceptUnknown | timingRefWtr | timingRefHardPpb | timingRefSoftPpb | timingVoteEnable
  | timingRevertive | timingLockTimeout | timingDpllBw | timingClampPpb | timingAllowFreerun | timingOsensAddr
  | timingPpsPriority | timingPpsWtr | timingPpsTolerance | timingPpsDelay | timingTodBaud | timingRsnMode
  | timingRsnEpoch | timingStepThreshold | timingSlewRate | timingHoldoverQl | timingFreerunQl | timingClkoutDiv
  | timingClkoutSquelch | timingPpsOutWidth | timingPpsOutAdvance
  | timingStatus | timingRefStatus | timingCfgStatus
  | timingPmSwitches | timingPmDisq | timingPmOasisS | timingPmFreerunS | timingPmPulled | timingPmSteps
  | timingPmTodBad
  -- facet and cut, R276 to R278
  | facetEnable | facetScope | facetDest | facetLoupeLane | facetLoupeFirst | facetLoupeGrains
  | cutEnable | cutFormat | cutScale | cutLane | cutFirst | cutInputs
  | facetStatus | facetCfgStatus | cutStatus | cutCfgStatus
  | facetPmSfWritten | facetPmSfDropped | facetPmPlesioSkipped
  | cutPmSamples | cutPmSatPos | cutPmSatNeg | cutPmAisRows
  -- pair and sared, R370 to R372
  | pairEnable | pairPeerSerial | pairCkptInterval | pairSelfdiagWdt | pairStatus
  | pairPmAcquire | pairPmRelease | pairPmLapse | pairPmSld | pairPmCkpt | pairPmLiveCopy
  | saredPmCorrSym | saredPmUncCw
  -- host, session, perf, cfg, R411, R440, R468 to R470, R521, R522, R548
  | hostIrqHoldoff | hostWinBase | hostWinSize | hostWinFlags | sessionIdleTimeout | sessionResumeWindow
  | perfObserverRead | cfgProtection | cfgApplyMode | cfgProtectionActive | cfgJccStatus | cfgFaultStatus
  | cfgPmDefaultHits | cfgPmAddrFaults | cfgPmTornWrites | cfgPmMarchRegions | cfgPmMarchRepairs
  | cfgPmMarchStallCycles | cfgPmFaultMasked | cfgPmFaultDetected | cfgPmFaultCompound | cfgPmFaultEscalated
  | cfgPmD2dRepairs
  -- power, R495 to R498
  | powerQStripes | powerQFac | powerQJcc | powerWakeTimer | powerDomainStates | powerDvfsJcc | powerDvfsFac
  | powerTodUncertainty | powerLastSleep | powerWakeCause
  | powerPmSleepRequests | powerPmSleepRefused | powerPmWakes | powerPmDvfsSteps
  -- log and fw, R544, R547 to R549, R571
  | logAlarmLevel | logTraceCommands | logStatus | logLifeOnS | logLifeTj | logLifeSupply | logLifeCycles
  | logLifeResets | logLifeCommits | logLifeClaspAcq | logLifeClaspRel | logLifeFec | logLifeWear
  | logPmEvents | logPmDropTrace | logPmDropPerf | logPmDropInfo | logPmFiltered | logPmAlarmCoalesced
  | logPmJournalRecords | logPmJournalRefused | logPmJournalCoalesced | logPmSecurityCounted
  | logPmLifetimeWrites
  | fwTrialS
  deriving DecidableEq, Repr

/-- A parameter identifier of R420: a name and an object number, the _prev snapshot of a count (R120), or an
identifier unknown to the device. -/
inductive PId where
  | known (n : Pn) (obj : Nat)
  | prev (n : Pn) (obj : Nat)
  | unknown (raw : Nat)
  deriving DecidableEq, Repr

/-- A command entry (R383): its 64 bytes as a number, byte k at bits 8k on, and where it was taken: RING of R385 is 0–15 for a ring
pair, 16–23 for MB0–MB7, 24 for the sideband. -/
structure Entry where
  ring : Nat
  word : BitVec 512
  deriving DecidableEq, Repr

/-- Bytes k to k + n − 1 of an entry, little-endian (R383). -/
def Entry.field (e : Entry) (k n : Nat) : Nat := e.word.toNat / 256 ^ k % 256 ^ n
/-- CLASS in bits [15:8] and OP in bits [7:0] (R383, R401). -/
def Entry.code (e : Entry) : Nat := e.field 0 1 * 256 + e.field 1 1
/-- CMD_ID (R383). -/
def Entry.cmdId (e : Entry) : Nat := e.field 4 4
/-- SESSION (R383). -/
def Entry.session (e : Entry) : Nat := e.field 8 4
/-- SUBMIT_SEQ (R383). -/
def Entry.submitSeq (e : Entry) : Nat := e.field 12 4

/-- BUF of R384: a host address and a length; with it how the device's reads of the buffer complete (R464): 0 without error, 1
Unsupported Request, 2 Completer Abort, 3 Poisoned completion, 4 Completion timeout. -/
structure Buf where
  addr : Nat
  len : Nat
  readErr : Nat := 0
  deriving DecidableEq, Repr

/-- An entry of PARAM.SET (R422). -/
structure ParamEntry where
  id : PId
  len : Nat
  reservedZero : Bool
  value : List Byte
  deriving DecidableEq, Repr

/-- A delta entry read from its 16 bytes (R186), without the reserved bits of FLAGS and of the lane and grain fields (R15). -/
structure DeltaEntry where
  op : Nat
  flags : Nat
  egrLane : Nat
  egrGrain : Nat
  priLane : Nat
  priGrain : Nat
  altLane : Nat
  altGrain : Nat
  group : Nat
  deriving DecidableEq, Repr

/-- The n bytes from byte k on of a little-endian entry (R8). -/
def bytesAt (v k n : Nat) : Nat := v / 256 ^ k % 256 ^ n

/-- A 16-byte entry of a delta table, little-endian as it stands in host memory (R8, R186). -/
def DeltaEntry.ofWord (w : BitVec 128) : DeltaEntry :=
  let v := w.toNat
  let lane := fun (k : Nat) => bytesAt v k 2 % 512
  let grain := fun (k : Nat) => bytesAt v k 2 % 4096
  { op := bytesAt v 0 1
    flags := bytesAt v 1 1 % 2
    egrLane := lane 2
    egrGrain := grain 4
    priLane := lane 6
    priGrain := grain 8
    altLane := lane 10
    altGrain := grain 12
    group := bytesAt v 14 2 }

/-- An entry of CUT.STAGE read from its 8 bytes (R265), without its reserved byte. -/
structure CutDelta where
  input : Nat
  lane : Nat
  grain : Nat
  op : Nat
  deriving DecidableEq, Repr

/-- An 8-byte entry of CUT.STAGE, little-endian (R265). -/
def CutDelta.ofWord (w : BitVec 64) : CutDelta :=
  let v := w.toNat
  ⟨bytesAt v 0 2, bytesAt v 2 2, bytesAt v 4 2, bytesAt v 6 1⟩

/-- A timetable entry read from its 16 bytes (R201), without its reserved bytes. -/
structure TimetableEntry where
  rsn : Rsn
  block : Nat
  deriving DecidableEq, Repr

/-- A 16-byte timetable entry, little-endian (R201). -/
def TimetableEntry.ofWord (w : BitVec 128) : TimetableEntry := ⟨BitVec.ofNat 48 (bytesAt w.toNat 0 6), bytesAt w.toNat 6 2⟩

/-- A message on TOD_IN with the rate at which it was sent (R296). -/
structure TodFrame where
  bytes : List Byte
  baud : Nat
  deriving DecidableEq, Repr

/-- A second of the oscillator: its temperature in millikelvin, where the sensor was read, and its frequency in ppt (R291, R292). -/
structure OcxoSecond where
  milliK : Option Int
  freqPpt : Int
  deriving DecidableEq, Repr

/-- An event filter entry (R535). -/
structure FilterEntry where
  code : Nat
  cls : Nat
  action : Nat
  obj : Nat
  deriving DecidableEq, Repr

/-- An entry of PERF.PROGRAM (R541). -/
structure PerfEntry where
  counter : Nat
  event : Nat
  obj : Nat
  flags : Nat
  threshold : Nat
  deriving DecidableEq, Repr

/-- An entry of POWER.DOMAIN (R475). -/
structure DomainEntry where
  domain : Nat
  target : Nat
  deriving DecidableEq, Repr

/-- The strap pins (R575); true is high. -/
structure Straps where
  planeB : Bool
  primary : Bool
  protSel : Bool
  serviceEn : Bool
  addr : Nat
  deriving DecidableEq, Repr

/-- The grains of one lane row: a fill and the grains that differ from it. -/
structure RowContent where
  fill : Grain
  grains : Table Grain
  deriving DecidableEq, Repr

/-- One row length of the line signal at the RX pins of a lane or a Sared lane, as its slicer reads it (R48, R56, R342): whether the
detector sees a signal, the position on the line at which the stretch begins, the level index of the symbol before it, the level
indices from there on in time order, and the arrival offset measured (R99). A symbol that is missing reads as level 0. lost: the line
bits of the stretch that had arrived when LOS set, where it set within the stretch (R118). -/
structure RawRow where
  signal : Bool
  offset : Nat
  prev : Nat
  levels : List Nat
  theta : Int
  lost : Option Nat := none
  deriving DecidableEq, Repr

/-- A lease frame (R349) less SYNC and CRC. -/
structure LeaseFrame where
  state : Nat
  primary : Bool
  plane : Bool
  lseq : Nat
  ackSeq : Nat
  ackValid : Bool
  tsel : Nat
  tstate : Nat
  caravanAbort : Bool
  saredUp : Bool
  generation : Nat
  serial : BitVec 32
  deriving DecidableEq, Repr

/-- The two paths of the lease (R348). -/
inductive LeasePath where
  | sared
  | clasp
  deriving DecidableEq, Repr

/-- A write burst that a master reset cuts short (R459, R460): the addresses written and suppressed. -/
structure Burst where
  master : Nat
  target : Nat
  firstWritten : Nat
  lastWritten : Nat
  firstSuppressed : Nat
  lastSuppressed : Nat
  deriving DecidableEq, Repr

/-- An entry whose command may reset the Jaray complex, with the write bursts that the reset finds under way (R460). -/
structure ResetEntry where
  entry : Entry
  bursts : List Burst := []
  deriving DecidableEq, Repr

/-- A transfer of a DMA channel (R461): its bytes; abort: the firmware resets the channel after that many beats (R458). -/
structure DmaRun where
  len : Nat
  abort : Option Nat := none
  deriving DecidableEq, Repr

/-- One received Sared row (R342): the line signal; with it what the holder's rules read of the peer and no message of the manual
carries: its mode and JOINED, and the digests of its staged delta and of its caravan store (log entry 9). -/
structure SaredRow where
  raw : RawRow
  peerMode : Nat
  peerJoined : Bool
  peerStage : BitVec 32
  peerStore : BitVec 32
  /-- The write bursts that the Sared engine has in progress on the matrix as the row ends (R459). -/
  bursts : List Burst := []
  deriving DecidableEq, Repr

/-- A session of a checkpoint's session table (R363): its handle, role, path and times. -/
structure CkptSession where
  handle : Nat
  role : Nat
  path : Nat
  opened : Rsn
  last : Rsn
  deriving DecidableEq, Repr

/-- The parts of a checkpoint behind its number and format (R363): map generation, RSN; the session table; journal head, last sequence
number and origin tables; per dune D_i and E_j as placed, owner and digest of the staged delta; long commands with their progress; the
parameters that the firmware holds, and the digest of the parameter store. -/
structure CkptParts where
  generation : Nat := 0
  rsn : Rsn := 0
  sessions : List CkptSession := []
  jHead : Nat := 0
  jSeq : Nat := 0
  origins : List (Nat × Nat × Nat × Nat) := []
  placed : List (Nat × Nat) := []
  stageOwner : Nat := 0
  stageDigest : BitVec 32 := 0
  longs : List (Nat × Nat) := []
  params : List (Nat × Nat) := []
  paramDigest : BitVec 32 := 0
  deriving DecidableEq, Repr

/-- A checkpoint (R363): its sequence number, its format (R551) and its parts. -/
structure Ckpt extends CkptParts where
  seq : Nat := 0
  format : Nat := 0
  deriving DecidableEq, Repr

/-- PROPOSE of R197. -/
structure ProposeMsg where
  generation : Nat
  rsn : Rsn
  digest : BitVec 32
  session : Nat
  role : Nat
  cmdId : Nat
  code : Nat
  deriving DecidableEq, Repr

/-- A compiled map record (R189): it writes one map entry. map: 0 ingress, 1 middle, 2 egress, 3 cut input list;
value none writes VALID = 0. -/
structure MapRec where
  map : Nat
  dune : Nat
  index : Nat
  value : Option (BitVec 80)
  deriving DecidableEq, Repr

/-- What the holder's staging port sends (R191): the delta entries and cut inputs of one staging command, the compiled records of the
whole staged delta in staging order, and the deliveries moved. -/
structure StageMsg where
  entries : List DeltaEntry
  cuts : List (Nat × CutDelta)
  recs : List MapRec
  moves : List (Nat × Nat)
  deriving DecidableEq, Repr

/-- The compiled records of a timetable entry and the deliveries they move (R190, R201). -/
structure BlockRecs where
  recs : List MapRec
  moves : List (Nat × Nat)
  deriving DecidableEq, Repr

/-- A timetable entry with its compiled records and the deliveries they move, as the caravan store holds it (R190, R201). -/
structure CaravanBlock where
  rsn : Rsn
  block : Nat
  recs : List MapRec
  moves : List (Nat × Nat)
  deriving DecidableEq, Repr

/-- One pointer decision of R147: 0 none, 1 positive, 2 negative, 3 re-centre, with the units from the holder's read position to the
next container start as the PMF begins (log entry 107). -/
structure PtrDecision where
  trib : Nat
  code : Nat
  toStart : Nat
  deriving DecidableEq, Repr

/-- What a lockstep frame carries for comparison (R149, R231). -/
structure LockFrame where
  generation : Nat
  pointers : List (Nat × Nat × Nat)
  groups : List (Nat × Bool × Nat × Bool)
  deriving DecidableEq, Repr

/-- A command that the holder forwards (R203, R204, R229, R232, R303), with the row at which both units enter it. commandState: the groups
that hold a command; at the end of a live copy the groups whose selection is ALTERNATE as well (R229, R366). -/
inductive Forwarded where
  | prot (kind : Nat) (groups : List Nat) (target : Bool)
  | mergeCreate (laneA laneB : Nat)
  | mergeDelete (lane : Nat)
  | timingStep (rsn : Rsn) (todCycles : Nat)
  | caravanStart (rsn : Rsn)
  | caravanStop (rsn : Rsn)
  | commandState (states : List (Nat × Nat × Bool)) (alternates : Option (List Nat))
  deriving DecidableEq, Repr

/-- The head of a forwarded command (R405). -/
structure ForwardHead where
  session : Nat
  role : Nat
  cmdId : Nat
  code : Nat
  row : Rsn
  deriving DecidableEq, Repr

/-- A LIVE-class message (R366): parameter values by key; every tributary of the holder with its lane, grains and mode RETIMED;
its merge pairs; its time; map records; dirty records with the generation they lead to; a loaded caravan store. -/
inductive LiveMsg where
  | params (vals : List (Nat × Nat))
  | tribs (ts : List (Nat × Nat × List Nat × Bool))
  | merges (ms : List (Nat × Nat))
  | timing (rsn : Rsn) (todCycles : Nat) (tsel : Nat)
  | records (recs : List MapRec)
  | dirty (recs : List MapRec) (generation : Nat)
  | caravan (blocks : List CaravanBlock) (loopRows base next pass : Nat)
  deriving DecidableEq, Repr

/-- A message to the peer, by the class that carries it (R345). LEASE: a lease frame, CARAVAN_ABORT. COMMIT: PROPOSE, READY, REFUSE, ARM
and ABORT of R197, forwarded commands. APS: the bytes 32–45 of an APS lane for a row. LOCKSTEP: a pointer decision for a PMF, a
comparison frame. STAGE: staged records or a discard of them (R187), the caravan store. LIVE: live copy. CKPT: a checkpoint. -/
inductive PeerMsg where
  | lease (f : LeaseFrame)
  | caravanAbort
  | propose (m : ProposeMsg)
  | ready (generation : Nat)
  | refuse (reason : Nat)
  | arm (generation : Nat)
  | abort (generation : Nat)
  | forward (h : ForwardHead) (c : Forwarded)
  | aps (lane : Nat) (row : Rsn) (bytes : List Byte)
  | decision (pmf : Nat) (d : PtrDecision)
  | compare (f : LockFrame)
  | stage (m : StageMsg) (discard : Bool)
  | store (blocks : List CaravanBlock) (loopRows base : Nat)
  | live (m : LiveMsg)
  | checkpoint (c : Ckpt)
  deriving DecidableEq, Repr

/-- The rails with monitors (R578). -/
inductive Rail where
  | vcore
  | vlane
  | vlaneH
  | vpll
  | vctl
  | vio
  deriving DecidableEq, Repr

/-- What one row boundary measures (R289, R303): the frequency of the selected input against OCXO_IN in units of 10⁻¹², and how far the
peer's row boundary lies from the unit's own in ns. -/
structure RowMeas where
  inputPpt : Int
  skewNs : Nat
  deriving DecidableEq, Repr

/-- What an edge at a PPS input pin measures, in ps (R295, R298): its distance from 1 s after the previous edge at the pin, by the DPLL
output, and how far into the device row under way it comes. -/
structure PpsMeas where
  devPs : Int
  phasePs : Nat
  deriving DecidableEq, Repr

/-- Lane defects of R110 that integrate. -/
inductive LaneDefect where
  | los | lof | anf | unc | lais | sd | rrdi | anw
  deriving DecidableEq, Repr

/-- Tributary defects of R144 that integrate. -/
inductive TribDefect where
  | tais | tlop | tszm | tuneq | tplm | tsd | trdi | tslip
  deriving DecidableEq, Repr

/-- Merge defects of R235. -/
inductive MergeDefect where
  | mdi | mdiff | mskw | mpln
  deriving DecidableEq, Repr

/-- Pairing defects of R369 that clear or set with time. -/
inductive PairDefect where
  | sld | slx | speer | cpin | cloop | cnoh | cdual | cstrap | cpair
  deriving DecidableEq, Repr

/-- The engines with two copies (R504 class 0x0D). -/
inductive Engine where
  | commit
  | lease
  | pointer (trib : Nat)
  | dpll
  deriving DecidableEq, Repr

/-- A single internal fault (R500): class of R504, region of R502, location and detail of R515. -/
structure FaultSite where
  cls : Nat
  region : Nat
  location : Nat
  detail : Nat
  lasting : Bool
  /-- The write bursts that the masters of the Jaray complex have in progress, which the reset of classes 0x08 and 0x09 cuts (R459). -/
  bursts : List Burst := []
  deriving DecidableEq, Repr

/-- A firmware image (R551) as the device reads it: header fields and the code's length. header is bytes 0–511, reserved
says that the reserved bytes are 0. -/
structure Image where
  magic : BitVec 32
  format : Nat
  keyIndex : Nat
  version : Nat
  svn : Nat
  floor : Nat
  codeLen : Nat
  ckptFormat : Nat
  ckptReadMin : Nat
  codeDigest : BitVec 384
  rsaN : List Byte
  slhPk : List Byte
  header : List Byte
  rsaSig : List Byte
  slhSig : List Byte
  reservedZero : Bool
  code : List Byte
  deriving DecidableEq, Repr

/-- The JTAG operations of R586, R587. -/
inductive ScanOp where
  | extest | extestPulse | extestTrain | clamp | bypass | idcode | sample
  deriving DecidableEq, Repr

/-- One register write of an apply batch (R457). -/
structure RegWrite where
  addr : Nat
  value : BitVec 32
  deriving DecidableEq, Repr

/-- A register of the register space beyond BAR0 and the semaphores: the register by which J0 releases J1 (R443); the ADDRESS, VALUE and
APPLY registers of an apply batch (R457); low and high word of a segment's base, and its limit (R462); word k of the record port (R457);
word k of a parameter (R445). none: unmapped. -/
inductive InnerReg where
  | none
  | j1Release
  | batchAddr
  | batchValue
  | apply
  | segLow (seg : Nat)
  | segHigh (seg : Nat)
  | segLimit (seg : Nat)
  | record (k : Nat)
  | param (n : Pn) (obj k : Nat)
  deriving DecidableEq, Repr, Inhabited

end Sys2Proof
end

