-- ==== Sys2Proof/Syntax.lean ====
section
/-!
DEFINITION. Syntax.lean: the commands of the QX5120 block, one constructor per row of spec/opcode_table.json. A Drepex
command carries its entry e and the arguments that the entry spells, in the order of R401 (Machine/Catalogue.lean ties the two); the tables it reads from host memory stand
beside the buffer that names them. Events carry what the outside world brings.
-/
namespace Sys2Proof

/-- The commands and events of the part, in the table's order. -/
inductive Instr where
  | sessionHello (e : Entry) (role resume handle : Nat) (nonce : List Byte) (respAddr : Nat)
  | sessionProve (e : Entry) (tag : BitVec 384)
  | sessionClose (e : Entry) (handle : Nat)
  | sessionRingCreate (e : Entry) (pair sqLog2 cqLog2 vector sqAddr cqAddr : Nat)
  | sessionRingDelete (e : Entry) (pair : Nat)
  | sessionList (e : Entry) (b : Buf)
  | paramGet (e : Entry) (b : Buf) (count : Nat) (ids : List PId)
  | paramSet (e : Entry) (b : Buf) (count : Nat) (entries : List ParamEntry)
  | paramDescribe (e : Entry) (b : Buf) (count : Nat) (ids : List PId)
  | paramSave (e : Entry)
  | laneEyeScan (e : Entry) (b : Buf) (lane eyes d vstep freeze : Nat)
  | laneMgmtSend (e : Entry) (b : Buf) (lane channel : Nat) (frame : List Byte)
  | laneMgmtRecv (e : Entry) (b : Buf) (lane channel : Nat)
  | tribCreate (e : Entry) (b : Buf) (grains : List Nat) (trib lane count mode : Nat)
  | tribDelete (e : Entry) (trib : Nat)
  | tribRealign (e : Entry) (trib : Nat)
  | mapStage (e : Entry) (b : Buf) (entries : Nat) (table : List (BitVec 128))
  | mapProbe (e : Entry) (b : Buf) (entries : Nat) (table : List (BitVec 128)) (out : Buf)
  | mapDiscard (e : Entry)
  | mapRead (e : Entry) (b : Buf) (first count bank map dune : Nat)
  | commitNow (e : Entry)
  | commitAt (e : Entry) (rsn : Nat)
  | commitCancel (e : Entry)
  | caravanLoad (e : Entry) (tt blk : Buf) (entries blocks loopRows : Nat) (table : List (BitVec 128))
      (deltas : List (List (BitVec 128)))
  | caravanStart (e : Entry) (rsn : Nat)
  | caravanStop (e : Entry)
  | protLockout (e : Entry) (b : Buf) (count : Nat) (groups : List Nat)
  | protForce (e : Entry) (b : Buf) (count : Nat) (groups : List Nat)
  | protManual (e : Entry) (b : Buf) (count target : Nat) (groups : List Nat)
  | protClear (e : Entry) (b : Buf) (count : Nat) (groups : List Nat)
  | mergeCreate (e : Entry) (laneA laneB : Nat)
  | mergeDelete (e : Entry) (lane : Nat)
  | timingForce (e : Entry) (input : Nat)
  | timingManual (e : Entry) (input : Nat)
  | timingHoldover (e : Entry)
  | timingClear (e : Entry)
  | timingSetQl (e : Entry) (input rank : Nat)
  | timingStep (e : Entry)
  | timingSetTod (e : Entry) (seconds : Nat)
  | loupeMirror (e : Entry) (obsLane obsGrain loupeLane loupeGrain : Nat)
  | loupeList (e : Entry) (b : Buf) (lane : Nat)
  | facetConfig (e : Entry) (addr log2 vector : Nat)
  | cutStage (e : Entry) (b : Buf) (count dune : Nat) (table : List (BitVec 64))
  | cutReadSat (e : Entry) (b : Buf) (first count dune : Nat)
  | testEnter (e : Entry)
  | testExit (e : Entry)
  | testLane (e : Entry) (lane add : Nat)
  | testInject (e : Entry) (rows lane amount kind : Nat)
  | testLoop (e : Entry) (lane loop : Nat)
  | powerMode (e : Entry) (mode : Nat)
  | powerDomain (e : Entry) (b : Buf) (count : Nat) (entries : List DomainEntry)
  | powerDvfs (e : Entry) (domain setpoint : Nat)
  | powerWarm (e : Entry) (bursts : List Burst)
  | logEventRing (e : Entry) (addr log2 vector : Nat)
  | logJournalRing (e : Entry) (addr log2 vector : Nat)
  | logFilter (e : Entry) (b : Buf) (count : Nat) (entries : List FilterEntry)
  | logAlarms (e : Entry) (b : Buf)
  | perfProgram (e : Entry) (b : Buf) (count : Nat) (entries : List PerfEntry)
  | perfRead (e : Entry) (b : Buf) (first count : Nat)
  | fwInfo (e : Entry) (b : Buf)
  | fwLoad (e : Entry) (b : Buf) (offset total : Nat) (image : Image)
  | fwActivate (e : ResetEntry)
  | fwMaintain (e : Entry)
  | fwResume (e : Entry)
  | fwRecover (e : Entry)
  | fwRestart (e : Entry)
  | secIdentity (e : Entry) (b : Buf)
  | secHallmark (e : Entry) (b : Buf) (nonce : List Byte)
  | secKeySet (e : Entry) (b : Buf) (role : Nat) (masked confirm : BitVec 384)
  | claspRelease (e : Entry) (force : Nat)
  | claspSeize (e : Entry)
  | claspClear (e : Entry)
  | claspCheckpoint (e : Entry)
  | diagFaultRead (e : Entry) (b : Buf) (first : Nat)
  | diagSelftest (e : Entry) (test : Nat) (failing : List Nat)
  | diagMemRead (e : Entry) (b : Buf) (address : Nat)
  | diagFaultInject (e : ResetEntry) (cls : Nat)
  | laneTxEnable (e : Entry) (lane : Nat) (v : Nat)
  | laneRxEnable (e : Entry) (lane : Nat) (v : Nat)
  | rxAdaptRestart (e : Entry) (lane : Nat)
  | facetEnable (e : Entry) (v : Nat)
  | cutEnable (e : Entry) (dune v : Nat)
  | pairEnableWrite (e : Entry) (v : Nat)
  | legacyWriteApply (n : Pn) (obj : Nat)
  | unlockWrite (v : BitVec 32)
  | recoverWrite (v : BitVec 32)
  | doorbellWrite (pair : Fin 16) (v : BitVec 32)
  | evtHeadWrite (v : BitVec 32)
  | jrnHeadWrite (v : BitVec 32)
  | facHeadWrite (v : BitVec 32)
  | mailboxGo (mb : Fin 8) (v : BitVec 32)
  | rsnLoRead
  | semaphoreRead (master : Fin 14) (sem : Fin 64)
  | semaphoreWrite (master : Fin 14) (sem : Fin 64)
  | applyBatch (j : Fin 2) (writes : List RegWrite)
  | remapWrite (j : Fin 2) (fromRom : Bool)
  | registerWrite (master : Fin 14) (addr : Nat) (bytes : List Byte)
  | dmaTransfer (ch : Fin 8) (src dst : Nat) (run : DmaRun)
  | i2cStatus
  | i2cWake
  | i2cSubmit (head : BitVec 128) (args : BitVec 384) (pec : Byte)
  | i2cResult
  | i2cAddressMatch
  | powerOn (straps : Straps)
  | vaonBrownout (straps : Straps)
  | resetNAssert
  | resetNRelease (straps : Straps)
  | perstNAssert (bursts : List Burst)
  | perstNDeassert
  | functionLevelReset (bursts : List Burst)
  | supplyRemoval
  | supplyRestore (ticks : Nat)
  | supplyTrip (rail : Rail)
  | thermalTrip
  | fatalCauseClear (ticks : Nat)
  | rootClockLoss
  | ocxoFailure
  | oxfClear
  | refSignalLoss (ref : Fin 8) (cause : Fin 3)
  | ppsEdge (pps : Fin 2) (m : PpsMeas)
  | ppsLoss (pps : Fin 2)
  | todMessage (m : TodFrame) (msAfterEdge : Nat)
  | todError
  | laneSignalLoss (lane : Fin 512)
  | wiringFault (lane : Fin 512) (txBits : Fin 16) (rxCause : Fin 4)
  | laneRowReceived (lane : Fin 512) (row : RawRow)
  | saredRowReceived (n : Fin 4) (row : SaredRow)
  | claspFrameHeard (path : LeasePath) (f : LeaseFrame)
  | propose (m : ProposeMsg)
  | ready
  | refuse (reason : Nat)
  | arm
  | abort
  | lockstepDecision (pmf : Nat) (ds : List PtrDecision)
  | lockstepComparison (f : LockFrame)
  | forwardedCommand (h : ForwardHead) (c : Forwarded)
  | stageRecords (m : StageMsg) (discard : Bool)
  | apsForward (lane : Fin 512) (row : Rsn) (bytes : List Byte)
  | caravanAbort
  | checkpointReceived (seq format : Nat) (parts : CkptParts)
  | rowBoundary (m : RowMeas)
  | superframeBoundary
  | secondBoundary
  | pointerSample (trib : Nat)
  | facetWindowOpen
  | facetEntryWrite
  | laneDefectIntegration (lane : Fin 512) (d : LaneDefect)
  | tribDefectIntegration (trib : Nat) (d : TribDefect)
  | mergeDefectIntegration (lane : Fin 512) (d : MergeDefect)
  | apsDefectIntegration (group : Nat) (psm : Bool)
  | misrouteDefectClear (dune : Fin 64) (unselected : Bool)
  | pairDefectIntegration (d : PairDefect)
  | anchorRechoose (lane : Fin 512)
  | offsetBarExpiry (lane : Fin 512) (offset : Nat)
  | holdoffExpiry (group : Nat) (cond : Fin 4)
  | wtrExpiry (group : Nat)
  | switchComplete
  | dpllLockAchieved
  | pulledRecovery
  | histValidSet
  | ocxoSensorRead (x : OcxoSecond)
  | refMeanUpdate (input : Fin 24) (mean10 mean100 : Int)
  | refVote
  | refWaitExpiry (input : Fin 24)
  | lockTimeout
  | ppsQualified (pps : Fin 2)
  | commitArming
  | commitIngressSwitch
  | commitEgressSwitch
  | commitReplayDone
  | catchUpCommit
  | caravanEntryCommit
  | modeChangeEffect
  | mergeEntryEffect (lane : Fin 512)
  | cutEnableEffect (dune : Fin 64)
  | shadowScrub
  | shadowRewrite
  | mapShadowRepair (map : Fin 4) (dune : Fin 64) (index : Nat)
  | mapDatabaseRepair (map : Fin 4) (dune : Fin 64) (index : Nat)
  | checkerSelfTest (failing : List Nat)
  | tmrScrub
  | parityScan
  | marchTestSlice (failing : BitVec 4)
  | lockstepDivergence (j : Fin 2) (bursts : List Burst)
  | watchdogExpiry (j : Fin 2) (bursts : List Burst)
  | engineMismatch (g : Engine)
  | faultRecordClose (fseq : Nat)
  | claspFrameSend
  | holderLeaseExpiry
  | silenceAcquisition
  | saredLinkUp
  | checkpointWrite
  | takeoverLoadComplete
  | provisionalHandleExpiry (slot : Fin 8)
  | sessionIdleTimeout (slot : Fin 8)
  | resumeWindowExpiry (slot : Fin 8)
  | authLockExpiry (path : Fin 2)
  | unlockExpiry
  | irqHoldoffEnd
  | longCommandYield
  | eventRingWrite
  | journalRingWrite
  | heartbeat
  | tjUpdate (temp : Int)
  | lifetimeSample (temps : List Int) (supplyBins : List Nat)
  | lifetimeSlotWrite
  | laneTxStart (lane : Fin 512)
  | equaliserConverged (lane : Fin 512)
  | loopEffect (lane : Fin 512)
  | injectionEnd (lane : Fin 512)
  | eyeScanDone (lane : Fin 512) (counts : List Nat)
  | bootVerifyDone
  | firmwareStarted
  | firmwareStartTimeout
  | trialConfirmation
  | domainQuiesceAnswer
  | quiesceTimeout
  | powerActionDone
  | domainWakeDone
  | wakeTimerExpiry
  | wakeComplete
  | avsReport
  | avsTimeout
  | singleInternalFault (f : FaultSite)
  | refFrequencyGate (input : Fin 24) (offsetPpb : Int) (active : Bool)
  | ppsOutPulse
  | todOutMessage
  | liveCopyMessage (m : LiveMsg)
  | caravanStoreCopy (timetable : List TimetableEntry) (blocks : List BlockRecs) (loopRows base : Nat)
  | boundaryScanInstruction (op : ScanOp)
  | jtagPortReset (bursts : List Burst)
  deriving DecidableEq, Repr

end Sys2Proof
end

