-- ==== Sys2Proof/Decode.lean ====
section
/-!
DEFINITION. Decode.lean: the command table of this block gives no row any bits, so no word spells a command. A command
reaches the block through its queue, with its operands.
-/
namespace Sys2Proof

/-- No row of the table has bits: every word spells no command. -/
def decodeTableWord (nbits w : Nat) : Option Instr :=
  match nbits, w with
  | _, _ => none

end Sys2Proof
end

