-- ==== Sys2Proof/Config.lean ====
section
/-!
DEFINITION. Config.lean: what one QX5120 fixes at manufacture, the free values of the manual, and the standard
functions that the manual names and does not define. Each is an opaque constant without a body: no proof can see
its value.
-/
namespace Sys2Proof.Config

/-- Free values drawn in turn, indexed by the counter State.clk.free (log entry 1): random handles, nonces and keys
(R395, R565), results the manual leaves open. A use takes it modulo its width. -/
opaque free : Nat → Nat

/-- Serial number of the identity registers (R413, R564). -/
opaque serial : BitVec 64
/-- Core die revision, IDENT[23:16] (R413). -/
opaque dieRevision : BitVec 8
/-- Ordering variant, IDENT[31:24] (R413, R589). -/
opaque variant : BitVec 8
/-- SHA-384 (R403, R551): the manual names the function. The list has 48 bytes in every use. -/
opaque sha384 : List Byte → BitVec 384
/-- HMAC-SHA-384 of a key and a message (R395, R566). -/
opaque hmac384 : BitVec 384 → List Byte → BitVec 384
/-- RSASSA-PSS verification of RFC 8017 with the parameters of R552: modulus, message, signature. -/
opaque rsaVerify : List Byte → List Byte → List Byte → Bool
/-- SLH-DSA verification of FIPS 205 (R552): public key, message, signature. -/
opaque slhVerify : List Byte → List Byte → List Byte → Bool
/-- RSASSA-PSS signature, 384 bytes, by the device's own attestation key (R563, R567). -/
opaque rsaSign : List Byte → List Byte
/-- SLH-DSA-SHA2-192f signature, 35,664 bytes, by the device's own attestation key (R563, R567). -/
opaque slhSign : List Byte → List Byte
/-- OTP digests of firmware key index i: SHA-384 of the RSA modulus (R550). -/
opaque rsaKeyDigest : Nat → BitVec 384
/-- OTP digests of firmware key index i: SHA-384 of the SLH-DSA public key (R550). -/
opaque slhKeyDigest : Nat → BitVec 384
/-- Bytes 12 to 17,119 of the identity record by offset (R564), written at manufacture; MFG_KEY and the reserved bytes are formed
in Machine/Sec.lean. -/
opaque identityByte : Nat → Byte
/-- The initial ADMIN key (R565), random per device. -/
opaque initialAdminKey : BitVec 384
/-- Which of the field bytes still free in its class a parameter's identifier takes, by the parameter's number in this model
(R420); the manual gives only that of lane.rx_polarity. -/
opaque fieldCode : Nat → Nat
/-- What ALARM_COUNT reads while more alarms are active than its 16 bits hold (R413; log entry 119). -/
opaque alarmsBeyond : Nat → BitVec 16
/-- The bytes of the boot ROM by offset (R445). -/
opaque internalByte : Nat → Byte
/-- Which register stands at an offset of the register space from 0x1_0100 on (R443, R445, R457, R462): the manual gives the windows of
the apply batches alone; log entry 97. -/
opaque innerReg : Nat → InnerReg
/-- The bytes of an MRAM area whose layout the manual does not give, by area, what the area holds, and offset (R446); log entry 4. -/
opaque mramByte : Nat → List Nat → Nat → Byte

/-- The bytes of a compiled record (R189, R198, R201): 16 bytes of a layout internal to the device, from map, dune, index
and value. -/
opaque recordBytes : Nat → Nat → Nat → BitVec 80 → List Byte

/-- Symbol i of SSPRQ (R317), which the manual names and IEEE 802.3 clause 120 lists; log entry 106. -/
opaque ssprq : Nat → Nat
/-- Where PRBS13Q (0) and PRBS31Q (1) start (R317), which the manual leaves open; log entry 106. -/
opaque prbsStart : Nat → Nat
/-- Which of the places still free the symbol with number i of an injection into codeword c takes (R323): the manual leaves open
which symbols it corrupts. -/
opaque corrupted : Nat → Nat → Nat
/-- By how much an injected error changes symbol i of codeword c (R323): the manual leaves it open. -/
opaque corruption : Nat → Nat → Nat → Nat
/-- The payload of a message to the peer whose layout the manual does not give (R344, R345); log entry 108. -/
opaque messageBytes : PeerMsg → List Byte

/-- The bytes of a checkpoint slot after its header, whose layout the manual does not give (R363); log entry 115. -/
opaque ckptBytes : Ckpt → List Byte

/-- The rates in GT/s and the link widths that the host's end of the PCIe link supports (R373). -/
opaque hostRates : List Nat
/-- The same for widths. -/
opaque hostWidths : List Nat

/-- Spare wires of a die-to-die link (R18, R504): the manual gives no number. -/
opaque spareWires : Nat

end Sys2Proof.Config
end

