-- ==== Sys2Proof/Machine/State.lean ====
section
/-!
DEFINITION. Machine/State.lean: the state of the QX5120 as plain data, one structure per subsystem. A field's default is
its value at reset, right after a power-on reset, in mode BOOT. Values the manual does not give are named in log entries
2, 3, 4, 6 and 7 (DESIGN CHOICE).
-/
namespace Sys2Proof.Machine

/-- The eight operating modes (R13, R29). -/
inductive Mode where
  | boot | recovery | configure | transport | caravan | test | maintain | quiescent
  deriving DecidableEq, Repr

/-- The roles of a unit (R42). -/
inductive Role where
  | none | standalone | holder | follower
  deriving DecidableEq, Repr

/-- What the Jaray complex is doing (R443, R514, R554). -/
inductive JccRun where
  | off | bootRom | starting | running | retained | halted | held
  deriving DecidableEq, Repr

/-- A command whose completion is due later: where it came from and its head (R385, R403). -/
structure CmdRef where
  ring : Nat := 0
  path : Nat := 3
  session : Nat := 0
  role : Nat := 0
  cmdId : Nat := 0
  code : Nat := 0
  deriving DecidableEq, Repr

/-- Time (R10, R489, R297). -/
structure Clock where
  /-- AON tick counter, 25 MHz, 56 bits wide when read (R489); 64 per row. -/
  tick : Nat := 0
  /-- Device RSN, 48 bits (R10, R493). -/
  rsn : Rsn := 0
  /-- TOD in core cycles of 0.625 ns since 1970 (R297). -/
  tod : Nat := 0
  /-- TOD set since POR, or restored as an estimate (R297). -/
  todSet : Bool := false
  /-- The time is ESTIMATED (R490). -/
  estimated : Bool := false
  /-- TQ has been 0b01 since the last step (R297). -/
  traced : Bool := false
  /-- Lengthening (or shortening) of the last row by a step, core cycles (R299). -/
  lastRowAdjust : Int := 0
  /-- The model's own counter of free values drawn (log entry 1). -/
  free : Nat := 0
  deriving DecidableEq, Repr

/-- An accepted mode change that waits for its row boundary (R33). -/
structure ModeChange where
  target : Mode
  due : Rsn
  ref : Option CmdRef
  deriving DecidableEq, Repr

/-- Mode, role, straps, reset record and the run state of the Jaray complex. -/
structure Device where
  /-- DEVICE_STATE.MODE, 3 bits (R30). -/
  mode : Mode := .boot
  /-- DEVICE_STATE.PENDING and what waits (R30, R33). -/
  pend : Option ModeChange := none
  /-- The row boundary at which an aborted caravan returns to TRANSPORT (R38, R205). -/
  toTransport : Option Rsn := none
  /-- DEVICE_STATE.PREV_MODE, 3 bits (R30). -/
  prevMode : Mode := .boot
  /-- DEVICE_STATE.ROLE, 2 bits (R30, R42). -/
  role : Role := .none
  /-- DEVICE_STATE.JOINED as a follower holds it (R30, R366). -/
  joined : Bool := false
  /-- DEVICE_STATE.PLANE, the latched PLANE_B strap (R30, R575). -/
  planeB : Bool := false
  /-- DEVICE_STATE.PRIMARY, the latched strap (R30, R575). -/
  primary : Bool := false
  /-- Latched PROT_SEL strap (R433, R575). -/
  protSel : Bool := false
  /-- DEVICE_STATE.SERVICE_EN, the latched strap (R30, R575). -/
  serviceEn : Bool := false
  /-- Latched ADDR straps, 3 bits (R406, R575). -/
  addr : Nat := 0
  /-- BOOT_STATUS[3:0], kind of the last reset (R413, R491). -/
  resetKind : Nat := 0
  /-- BOOT_STATUS[7:4], cause of the last reset (R413, R491). -/
  resetCause : Nat := 0
  /-- BOOT_STATUS[8], the started image verified (R413, R554). -/
  imageVerified : Bool := false
  /-- BOOT_STATUS[9], a candidate failed with ROLLBACK (R413, R554). -/
  rollback : Bool := false
  /-- RESET_N is low (R491, R575). -/
  resetLow : Bool := false
  /-- A FATAL reset is held, with its cause (R491, R578). -/
  fatalHeld : Option Nat := none
  /-- A PIN reset waits for the FATAL cause to clear (R588). -/
  pinWaiting : Bool := false
  /-- Run state of J0 (R443, R468, R514). -/
  jcc : JccRun := .bootRom
  /-- Image slots still to be tried in this start (R554). -/
  cands : List Nat := []
  /-- The candidates of this start have been chosen (R554). -/
  candsSet : Bool := false
  /-- The slot whose image has been started and not yet reported (R554). -/
  starting : Option Nat := none
  /-- Tick at which the image was started (R554). -/
  startTick : Nat := 0
  /-- The root clock is lost (R27, R514). -/
  rootLost : Bool := false
  /-- VCORE, VLANE, VLANE_H, VCTL and VPLL are present (R485). -/
  supplies : Bool := true
  /-- Effective protection chosen at the last POR or PIN reset: true is TMR (R433, R435). -/
  tmr : Bool := false
  /-- Resets of cause LOCKSTEP or WATCHDOG in the last 10 minutes, by tick (R514). -/
  jccResets : List Nat := []
  /-- WATCHDOG resets in the last 10 minutes, by tick (R358). -/
  wdtResets : List Nat := []
  /-- The boundary-scan instruction loaded last (R587). -/
  scan : Option ScanOp := none
  deriving DecidableEq, Repr

/-- A completion entry (R385). -/
structure Compl where
  cmdId : Nat := 0
  status : Nat := 0
  sqHead : Nat := 0
  result : Nat := 0
  detail : Nat := 0
  ring : Nat := 0
  noop : Bool := false
  deriving DecidableEq, Repr

/-- A ring pair (R379 to R381). -/
structure RingPair where
  on : Bool := false
  owner : Nat := 0
  sqAddr : Nat := 0
  cqAddr : Nat := 0
  sqLog : Nat := 0
  cqLog : Nat := 0
  vector : Nat := 0
  sqHead : Nat := 0
  sqTail : Nat := 0
  expSeq : Nat := 0
  cqHead : Nat := 0
  cqNext : Nat := 0
  phase : Bool := true
  lastSeq : Nat := 0
  outstanding : Nat := 0
  deriving DecidableEq, Repr

/-- A device ring: event, journal or facet (R379, R380). -/
structure DevRing where
  on : Bool := false
  addr : Nat := 0
  log2 : Nat := 0
  vector : Nat := 0
  head : Nat := 0
  next : Nat := 0
  phase : Bool := true
  seq : Nat := 0
  deriving DecidableEq, Repr

/-- A mailbox (R377, R378). -/
structure Mailbox where
  cmd : BitVec 512 := 0
  compl : BitVec 128 := 0
  resp : BitVec 512 := 0
  state : Nat := 0
  taken : Bool := false
  deriving DecidableEq, Repr

/-- States of a session slot (R400). -/
inductive SessState where
  | free | provisional | opened | suspended
  deriving DecidableEq, Repr

/-- A session slot (R395 to R400). -/
structure Session where
  state : SessState := .free
  handle : Nat := 0
  role : Nat := 0
  path : Nat := 0
  opened : Rsn := 0
  last : Rsn := 0
  lastTick : Nat := 0
  since : Nat := 0
  hello : Nat := 0
  nonceD : List Byte := []
  nonceH : List Byte := []
  respAddr : Nat := 0
  resume : Bool := false
  initial : Bool := false
  key : BitVec 384 := 0
  deriving DecidableEq, Repr

/-- The I2C sideband (R406 to R409). -/
structure Sideband where
  state : Nat := 0
  taken : Bool := false
  /-- The entry submitted last (R408). -/
  cmd : BitVec 512 := 0
  compl : Compl := {}
  resp : List Byte := []
  reply : List Byte := []
  wakeHeld : Bool := false
  deriving DecidableEq, Repr

/-- The link and the configuration space of the endpoint (R373, R376; log entry 118). -/
structure PcieLink where
  /-- Transfer rate in GT/s; 0 while the link is not up. -/
  rate : Nat := 0
  /-- Lanes. -/
  width : Nat := 0
  /-- Max payload size in bytes. -/
  payload : Nat := 128
  /-- Max read request size in bytes. -/
  readReq : Nat := 512
  /-- Base address of BAR0. -/
  bar0 : BitVec 64 := 0
  /-- Error bits of the status register. -/
  status : Nat := 0
  /-- AER uncorrectable error status. -/
  aer : Nat := 0
  deriving DecidableEq, Repr

/-- The host interface: endpoint, BAR0, rings, mailboxes, sessions, sideband. -/
structure HostIf where
  /-- Link and configuration space (R373). -/
  pcie : PcieLink := {}
  /-- Ring pair or mailbox served last, 16 + k for MBk (R390). -/
  turn : Nat := 23
  /-- The endpoint is out of reset: PERST_N is high (R376, R483). -/
  linkUp : Bool := true
  /-- Device DMA is allowed: a ring has been configured since the endpoint reset (R376). -/
  dmaOn : Bool := true
  /-- LOCK_STATUS.UNLOCKED (R416). -/
  unlocked : Bool := false
  /-- Tick at which UNLOCKED was set (R417). -/
  unlockTick : Nat := 0
  /-- LOCK_STATUS.BAD_KEYS, 8 bits (R416). -/
  badKeys : Nat := 0
  /-- RSN_HI, the latched RSN bits [47:32], 16 bits (R414). -/
  rsnHi : BitVec 16 := 0
  /-- HEARTBEAT, 32 bits (R413). -/
  heartbeat : BitVec 32 := 0
  /-- TJ_MAX, signed 8 bits (R413). -/
  tjMax : Int := 0
  /-- MSI-X table, 128 words of 32 bits by offset (R413). -/
  msix : Table (BitVec 32) := []
  /-- Vectors that wait for the end of a hold-off (R382). -/
  irqWait : List Nat := []
  /-- Vectors signalled, newest first (R382). -/
  irqSent : List Nat := []
  /-- Tick plus 1 of the last signal, by vector (R382). -/
  irqTick : Table Nat := []
  /-- MSI-X pending bits: vectors signalled while masked (R413). -/
  irqPba : List Nat := []
  /-- MB0–MB7 (R377). -/
  mail : Table Mailbox := []
  /-- Ring pairs 0–15 (R379). -/
  pairs : Table RingPair := []
  /-- Event ring (R528). -/
  evt : DevRing := {}
  /-- Journal ring (R379). -/
  jrn : DevRing := {}
  /-- Facet ring (R260). -/
  fac : DevRing := {}
  /-- Session slots 0–7 (R396, R400). -/
  sessions : Table Session := []
  /-- Failed PROVEs by path and tick (R396). -/
  authFails : List (Nat × Nat) := []
  /-- Tick at which the bar of HELLO on a path was set (R396). -/
  authBar : Table Nat := []
  /-- The sideband (R406). -/
  sb : Sideband := {}
  /-- Host memory as the device's DMA sees it and has written it (R374). -/
  mem : Memory := []
  deriving DecidableEq, Repr

/-- A buffered legacy write (R430): the value that will apply, the commands that wait for it with the value each wrote, and the
boundary at which it applies at the latest. -/
structure Buffered where
  n : Pn
  obj : Nat
  value : Nat
  refs : List (CmdRef × Nat)
  due : Rsn
  deriving DecidableEq, Repr

/-- Parameters and counts (R420 to R440). -/
structure Params where
  /-- Values of parameters that differ from their default (R423). -/
  vals : Table Nat := []
  /-- Values still in force of parameters whose new value takes effect at a later boundary (EFFECT of R423). -/
  late : Table Nat := []
  /-- The parameter store in MRAM (R426). -/
  store : Table Nat := []
  /-- The CRC-32C of the store is correct (R426). -/
  storeOk : Bool := true
  /-- Counts of access code CNT, 48 bits (R118). -/
  counts : Table Nat := []
  /-- The _prev snapshots (R120). -/
  prev : Table Nat := []
  /-- ENABLED_WRITE per block (R429, R431). -/
  enWrite : Table Bool := []
  /-- Buffered legacy writes, oldest first (R430). -/
  buffered : List Buffered := []
  deriving DecidableEq, Repr

/-- States of the alignment state machine (R92). -/
inductive Align where
  | disabled | hunt | confirm | sync | flywheel
  deriving DecidableEq, Repr

/-- An alignment candidate (R94). -/
structure Cand where
  offset : Nat
  rsn : Rsn
  rev : Bool
  crc : BitVec 32
  badCw : Bool
  deriving DecidableEq, Repr

/-- A received row that waits for its row check, with its judgement so far (R69, R105). -/
structure HeldRow where
  rsn : Rsn
  ok : Bool
  uncw : Nat
  crc : BitVec 32
  validity : Byte
  remote : BitVec 16
  rsnOk : Bool
  content : RowContent
  slots : Table (BitVec 64)
  aps : List Byte
  ql : Byte
  deriving DecidableEq, Repr

/-- A judged row on its way into the ingress ring (R105, R155). got: it was received in SYNC, and not missed in FLYWHEEL (R250). aps: its
APS channel (R70, R233). -/
structure Judged where
  rsn : Rsn
  valid : Bool
  ais : Bool
  content : RowContent
  slots : Table (BitVec 64)
  got : Bool
  aps : List Byte
  deriving DecidableEq, Repr

/-- Consecutive-row integration of the lane defects (R110, R111). -/
structure LaneRuns where
  losOk : Nat := 0
  /-- The device row in which losOk was counted last (R110). -/
  losRow : Option Nat := none
  sync : Nat := 0
  anfBad : Nat := 0
  anfOk : Nat := 0
  uncBad : Nat := 0
  uncOk : Nat := 0
  laisOn : Nat := 0
  laisOff : Nat := 0
  rdiOn : Nat := 0
  rdiOff : Nat := 0
  anwOn : Nat := 0
  anwOff : Nat := 0
  sfSyms : Nat := 0
  sfRcf : Nat := 0
  sfRows : Nat := 0
  sdBad : Bool := false
  sdOk : Nat := 0
  anfSet : Nat := 0
  deriving DecidableEq, Repr

/-- Lane test state (R317 to R337). -/
structure LaneTest where
  under : Bool := false
  /-- PRBS_LOCK (R322, R337). -/
  rxLock : Bool := false
  /-- The checker's register, the newest bit lowest, and how many bits of it have been seeded from the received sequence (R322). -/
  reg : Nat := 0
  /-- Bits seeded (R322). -/
  seed : Nat := 0
  /-- Bits without error since the seed (R322). -/
  clean : Nat := 0
  /-- Bits checked since the checker locked (R322). -/
  pos : Nat := 0
  /-- Places of the errors within the last 8,192 bits, newest first (R322). -/
  errs : List Nat := []
  /-- The pattern that the row sent last carried: 0 none, 1 PAYLOAD, 2 and more a LINE pattern (R317, R319). -/
  gen : Nat := 0
  /-- Symbols of the LINE pattern sent since it started (R317). -/
  sentSyms : Nat := 0
  /-- What a far loop sends next: the symbols received last (R324); none: electrical idle (R327). -/
  far : Option (List Nat) := none
  /-- The symbols that a near loop brought in the row before (R324). -/
  near : List Nat := []
  loop : Nat := 0
  loopNext : Option (Nat × Nat × CmdRef) := none
  injKind : Nat := 0
  injAmount : Nat := 0
  injRows : Nat := 0
  injFrom : Rsn := 0
  prbs : BitVec 23 := 0x7FFFFF
  scan : Option (Buf × Nat × Nat × Nat × Nat × CmdRef) := none
  scanWait : Bool := false
  scanEnd : Bool := false
  deriving DecidableEq, Repr

/-- The row a lane's transmitter sends (R61, R74): lane overhead fields, slots and grains, or electrical idle. -/
structure TxRow where
  idle : Bool := true
  rsn : Rsn := 0
  trace : Byte := 0
  ql : Byte := 0
  remote : BitVec 16 := 0
  check : BitVec 32 := 0
  aps : List Byte := []
  mgmt : List Byte := []
  ext : List Byte := []
  tod : BitVec 64 := 0
  validity : Byte := 0
  slots : Table (BitVec 64) := []
  content : RowContent := ⟨0, []⟩
  /-- A LINE pattern in place of the row: 0 none, otherwise the code of lane.prbs_pattern plus 1 (R317). -/
  line : Nat := 0
  /-- The injection programme at work on the row: kind plus 1, amount (R323). -/
  inj : Nat × Nat := (0, 0)
  /-- A far loop sends received symbols in place of the row (R324). -/
  far : Bool := false
  /-- The symbols that a far loop sends (R324). -/
  symbols : List Nat := []
  /-- lane.tx_precode in force for the row, and the level index before its first symbol (R57). -/
  precode : Bool := false
  /-- The level index before the row's first symbol (R57). -/
  start : Nat := 0
  /-- lane.tx_polarity in force for the row is INVERTED (R316). -/
  inverted : Bool := false
  /-- Symbols of the LINE pattern sent before the row (R317). -/
  pos : Nat := 0
  deriving DecidableEq, Repr

/-- A lane's two directions. -/
structure Lane where
  /-- RX direction ENABLED (R310). -/
  rxOn : Bool := false
  /-- TX direction ENABLED (R310). -/
  txOn : Bool := false
  /-- TX sends rows: its first full row has begun (R311). -/
  txSending : Bool := false
  /-- No row has been sent since TX enable: the next row is the first (R66, R67, R73, R84). -/
  txFirst : Bool := true
  /-- TX enable tick (R311). -/
  txTick : Nat := 0
  /-- lane.rx_status.ALIGN (R92, R116). -/
  align : Align := .disabled
  /-- lane.rx_status.PN_INV (R97). -/
  pnInv : Bool := false
  /-- Candidates held in slots, the confirming one first in CONFIRM (R94). -/
  cands : List Cand := []
  /-- Line offset in SYNC (R92). -/
  offset : Nat := 0
  /-- Barred offsets with the tick of the bar (R95). -/
  barred : List (Nat × Nat) := []
  /-- Expected RSN (R93). -/
  expRsn : Rsn := 0
  /-- A jump held pending, to this RSN (R96). -/
  jump : Option Rsn := none
  /-- The row received last, not yet judged (R69). -/
  held : Option HeldRow := none
  /-- Consecutive row-check failures without an uncorrectable codeword (R92). -/
  rcfRun : Nat := 0
  /-- Anchor in use, 1–3, 0 for none (R101, R116). -/
  anchor : Nat := 0
  /-- lane.theta, signed 16 bits, saturating (R99, R117). -/
  theta : Int := 0
  /-- Judged rows that wait for their entry row (R155). -/
  rows : List Judged := []
  /-- LOS (R110). -/
  los : Bool := false
  /-- LOF (R110). -/
  lof : Bool := false
  /-- ANF (R110). -/
  anf : Bool := false
  /-- UNC (R110). -/
  unc : Bool := false
  /-- LAIS (R110). -/
  lais : Bool := false
  /-- SD (R110). -/
  sd : Bool := false
  /-- TIM (R108). -/
  tim : Bool := false
  /-- SELF (R109). -/
  slf : Bool := false
  /-- RRDI (R110). -/
  rrdi : Bool := false
  /-- ANW (R110). -/
  anw : Bool := false
  /-- TIM_CAUSE, 4 bits (R116). -/
  timCause : Nat := 0
  /-- Integration counts (R110). -/
  runs : LaneRuns := {}
  /-- RDI, RTIM and RSELF as sent (R114). -/
  rdiTx : Bool × Bool × Bool := (false, false, false)
  /-- The same as they stood before a defect that set or cleared at the boundary now due (R114; log entry 25). -/
  rdiWas : Option (Bool × Bool × Bool) := none
  /-- RCE and RUNC to send (R67). -/
  rceTx : Bool := false
  /-- RUNC to send (R67). -/
  runcTx : Nat := 0
  /-- Lane trace bytes of the multiframe in progress, by position (R107). -/
  traceBuf : Table Byte := []
  /-- Number of bytes held in traceBuf in one run (R107). -/
  traceLen : Nat := 0
  /-- Last complete lane trace message and how often it arrived in a row (R107). -/
  traceLast : List Byte := []
  /-- Run of equal messages (R107). -/
  traceRun : Nat := 0
  /-- Accepted lane trace message (R107). -/
  traceAcc : Option (List Byte) := none
  /-- Lane trace message being sent (R64, R65). -/
  traceTx : List Byte := []
  /-- BIP-8 of each grain as sent in the egress PMF under way, by grain (R80). -/
  bipTx : Table Byte := []
  /-- The same of the PMF before (R80). -/
  bipSent : Table Byte := []
  /-- Rank accepted from the QL byte (R281). -/
  qlRank : Nat := 0
  /-- Rank seen and its run of valid rows (R281). -/
  qlSeen : Nat × Nat := (0, 0)
  /-- CRC-32C of the row sent before (R68). -/
  txCrc : BitVec 32 := 0
  /-- Precoder level P of the transmitter, 2 bits (R57). -/
  precode : Nat := 0
  /-- The row being sent (R61). -/
  tx : TxRow := {}
  /-- HDLC frames to send on channels 0 and 1 (R402). -/
  mgmtTx : List (List Byte) × List (List Byte) := ([], [])
  /-- HDLC frames received on channels 0 and 1 (R402). -/
  mgmtRx : List (List Byte) × List (List Byte) := ([], [])
  /-- Octets collected since the last flag, with the escape state, per channel (R71). -/
  hdlcRx : (List Byte × Bool × Bool) × (List Byte × Bool × Bool) := (([], false, false), ([], false, false))
  /-- Octets of the frame being sent, per channel (R71). -/
  hdlcTx : List Byte × List Byte := ([], [])
  /-- lane.wiring_status bits TXSHORT_P, TXSHORT_N, TXPN, TXCONT (R335). -/
  wireTx : Nat := 0
  /-- lane.wiring_status.RX_CAUSE (R335). -/
  wireRx : Nat := 0
  /-- Receive equaliser converged (R311, R315). -/
  eqOk : Bool := false
  /-- Test state (R337). -/
  test : LaneTest := {}
  /-- Invalid rows, errored row, severely errored row in the second in progress (R119). -/
  secRows : Nat := 0
  /-- An errored row in this second (R119). -/
  secErr : Bool := false
  /-- A severely errored row in this second (R119). -/
  secSev : Bool := false
  /-- Seconds pending a change of availability: run of seconds with (errored, severe) (R119). -/
  secRun : List (Bool × Bool) := []
  /-- Unavailable time (R119). -/
  unavail : Bool := false
  /-- APS queue of the lane: the changed record, and how often it is still sent (R226). -/
  apsQ : List (List Byte × Nat) := []
  /-- Rotation position of the APS positions (R226). -/
  apsRot : Nat := 0
  /-- APS bytes 32–45 formed or forwarded for a row (R230). -/
  apsFor : List (Rsn × List Byte) := []
  /-- Lane superframes completed and not yet reported: number (R250). -/
  plesio : List Nat := []
  deriving DecidableEq, Repr

/-- A unit in an elastic ring (R126): its index in its PMF, whether it starts a container, and its bytes. -/
structure RingUnit where
  idx : Nat
  start : Bool
  bytes : List Byte
  deriving DecidableEq, Repr

/-- Integration of the tributary defects (R144). -/
structure TribRuns where
  ais : Nat := 0
  inv : Nat := 0
  szBad : Nat := 0
  szOk : Nat := 0
  uneq : Nat := 0
  eqOk : Nat := 0
  plmBad : Nat := 0
  plmOk : Nat := 0
  bipErrs : Nat := 0
  bipPmfs : Nat := 0
  sdBad : Bool := false
  sdOk : Nat := 0
  rdiOn : Nat := 0
  rdiOff : Nat := 0
  slipOk : Nat := 0
  leave : Bool := false
  deriving DecidableEq, Repr

/-- A tributary (R121 to R153). -/
structure Trib where
  on : Bool := false
  lane : Nat := 0
  grains : List Nat := []
  retimed : Bool := false
  /-- RX_PTR, the expected pointer P, 9 bits (R151). -/
  rxPtr : Nat := 0
  /-- Candidate pointer and its run (R132). -/
  cand : Nat × Nat := (0, 0)
  /-- Justification announced for the next PMF: 0 none, 1 positive, 2 negative (R129). -/
  rxAnn : Nat := 0
  /-- Justification executing in this PMF (R129). -/
  rxExec : Nat := 0
  /-- First PMF in which an announcement is valid after the last ingress execution (R130). -/
  rxNext : Option Nat := none
  /-- PMF being received (R128). -/
  rxPmf : Nat := 0
  /-- Data-carrying units until the next container start on the write side (R128). -/
  rxToStart : Nat := 0
  /-- The bytes of U000 of this PMF, where it carries no data (R127, R132). -/
  spare : List Byte := []
  /-- The newest units written, oldest first: those of the ring and of the row on its way into it (R125, R126; log entry 107). -/
  ring : List RingUnit := []
  /-- Units of ring that have not been read (R126). -/
  fill : Nat := 0
  /-- The fill of R137 as the device row began, in units (log entry 111). -/
  level : Nat := 0
  /-- A re-centre due at the end of the device row: 1 to the middle, 2 and more to a container start that many units less 2 away (R138,
  R147, R149). -/
  centring : Nat := 0
  /-- The ring has been re-centred since the last decision sent (R147). -/
  centred : Bool := false
  /-- FILL at the most recent sample (R151). -/
  sample : Nat := 0
  /-- TX_PTR, 9 bits (R151). -/
  txPtr : Nat := 0
  /-- Units from the read position to the next container start as the egress PMF began (R149). -/
  startAt : Nat := 0
  /-- Event code of the pointer word in this egress PMF (R136). -/
  txCode : Nat := 0
  /-- Announcement decided for the next PMF (R137). -/
  txAnn : Nat := 0
  /-- Justification executing in this egress PMF (R129). -/
  txExec : Nat := 0
  /-- Announcement sent in this PMF, which executes in the next (R129). -/
  txSent : Nat := 0
  /-- First PMF in which an announcement may go out again (R130, R138). -/
  txNext : Option Nat := none
  /-- PMF in which code 0x9 was counted last (R153). -/
  ndfPmf : Option Nat := none
  /-- Code 0x9 is due in the next egress PMF (R138). -/
  ndf : Bool := false
  /-- Words leaving the ring for the egress row being moved, one per member (R126). -/
  words : List Grain := []
  /-- Egress AIS under R139. -/
  aisTx : Bool := false
  /-- TAIS (R144). -/
  tais : Bool := false
  /-- TLOP (R144). -/
  tlop : Bool := false
  /-- TSZM (R144). -/
  tszm : Bool := false
  /-- TUNEQ (R144). -/
  tuneq : Bool := false
  /-- TPLM (R144). -/
  tplm : Bool := false
  /-- TTIM (R144). -/
  ttim : Bool := false
  /-- TSD (R144). -/
  tsd : Bool := false
  /-- TRDI (R144). -/
  trdi : Bool := false
  /-- TSLIP (R144). -/
  tslip : Bool := false
  /-- TDIV (R144, R148, R149). -/
  tdiv : Bool := false
  /-- Integration counts (R144). -/
  runs : TribRuns := {}
  /-- BIP-8 of the PMF being received and of the one before (R80). -/
  bipNow : Byte := 0
  /-- BIP-8 of the previous PMF (R80). -/
  bipPrev : Byte := 0
  /-- A complete previous PMF is held (R80). -/
  bipHave : Bool := false
  /-- Rows of the PMF being received that BIP-8 covers (R80). -/
  bipRows : Nat := 0
  /-- Path trace bytes by position, run length (R81). -/
  ptBuf : Table Byte := []
  /-- Path trace bytes held (R81). -/
  ptLen : Nat := 0
  /-- Last path trace message (R144). -/
  ptLast : List Byte := []
  /-- Run of equal messages (R144). -/
  ptRun : Nat := 0
  /-- Accepted path trace message (R144). -/
  ptAcc : Option (List Byte) := none
  /-- BIP-8 errors of the most recently evaluated PMF, for PREI (R84). -/
  prei : Nat := 0
  /-- Path trace message being sent (R81). -/
  ptTx : List Byte := []
  /-- Decision of the holder for a PMF, with its re-centre byte (R147). -/
  decision : Option (Nat × Nat × Nat) := none
  /-- Units by which the holder's read position stood further from a container start in the last lockstep frame that differed
  (R149). -/
  holderAt : Option Nat := none
  deriving DecidableEq, Repr

/-- An egress tributary instance descriptor (R135, R179): egress grains in ascending order, its tributary, and for a
protected one its alternate tributary and group. -/
structure Inst where
  trib : Nat
  lane : Nat
  grains : List Nat
  alt : Option (Nat × Nat)
  deriving DecidableEq, Repr

/-- What an egress instance sends (R140, R141). -/
structure InstTx where
  /-- The tributary of its last slot; none: the next slot carries code 0x9 (R140, R141). -/
  lastTrib : Option Nat := none
  waitPmf : Bool := false
  deriving DecidableEq, Repr

/-- One bank of every map (R179 to R183). Ingress and middle maps are keyed dune × 65,536 + middle slot, the egress map
lane × 4,096 + grain, the cut input list dune × 8,192 + input. -/
structure Bank where
  ing : Table (BitVec 16) := []
  mid : Table (BitVec 12) := []
  egr : Table (BitVec 80) := []
  cut : Table (BitVec 32) := []
  insts : List Inst := []
  deriving DecidableEq, Repr

/-- A word in an egress buffer: content, path tag, and marks of doubt (R156, R165, R171). -/
structure BufWord where
  word : Grain := BitVec.allOnes 128
  tag : BitVec 12 := 0
  ecc : Bool := false
  known : Bool := true
  /-- The word has left an elastic ring with a damaged word (R509). -/
  torn : Bool := false
  deriving DecidableEq, Repr

/-- Switching state of a dune (R172, R176). -/
structure Dune where
  msr : Bool := false
  msa : Bool := false
  misRow : Bool := false
  fqRow : Bool := false
  msrClean : Nat := 0
  msaClean : Nat := 0
  msrRun : Nat := 0
  deriving DecidableEq, Repr

/-- Rings, buffers and maps of the dunes and the erg. -/
structure Switch where
  /-- Ingress ring row slots, keyed slot × 512 + lane (R154, R155); an unlisted one is grain AIS written under R106 or an RX direction
  that is off (R106, R174). -/
  ring : Table RowContent := []
  /-- Egress buffers, keyed (row slot × 64 + dune) × 65,536 + middle slot (R156). -/
  ebuf : Table BufWord := []
  /-- Bank 0 (R179). -/
  bank0 : Bank := {}
  /-- Bank 1 (R179). -/
  bank1 : Bank := {}
  /-- Bank in force for ingress, middle and cut maps (R192). -/
  ingBank : Bool := false
  /-- Bank in force for egress maps and descriptors (R192). -/
  egrBank : Bool := false
  /-- Dunes (R176). -/
  dunes : Table Dune := []
  /-- Egress instances in service (R140). -/
  instTx : Table InstTx := []
  deriving DecidableEq, Repr

/-- A pending commit (R192, R197). -/
structure PendCommit where
  c : Rsn
  accepted : Rsn
  armed : Bool
  ready : Bool
  handshake : Bool
  proposed : Bool
  refused : Option Nat
  switched : Bool
  ref : Option CmdRef
  /-- The next entry of the running timetable (R203). -/
  caravan : Bool := false
  /-- A follower's catch-up commit (R200). -/
  catchUp : Bool := false
  /-- Its commit that ends a live copy, with the holder's generation (R366). -/
  copyGen : Option Nat := none
  deriving DecidableEq, Repr

/-- The caravan store and its run (R201 to R205). -/
structure Caravan where
  /-- CARAVAN_LOADED and the timetable (R208). -/
  entries : List CaravanBlock := []
  /-- caravan.loop_rows, 32 bits (R209). -/
  loopRows : Nat := 0
  /-- Base generation (R202). -/
  base : Nat := 0
  /-- caravan.next_entry (R209). -/
  next : Nat := 0
  /-- Pass p (R203). -/
  pass : Nat := 0
  /-- Accepted start RSN (R203). -/
  start : Option Rsn := none
  /-- Accepted stop boundary (R204). -/
  stop : Option Rsn := none
  /-- On a follower, the holder's commands that named start and stop (R45, R405). -/
  startRef : Option CmdRef := none
  /-- The same for the stop. -/
  stopRef : Option CmdRef := none
  /-- Entries committed in this superframe: count, first and last RSN, first generation (R204). -/
  sf : Nat × Nat × Nat × Nat := (0, 0, 0, 0)
  /-- Tick of the last abort, while frames announce it (R349). -/
  abortTick : Option Nat := none
  /-- A block record in the store is damaged: entry (R205). -/
  bad : Option Nat := none
  deriving DecidableEq, Repr

/-- The commit engine and the staged delta. -/
structure Commit where
  /-- map.generation, 32 bits (R184). -/
  gen : Nat := 0
  /-- Staged egress entries, the newest for each egress grain (R187). -/
  staged : List DeltaEntry := []
  /-- Staged cut inputs: dune, entry (R265). -/
  stagedCut : List (Nat × CutDelta) := []
  /-- A delta is staged (R208). -/
  hasDelta : Bool := false
  /-- Owning session of the staged delta, 0 for none (R399). -/
  owner : Nat := 0
  /-- Compiled records of the staged delta, in staging order (R189, R198). -/
  recs : List MapRec := []
  /-- Moves of the staged delta: source and destination dune (R190). -/
  moves : List (Nat × Nat) := []
  /-- Commit RSN of the last commit (R209). -/
  lastC : Rsn := 0
  /-- A commit has been made (R196). -/
  committed : Bool := false
  /-- Records and moves of the armed entry of a timetable, written into the shadow bank (R203). -/
  entryRecs : List MapRec := []
  /-- Moves of the armed entry (R190). -/
  entryMoves : List (Nat × Nat) := []
  /-- Records of the last delta, R₁ of R196. -/
  lastRecs : List MapRec := []
  /-- The pending commit (R208). -/
  pend : Option PendCommit := none
  /-- Replay is running (R192). -/
  replaying : Bool := false
  /-- Damaged shadow entries: map, dune, index (R185). -/
  shadowBad : List (Nat × Nat × Nat) := []
  /-- Damaged shadow entries that a scrub or a repair read has found and the compiler has still to rewrite (R185). -/
  shadowFound : List (Nat × Nat × Nat) := []
  /-- Shadow entries with a single-bit error (R185). -/
  shadowSoft : List (Nat × Nat × Nat) := []
  /-- Tick of the last scrub of the shadow banks (R185). -/
  scrubTick : Nat := 0
  /-- SHADOW_ECC (R185, R208). -/
  shadowEcc : Bool := false
  /-- LAG with the holder's generation (R200). -/
  lag : Option Nat := none
  /-- PEER_REFUSED (R208). -/
  peerRefused : Bool := false
  /-- Commit RSN of a handshake in which this follower sent READY and neither ARM nor ABORT arrived yet (R200). -/
  readySent : Option Rsn := none
  /-- The head of the PROPOSE answered with READY (R197, R405). -/
  readyRef : Option CmdRef := none
  /-- The caravan (R201). -/
  car : Caravan := {}
  /-- Staging commands whose delta the follower's shadow banks do not hold yet, with their RESULT (R188). -/
  stageWaits : List (CmdRef × Nat) := []
  /-- CARAVAN.LOAD commands whose timetable the follower's store does not hold yet (R202). -/
  loadWaits : List CmdRef := []
  deriving DecidableEq, Repr

/-- A PROT command that enters a group at a row boundary (R219, R229). -/
structure ProtCmd where
  due : Rsn
  kind : Nat
  target : Bool
  ref : CmdRef
  deriving DecidableEq, Repr

/-- A selector group (R211 to R231, R238). -/
structure Group where
  /-- SEL: true is ALTERNATE (R238). -/
  sel : Bool := false
  /-- Selection that applies from the next boundary (R217). -/
  next : Bool := false
  /-- REQ, the governing request code (R238). -/
  req : Nat := 0
  /-- Local request of the last boundary (R217). -/
  loc : Nat := 0
  /-- Conditions present at the last boundary: SF_P, SF_A, SD_P, SD_A (R214). -/
  cond : Bool × Bool × Bool × Bool := (false, false, false, false)
  /-- Effective conditions: SF_P, SF_A, SD_P, SD_A (R215, R238). -/
  eff : Bool × Bool × Bool × Bool := (false, false, false, false)
  /-- Boundary at which each condition's hold-off began (R215). -/
  hold : List (Nat × Rsn) := []
  /-- Tick at which the wait-to-restore timer started (R218). -/
  wtr : Option Nat := none
  /-- CMD: 0 none, 1 LOCKOUT, 2 FORCE, 3 MANUAL (R238). -/
  cmd : Nat := 0
  /-- MAN_TGT (R238). -/
  target : Bool := false
  /-- Commands accepted and not yet entered (R219). -/
  pend : List ProtCmd := []
  /-- The command that caused the selection change in preparation (R591). -/
  cause : Option CmdRef := none
  /-- Accepted far-end record: REQ, SEL, REQ_SIG, SEQ (R227). -/
  fe : Option (Nat × Bool × Bool × Nat) := none
  /-- A record accepted since the last boundary, in force from the next (R227). -/
  feNew : Option (Nat × Bool × Bool × Nat) := none
  /-- Rows since the last accepted record (R228). -/
  feAge : Nat := 0
  /-- SEQ sent and byte 0 sent last (R225). -/
  seq : Nat := 0
  /-- Byte 0 of the record sent last (R225). -/
  byte0 : Nat := 0
  /-- APSL (R228). -/
  apsl : Bool := false
  /-- PSM (R228). -/
  psm : Bool := false
  /-- PSDIV (R231). -/
  psdiv : Bool := false
  /-- Rows with SEL different from, and equal to, the far end's (R228). -/
  psmRun : Nat × Nat := (0, 0)
  /-- Lockstep comparisons in a row that differ (R231). -/
  divRun : Nat := 0
  deriving DecidableEq, Repr

/-- A merge pair (R232 to R239). -/
structure Merge where
  laneA : Nat
  laneB : Nat
  /-- First merged entry row (R232). -/
  entry : Rsn
  /-- Merging is in force (R232). -/
  active : Bool := false
  /-- Entry row at which a deletion takes effect (R232). -/
  ending : Option Rsn := none
  /-- prev of R234 and TAKEN: true is B. -/
  prev : Bool := false
  /-- VALID_A (R239). -/
  validA : Bool := false
  /-- VALID_B (R239). -/
  validB : Bool := false
  /-- MDI (R235). -/
  mdi : Bool := false
  /-- MDIFF (R235). -/
  mdiff : Bool := false
  /-- MSKW (R235). -/
  mskw : Bool := false
  /-- MPLN (R235). -/
  mpln : Bool := false
  /-- Runs: both invalid, some valid, rows since the last difference plus 1 (0: none yet), skew over, skew within (R235). -/
  runs : Nat × Nat × Nat × Nat × Nat := (0, 0, 0, 0, 0)
  /-- The RSN that a PLESIO pair merged last (R233, R234). -/
  last : Option Rsn := none
  /-- The MERGE.CREATE whose completion is due (R232). -/
  ref : Option CmdRef := none
  /-- The MERGE.DELETE whose completion is due (R232). -/
  refEnd : Option CmdRef := none
  deriving DecidableEq, Repr

/-- Protection. -/
structure Prot where
  /-- Selector groups S00000–S65535 (R211). -/
  groups : Table Group := []
  /-- Merge pairs by lower lane (R232). -/
  merges : List Merge := []
  /-- PROT and PARAM.SET commands with the boundary at which their completion is posted and its RESULT (R219, R229, R389). -/
  waits : List (Rsn × CmdRef × Nat) := []
  deriving DecidableEq, Repr

/-- A row attributed to a lane for the facet records (R249, R250): its RSN, its content, ingress AIS of R106, the grains of the lane's
mode, the grains whose ring word is in doubt (R509), and trib.interpretation by grain where it is not RAW (R255). -/
structure FacetRow where
  rsn : Rsn
  entry : Rsn
  content : RowContent
  subst : Bool
  top : Nat
  bad : List Nat := []
  interp : Table Nat := []
  deriving DecidableEq, Repr

/-- The rows of a lane as the facet engine holds them (R249 to R254). -/
structure FacetLane where
  /-- Rows attributed and covered by no record yet, oldest first; on a LOCKED lane behind the last row covered. -/
  rows : List FacetRow := []
  /-- The last row of the superframe that a PLESIO lane reported last, for ACTIVITY (R250, R254). -/
  tail : List FacetRow := []
  /-- Rows of the most recent record. -/
  cur : List FacetRow := []
  /-- Rows of the record before it; empty where the comparison of CHANGED is not available (R253). -/
  prev : List FacetRow := []
  /-- The row before the first of cur, for ACTIVITY (R254). -/
  before : Option FacetRow := none
  /-- The record repeats the one before it (R250). -/
  stale : Bool := false
  /-- Lane superframe of the last record formed (R250). -/
  seen : Option Nat := none
  /-- RX has been enabled: the first record from this superframe on has no comparison. The device superframe of the enable, 0 on a PLESIO
  lane, whose superframes are numbered by what it receives (R250, R253). -/
  fresh : Option Nat := none
  deriving DecidableEq, Repr

/-- The source of one output of a superframe (R258, R263): the superframe, the dunes, and the lanes' rows as its window opened. -/
structure FacetSrc where
  sf : Nat
  dunes : List Nat
  lanes : Table FacetLane
  deriving DecidableEq, Repr

/-- The facet output in progress to the ring: its source, the gap marker due, and the number of record entries written (R258, R259). -/
structure FacetOut where
  src : FacetSrc
  gap : Option (Nat × Nat)
  done : Nat
  deriving DecidableEq, Repr

/-- The loupe stream in progress: its source, its first egress row, its lane, first grain and number of grains, and the SEQ of its
first entry (R263). -/
structure FacetLoupe where
  src : FacetSrc
  start : Rsn
  lane : Nat
  first : Nat
  k : Nat
  seq : Nat
  deriving DecidableEq, Repr

/-- The facet engine (R248 to R264, R277). -/
structure Facet where
  /-- First superframe covered since facet.enable was set (R275). -/
  first : Option Nat := none
  /-- The window of that superframe has come: every later superframe has records (R248, R275). -/
  begun : Bool := false
  /-- The lanes' rows (R249, R250). -/
  lanes : Table FacetLane := []
  /-- Output in progress to the facet ring (R258, R277). -/
  out : Option FacetOut := none
  /-- DROPPED (R277). -/
  dropped : Bool := false
  /-- First of the superframes dropped in a row, and their number (R259). -/
  dropRun : Nat × Nat := (0, 0)
  /-- The loupe stream (R263). -/
  loupe : Option FacetLoupe := none
  /-- SEQ of the loupe destination's next entry, 20 bits (R263). -/
  loupeSeq : Nat := 0
  /-- The last two device superframes with trib.interpretation as each began, by source grain where it is not RAW (R275). -/
  interp : List (Nat × Table Nat) := []
  deriving DecidableEq, Repr

/-- A cut stage (R265 to R277). -/
structure CutStage where
  on : Bool := false
  /-- Writes of cut.enable and the egress row from which each takes effect, oldest first (R273). -/
  pend : List (Rsn × Bool) := []
  /-- Output grains for the next egress row, by lane × 4,096 + grain (R269, R270). -/
  out : Table Grain := []
  /-- Saturated samples per input in the row under way (R267). -/
  outSat : Table Nat := []
  /-- Inputs of the row under way whose tag mismatched: input, middle slot, expected tag, tag seen (R168, R173). -/
  outMis : List (Nat × Nat × Nat × Nat) := []
  /-- An input of the row under way is known AIS (R271). -/
  outAis : Bool := false
  /-- Saturated samples per input in the superframe in progress (R272). -/
  satNow : Table Nat := []
  /-- Saturated samples per input in the last completed superframe (R272). -/
  satLast : Table Nat := []
  /-- AIS_IN (R277). -/
  aisIn : Bool := false
  deriving DecidableEq, Repr

/-- Observation. -/
structure Obs where
  facet : Facet := {}
  cuts : Table CutStage := []
  deriving DecidableEq, Repr

/-- States of the DPLL (R288). -/
inductive Dpll where
  | freerun | acquire | locked | oasis | pulled
  deriving DecidableEq, Repr

/-- Qualification of a frequency input (R282). -/
inductive Qual where
  | disqualified | waiting | qualified
  deriving DecidableEq, Repr

/-- A frequency input (R279, R307). -/
structure RefIn where
  qual : Qual := .disqualified
  rank : Nat := 0
  /-- RLOS (R282, R307). -/
  rlos : Bool := false
  rwf : Bool := false
  rfh : Bool := false
  rfs : Bool := false
  rout : Bool := false
  rnl : Bool := false
  losCause : Nat := 0
  waitTick : Nat := 0
  waitFor : Nat := 0
  gatesBad : Nat := 0
  gatesOk : Nat := 0
  active : Nat := 0
  mean10 : Int := 0
  mean100 : Int := 0
  meanSecs : Nat := 0
  hardOk : Nat := 0
  softOk : Nat := 0
  voteOk : Nat := 0
  /-- Tick of the last disqualification, and the seconds that the means held then: limits and vote of that update see them still (R284,
  R305). -/
  cut : Option (Nat × Nat) := none
  deriving DecidableEq, Repr

/-- A PPS input (R295). -/
structure PpsIn where
  qual : Bool := false
  plos : Bool := false
  pjmp : Bool := false
  okSecs : Nat := 0
  waitFor : Nat := 0
  bad : Nat := 0
  lastTick : Option Nat := none
  /-- timing.pps_delay in force at the last edge, ps (R295). -/
  delay : Nat := 0
  deriving DecidableEq, Repr

/-- The pulses of a PPS_OUT (R302): how many have been sent, and the width in µs and the advance in ps of the last. -/
structure PpsOut where
  count : Nat := 0
  /-- The second of the last pulse, by the count that marks seconds (R298, R302). -/
  second : Option Nat := none
  width : Nat := 0
  advance : Nat := 0
  deriving DecidableEq, Repr

/-- Timing (R279 to R309). -/
structure Timing where
  /-- TSTATE (R288, R306). -/
  state : Dpll := .freerun
  /-- TSEL, 31 for none (R288, R306). -/
  sel : Nat := 31
  /-- SWITCHING and the state to be in afterwards (R286, R306). -/
  switching : Bool := false
  /-- Boundary at which the switch started (R286). -/
  switchTick : Nat := 0
  /-- PULLED is due at the end of the switch (R305). -/
  clampHit : Bool := false
  /-- Frequency inputs 0–23 (R307). -/
  inputs : Table RefIn := []
  /-- CMD: 0 none, 1 FORCE, 2 MANUAL, 3 HOLDOVER (R306). -/
  cmd : Nat := 0
  /-- Input of FORCE or MANUAL (R287). -/
  cmdInput : Nat := 31
  /-- Commands accepted and not yet acting: boundary, kind (1 FORCE, 2 MANUAL, 3 HOLDOVER, 4 CLEAR, 5 SET_QL), input, rank and
  command (R287). -/
  cmdPend : List (Rsn × Nat × Nat × Nat × CmdRef) := []
  /-- Tick since which a PULLED input has stayed within half the clamp (R289). -/
  calmTick : Option Nat := none
  /-- Steps due at a row boundary, each with TIMING.STEP where it was commanded (R299). -/
  step : List (Rsn × Option CmdRef) := []
  /-- Tick of the last entry into the DPLL state (R289, R291). -/
  stateTick : Nat := 0
  /-- timing.lock_timeout as it stood at the entry into ACQUIRE (R308). -/
  lockFor : Nat := 0
  /-- HIST_VALID (R306). -/
  histValid : Bool := false
  /-- The DPLL's frequency against OCXO_IN in each second of LOCKED, newest first, at most 300, in units of 10⁻¹², with the temperature in
  mK where it was read (R291). -/
  hist : List (Int × Option Int) := []
  /-- Mean of the last 300 s, 10⁻¹² (R291). -/
  histMean : Int := 0
  /-- Mean temperature of those 300 s, mK (R292). -/
  histTemp : Option Int := none
  /-- TEMP_VALID (R306). -/
  tempValid : Bool := false
  /-- Samples of LOCKED, newest first, at most 86,400: temperature in mK and frequency in 10⁻¹² (R292). -/
  samples : List (Int × Int) := []
  /-- Temperature read last, mK (R292). -/
  temp : Option Int := none
  /-- I2C address of the last read, from timing.osens_addr (R292). -/
  osensAt : Nat := 0
  /-- Sensor reads in a row that failed (R292). -/
  sensorFails : Nat := 0
  /-- OSNS (R306). -/
  osns : Bool := false
  /-- OXF (R306). -/
  oxf : Bool := false
  /-- Tick from which OCXO_IN is within ±30 ppm again (R294). -/
  oxfTick : Nat := 0
  /-- PPS inputs 0–1 (R295). -/
  pps : Table PpsIn := []
  /-- TOD_QUAL (R306). -/
  todQual : Bool := false
  /-- Good TOD messages in a row (R296). -/
  todGood : Nat := 0
  /-- TODE (R306). -/
  tode : Bool := false
  /-- SECONDS of the last good message (R296). -/
  todSec : Nat := 0
  /-- Tick of the last good message (R296). -/
  todTick : Nat := 0
  /-- TOFF (R306). -/
  toff : Bool := false
  /-- Measured alignment error in ps: how far the rows stand behind TAI (R298). -/
  alignErr : Int := 0
  /-- The TAI second S of the edge that measured it, and its row (S − E) × 390,625 (R206, R298). -/
  alignMark : Option (Nat × Rsn) := none
  /-- The first alignment after BOOT has been made (R299). -/
  aligned : Bool := false
  /-- TFOL (R306). -/
  tfol : Bool := false
  /-- PRSKW (R306). -/
  prskw : Bool := false
  /-- Rows in a row with a skew above 100 ns (R303). -/
  skewRun : Nat := 0
  /-- The holder's TSEL and TSTATE heard last (R303). -/
  heard : Option (Nat × Nat) := none
  /-- QL_RANK to send, in force from the next egress row (R301). -/
  qlTx : Nat := 13
  /-- TSTATE code to send (R301). -/
  tstateTx : Nat := 0
  /-- The lane that is sent rank 15, 512 for none (R301). -/
  qlLane : Nat := 512
  /-- What CLKOUT0–CLKOUT7 send: the division of the root; none: held low (R302). -/
  clkOut : List (Option Nat) := List.replicate 8 none
  /-- Pulses on PPS_OUT0 and PPS_OUT1 (R302). -/
  ppsOut : Table PpsOut := []
  /-- TOD_OUT message sent last (R296). -/
  todOut : List Byte := []
  /-- Tick of a PPS_OUT edge whose TOD_OUT message is still to be sent (R296). -/
  ppsEdge : Option Nat := none
  deriving DecidableEq, Repr

/-- A Sared lane's receiver (R342, R347). -/
structure SaredLane where
  align : Align := .hunt
  /-- Line offset in SYNC, and the polarity found (R92, R97, R341). -/
  offset : Nat := 0
  /-- P and N are reversed (R97, R341). -/
  inv : Bool := false
  /-- Candidates: offset, RSN and polarity, the confirming one first (R94). -/
  cands : List (Nat × Rsn × Bool) := []
  los : Bool := false
  /-- LOF sets as the receiver starts (R110, R311). -/
  lof : Bool := true
  unc : Bool := false
  uncRun : Nat := 0
  uncOk : Nat := 0
  syncRun : Nat := 0
  sigRun : Nat := 0
  /-- The device row in which sigRun was counted last (R110). -/
  sigRow : Option Nat := none
  expRsn : Rsn := 0
  jump : Option Rsn := none
  hdrOk : Bool := false
  hdrBad : Nat := 0
  laneNo : Nat := 0
  planeOk : Bool := false
  serialOk : Bool := false
  /-- LINK_UP of the header: the sender sees the link up (R343). -/
  peerUp : Bool := false
  fresh : Bool := false
  /-- Cells of the row received last that are not empty, by cell number (R344). -/
  cells : Table (BitVec 128) := []
  deriving DecidableEq, Repr

/-- A checkpoint slot (R363): valid mark, length and CRC-32C of what it holds, and the checkpoint. -/
structure CkptSlot where
  valid : Bool := false
  len : Nat := 0
  crc : BitVec 32 := 0
  ck : Ckpt := {}
  deriving DecidableEq, Repr

/-- Pairing (R340 to R372). -/
structure Pair where
  /-- LSEQ of the next frame, 8 bits (R349). -/
  lseq : Nat := 0
  /-- LSEQ of the last HOLD frame heard, with the tick (R349). -/
  ack : Option (Nat × Nat) := none
  /-- HOLD frames sent: LSEQ and tick (R351). -/
  sent : List (Nat × Nat) := []
  /-- Frames sent, newest first (R348). -/
  frames : List LeaseFrame := []
  /-- Tick to which the lease runs (R351). -/
  leaseEnd : Nat := 0
  /-- Tick of the last HOLD heard from the peer (R352). -/
  holdTick : Option Nat := none
  /-- A HOLD was heard since the last entry into CONFIGURE (R354). -/
  holdSince : Bool := false
  /-- PEER_STATE (R370). -/
  peerState : Nat := 0
  /-- A frame was heard since the entry into the current mode (R354). -/
  heard : Bool := false
  /-- Tick of the entry into the current mode (R354). -/
  modeTick : Nat := 0
  /-- Tick of the last own release or lapse (R354, R355). -/
  freedTick : Option Nat := none
  /-- SEIZED (R370). -/
  seized : Bool := false
  /-- FAULT_ANN (R370). -/
  faultAnn : Bool := false
  /-- Release due at the next boundary: 0 RELEASE, 1 FAULT, 2 on CDUAL or CSTRAP (R358, R359). -/
  release : Option (Nat × Option CmdRef) := none
  /-- Frames of RELEASE or FAULT still to be repeated (R348). -/
  repeats : Nat := 0
  /-- STATE announced in place of the role's: RELEASE (R348). -/
  announce : Nat := 0
  /-- Tick of the last frame heard on CLASP_I, and frames heard since (R369). -/
  claspTick : Nat := 0
  /-- Frames heard in a row on CLASP_I (R369). -/
  claspRun : Nat := 0
  /-- SARED_UP (R370). -/
  linkUp : Bool := false
  /-- The link has been up (R369). -/
  wasUp : Bool := false
  /-- Rows in a row that meet R347. -/
  linkRun : Nat := 0
  /-- SL0–SL3 receivers (R342). -/
  lanes : Table SaredLane := []
  /-- SLD (R370). -/
  sld : Bool := false
  /-- SLX (R370). -/
  slx : Bool := false
  /-- SPEER and its rows (R370). -/
  speer : Bool := false
  /-- SPEER rows in error and correct (R369). -/
  speerRun : Nat × Nat := (0, 0)
  /-- CPIN (R370). -/
  cpin : Bool := false
  /-- CLOOP and its tick (R370). -/
  cloop : Option Nat := none
  /-- CNOH (R370). -/
  cnoh : Bool := false
  /-- CDUAL (R370). -/
  cdual : Bool := false
  /-- CSTRAP and the tick of the last frame that set it (R370). -/
  cstrap : Option Nat := none
  /-- Tick of the first frame with other straps since the last one that set CSTRAP (R369). -/
  strapOk : Option Nat := none
  /-- Tick of the last frame with other straps (R369). -/
  strapLast : Nat := 0
  /-- Tick at which the role became FOLLOWER (R369). -/
  followTick : Nat := 0
  /-- Journal head and last sequence number of the old holder, as the checkpoint told them (R363, R364). -/
  peerJrn : Nat × Nat := (0, 0)
  /-- CPAIR and its tick (R370). -/
  cpair : Option Nat := none
  /-- Peer's map.generation as heard (R349). -/
  peerGen : Nat := 0
  /-- Peer's mode code (R46). -/
  peerMode : Nat := 0
  /-- The peer, as follower, has JOINED = 1 (R197). -/
  peerJoined : Bool := false
  /-- Digest of the peer's staged delta, as follower (R188; log entry 9). -/
  peerStage : BitVec 32 := 0
  /-- Digest of the peer's caravan store (R203; log entry 9). -/
  peerStore : BitVec 32 := 0
  /-- Messages for the peer queued in this row, oldest first (R345, R346). -/
  out : List PeerMsg := []
  /-- Cells that wait to be sent, by class (R344, R345). -/
  outCells : Table (List (BitVec 128)) := []
  /-- Sequence number of the next cell, by class (R344). -/
  outSeq : Table Nat := []
  /-- The Sared row sent last: its RSN, LINK_UP, and its cells that are not empty by position (R342 to R344). -/
  txRsn : Rsn := 0
  /-- LINK_UP of the row sent last (R343). -/
  txUp : Bool := false
  /-- Cells of the row sent last (R344). -/
  txCells : Table (BitVec 128) := []
  /-- The message under way from the peer, by class: the payload of its cells so far (R344). -/
  rxPart : Table (List Byte) := []
  /-- Messages completed in the row received last: class and payload (R344). -/
  rxMsgs : List (Nat × List Byte) := []
  /-- Write bursts that the Sared engine has in progress on the matrix (R459). -/
  bursts : List Burst := []
  /-- Records committed since the copy of the banks began (R366). -/
  dirty : List MapRec := []
  /-- LIVE: superframe j of a running copy (R366, R370). -/
  live : Option Nat := none
  /-- Generation the copy brings (R366). -/
  liveGen : Nat := 0
  /-- RSN and TOD of the holder to step to (R366). -/
  liveTime : Option (Rsn × Nat × Nat) := none
  /-- Checkpoint slots 0–47 in the unit's MRAM (R363). -/
  ckpts : Table CkptSlot := []
  /-- Sequence number of the next checkpoint (R363). -/
  ckptSeq : Nat := 1
  /-- Tick of the last checkpoint (R363). -/
  ckptTick : Nat := 0
  /-- TAKEOVER (R370). -/
  takeover : Bool := false
  /-- Forwarded commands that wait for their row (R229). -/
  fwd : List (ForwardHead × Forwarded) := []
  deriving DecidableEq, Repr

/-- A segment of the PCIe outbound region (R462). -/
structure Segment where
  base : Nat := 0
  limit : Nat := 0
  deriving DecidableEq, Repr

/-- The Jaray complex: matrix, memories, semaphores, march test (R441 to R470). -/
structure Jcc where
  /-- REMAP (R449, R468). -/
  remap : Bool := false
  /-- J1_RUN (R468). -/
  j1 : Bool := false
  /-- Semaphores: holder's master number plus 1 (R456). -/
  sems : Table Nat := []
  /-- Working SRAM by offset (R450). -/
  sram : Memory := []
  /-- The apply batches of J0 and J1: the writes queued (R457). -/
  batch : Table (List RegWrite) := []
  /-- The address that the next queued write takes, per pair (R457; log entry 97). -/
  batchAddr : Table Nat := []
  /-- The journal record that stands in the record port (R457; log entry 97). -/
  port : BitVec 512 := 0
  /-- The last request for which J0 or J1 took a bus-error exception (R448). -/
  busError : Table Nat := []
  /-- Outbound segments (R462). -/
  segs : Table Segment := []
  /-- Tick of the last informational event of a default-target hit, per master, plus 1 (R448). -/
  hitTick : Table Nat := []
  /-- MARCH_REGION (R468). -/
  region : Nat := 0
  /-- Region that the next test takes (R453). -/
  nextRegion : Nat := 0
  /-- Next slice of the region under test (R453). -/
  slice : Nat := 0
  /-- MARCH_ACTIVE (R468). -/
  marchOn : Bool := false
  /-- Tick at which the region's test began (R453). -/
  marchTick : Nat := 0
  /-- Damaged 128-bit words of the working SRAM, by word offset (R504 class 0x0A). -/
  sramBad : List Nat := []
  /-- Spare lines used per bank (R455). -/
  spares : Table Nat := []
  /-- SPARE_LOW (R468). -/
  spareLow : Bool := false
  /-- Value read by the last matrix read that answers one (R456). -/
  readData : BitVec 32 := 0
  /-- The last matrix request got an error response (R448). -/
  error : Bool := false
  deriving DecidableEq, Repr

/-- A sleep request (R477 to R482): the domains still to be asked, those stopped, targets. -/
structure SleepReq where
  quiescent : Bool
  entries : List DomainEntry
  todo : List Nat
  stopped : List Nat
  accepted : Bool
  due : Rsn
  tick : Nat
  ref : Option CmdRef
  deriving DecidableEq, Repr

/-- A wake request of POWER.DOMAIN (R476). -/
structure WakeReq where
  domains : List Nat
  tick : Nat
  ref : Option CmdRef
  /-- The named domains that leave OFF (R472). -/
  off : List Nat := []
  deriving DecidableEq, Repr

/-- A DVFS step that waits for the regulator (R487). -/
structure DvfsReq where
  domain : Nat
  setpoint : Nat
  oldMv : Nat
  ref : Option CmdRef
  deriving DecidableEq, Repr

/-- Power (R471 to R498). -/
structure Power where
  /-- Domain states by code q: 0 ON, 1 RETENTION, 2 OFF, 3 in transition (R471, R495). -/
  dom : Table Nat := []
  /-- power.dvfs_jcc (R495). -/
  dvfsJcc : Nat := 0
  /-- power.dvfs_fac (R495). -/
  dvfsFac : Nat := 0
  /-- VCTL in mV (R486). -/
  vctl : Nat := 900
  sleep : Option SleepReq := none
  wake : Option WakeReq := none
  dvfs : Option DvfsReq := none
  /-- power.last_sleep: STATUS, DOMAIN, REASON, STOPPED (R496). -/
  lastSleep : Nat × Nat × Nat × Nat := (0, 0, 0, 0)
  /-- power.wake_cause.CAUSE (R497). -/
  wakeCause : Nat := 0
  /-- power.wake_cause.RET_LOST (R497). -/
  retLost : Bool := false
  /-- Stripes whose retention marker is lost (R484). -/
  markersLost : List Nat := []
  /-- WAKING (R407). -/
  waking : Bool := false
  /-- A wake source seen while phase 2 runs, or only AON runs (R485, R494). -/
  wakeHeld : Option Nat := none
  /-- Tick of entry into QUIESCENT (R483). -/
  quietTick : Nat := 0
  /-- Snapshot in AON: RSN, TOD cycles, TQ, tick (R489). -/
  snap : Option (Rsn × Nat × Nat × Nat) := none
  /-- power.tod_uncertainty in ns, 64 bits (R495). -/
  todUnc : Nat := 0
  /-- Supplies removed as R485 states. -/
  removed : Bool := false
  deriving DecidableEq, Repr

/-- A fault record (R515). -/
structure FaultRec where
  fseq : Nat
  rsn : Rsn
  cls : Nat
  region : Nat
  outcome : Nat
  injected : Bool
  action : Nat
  location : Nat
  detail : Nat
  count : Nat
  link : Nat
  isOpen : Bool
  tick : Nat
  deriving DecidableEq, Repr

/-- Faults (R499 to R522). -/
structure Faults where
  /-- FSEQ of the next record, kept in MRAM (R515). -/
  next : Nat := 1
  /-- The fault log, newest first, at most 4,096 (R517). -/
  log : List FaultRec := []
  /-- The rotation in MRAM, newest first, at most 64 (R517). -/
  mram : List FaultRec := []
  /-- LAST_REGION (R521). -/
  lastRegion : Nat := 0
  /-- Regions with UNCOVERED set (R521). -/
  uncovered : List Nat := []
  /-- Damaged active map entries: map, dune, index (R504 class 0x03). -/
  mapBad : List (Nat × Nat × Nat) := []
  /-- Damaged active map entries not yet read: map, dune, index (R504 class 0x03). -/
  mapNew : List (Nat × Nat × Nat) := []
  /-- Damaged ring or buffer words: lane, grain (R504 class 0x02). -/
  dataBad : List (Nat × Nat) := []
  /-- Middle slots that deliver another word's tag: egress dune, slot, tag difference, lasting (R504 class 0x05). -/
  misroute : List (Nat × Nat × Nat × Bool) := []
  /-- Critical fields of blocks in doubt under PARITY: region, location (R504 class 0x07). In a lane tile the location is the lane,
  plus 512 for its receive direction. -/
  parityBad : List (Nat × Nat) := []
  /-- The same, not yet found by a read or the scan (R434). -/
  parityNew : List (Nat × Nat) := []
  /-- A copy that differs under TMR: regions (R504 class 0x06). -/
  tmrBad : List Nat := []
  /-- Words that cross a link in error in the next row, by lane × 4,096 + grain; 2^22 plus a lane: its words use a wire that no
  spare replaces (R504 class 0x0C, R514). -/
  linkBad : List Nat := []
  /-- Faults that DIAG.FAULT_INJECT placed and no record has named yet: class, region, location (R518). -/
  injected : List (Nat × Nat × Nat) := []
  /-- Spare wires used per link (R504). -/
  wires : Table Nat := []
  /-- Lasting faults in force (R500). -/
  lasting : List FaultSite := []
  /-- Tick of the last informational event of masked faults per region, plus 1 (R516). -/
  maskTick : Table Nat := []
  /-- Engines whose copies disagree (R507). -/
  engines : List Engine := []
  deriving DecidableEq, Repr

/-- An active alarm (R523, R526). -/
structure Alarm where
  code : Nat
  obj : Nat
  sev : Nat
  since : Rsn
  deriving DecidableEq, Repr

/-- A queued event (R527). -/
structure Event where
  eseq : Nat
  cls : Nat
  sev : Nat
  len : Nat
  isSet : Bool
  rsn : Rsn
  code : Nat
  tod : Nat
  tq : Nat
  obj : Nat
  data : Nat
  payload : List Byte
  /-- Changes of an alarm instance that this entry stands for (R532). -/
  changes : Nat := 1
  deriving DecidableEq, Repr

/-- A running summary; OBJECT 0xFFFF_FFFF is the one for its CODE (R533). -/
structure Fold where
  code : Nat
  obj : Nat
  count : Nat
  first : Rsn
  last : Rsn
  deriving DecidableEq, Repr

/-- Drops of an event class (R534). -/
structure Drops where
  count : Nat := 0
  first : Rsn := 0
  last : Rsn := 0
  codes : Table Nat := []
  deriving DecidableEq, Repr

/-- A journal record (R403); own: it stands in the space of 16 RESTART records (R538). -/
structure JRec where
  seq : Nat
  rsn : Rsn
  tod : Nat
  tq : Nat
  path : Nat
  role : Nat
  kind : Nat
  session : Nat
  cmdId : Nat
  code : Nat
  status : Nat
  obj : Nat
  count : Nat
  value : Nat
  link : BitVec 64
  own : Bool := false
  deriving DecidableEq, Repr

/-- A performance counter (R540, R541). -/
structure PerfCtr where
  event : Nat := 0
  obj : Nat := 0
  chain : Bool := false
  threshold : Nat := 0
  deriving DecidableEq, Repr

/-- Alarms, events, journal, performance counters and lifetime records (R523 to R549). -/
structure Log where
  /-- The alarm table, in code and object order (R523). -/
  alarms : List Alarm := []
  /-- ALARM_N is low (R525). -/
  alarmLow : Bool := false
  /-- ESEQ of the next event, 32 bits (R527). -/
  eseq : Nat := 1
  /-- Event queue, oldest first (R531). -/
  queue : List Event := []
  /-- Status words as last reported by status-change events, by parameter key (R530). -/
  seen : Table Nat := []
  /-- Running summaries, oldest first (R533). -/
  folds : List Fold := []
  /-- Drops of INFO, PERF, TRACE by class code 1–3 (R534). -/
  drops : Table Drops := []
  /-- Event filters; empty passes all (R535). -/
  filters : List FilterEntry := []
  /-- Journal buffer, oldest first (R536). -/
  jbuf : List JRec := []
  /-- SEQ of the next record (R403, R539). -/
  jseq : Nat := 1
  /-- LINK of the next record (R403). -/
  jlink : BitVec 64 := 0
  /-- JOURNAL_FULL (R537, R547). -/
  jfull : Bool := false
  /-- Restarts held as a running count, with the first RSN (R538). -/
  jheld : Nat × Nat := (0, 0)
  /-- Coalesced autonomous actions by code: count, first and last RSN (R538). -/
  jcoal : Table (Nat × Nat × Nat) := []
  /-- Standing reservations in records (R392, R537). -/
  jreserved : Nat := 0
  /-- The ceiling in MRAM, a multiple of 65,536 above every SEQ issued (R539). -/
  jceil : Nat := 65536
  /-- Programmable counters 0–191 (R540). -/
  perf : Table PerfCtr := []
  /-- Values of counters 0–415, 48 bits (R540, R452). -/
  perfVal : Table Nat := []
  /-- Programming that applies at the next row boundary (R541). -/
  perfPend : List PerfEntry := []
  /-- The firmware has to restore the default programming (R540). -/
  perfDefault : Bool := false
  /-- Lifetime accumulators, keyed accumulator × 2^24 + bin (R544). -/
  life : Table Nat := []
  /-- Highest temperature since the last thermal cycle (R544). -/
  lifePeak : Option Int := none
  /-- Lifetime slots in MRAM: accumulators copied, next slot (R544). -/
  lifeSlots : Table (Table Nat) := []
  /-- Next lifetime slot and sequence (R544). -/
  lifeNext : Nat := 0
  /-- Tick of the last lifetime slot write (R544). -/
  lifeTick : Nat := 0
  deriving DecidableEq, Repr

/-- States of an image slot (R553). -/
inductive SlotState where
  | empty | valid | trial | active
  deriving DecidableEq, Repr

/-- An image slot (R553). -/
structure ImageSlot where
  state : SlotState := .empty
  image : Option Image := none
  deriving DecidableEq, Repr

/-- Boot trust and keys (R550 to R571). -/
structure Sec where
  /-- Image slots 0 and 1 in MRAM (R553). -/
  slot0 : ImageSlot := {}
  /-- Image slot 1 (R553). -/
  slot1 : ImageSlot := {}
  /-- Anti-rollback counter, 0–127, in OTP (R550). -/
  counter : Nat := 0
  /-- Key revocation, 4 bits, in OTP (R550). -/
  revoked : Nat := 0
  /-- RUN_SLOT, none in BOOT and RECOVERY (R560). -/
  running : Option Nat := none
  /-- Tick at which the trial began (R557). -/
  trialTick : Nat := 0
  /-- fw.trial_s in force for this trial (R571). -/
  trialS : Nat := 600
  /-- Open load: total and bytes received (R559, R560). -/
  load : Option (Nat × Nat) := none
  /-- The slot of the last image that has verified since RECOVERY began (R559). -/
  verified : Option Nat := none
  /-- Role keys 1–4 (R565). -/
  keys : Table (BitVec 384) := []
  /-- The ADMIN key is the one of manufacture (R565). -/
  adminInitial : Bool := true
  /-- Generation count of the key store (R566). -/
  keyGen : Nat := 0
  /-- Steps 2 and 3 of a confirmation not yet done: FLOOR and KEY_INDEX (R558). -/
  confirm : Option (Nat × Nat) := none
  deriving DecidableEq, Repr

/-- Why the machine stops with a fault: the manual gives every command and event an effect, so no reason stands here and
no step faults. -/
inductive Fault where
  deriving DecidableEq, Repr

/-- Why the machine refuses a command. -/
inductive Refusal where
  /-- An arm of exec that has no meaning yet, named by its mnemonic. Safe: no next state is claimed. -/
  | notModelled (mnemonic : String)
  deriving DecidableEq, Repr

end Sys2Proof.Machine

namespace Sys2Proof.Machine

/-- The state of the block: one component per subsystem, and the commands that wait, first in, first out. -/
structure State where
  clk : Clock := {}
  dev : Device := {}
  host : HostIf := {}
  par : Params := {}
  lanes : Table Lane := []
  tribs : Table Trib := []
  sw : Switch := {}
  com : Commit := {}
  prot : Prot := {}
  obs : Obs := {}
  tim : Timing := {}
  pair : Pair := {}
  jcc : Jcc := {}
  pow : Power := {}
  flt : Faults := {}
  log : Log := {}
  sec : Sec := {}
  pending : List Instr := []
  deriving DecidableEq, Repr

/-- The machine right after a power-on reset: every field at its default above, mode BOOT, the queue empty. -/
def State.reset : State := {}

end Sys2Proof.Machine
end

