-- ==== Sys2Proof/Machine/Table.lean ====
section
/-!
DEFINITION. Machine/Table.lean: reading and writing a sparse table, and the canonical form that every write keeps.
-/
namespace Sys2Proof.Table
variable {α : Type}

/-- The value listed at key k. -/
def find (t : Table α) (k : Nat) : Option α :=
  match t with
  | [] => none
  | (j, v) :: r => if j = k then some v else find r k

/-- The value at key k: d where nothing is listed. -/
def get (d : α) (t : Table α) (k : Nat) : α :=
  (find t k).getD d

/-- List v at key k, keys staying in rising order. -/
def put (t : Table α) (k : Nat) (v : α) : Table α :=
  match t with
  | [] => [(k, v)]
  | (j, w) :: r => if k < j then (k, v) :: (j, w) :: r else if k = j then (k, v) :: r else (j, w) :: put r k v

/-- List nothing at key k. -/
def drop (t : Table α) (k : Nat) : Table α :=
  match t with
  | [] => []
  | (j, w) :: r => if j = k then drop r k else (j, w) :: drop r k

/-- Write v at key k in canonical form: the default d is never listed. -/
def set [DecidableEq α] (d : α) (t : Table α) (k : Nat) (v : α) : Table α :=
  if v = d then drop t k else put t k v

/-- Every listed key is above b. -/
def above (b : Nat) (t : Table α) : Prop :=
  ∀ x ∈ t, b < x.1

/-- The canonical form: keys strictly rising, no listed value equal to the default d. -/
def wf [DecidableEq α] (d : α) (t : Table α) : Bool :=
  match t with
  | [] => true
  | (j, v) :: r => (match r with
    | [] => true
    | (k, _) :: _ => decide (j < k)) && decide (v ≠ d) && wf d r

/-- Write a run of values from key k on. -/
def setRun [DecidableEq α] (d : α) (t : Table α) (k : Nat) (vs : List α) : Table α :=
  match vs with
  | [] => t
  | v :: r => setRun d (set d t k v) (k + 1) r

/-- The n values from key k on. -/
def getRun (d : α) (t : Table α) (k n : Nat) : List α :=
  match n with
  | 0 => []
  | m + 1 => get d t k :: getRun d t (k + 1) m

/-- Apply f to every listed value; values that become the default are no longer listed. -/
def mapVals [DecidableEq α] (d : α) (f : Nat → α → α) (t : Table α) : Table α :=
  match t with
  | [] => []
  | (k, v) :: r => let w := f k v; if w = d then drop (mapVals d f r) k else (k, w) :: mapVals d f r

/-- Keep the listed entries that satisfy p. -/
def keep (p : Nat → α → Bool) (t : Table α) : Table α :=
  t.filter fun x => p x.1 x.2

end Sys2Proof.Table

namespace Sys2Proof

/-- The canonical form of a memory. -/
abbrev Memory.wf (m : Memory) : Prop := Table.wf (0 : Byte) m = true

end Sys2Proof
end

