-- ==== Sys2Proof/Machine/Params.lean ====
section
/-!
DEFINITION. Machine/Params.lean: the descriptor of every parameter (R420 to R423, R428, R440 and the parameter tables of
the chapters), the value in force and the value written, the checks of a written value, and the counts. Widths of
unsigned parameters that the manual does not state are the least of 1, 2, 4 and 8 bytes that holds the range (log
entry 10).
-/
namespace Sys2Proof.Machine

/-- Access codes (R14, R423). -/
inductive Access where
  | rw | ro | rwk | rwd | cnt
  deriving DecidableEq, Repr

/-- Value types (R423). -/
inductive VType where
  | uint | int | enum | bytes | bitmap | record
  deriving DecidableEq, Repr

/-- Zero kinds (R423, R438). -/
inductive ZeroKind where
  | ordinary | itemCount | size | disables | integration
  deriving DecidableEq, Repr

/-- When a value takes effect (R423). -/
inductive Effect where
  | atOnce | nextRow | nextPmf | nextSuperframe | disabledOnly | configureOnly | chapter
  deriving DecidableEq, Repr

/-- The blocks that own RWD parameters (R428). -/
inductive Block where
  | none | laneTx | laneRx | laneBoth | refIn | facet | cut
  deriving DecidableEq, Repr

/-- A parameter's descriptor (R423). -/
structure Desc where
  cls : Nat
  name : String
  acc : Access
  typ : VType
  len : Nat
  instMax : Nat
  lo : Int
  hi : Int
  dflt : Nat
  effect : Effect
  zero : ZeroKind
  role : Nat
  block : Block
  deriving DecidableEq, Repr

/-- A count of access code CNT: 48 bits, OPERATOR loads it (R425). -/
def count (cls : Nat) (name : String) (instMax : Nat) : Desc :=
  ⟨cls, name, .cnt, .uint, 8, instMax, 0, 2 ^ 48 - 1, 0, .atOnce, .ordinary, 2, .none⟩

/-- A read-only parameter. -/
def status (cls : Nat) (name : String) (typ : VType) (len instMax : Nat) (lo hi : Int) : Desc :=
  ⟨cls, name, .ro, typ, len, instMax, lo, hi, 0, .atOnce, .ordinary, 0, .none⟩

/-- A writable parameter. -/
def setting (cls : Nat) (name : String) (acc : Access) (typ : VType) (len instMax : Nat) (lo hi : Int) (dflt : Nat)
    (effect : Effect) (zero : ZeroKind) (role : Nat) (block : Block) : Desc :=
  ⟨cls, name, acc, typ, len, instMax, lo, hi, dflt, effect, zero, role, block⟩

end Sys2Proof.Machine

namespace Sys2Proof
open Sys2Proof.Machine

/-- The descriptor of each parameter: access, type, length, highest instance, least and greatest value, default, effect,
zero kind, least role that writes it, and block. -/
def Pn.desc (n : Pn) : Desc :=
  match n with
  | .laneMode => setting 1 "lane.mode" .rwd .enum 1 511 0 1 0 .disabledOnly .ordinary 2 .laneBoth
  | .laneTxPrecode => setting 1 "lane.tx_precode" .rwd .uint 1 511 0 1 0 .disabledOnly .ordinary 2 .laneTx
  | .laneRxPrecode => setting 1 "lane.rx_precode" .rwd .uint 1 511 0 1 0 .disabledOnly .ordinary 2 .laneRx
  | .laneTraceText => setting 1 "lane.trace_text" .rw .bytes 32 511 1 32 0 .chapter .size 2 .none
  | .laneClocking => setting 1 "lane.clocking" .rwd .enum 1 511 0 1 0 .disabledOnly .ordinary 2 .laneRx
  | .laneAnchor => setting 1 "lane.anchor" .rwd .enum 1 511 1 255 255 .disabledOnly .ordinary 2 .laneRx
  | .laneRxPolarity => setting 1 "lane.rx_polarity" .rwd .enum 1 511 0 2 0 .disabledOnly .ordinary 2 .laneRx
  | .laneTraceCheck => setting 1 "lane.trace_check" .rw .enum 1 511 0 3 0 .atOnce .ordinary 2 .none
  | .laneTraceExpected => setting 1 "lane.trace_expected" .rw .record 44 511 0 9173994463960286046443283581208347763186259956673124494950355357547691504353939232280074212440502746218495 0 .atOnce .ordinary 2 .none
  | .laneTimAction => setting 1 "lane.tim_action" .rw .enum 1 511 0 1 0 .nextRow .ordinary 2 .none
  | .laneSelfAllowed => setting 1 "lane.self_allowed" .rw .uint 1 511 0 1 0 .nextRow .ordinary 2 .none
  | .laneSdThreshold => setting 1 "lane.sd_threshold" .rw .uint 4 511 0 4294967295 250000 .chapter .disables 2 .none
  | .laneSdRcfThreshold => setting 1 "lane.sd_rcf_threshold" .rw .uint 2 511 0 625 0 .chapter .disables 2 .none
  | .laneLoupe => setting 1 "lane.loupe" .rwd .uint 1 511 0 1 0 .disabledOnly .ordinary 2 .laneTx
  | .laneTxEnable => setting 1 "lane.tx_enable" .rw .uint 1 511 0 1 0 .chapter .ordinary 2 .none
  | .laneRxEnable => setting 1 "lane.rx_enable" .rw .uint 1 511 0 1 0 .chapter .ordinary 2 .none
  | .laneTxTaps => setting 1 "lane.tx_taps" .rw .record 5 511 0 1099511627775 1074630623232 .nextRow .ordinary 2 .none
  | .laneTxSwing => setting 1 "lane.tx_swing" .rw .uint 2 511 600 1200 800 .nextRow .ordinary 2 .none
  | .laneTxPolarity => setting 1 "lane.tx_polarity" .rw .enum 1 511 0 1 0 .nextRow .ordinary 2 .none
  | .laneRxAdapt => setting 1 "lane.rx_adapt" .rw .enum 1 511 0 2 0 .atOnce .ordinary 2 .none
  | .laneRxCoupling => setting 1 "lane.rx_coupling" .rwd .enum 1 511 0 1 0 .disabledOnly .ordinary 2 .laneRx
  | .lanePrbsTx => setting 1 "lane.prbs_tx" .rw .enum 1 511 0 2 0 .nextRow .ordinary 2 .none
  | .lanePrbsPattern => setting 1 "lane.prbs_pattern" .rw .enum 1 511 0 4 1 .nextRow .ordinary 2 .none
  | .lanePrbsRx => setting 1 "lane.prbs_rx" .rw .enum 1 511 0 2 0 .nextRow .ordinary 2 .none
  | .laneTheta => status 1 "lane.theta" .int 2 511 (-32768) 32767
  | .laneRxStatus => status 1 "lane.rx_status" .record 4 511 (0) 4294967295
  | .laneWiringStatus => status 1 "lane.wiring_status" .record 4 511 (0) 4294967295
  | .laneTestStatus => status 1 "lane.test_status" .record 4 511 (0) 4294967295
  | .laneTxCfgStatus => status 1 "lane.tx_cfg_status" .record 4 511 (0) 4294967295
  | .laneRxCfgStatus => status 1 "lane.rx_cfg_status" .record 4 511 (0) 4294967295
  | .lanePmCorrSym => count 1 "lane.pm_corr_sym" 511
  | .lanePmCorrCw => count 1 "lane.pm_corr_cw" 511
  | .lanePmUncCw => count 1 "lane.pm_unc_cw" 511
  | .lanePmRce => count 1 "lane.pm_rce" 511
  | .lanePmInvRows => count 1 "lane.pm_inv_rows" 511
  | .lanePmFeUnc => count 1 "lane.pm_fe_unc" 511
  | .lanePmFeRce => count 1 "lane.pm_fe_rce" 511
  | .lanePmCandRej => count 1 "lane.pm_cand_rej" 511
  | .lanePmFalseLock => count 1 "lane.pm_false_lock" 511
  | .lanePmRsnJump => count 1 "lane.pm_rsn_jump" 511
  | .lanePmLof => count 1 "lane.pm_lof" 511
  | .lanePmTraceCrc => count 1 "lane.pm_trace_crc" 511
  | .lanePmMgmtFcs => count 1 "lane.pm_mgmt_fcs" 511
  | .lanePmEs => count 1 "lane.pm_es" 511
  | .lanePmSes => count 1 "lane.pm_ses" 511
  | .lanePmUas => count 1 "lane.pm_uas" 511
  | .lanePmMgmtDrop => count 1 "lane.pm_mgmt_drop" 511
  | .lanePmApsCrc => count 1 "lane.pm_aps_crc" 511
  | .lanePmApsBadcode => count 1 "lane.pm_aps_badcode" 511
  | .lanePrbsBits => count 1 "lane.prbs_bits" 511
  | .lanePrbsErrors => count 1 "lane.prbs_errors" 511
  | .lanePrbsLockLoss => count 1 "lane.prbs_lock_loss" 511
  | .laneWiringEvents => count 1 "lane.wiring_events" 511
  | .lanePmCwHist0 => count 1 "lane.pm_cw_hist0" 511
  | .lanePmCwHist1 => count 1 "lane.pm_cw_hist1" 511
  | .lanePmCwHist2 => count 1 "lane.pm_cw_hist2" 511
  | .lanePmCwHist3 => count 1 "lane.pm_cw_hist3" 511
  | .lanePmCwHist4 => count 1 "lane.pm_cw_hist4" 511
  | .lanePmCwHist5 => count 1 "lane.pm_cw_hist5" 511
  | .lanePmCwHist6 => count 1 "lane.pm_cw_hist6" 511
  | .lanePmCwHist7 => count 1 "lane.pm_cw_hist7" 511
  | .lanePmCwHist8 => count 1 "lane.pm_cw_hist8" 511
  | .lanePmCwHist9 => count 1 "lane.pm_cw_hist9" 511
  | .lanePmCwHist10 => count 1 "lane.pm_cw_hist10" 511
  | .lanePmCwHist11 => count 1 "lane.pm_cw_hist11" 511
  | .lanePmCwHist12 => count 1 "lane.pm_cw_hist12" 511
  | .lanePmCwHist13 => count 1 "lane.pm_cw_hist13" 511
  | .lanePmCwHist14 => count 1 "lane.pm_cw_hist14" 511
  | .lanePmCwHist15 => count 1 "lane.pm_cw_hist15" 511
  | .lanePmCwHist16 => count 1 "lane.pm_cw_hist16" 511
  | .tribTraceText => setting 2 "trib.trace_text" .rw .bytes 62 65535 1 62 0 .chapter .size 2 .none
  | .tribSignalLabel => setting 2 "trib.signal_label" .rw .uint 1 65535 0 254 1 .nextPmf .ordinary 2 .none
  | .tribLabelCheck => setting 2 "trib.label_check" .rw .uint 1 65535 0 1 0 .nextPmf .ordinary 2 .none
  | .tribExpectedLabel => setting 2 "trib.expected_label" .rw .uint 1 65535 0 254 1 .nextPmf .ordinary 2 .none
  | .tribPlmAction => setting 2 "trib.plm_action" .rw .enum 1 65535 0 1 0 .nextPmf .ordinary 2 .none
  | .tribTraceCheck => setting 2 "trib.trace_check" .rw .uint 1 65535 0 1 0 .atOnce .ordinary 2 .none
  | .tribTraceExpected => setting 2 "trib.trace_expected" .rw .bytes 62 65535 1 62 0 .atOnce .size 2 .none
  | .tribTimAction => setting 2 "trib.tim_action" .rw .enum 1 65535 0 1 0 .nextPmf .ordinary 2 .none
  | .tribSdThreshold => setting 2 "trib.sd_threshold" .rw .uint 4 65535 0 4294967295 64 .chapter .disables 2 .none
  | .tribLockstepRealign => setting 2 "trib.lockstep_realign" .rw .enum 1 65535 0 1 0 .atOnce .ordinary 2 .none
  | .tribInterpretation => setting 2 "trib.interpretation" .rw .enum 1 65535 0 3 0 .chapter .ordinary 2 .none
  | .tribStatus => status 2 "trib.status" .record 4 65535 (0) 4294967295
  | .tribRing => status 2 "trib.ring" .record 4 65535 (0) 4294967295
  | .tribPoolUsed => status 2 "trib.pool_used" .uint 4 65535 (0) 524288
  | .tribPmRxPjPos => count 2 "trib.pm_rx_pj_pos" 65535
  | .tribPmRxPjNeg => count 2 "trib.pm_rx_pj_neg" 65535
  | .tribPmRxNdf => count 2 "trib.pm_rx_ndf" 65535
  | .tribPmInvPtr => count 2 "trib.pm_inv_ptr" 65535
  | .tribPmTxPjPos => count 2 "trib.pm_tx_pj_pos" 65535
  | .tribPmTxPjNeg => count 2 "trib.pm_tx_pj_neg" 65535
  | .tribPmTxNdf => count 2 "trib.pm_tx_ndf" 65535
  | .tribPmBip => count 2 "trib.pm_bip" 65535
  | .tribPmFeBip => count 2 "trib.pm_fe_bip" 65535
  | .tribPmSlip => count 2 "trib.pm_slip" 65535
  | .tribPmTraceCrc => count 2 "trib.pm_trace_crc" 65535
  | .duneStatus => status 3 "dune.status" .record 4 63 (0) 4294967295
  | .duneDOut => status 3 "dune.d_out" .uint 4 63 (0) 65536
  | .duneEIn => status 3 "dune.e_in" .uint 4 63 (0) 65536
  | .duneDOutShadow => status 3 "dune.d_out_shadow" .uint 4 63 (0) 65536
  | .duneEInShadow => status 3 "dune.e_in_shadow" .uint 4 63 (0) 65536
  | .duneFreeCyclesIn => status 3 "dune.free_cycles_in" .uint 2 63 (0) 4096
  | .duneFreeCyclesOut => status 3 "dune.free_cycles_out" .uint 2 63 (0) 4096
  | .dunePmMsrWords => count 3 "dune.pm_msr_words" 63
  | .dunePmMsrRows => count 3 "dune.pm_msr_rows" 63
  | .dunePmMsaWords => count 3 "dune.pm_msa_words" 63
  | .dunePmFqWords => count 3 "dune.pm_fq_words" 63
  | .dunePmMoves => count 3 "dune.pm_moves" 63
  | .mapGeneration => status 4 "map.generation" .uint 4 0 (0) 4294967295
  | .mapCommitRsn => status 4 "map.commit_rsn" .uint 8 0 (0) 281474976710655
  | .mapEarliestCommit => status 4 "map.earliest_commit" .uint 8 0 (0) 281474976710655
  | .mapStageEntries => status 4 "map.stage_entries" .uint 4 0 (0) 2097152
  | .mapStageRecords => status 4 "map.stage_records" .uint 4 0 (0) 4294967295
  | .mapStageDigest => status 4 "map.stage_digest" .uint 4 0 (0) 4294967295
  | .mapCommitStatus => status 4 "map.commit_status" .record 4 0 (0) 4294967295
  | .caravanLoopRows => status 5 "caravan.loop_rows" .uint 4 0 (0) 4294967295
  | .caravanNextEntry => status 5 "caravan.next_entry" .uint 2 0 (0) 4095
  | .mapPmCommits => count 4 "map.pm_commits" 0
  | .mapPmAborts => count 4 "map.pm_aborts" 0
  | .mapPmShadowEcc => count 4 "map.pm_shadow_ecc" 0
  | .mapPmLag => count 4 "map.pm_lag" 0
  | .protRevertive => setting 6 "prot.revertive" .rw .uint 1 65535 0 1 0 .nextRow .ordinary 2 .none
  | .protWtr => setting 6 "prot.wtr" .rw .uint 2 65535 0 3600 300 .nextRow .disables 2 .none
  | .protHoldoff => setting 6 "prot.holdoff" .rw .uint 2 65535 0 4095 0 .nextRow .disables 2 .none
  | .protSdEnable => setting 6 "prot.sd_enable" .rw .uint 1 65535 0 1 1 .nextRow .ordinary 2 .none
  | .protDirection => setting 6 "prot.direction" .rw .enum 1 65535 0 1 0 .nextRow .ordinary 2 .none
  | .protApsLane => setting 6 "prot.aps_lane" .rw .enum 2 65535 0 65535 65535 .nextRow .ordinary 2 .none
  | .protApsRemoteGroup => setting 6 "prot.aps_remote_group" .rw .uint 2 65535 0 65535 0 .nextRow .ordinary 2 .none
  | .mergePreferred => setting 7 "merge.preferred" .rw .enum 1 511 0 1 0 .nextRow .ordinary 2 .none
  | .mergeSkewWarn => setting 7 "merge.skew_warn" .rw .uint 2 511 0 6656 2048 .nextRow .disables 2 .none
  | .protStatus => status 6 "prot.status" .record 4 65535 (0) 4294967295
  | .mergeStatus => status 7 "merge.status" .record 4 511 (0) 4294967295
  | .protPmSwitches => count 6 "prot.pm_switches" 65535
  | .protPmWtrExpired => count 6 "prot.pm_wtr_expired" 65535
  | .protPmFeChanges => count 6 "prot.pm_fe_changes" 65535
  | .mergePmRowsA => count 7 "merge.pm_rows_a" 511
  | .mergePmRowsB => count 7 "merge.pm_rows_b" 511
  | .mergePmPlaneChanges => count 7 "merge.pm_plane_changes" 511
  | .mergePmDoubleInvalid => count 7 "merge.pm_double_invalid" 511
  | .mergePmDiffer => count 7 "merge.pm_differ" 511
  | .timingRefEnable => setting 8 "timing.ref_enable" .rw .uint 1 23 0 1 0 .nextRow .ordinary 2 .none
  | .timingRefFreq => setting 8 "timing.ref_freq" .rwd .enum 1 7 0 7 2 .disabledOnly .ordinary 2 .refIn
  | .timingLrefLane => setting 8 "timing.lref_lane" .rwd .uint 2 23 0 511 0 .disabledOnly .ordinary 2 .refIn
  | .timingLrefQlOverride => setting 8 "timing.lref_ql_override" .rw .enum 1 23 0 255 255 .nextRow .ordinary 2 .none
  | .timingRefPriority => setting 8 "timing.ref_priority" .rw .uint 1 23 0 15 8 .nextRow .ordinary 2 .none
  | .timingRefAcceptUnknown => setting 8 "timing.ref_accept_unknown" .rw .uint 1 23 0 1 0 .nextRow .ordinary 2 .none
  | .timingRefWtr => setting 8 "timing.ref_wtr" .rw .uint 2 0 0 3600 300 .chapter .disables 2 .none
  | .timingRefHardPpb => setting 8 "timing.ref_hard_ppb" .rw .uint 2 0 0 12000 9200 .chapter .disables 2 .none
  | .timingRefSoftPpb => setting 8 "timing.ref_soft_ppb" .rw .uint 2 0 0 12000 2000 .chapter .disables 2 .none
  | .timingVoteEnable => setting 8 "timing.vote_enable" .rw .uint 1 0 0 1 1 .chapter .ordinary 2 .none
  | .timingRevertive => setting 8 "timing.revertive" .rw .uint 1 0 0 1 1 .nextRow .ordinary 2 .none
  | .timingLockTimeout => setting 8 "timing.lock_timeout" .rw .uint 2 0 0 3600 120 .chapter .disables 2 .none
  | .timingDpllBw => setting 8 "timing.dpll_bw" .rw .enum 1 0 0 3 1 .nextRow .ordinary 2 .none
  | .timingClampPpb => setting 8 "timing.clamp_ppb" .rw .uint 2 0 0 10000 1000 .nextRow .disables 2 .none
  | .timingAllowFreerun => setting 8 "timing.allow_freerun" .rw .uint 1 0 0 1 0 .atOnce .ordinary 2 .none
  | .timingOsensAddr => setting 8 "timing.osens_addr" .rw .uint 1 0 8 119 72 .chapter .ordinary 2 .none
  | .timingPpsPriority => setting 8 "timing.pps_priority" .rw .uint 1 1 0 15 0 .chapter .ordinary 2 .none
  | .timingPpsWtr => setting 8 "timing.pps_wtr" .rw .uint 2 0 0 3600 10 .chapter .disables 2 .none
  | .timingPpsTolerance => setting 8 "timing.pps_tolerance" .rw .uint 2 0 0 1000 100 .chapter .disables 2 .none
  | .timingPpsDelay => setting 8 "timing.pps_delay" .rw .uint 4 1 0 100000000 0 .chapter .ordinary 2 .none
  | .timingTodBaud => setting 8 "timing.tod_baud" .rw .uint 4 0 9600 921600 115200 .chapter .ordinary 2 .none
  | .timingRsnMode => setting 8 "timing.rsn_mode" .rw .enum 1 0 0 1 1 .configureOnly .ordinary 2 .none
  | .timingRsnEpoch => setting 8 "timing.rsn_epoch" .rw .uint 8 0 0 18446744073709551615 1704067200 .configureOnly .ordinary 2 .none
  | .timingStepThreshold => setting 8 "timing.step_threshold" .rw .uint 4 0 0 1000000 500 .chapter .disables 2 .none
  | .timingSlewRate => setting 8 "timing.slew_rate" .rw .uint 1 0 1 100 10 .chapter .ordinary 2 .none
  | .timingHoldoverQl => setting 8 "timing.holdover_ql" .rw .uint 1 0 1 15 11 .nextRow .ordinary 2 .none
  | .timingFreerunQl => setting 8 "timing.freerun_ql" .rw .uint 1 0 1 15 13 .nextRow .ordinary 2 .none
  | .timingClkoutDiv => setting 8 "timing.clkout_div" .rw .uint 4 7 4 65536 320 .nextRow .ordinary 2 .none
  | .timingClkoutSquelch => setting 8 "timing.clkout_squelch" .rw .enum 1 7 0 2 1 .nextRow .ordinary 2 .none
  | .timingPpsOutWidth => setting 8 "timing.pps_out_width" .rw .uint 4 1 1 500000 100 .chapter .ordinary 2 .none
  | .timingPpsOutAdvance => setting 8 "timing.pps_out_advance" .rw .uint 4 1 0 100000000 0 .chapter .ordinary 2 .none
  | .timingStatus => status 8 "timing.status" .record 4 0 (0) 4294967295
  | .timingRefStatus => status 8 "timing.ref_status" .record 4 23 (0) 4294967295
  | .timingCfgStatus => status 8 "timing.cfg_status" .record 4 23 (0) 4294967295
  | .timingPmSwitches => count 8 "timing.pm_switches" 0
  | .timingPmDisq => count 8 "timing.pm_disq" 23
  | .timingPmOasisS => count 8 "timing.pm_oasis_s" 0
  | .timingPmFreerunS => count 8 "timing.pm_freerun_s" 0
  | .timingPmPulled => count 8 "timing.pm_pulled" 0
  | .timingPmSteps => count 8 "timing.pm_steps" 0
  | .timingPmTodBad => count 8 "timing.pm_tod_bad" 0
  | .facetEnable => setting 9 "facet.enable" .rw .uint 1 0 0 1 0 .chapter .ordinary 2 .none
  | .facetScope => setting 9 "facet.scope" .rwd .bitmap 8 0 0 18446744073709551615 18446744073709551615 .disabledOnly .size 2 .facet
  | .facetDest => setting 9 "facet.dest" .rwd .enum 1 0 0 2 0 .disabledOnly .ordinary 2 .facet
  | .facetLoupeLane => setting 9 "facet.loupe_lane" .rwd .uint 2 0 0 511 0 .disabledOnly .ordinary 2 .facet
  | .facetLoupeFirst => setting 9 "facet.loupe_first" .rwd .uint 2 0 0 4095 0 .disabledOnly .ordinary 2 .facet
  | .facetLoupeGrains => setting 9 "facet.loupe_grains" .rwd .uint 2 0 1 4096 1704 .disabledOnly .size 2 .facet
  | .cutEnable => setting 10 "cut.enable" .rw .uint 1 63 0 1 0 .chapter .ordinary 2 .none
  | .cutFormat => setting 10 "cut.format" .rwd .enum 1 63 0 2 0 .disabledOnly .ordinary 2 .cut
  | .cutScale => setting 10 "cut.scale" .rw .uint 2 63 1 65535 4096 .nextRow .ordinary 2 .none
  | .cutLane => setting 10 "cut.lane" .rwd .uint 2 63 0 511 0 .disabledOnly .ordinary 2 .cut
  | .cutFirst => setting 10 "cut.first" .rwd .uint 2 63 0 4095 0 .disabledOnly .ordinary 2 .cut
  | .cutInputs => setting 10 "cut.inputs" .rwd .uint 2 63 1 8192 8192 .disabledOnly .size 2 .cut
  | .facetStatus => status 9 "facet.status" .record 4 0 (0) 4294967295
  | .facetCfgStatus => status 9 "facet.cfg_status" .record 4 0 (0) 4294967295
  | .cutStatus => status 10 "cut.status" .record 4 63 (0) 4294967295
  | .cutCfgStatus => status 10 "cut.cfg_status" .record 4 63 (0) 4294967295
  | .facetPmSfWritten => count 9 "facet.pm_sf_written" 0
  | .facetPmSfDropped => count 9 "facet.pm_sf_dropped" 0
  | .facetPmPlesioSkipped => count 9 "facet.pm_plesio_skipped" 0
  | .cutPmSamples => count 10 "cut.pm_samples" 63
  | .cutPmSatPos => count 10 "cut.pm_sat_pos" 63
  | .cutPmSatNeg => count 10 "cut.pm_sat_neg" 63
  | .cutPmAisRows => count 10 "cut.pm_ais_rows" 63
  | .pairEnable => setting 11 "pair.enable" .rw .uint 1 0 0 1 0 .configureOnly .ordinary 2 .none
  | .pairPeerSerial => setting 11 "pair.peer_serial" .rw .uint 8 0 0 18446744073709551615 0 .configureOnly .ordinary 2 .none
  | .pairCkptInterval => setting 11 "pair.ckpt_interval" .rw .uint 2 0 100 10000 100 .chapter .disables 2 .none
  | .pairSelfdiagWdt => setting 11 "pair.selfdiag_wdt" .rw .uint 1 0 0 15 3 .atOnce .disables 2 .none
  | .pairStatus => status 11 "pair.status" .record 4 0 (0) 4294967295
  | .pairPmAcquire => count 11 "pair.pm_acquire" 0
  | .pairPmRelease => count 11 "pair.pm_release" 0
  | .pairPmLapse => count 11 "pair.pm_lapse" 0
  | .pairPmSld => count 11 "pair.pm_sld" 0
  | .pairPmCkpt => count 11 "pair.pm_ckpt" 0
  | .pairPmLiveCopy => count 11 "pair.pm_live_copy" 0
  | .saredPmCorrSym => count 12 "sared.pm_corr_sym" 3
  | .saredPmUncCw => count 12 "sared.pm_unc_cw" 3
  | .hostIrqHoldoff => setting 13 "host.irq_holdoff" .rw .uint 2 0 0 1000 0 .atOnce .disables 2 .none
  | .hostWinBase => setting 13 "host.win_base" .rw .uint 8 15 0 18446744073709551615 0 .chapter .ordinary 3 .none
  | .hostWinSize => setting 13 "host.win_size" .rw .uint 8 15 4096 18446744073709547520 4096 .chapter .size 3 .none
  | .hostWinFlags => setting 13 "host.win_flags" .rw .uint 1 15 0 7 0 .chapter .ordinary 3 .none
  | .sessionIdleTimeout => setting 14 "session.idle_timeout" .rw .uint 4 0 0 86400 900 .atOnce .disables 2 .none
  | .sessionResumeWindow => setting 14 "session.resume_window" .rw .uint 2 0 0 3600 60 .atOnce .disables 2 .none
  | .perfObserverRead => setting 15 "perf.observer_read" .rw .uint 1 0 0 1 0 .atOnce .ordinary 3 .none
  | .cfgProtection => setting 16 "cfg.protection" .rwk .enum 1 0 0 2 0 .chapter .ordinary 3 .none
  | .cfgApplyMode => setting 16 "cfg.apply_mode" .rwk .enum 1 0 0 1 0 .configureOnly .ordinary 3 .none
  | .cfgProtectionActive => status 16 "cfg.protection_active" .enum 1 0 (0) 1
  | .cfgJccStatus => status 16 "cfg.jcc_status" .record 4 0 (0) 4294967295
  | .cfgFaultStatus => status 16 "cfg.fault_status" .record 4 0 (0) 4294967295
  | .cfgPmDefaultHits => count 16 "cfg.pm_default_hits" 0
  | .cfgPmAddrFaults => count 16 "cfg.pm_addr_faults" 0
  | .cfgPmTornWrites => count 16 "cfg.pm_torn_writes" 0
  | .cfgPmMarchRegions => count 16 "cfg.pm_march_regions" 0
  | .cfgPmMarchRepairs => count 16 "cfg.pm_march_repairs" 0
  | .cfgPmMarchStallCycles => count 16 "cfg.pm_march_stall_cycles" 0
  | .cfgPmFaultMasked => count 16 "cfg.pm_fault_masked" 0
  | .cfgPmFaultDetected => count 16 "cfg.pm_fault_detected" 0
  | .cfgPmFaultCompound => count 16 "cfg.pm_fault_compound" 0
  | .cfgPmFaultEscalated => count 16 "cfg.pm_fault_escalated" 0
  | .cfgPmD2dRepairs => count 16 "cfg.pm_d2d_repairs" 0
  | .powerQStripes => setting 17 "power.q_stripes" .rw .enum 1 0 0 1 0 .chapter .ordinary 3 .none
  | .powerQFac => setting 17 "power.q_fac" .rw .enum 1 0 0 1 0 .chapter .ordinary 3 .none
  | .powerQJcc => setting 17 "power.q_jcc" .rw .enum 1 0 0 1 1 .chapter .ordinary 3 .none
  | .powerWakeTimer => setting 17 "power.wake_timer" .rw .uint 4 0 0 86400 0 .chapter .disables 3 .none
  | .powerDomainStates => status 17 "power.domain_states" .record 35 0 (0) 1942668892225729070919461906823518906642406839052139521251812409738904285205208498175
  | .powerDvfsJcc => status 17 "power.dvfs_jcc" .uint 1 0 (0) 3
  | .powerDvfsFac => status 17 "power.dvfs_fac" .uint 1 0 (0) 3
  | .powerTodUncertainty => status 17 "power.tod_uncertainty" .uint 8 0 (0) 18446744073709551615
  | .powerLastSleep => status 17 "power.last_sleep" .record 8 0 (0) 18446744073709551615
  | .powerWakeCause => status 17 "power.wake_cause" .record 4 0 (0) 4294967295
  | .powerPmSleepRequests => count 17 "power.pm_sleep_requests" 0
  | .powerPmSleepRefused => count 17 "power.pm_sleep_refused" 0
  | .powerPmWakes => count 17 "power.pm_wakes" 0
  | .powerPmDvfsSteps => count 17 "power.pm_dvfs_steps" 0
  | .logAlarmLevel => setting 18 "log.alarm_level" .rw .enum 1 0 0 3 2 .nextRow .ordinary 2 .none
  | .logTraceCommands => setting 18 "log.trace_commands" .rw .uint 1 0 0 1 0 .atOnce .ordinary 2 .none
  | .logStatus => status 18 "log.status" .record 4 0 (0) 4294967295
  | .logLifeOnS => status 18 "log.life_on_s" .uint 8 0 (0) 18446744073709551615
  | .logLifeTj => status 18 "log.life_tj" .uint 4 608 (0) 4294967295
  | .logLifeSupply => status 18 "log.life_supply" .uint 4 223 (0) 4294967295
  | .logLifeCycles => status 18 "log.life_cycles" .uint 4 0 (0) 4294967295
  | .logLifeResets => status 18 "log.life_resets" .uint 4 99 (0) 4294967295
  | .logLifeCommits => status 18 "log.life_commits" .uint 8 0 (0) 18446744073709551615
  | .logLifeClaspAcq => status 18 "log.life_clasp_acq" .uint 4 0 (0) 4294967295
  | .logLifeClaspRel => status 18 "log.life_clasp_rel" .uint 4 0 (0) 4294967295
  | .logLifeFec => status 18 "log.life_fec" .uint 6 16368 (0) 281474976710655
  | .logLifeWear => status 18 "log.life_wear" .uint 8 1281 (0) 18446744073709551615
  | .logPmEvents => count 18 "log.pm_events" 0
  | .logPmDropTrace => count 18 "log.pm_drop_trace" 0
  | .logPmDropPerf => count 18 "log.pm_drop_perf" 0
  | .logPmDropInfo => count 18 "log.pm_drop_info" 0
  | .logPmFiltered => count 18 "log.pm_filtered" 0
  | .logPmAlarmCoalesced => count 18 "log.pm_alarm_coalesced" 0
  | .logPmJournalRecords => count 18 "log.pm_journal_records" 0
  | .logPmJournalRefused => count 18 "log.pm_journal_refused" 0
  | .logPmJournalCoalesced => count 18 "log.pm_journal_coalesced" 0
  | .logPmSecurityCounted => count 18 "log.pm_security_counted" 0
  | .logPmLifetimeWrites => count 18 "log.pm_lifetime_writes" 0
  | .fwTrialS => setting 19 "fw.trial_s" .rw .uint 4 0 0 86400 600 .chapter .disables 3 .none

/-- Lowest valid instance: timing.lref_lane and timing.lref_ql_override exist for the LREFs 8–23 alone (R420). -/
def Pn.instMin (n : Pn) : Nat :=
  match n with
  | .timingLrefLane | .timingLrefQlOverride => 8
  | _ => 0

/-- The device knows instance obj of the parameter (R420, R424). -/
def Pn.instOk (n : Pn) (obj : Nat) : Bool :=
  decide (n.instMin ≤ obj ∧ obj ≤ n.desc.instMax)

/-- Key of a parameter instance in the tables of Params. -/
def Pn.key (n : Pn) (obj : Nat) : Nat := n.ctorIdx * 65536 + obj

/-- Default of a parameter instance; three defaults depend on the instance (R276, R469). -/
def Pn.dfltOf (n : Pn) (obj : Nat) : Nat :=
  match n with
  | .cutLane => 8 * obj + 7
  | .hostWinSize => if obj = 0 then 0xFFFFFFFFFFFFF000 else 4096
  | .hostWinFlags => if obj = 0 then 7 else 0
  | m => m.desc.dflt

end Sys2Proof

namespace Sys2Proof.Machine

/-- The value as written: what PARAM.GET reads of a writable parameter (R427). -/
def State.cur (s : State) (n : Pn) (obj : Nat) : Nat :=
  (Table.find s.par.vals (n.key obj)).getD (n.dfltOf obj)

/-- The value in force: the old value until the boundary at which a new one takes effect (EFFECT of R423). -/
def State.eff (s : State) (n : Pn) (obj : Nat) : Nat :=
  (Table.find s.par.late (n.key obj)).getD (s.cur n obj)

/-- The instances of a parameter with a value written, or still in force, other than its default, in ascending order. -/
def State.namedBy (s : State) (n : Pn) : List Nat :=
  let mine := fun (t : Table Nat) => t.filter fun x => x.1 / 65536 == n.ctorIdx
  ((mine s.par.late).foldl (fun t x => Table.put t x.1 x.2) (mine s.par.vals)).map fun x => x.1 % 65536

/-- A 0/1 parameter in force. -/
def State.flag (s : State) (n : Pn) (obj : Nat) : Bool := s.eff n obj ≠ 0

/-- Write a value; the table lists values that differ from the default. -/
def State.setCur (s : State) (n : Pn) (obj v : Nat) : State :=
  { s with par := { s.par with
      vals := if v = n.dfltOf obj then Table.drop s.par.vals (n.key obj) else Table.put s.par.vals (n.key obj) v } }

/-- Write a value that takes effect later: the value in force stays in late. -/
def State.setLate (s : State) (n : Pn) (obj v : Nat) : State :=
  let old := s.eff n obj
  let s' := s.setCur n obj v
  { s' with par := { s'.par with late := Table.put s'.par.late (n.key obj) old } }

/-- The boundary has come: the written value is in force. -/
def State.release (s : State) (n : Pn) (obj : Nat) : State :=
  { s with par := { s.par with late := Table.drop s.par.late (n.key obj) } }

/-- Value of a count (R118). -/
def State.cnt (s : State) (n : Pn) (obj : Nat) : Nat := Table.get 0 s.par.counts (n.key obj)

/-- A software write loads a count (R425, R436). -/
def State.load (s : State) (n : Pn) (obj v : Nat) : State :=
  { s with par := { s.par with counts := Table.set 0 s.par.counts (n.key obj) (v % 2 ^ 48) } }

/-- Add k to a count; it is 48 bits wide and wraps to 0 (R118). -/
def State.bump (s : State) (n : Pn) (obj k : Nat) : State :=
  if k = 0 then s else s.load n obj (s.cnt n obj + k)

/-- Little-endian value of a byte list. -/
def leNat (bs : List Byte) : Nat :=
  match bs with
  | [] => 0
  | b :: r => b.toNat + 256 * leNat r

/-- The n bytes of v, least significant first. -/
def leBytes (n v : Nat) : List Byte :=
  match n with
  | 0 => []
  | m + 1 => BitVec.ofNat 8 v :: leBytes m (v / 256)

/-- The n bytes of v, most significant first. -/
def beBytes (n v : Nat) : List Byte := (leBytes n v).reverse

/-- Big-endian value of a byte list. -/
def beNat (bs : List Byte) : Nat := leNat bs.reverse

/-- A list cut or padded with zeros to n entries. -/
def padTo (n : Nat) (bs : List Byte) : List Byte := bs.take n ++ List.replicate (n - bs.length) 0

/-- Byte i of a value held little-endian. -/
def byteOf (v i : Nat) : Nat := v / 256 ^ i % 256

/-- Two's-complement value of n bits. -/
def signedOf (bits v : Nat) : Int :=
  if v % 2 ^ bits < 2 ^ (bits - 1) then (v % 2 ^ bits : Nat) else (v % 2 ^ bits : Nat) - (2 ^ bits : Nat)

/-- n bits of an integer. -/
def unsignedOf (bits : Nat) (v : Int) : Nat := (v % (2 ^ bits : Nat)).toNat

/-- A five-tap set is accepted: the magnitudes sum to 64 and c(0) ≥ 32 (R314). -/
def tapsOk (v : Nat) : Bool :=
  let t := fun i => signedOf 8 (byteOf v i)
  decide ((t 0).natAbs + (t 1).natAbs + (t 2).natAbs + (t 3).natAbs + (t 4).natAbs = 64 ∧ 32 ≤ t 3)

end Sys2Proof.Machine

namespace Sys2Proof
open Sys2Proof.Machine

/-- The value lies in the parameter's range (R421 and the chapters' tables). -/
def Pn.inRange (n : Pn) (obj v : Nat) : Bool :=
  match n with
  | .laneAnchor => decide ((1 ≤ v ∧ v ≤ 3) ∨ v = 255)
  | .timingLrefQlOverride => decide (v ≤ 15 ∨ v = 255)
  | .protApsLane => decide (v ≤ 511 ∨ v = 65535)
  | .pairCkptInterval => decide (v = 0 ∨ (100 ≤ v ∧ v ≤ 10000))
  | .laneTxSwing => decide (600 ≤ v ∧ v ≤ 1200 ∧ v % 25 = 0)
  | .laneTxTaps => tapsOk v
  | .hostWinBase => decide (v % 4096 = 0 ∧ v < 2 ^ 64)
  | .hostWinSize => decide (4096 ≤ v ∧ v ≤ 0xFFFFFFFFFFFFF000 ∧ v % 4096 = 0)
  | .laneTraceExpected => decide (byteOf v 8 ≤ 1 ∧ v / 256 ^ 9 % 65536 ≤ 511)
  | .cutLane => decide (v / 8 = obj)
  | m => match m.desc.typ with
    | .bytes => true
    | _ => decide (m.desc.lo ≤ (v : Int) ∧ (v : Int) ≤ m.desc.hi)

/-- The checks INVALID_ZERO, OUT_OF_RANGE and INVALID_FIELD of an entry's length and value, in that order (R424, R438,
R439). v is the value in its first len bytes. none: the value is accepted. -/
def Pn.checkValue (n : Pn) (obj len v : Nat) : Option Nat :=
  let d := n.desc
  if len = 0 then some 0x0003
  else if d.typ ≠ .bytes ∧ v = 0 ∧ (d.zero = .size ∨ d.zero = .integration) then some 0x0003
  else if d.acc ≠ .ro ∧ !n.inRange obj v then some 0x0004
  else if d.typ = .bytes ∧ d.len < len then some 0x0004
  else if d.acc = .ro then some 0x0005
  else if d.typ ≠ .bytes ∧ len ≠ d.len then some 0x0005
  else none

/-- CRIT of R433: the configuration of the lane tiles, dunes, erg, commit engine, lease engine and timing subsystem (log
entry 11 says which classes these are). -/
def Pn.crit (n : Pn) : Bool :=
  let d := n.desc
  decide ((d.acc = .rw ∨ d.acc = .rwd ∨ d.acc = .rwk) ∧ d.cls ∈ [1, 2, 3, 4, 6, 7, 8, 11])

/-- SAVED of R423: every writable parameter but the counts and the enables of facet and cut (log entry 12), and
cfg.protection_active (R440). -/
def Pn.saved (n : Pn) : Bool :=
  let d := n.desc
  decide ((d.acc = .rw ∨ d.acc = .rwd ∨ d.acc = .rwk) ∧ n ≠ .facetEnable ∧ n ≠ .cutEnable ∨ n = .cfgProtectionActive)

end Sys2Proof

namespace Sys2Proof.Machine

/-- The natural boundary of a block: 1 row, 3 superframe (R428). -/
def Block.boundary (b : Block) : Nat :=
  match b with
  | .none => 0
  | .facet => 3
  | _ => 1

/-- The enable parameter of a block (R428); for the both-directions block the TX enable stands for both, with flag
BOTH_DIRECTIONS (R423). -/
def Block.enable (b : Block) : Option Pn :=
  match b with
  | .none => Option.none
  | .laneTx | .laneBoth => some .laneTxEnable
  | .laneRx => some .laneRxEnable
  | .refIn => some .timingRefEnable
  | .facet => some .facetEnable
  | .cut => some .cutEnable

/-- A block of an instance is enabled (R428). -/
def State.blockOn (s : State) (b : Block) (obj : Nat) : Bool :=
  match b with
  | .none => false
  | .laneTx => s.cur .laneTxEnable obj ≠ 0
  | .laneRx => s.cur .laneRxEnable obj ≠ 0
  | .laneBoth => s.cur .laneTxEnable obj ≠ 0 || s.cur .laneRxEnable obj ≠ 0
  | .refIn => s.cur .timingRefEnable obj ≠ 0
  | .facet => s.cur .facetEnable obj ≠ 0
  | .cut => s.cur .cutEnable obj ≠ 0

/-- Key of a block of an instance in Params.enWrite. -/
def Block.key (b : Block) (obj : Nat) : Nat := b.ctorIdx * 65536 + obj

end Sys2Proof.Machine

namespace Sys2Proof
open Sys2Proof.Machine

/-- Every parameter name. -/
def allPn : List Pn := (List.range 278).map Pn.ofNat

/-- The identifiers that one name stands for, each at its lowest instance: a window has sixteen, a count its _prev snapshot beside
it. -/
def Pn.ids (n : Pn) : List PId :=
  match n with
  | .hostWinBase | .hostWinSize | .hostWinFlags => (List.range 16).map fun k => .known n k
  | m => if m.desc.acc = .cnt then [.known m m.instMin, .prev m m.instMin] else [.known m m.instMin]

/-- The parameters of a class, in the manual's order. -/
def classIds (c : Nat) : List PId := (allPn.filter fun n => n.desc.cls == c).flatMap Pn.ids

/-- Number of a parameter in this model: the sixteen windows are parameters of their own (R469). -/
def PId.number (p : PId) : Nat :=
  match p with
  | .known n obj => match n with
    | .hostWinBase | .hostWinSize | .hostWinFlags => n.key obj
    | m => m.key 0
  | .prev n _ => n.key 0 + 1000 * 65536
  | .unknown raw => raw

/-- Parameters in turn take one of the field bytes that are still free (R420). -/
def fieldCodes (free : List Nat) (ps : List Nat) : List (Nat × Nat) :=
  match ps with
  | [] => []
  | k :: r =>
    let f := free.getD (Config.fieldCode k % free.length) 0
    (k, f) :: fieldCodes (free.filter fun x => x != f) r

/-- The field bytes of the parameters of a class: none is 0x00, no two are equal, and lane.rx_polarity has 0x14 (R420, R439; log
entry 22). -/
def classFields (c : Nat) : List (Nat × Nat) :=
  let pol := Pn.laneRxPolarity.key 0
  let free := (List.range 255).map (· + 1)
  if c = 1 then (pol, 0x14) :: fieldCodes (free.filter fun x => x != 0x14) (((classIds c).map PId.number).filter fun k => k != pol)
  else fieldCodes free ((classIds c).map PId.number)

/-- The field byte of a parameter of class c. -/
def PId.field (p : PId) (c : Nat) : Nat := (((classFields c).find? fun x => x.1 == p.number).map (·.2)).getD 0

/-- The instance in a parameter's identifier: the windows have instance 0 and a name per window (R469). -/
def Pn.inst (n : Pn) (obj : Nat) : Nat :=
  match n with
  | .hostWinBase | .hostWinSize | .hostWinFlags => 0
  | _ => obj % 65536

/-- The identifier of R420: class, instance, field. -/
def PId.id (p : PId) : Nat :=
  match p with
  | .known n obj => n.desc.cls * 2 ^ 24 + n.inst obj * 256 + p.field n.desc.cls
  | .prev n obj => n.desc.cls * 2 ^ 24 + obj % 65536 * 256 + p.field n.desc.cls
  | .unknown raw => raw

end Sys2Proof

namespace Sys2Proof.Machine

/-- Both windows' bounds: base + size ≤ 2^64 (R469). -/
def windowFits (base size : Nat) : Bool := decide (base + size ≤ 2 ^ 64)

/-- An access of len bytes at addr lies wholly within one enabled window with permission bit perm (1 READ, 2 WRITE) among
windows k to k + n − 1 (R463). -/
def State.windowOk (s : State) (perm addr len : Nat) (k n : Nat) : Bool :=
  match n with
  | 0 => false
  | m + 1 =>
    let base := s.eff .hostWinBase k
    let size := s.eff .hostWinSize k
    let fl := s.eff .hostWinFlags k
    (fl.testBit 0 && fl.testBit perm && decide (base ≤ addr ∧ addr + len ≤ base + size)) ||
      s.windowOk perm addr len (k + 1) m

/-- The device may read len bytes of host memory at addr (R374, R463). -/
def State.readOk (s : State) (addr len : Nat) : Bool := s.windowOk 1 addr len 0 16

/-- The device may write len bytes of host memory at addr (R374, R463). -/
def State.writeOk (s : State) (addr len : Nat) : Bool := s.windowOk 2 addr len 0 16

end Sys2Proof.Machine
end

