-- ==== Sys2Proof/Machine/Catalogue.lean ====
section
/-!
DEFINITION. Machine/Catalogue.lean: the command catalogue: code, role, kind and arguments of every Drepex command, and how an entry
of 64 bytes spells them (R383, R384, R391, R395, R401, R408).
-/
namespace Sys2Proof
open Sys2Proof.Machine

/-- An argument of a command: a number of w bytes, a string of n bytes, or n bytes of which this model takes no account. A number stands
at a multiple of its width, a string of 32 bytes at a multiple of 8 (R384). -/
inductive Arg where
  | num (w v : Nat)
  | bytes (n : Nat) (bs : List Byte)
  | any (n : Nat)
  deriving DecidableEq, Repr

/-- Bytes of an argument. -/
def Arg.width (a : Arg) : Nat :=
  match a with
  | .num w _ => w
  | .bytes n _ => n
  | .any n => n

/-- Alignment of an argument (R384). -/
def Arg.align (a : Arg) : Nat :=
  match a with
  | .num w _ => w
  | .bytes n _ => if n % 8 = 0 then 8 else 1
  | .any _ => 1

/-- The value of an argument as a little-endian number; none where any bytes do. -/
def Arg.value (a : Arg) : Option Nat :=
  match a with
  | .num _ v => some v
  | .bytes n bs => some (leNat (padTo n bs))
  | .any _ => none

/-- What the catalogue of R401 says of a command. role 0 is None. -/
structure CmdDesc where
  code : Nat
  role : Nat
  /-- Long in R401. -/
  long : Bool := false
  /-- Urgent in R401. -/
  urgent : Bool := false
  /-- The arguments in the order of R401. -/
  args : List Arg := []
  deriving DecidableEq, Repr

/-- The offsets at which arguments stand, packed from offset k on (R384). -/
def placeArgs (k : Nat) (as : List Arg) : List (Nat × Arg) :=
  match as with
  | [] => []
  | a :: r =>
    let o := (k + a.align - 1) / a.align * a.align
    (o, a) :: placeArgs (o + a.width) r

/-- The entry holds these arguments where R384 puts them. -/
def Entry.holds (e : Entry) (as : List Arg) : Bool :=
  (placeArgs 16 as).all fun x => match x.2.value with
    | some v => decide (v < 256 ^ x.2.width) && e.field x.1 x.2.width == v
    | none => true

/-- The entry spells the command (R383, R384, R401). -/
def Entry.spells (e : Entry) (d : CmdDesc) : Bool := e.code == d.code && e.holds d.args

/-- Every reserved byte of the entry is 0: bytes 2–3 and those that no argument fills (R15, R383, R384). -/
def Entry.reservedZero (e : Entry) (d : CmdDesc) : Bool :=
  e.field 2 2 == 0 &&
    e.field 16 48 == ((placeArgs 16 d.args).map fun x => e.field x.1 x.2.width * 256 ^ (x.1 - 16)).foldl (· + ·) 0

/-- The entry of a command with the rest of its head: CMD_ID, SESSION, SUBMIT_SEQ (R383). -/
def entryOf (ring session cmdId seq : Nat) (d : CmdDesc) : Entry :=
  let args := ((placeArgs 16 d.args).map fun x => x.2.value.getD 0 % 256 ^ x.2.width * 256 ^ x.1).foldl (· + ·) 0
  ⟨ring, BitVec.ofNat 512 (d.code / 256 % 256 + d.code % 256 * 256 + cmdId % 2 ^ 32 * 256 ^ 4 + session % 2 ^ 32 * 256 ^ 8 +
    seq % 2 ^ 32 * 256 ^ 12 + args)⟩

/-- The 64 bytes of an entry from its head, bytes 0–15, and its arguments, bytes 16–63 (R383, R384). -/
def entryBits (head : BitVec 128) (args : BitVec 384) : BitVec 512 := args ++ head

/-- The codes of R401: how many ops each class has. -/
def catalogued (code : Nat) : Bool :=
  let ops := [6, 4, 3, 3, 4, 3, 3, 4, 2, 7, 2, 1, 2, 5, 4, 4, 2, 7, 3, 4, 4]
  decide (1 ≤ code / 256 ∧ 1 ≤ code % 256 ∧ code % 256 ≤ ops.getD (code / 256 - 1) 0)

/-- The commands that R401 marks Urgent, by code. -/
def urgentCode (code : Nat) : Bool :=
  [0x0403, 0x0603, 0x0703, 0x0801, 0x0802, 0x0803, 0x0804, 0x0A01, 0x0A02, 0x0A03, 0x0A04, 0x1402].contains code

/-- The bytes of an image whose reserved bytes are 0 (R551). -/
def Image.bytes (i : Image) : List Byte :=
  leBytes 4 i.magic.toNat ++ leBytes 2 i.format ++ leBytes 1 i.keyIndex ++ leBytes 1 0 ++ leBytes 4 i.version ++ leBytes 2 i.svn ++
    leBytes 2 i.floor ++ leBytes 4 i.codeLen ++ leBytes 2 i.ckptFormat ++ leBytes 2 i.ckptReadMin ++ List.replicate 8 0 ++
    beBytes 48 i.codeDigest.toNat ++ padTo 384 i.rsaN ++ padTo 48 i.slhPk ++ padTo 384 i.rsaSig ++ padTo 16224 i.slhSig ++
    List.replicate 3360 0 ++ i.code

/-- The data that FW.LOAD carries over the sideband in bytes 25–63: n bytes of the image from an offset on (R408). -/
def Image.chunk (i : Image) (offset n : Nat) : Arg :=
  if i.reservedZero then .bytes 39 ((i.bytes.drop offset).take n) else .any 39

/-- What R401 says of the command of a Drepex command, and the entry that carries it; none for an event from outside. -/
def drepexOf (i : Instr) : Option (CmdDesc × Entry) :=
  match i with
  | .sessionHello e role resume handle nonce respAddr => some (⟨0x0101, 0, false, false,
      [.num 1 role, .num 1 resume, .num 4 handle, .bytes 32 nonce, .num 8 respAddr]⟩, e)
  | .sessionProve e tag => some (⟨0x0102, 0, false, false, [.bytes 48 (beBytes 48 tag.toNat)]⟩, e)
  | .sessionClose e handle => some (⟨0x0103, 1, false, false, [.num 4 handle]⟩, e)
  | .sessionRingCreate e pair sq cq v sa ca => some (⟨0x0104, 1, false, false,
      [.num 1 pair, .num 1 sq, .num 1 cq, .num 1 v, .num 8 sa, .num 8 ca]⟩, e)
  | .sessionRingDelete e pair => some (⟨0x0105, 1, false, false, [.num 1 pair]⟩, e)
  | .sessionList e b => some (⟨0x0106, 1, false, false, [.num 8 b.addr, .num 4 b.len]⟩, e)
  | .paramGet e b n _ => some (⟨0x0201, 1, false, false, [.num 8 b.addr, .num 4 b.len, .num 2 n]⟩, e)
  | .paramSet e b n _ => some (⟨0x0202, 0, false, false, [.num 8 b.addr, .num 4 b.len, .num 2 n]⟩, e)
  | .paramDescribe e b n _ => some (⟨0x0203, 1, false, false, [.num 8 b.addr, .num 4 b.len, .num 2 n]⟩, e)
  | .paramSave e => some (⟨0x0204, 3, true, false, []⟩, e)
  | .laneEyeScan e b l x d v f => some (⟨0x0301, 2, false, false,
      [.num 8 b.addr, .num 4 b.len, .num 2 l, .num 1 x, .num 1 d, .num 1 v, .num 1 f]⟩, e)
  | .laneMgmtSend e b l c _ => some (⟨0x0302, 2, false, false, [.num 8 b.addr, .num 4 b.len, .num 2 l, .num 1 c]⟩, e)
  | .laneMgmtRecv e b l c => some (⟨0x0303, 2, false, false, [.num 8 b.addr, .num 4 b.len, .num 2 l, .num 1 c]⟩, e)
  | .tribCreate e b _ t l n m => some (⟨0x0401, 2, false, false,
      [.num 8 b.addr, .num 4 b.len, .num 2 t, .num 2 l, .num 2 n, .num 1 m]⟩, e)
  | .tribDelete e t => some (⟨0x0402, 2, false, false, [.num 2 t]⟩, e)
  | .tribRealign e t => some (⟨0x0403, 2, false, true, [.num 2 t]⟩, e)
  | .mapStage e b n _ => some (⟨0x0501, 2, true, false, [.num 8 b.addr, .num 4 b.len, .num 4 n]⟩, e)
  | .mapProbe e b n _ o => some (⟨0x0502, 1, true, false,
      [.num 8 b.addr, .num 4 b.len, .num 4 n, .num 8 o.addr, .num 4 o.len]⟩, e)
  | .mapDiscard e => some (⟨0x0503, 2, false, false, []⟩, e)
  | .mapRead e b f n k m d => some (⟨0x0504, 1, false, false,
      [.num 8 b.addr, .num 4 b.len, .num 4 f, .num 4 n, .num 1 k, .num 1 m, .num 1 d]⟩, e)
  | .commitNow e => some (⟨0x0601, 2, false, false, []⟩, e)
  | .commitAt e r => some (⟨0x0602, 2, false, false, [.num 8 r]⟩, e)
  | .commitCancel e => some (⟨0x0603, 2, false, true, []⟩, e)
  | .caravanLoad e tt bl n m r _ _ => some (⟨0x0701, 2, true, false,
      [.num 8 tt.addr, .num 4 tt.len, .num 8 bl.addr, .num 4 bl.len, .num 4 n, .num 4 m, .num 4 r]⟩, e)
  | .caravanStart e r => some (⟨0x0702, 2, false, false, [.num 8 r]⟩, e)
  | .caravanStop e => some (⟨0x0703, 2, false, true, []⟩, e)
  | .protLockout e b n _ => some (⟨0x0801, 2, false, true, [.num 8 b.addr, .num 4 b.len, .num 2 n]⟩, e)
  | .protForce e b n _ => some (⟨0x0802, 2, false, true, [.num 8 b.addr, .num 4 b.len, .num 2 n]⟩, e)
  | .protManual e b n t _ => some (⟨0x0803, 2, false, true, [.num 8 b.addr, .num 4 b.len, .num 2 n, .num 1 t]⟩, e)
  | .protClear e b n _ => some (⟨0x0804, 2, false, true, [.num 8 b.addr, .num 4 b.len, .num 2 n]⟩, e)
  | .mergeCreate e a b => some (⟨0x0901, 2, false, false, [.num 2 a, .num 2 b]⟩, e)
  | .mergeDelete e l => some (⟨0x0902, 2, false, false, [.num 2 l]⟩, e)
  | .timingForce e i => some (⟨0x0A01, 2, false, true, [.num 1 i]⟩, e)
  | .timingManual e i => some (⟨0x0A02, 2, false, true, [.num 1 i]⟩, e)
  | .timingHoldover e => some (⟨0x0A03, 2, false, true, []⟩, e)
  | .timingClear e => some (⟨0x0A04, 2, false, true, []⟩, e)
  | .timingSetQl e i r => some (⟨0x0A05, 2, false, false, [.num 1 i, .num 1 r]⟩, e)
  | .timingStep e => some (⟨0x0A06, 3, false, false, []⟩, e)
  | .timingSetTod e t => some (⟨0x0A07, 3, false, false, [.num 8 t]⟩, e)
  | .loupeMirror e a b c d => some (⟨0x0B01, 2, true, false, [.num 2 a, .num 2 b, .num 2 c, .num 2 d]⟩, e)
  | .loupeList e b l => some (⟨0x0B02, 1, false, false, [.num 8 b.addr, .num 4 b.len, .num 2 l]⟩, e)
  | .facetConfig e a l v => some (⟨0x0C01, 2, false, false, [.num 8 a, .num 1 l, .num 1 v]⟩, e)
  | .cutStage e b n d _ => some (⟨0x0D01, 2, true, false, [.num 8 b.addr, .num 4 b.len, .num 2 n, .num 1 d]⟩, e)
  | .cutReadSat e b f n d => some (⟨0x0D02, 1, false, false, [.num 8 b.addr, .num 4 b.len, .num 2 f, .num 2 n, .num 1 d]⟩, e)
  | .testEnter e => some (⟨0x0E01, 3, false, false, []⟩, e)
  | .testExit e => some (⟨0x0E02, 3, false, false, []⟩, e)
  | .testLane e l a => some (⟨0x0E03, 3, false, false, [.num 2 l, .num 1 a]⟩, e)
  | .testInject e r l a k => some (⟨0x0E04, 3, false, false, [.num 4 r, .num 2 l, .num 2 a, .num 1 k]⟩, e)
  | .testLoop e l k => some (⟨0x0E05, 3, false, false, [.num 2 l, .num 1 k]⟩, e)
  | .powerMode e m => some (⟨0x0F01, 3, false, false, [.num 1 m]⟩, e)
  | .powerDomain e b n _ => some (⟨0x0F02, 3, false, false, [.num 8 b.addr, .num 4 b.len, .num 2 n]⟩, e)
  | .powerDvfs e d p => some (⟨0x0F03, 3, false, false, [.num 1 d, .num 1 p]⟩, e)
  | .powerWarm e _ => some (⟨0x0F04, 3, false, false, []⟩, e)
  | .logEventRing e a l v => some (⟨0x1001, 3, false, false, [.num 8 a, .num 1 l, .num 1 v]⟩, e)
  | .logJournalRing e a l v => some (⟨0x1002, 3, false, false, [.num 8 a, .num 1 l, .num 1 v]⟩, e)
  | .logFilter e b n _ => some (⟨0x1003, 2, false, false, [.num 8 b.addr, .num 4 b.len, .num 2 n]⟩, e)
  | .logAlarms e b => some (⟨0x1004, 1, false, false, [.num 8 b.addr, .num 4 b.len]⟩, e)
  | .perfProgram e b n _ => some (⟨0x1101, 3, false, false, [.num 8 b.addr, .num 4 b.len, .num 2 n]⟩, e)
  | .perfRead e b f n => some (⟨0x1102, 1, false, false, [.num 8 b.addr, .num 4 b.len, .num 2 f, .num 2 n]⟩, e)
  | .fwInfo e b => some (⟨0x1201, 1, false, false, [.num 8 b.addr, .num 4 b.len]⟩, e)
  | .fwLoad e b o t i => some (⟨0x1202, 3, true, false,
      if e.ring = 24 then [.num 4 o, .num 4 t, .num 1 b.len, i.chunk o b.len]
      else [.num 8 b.addr, .num 4 b.len, .num 4 o, .num 4 t]⟩, e)
  | .fwActivate e => some (⟨0x1203, 3, true, false, []⟩, e.entry)
  | .fwMaintain e => some (⟨0x1204, 3, false, false, []⟩, e)
  | .fwResume e => some (⟨0x1205, 3, false, false, []⟩, e)
  | .fwRecover e => some (⟨0x1206, 3, false, false, []⟩, e)
  | .fwRestart e => some (⟨0x1207, 0, false, false, []⟩, e)
  | .secIdentity e b => some (⟨0x1301, 1, false, false, [.num 8 b.addr, .num 4 b.len]⟩, e)
  | .secHallmark e b _ => some (⟨0x1302, 1, true, false, [.num 8 b.addr, .num 4 b.len]⟩, e)
  | .secKeySet e b r _ _ => some (⟨0x1303, 3, false, false, [.num 8 b.addr, .num 4 b.len, .num 1 r]⟩, e)
  | .claspRelease e f => some (⟨0x1401, 3, true, false, [.num 1 f]⟩, e)
  | .claspSeize e => some (⟨0x1402, 3, false, true, []⟩, e)
  | .claspClear e => some (⟨0x1403, 3, false, false, []⟩, e)
  | .claspCheckpoint e => some (⟨0x1404, 3, true, false, []⟩, e)
  | .diagFaultRead e b f => some (⟨0x1501, 1, false, false, [.num 8 b.addr, .num 4 b.len, .num 4 f]⟩, e)
  | .diagSelftest e t _ => some (⟨0x1502, 3, true, false, [.num 1 t]⟩, e)
  | .diagMemRead e b a => some (⟨0x1503, 4, false, false, [.num 8 b.addr, .num 4 b.len, .num 8 a]⟩, e)
  | .diagFaultInject e c => some (⟨0x1504, 4, false, false, [.num 1 c]⟩, e.entry)
  | .laneTxEnable e _ _ => some (⟨0x0202, 0, false, false, [.any 12, .num 2 1]⟩, e)
  | .laneRxEnable e _ _ => some (⟨0x0202, 0, false, false, [.any 12, .num 2 1]⟩, e)
  | .rxAdaptRestart e _ => some (⟨0x0202, 0, false, false, [.any 12, .num 2 1]⟩, e)
  | .facetEnable e _ => some (⟨0x0202, 0, false, false, [.any 12, .num 2 1]⟩, e)
  | .cutEnable e _ _ => some (⟨0x0202, 0, false, false, [.any 12, .num 2 1]⟩, e)
  | .pairEnableWrite e _ => some (⟨0x0202, 0, false, false, [.any 12, .num 2 1]⟩, e)
  | .legacyWriteApply _ _ | .unlockWrite _ | .recoverWrite _ | .doorbellWrite _ _ | .evtHeadWrite _ | .jrnHeadWrite _
  | .facHeadWrite _ | .mailboxGo _ _ | .rsnLoRead | .semaphoreRead _ _ | .semaphoreWrite _ _ | .applyBatch _ _
  | .remapWrite _ _ | .registerWrite _ _ _ | .dmaTransfer _ _ _ _ | .i2cStatus | .i2cWake | .i2cSubmit _ _ _ | .i2cResult
  | .i2cAddressMatch | .powerOn _ | .vaonBrownout _ | .resetNAssert | .resetNRelease _ | .perstNAssert _ | .perstNDeassert
  | .functionLevelReset _ | .supplyRemoval | .supplyRestore _ | .supplyTrip _ | .thermalTrip | .fatalCauseClear _
  | .rootClockLoss | .ocxoFailure | .oxfClear | .refSignalLoss _ _ | .ppsEdge _ _ | .ppsLoss _ | .todMessage _ _ | .todError
  | .laneSignalLoss _ | .wiringFault _ _ _ | .laneRowReceived _ _ | .saredRowReceived _ _ | .claspFrameHeard _ _ | .propose _
  | .ready | .refuse _ | .arm | .abort | .lockstepDecision _ _ | .lockstepComparison _ | .forwardedCommand _ _
  | .stageRecords _ _ | .apsForward _ _ _ | .caravanAbort | .checkpointReceived _ _ _ | .rowBoundary _ | .superframeBoundary
  | .secondBoundary | .pointerSample _ | .facetWindowOpen | .facetEntryWrite | .laneDefectIntegration _ _
  | .tribDefectIntegration _ _ | .mergeDefectIntegration _ _ | .apsDefectIntegration _ _ | .misrouteDefectClear _ _
  | .pairDefectIntegration _ | .anchorRechoose _ | .offsetBarExpiry _ _ | .holdoffExpiry _ _ | .wtrExpiry _ | .switchComplete
  | .dpllLockAchieved | .pulledRecovery | .histValidSet | .ocxoSensorRead _ | .refMeanUpdate _ _ _ | .refVote
  | .refWaitExpiry _ | .lockTimeout | .ppsQualified _ | .commitArming | .commitIngressSwitch | .commitEgressSwitch
  | .commitReplayDone | .catchUpCommit | .caravanEntryCommit | .modeChangeEffect | .mergeEntryEffect _ | .cutEnableEffect _
  | .shadowScrub | .shadowRewrite | .mapShadowRepair _ _ _ | .mapDatabaseRepair _ _ _ | .checkerSelfTest _ | .tmrScrub
  | .parityScan | .marchTestSlice _ | .lockstepDivergence _ _ | .watchdogExpiry _ _ | .engineMismatch _ | .faultRecordClose _
  | .claspFrameSend | .holderLeaseExpiry | .silenceAcquisition | .saredLinkUp | .checkpointWrite | .takeoverLoadComplete
  | .provisionalHandleExpiry _ | .sessionIdleTimeout _ | .resumeWindowExpiry _ | .authLockExpiry _ | .unlockExpiry
  | .irqHoldoffEnd | .longCommandYield | .eventRingWrite | .journalRingWrite | .heartbeat | .tjUpdate _ | .lifetimeSample _ _
  | .lifetimeSlotWrite | .laneTxStart _ | .equaliserConverged _ | .loopEffect _ | .injectionEnd _ | .eyeScanDone _ _
  | .bootVerifyDone | .firmwareStarted | .firmwareStartTimeout | .trialConfirmation | .domainQuiesceAnswer | .quiesceTimeout
  | .powerActionDone | .domainWakeDone | .wakeTimerExpiry | .wakeComplete | .avsReport | .avsTimeout | .singleInternalFault _
  | .refFrequencyGate _ _ _ | .ppsOutPulse | .todOutMessage | .liveCopyMessage _ | .caravanStoreCopy _ _ _ _
  | .boundaryScanInstruction _ | .jtagPortReset _ => none

/-- The catalogue's description of a command. -/
def cmdOf (i : Instr) : CmdDesc :=
  match drepexOf i with
  | some (d, _) => d
  | none => ⟨0, 0, false, false, []⟩

/-- A description with the arguments of command i. -/
def CmdDesc.of (d : CmdDesc) (i : Instr) : CmdDesc := { d with args := (cmdOf i).args }

end Sys2Proof
end

