-- ==== Sys2Proof/Machine/Ops.lean ====
section
/-!
DEFINITION. Machine/Ops.lean: the operations that the meanings share: time, performance counters, events, the journal,
interrupts, completions, the order of refusals of a Drepex command, fault records, and access to lanes, tributaries,
dunes and groups.
-/
namespace Sys2Proof.Machine

/-- AON ticks of a microsecond (R489). -/
def usTicks : Nat := 25
/-- AON ticks of a millisecond. -/
def msTicks : Nat := 25000
/-- AON ticks of a second. -/
def secTicks : Nat := 25000000
/-- Core cycles of a second of TOD (R297). -/
def secCycles : Nat := 1600000000

/-- Draw a free value (log entry 1): an opaque number that no proof can see. -/
def State.draw (s : State) : Nat := Config.free s.clk.free

/-- The draw has been used. -/
def State.drawn (s : State) : State := { s with clk := { s.clk with free := s.clk.free + 1 } }

/-- One lane. -/
def State.lane (s : State) (l : Nat) : Lane := Table.get {} s.lanes l
/-- Write one lane. -/
def State.setLane (s : State) (l : Nat) (x : Lane) : State := { s with lanes := Table.set {} s.lanes l x }
/-- Change one lane. -/
def State.modLane (s : State) (l : Nat) (f : Lane → Lane) : State := s.setLane l (f (s.lane l))
/-- One tributary. -/
def State.trib (s : State) (t : Nat) : Trib := Table.get {} s.tribs t
/-- Write one tributary. -/
def State.setTrib (s : State) (t : Nat) (x : Trib) : State := { s with tribs := Table.set {} s.tribs t x }
/-- Change one tributary. -/
def State.modTrib (s : State) (t : Nat) (f : Trib → Trib) : State := s.setTrib t (f (s.trib t))
/-- One dune. -/
def State.dune (s : State) (d : Nat) : Dune := Table.get {} s.sw.dunes d
/-- Change one dune. -/
def State.modDune (s : State) (d : Nat) (f : Dune → Dune) : State :=
  { s with sw := { s.sw with dunes := Table.set {} s.sw.dunes d (f (s.dune d)) } }
/-- One selector group. -/
def State.group (s : State) (g : Nat) : Group := Table.get {} s.prot.groups g
/-- Change one selector group. -/
def State.modGroup (s : State) (g : Nat) (f : Group → Group) : State :=
  { s with prot := { s.prot with groups := Table.set {} s.prot.groups g (f (s.group g)) } }
/-- One ring pair. -/
def State.ringPair (s : State) (p : Nat) : RingPair := Table.get {} s.host.pairs p
/-- Write one ring pair. -/
def State.setRingPair (s : State) (p : Nat) (x : RingPair) : State :=
  { s with host := { s.host with pairs := Table.set {} s.host.pairs p x } }
/-- One mailbox. -/
def State.mailbox (s : State) (m : Nat) : Mailbox := Table.get {} s.host.mail m
/-- Write one mailbox. -/
def State.setMailbox (s : State) (m : Nat) (x : Mailbox) : State :=
  { s with host := { s.host with mail := Table.set {} s.host.mail m x } }
/-- One session slot. -/
def State.session (s : State) (k : Nat) : Session := Table.get {} s.host.sessions k
/-- Write one session slot. -/
def State.setSession (s : State) (k : Nat) (x : Session) : State :=
  { s with host := { s.host with sessions := Table.set {} s.host.sessions k x } }
/-- One frequency input. -/
def State.refIn (s : State) (i : Nat) : RefIn := Table.get {} s.tim.inputs i
/-- Change one frequency input. -/
def State.modRefIn (s : State) (i : Nat) (f : RefIn → RefIn) : State :=
  { s with tim := { s.tim with inputs := Table.set {} s.tim.inputs i (f (s.refIn i)) } }
/-- One PPS input. -/
def State.ppsIn (s : State) (i : Nat) : PpsIn := Table.get {} s.tim.pps i
/-- Change one PPS input. -/
def State.modPpsIn (s : State) (i : Nat) (f : PpsIn → PpsIn) : State :=
  { s with tim := { s.tim with pps := Table.set {} s.tim.pps i (f (s.ppsIn i)) } }
/-- One cut stage. -/
def State.cut (s : State) (d : Nat) : CutStage := Table.get {} s.obs.cuts d
/-- Change one cut stage. -/
def State.modCut (s : State) (d : Nat) (f : CutStage → CutStage) : State :=
  { s with obs := { s.obs with cuts := Table.set {} s.obs.cuts d (f (s.cut d)) } }

/-- The facet engine's rows of a lane. -/
def State.facetLane (s : State) (l : Nat) : FacetLane := Table.get {} s.obs.facet.lanes l
/-- Change the facet engine's rows of a lane. -/
def State.modFacetLane (s : State) (l : Nat) (f : FacetLane → FacetLane) : State :=
  { s with obs := { s.obs with facet := { s.obs.facet with lanes := Table.set {} s.obs.facet.lanes l (f (s.facetLane l)) } } }

/-- The map bank in force for ingress, middle and cut maps (R192). -/
def State.ingB (s : State) : Bank := if s.sw.ingBank then s.sw.bank1 else s.sw.bank0
/-- The map bank in force for the egress maps and descriptors (R192). -/
def State.egrB (s : State) : Bank := if s.sw.egrBank then s.sw.bank1 else s.sw.bank0
/-- The shadow bank: the one that no egress map reads; outside a switch the banks of both selectors agree (R192). -/
def State.shadow (s : State) : Bank := if s.sw.egrBank then s.sw.bank0 else s.sw.bank1
/-- Write the shadow bank. -/
def State.setShadow (s : State) (b : Bank) : State :=
  if s.sw.egrBank then { s with sw := { s.sw with bank0 := b } } else { s with sw := { s.sw with bank1 := b } }

/-- Row counters lie forward of one another within half the RSN circle: a ≤ b (R11). -/
def rsnLe (a b : Rsn) : Bool := decide ((b - a).toNat < 2 ^ 47)

/-- Code of a mode (R29). -/
def Mode.code (m : Mode) : Nat :=
  match m with
  | .boot => 0 | .recovery => 1 | .configure => 2 | .transport => 3 | .caravan => 4 | .test => 5 | .maintain => 6
  | .quiescent => 7

/-- Code of a role (R30). -/
def Role.code (r : Role) : Nat :=
  match r with
  | .none => 0 | .standalone => 1 | .holder => 2 | .follower => 3

/-- Code of a DPLL state (R288). -/
def Dpll.code (d : Dpll) : Nat :=
  match d with
  | .freerun => 0 | .acquire => 1 | .locked => 2 | .oasis => 3 | .pulled => 4

/-- Lanes are in service, their egress carries traffic (R29). -/
def Mode.traffic (m : Mode) : Bool :=
  match m with
  | .transport | .caravan | .maintain => true
  | _ => false

/-- The firmware runs and lanes may be enabled: every mode but BOOT, RECOVERY and QUIESCENT (R29). -/
def Mode.working (m : Mode) : Bool :=
  match m with
  | .boot | .recovery | .quiescent => false
  | _ => true

/-- TQ of the time stamp (R297). -/
def State.tq (s : State) : Nat :=
  let ppsQ := (s.ppsIn 0).qual || (s.ppsIn 1).qual
  if !s.clk.todSet then 0
  else if s.tim.state = .locked ∧ ppsQ = true ∧ s.tim.todQual = true then 1
  else if s.clk.estimated then 3
  else if s.tim.state = .oasis ∨ s.tim.state = .pulled ∨ (s.tim.state = .locked ∧ s.clk.traced = true) then 2
  else 3

/-- The time stamp of R73 for a TOD and a TQ: SECONDS, TQ, NANOSECONDS. -/
def stampOf (tod tq : Nat) : Nat :=
  tod / secCycles % 2 ^ 32 * 2 ^ 32 + tq % 4 * 2 ^ 30 + tod % secCycles * 5 / 8

/-- The present time stamp. -/
def State.stamp (s : State) : Nat := stampOf s.clk.tod s.tq

/-- A timer that started at tick `since` has run for d ticks. -/
def State.elapsed (s : State) (since d : Nat) : Bool := decide (since + d ≤ s.clk.tick)

/-- Domain state by code q: 0 ON, 1 RETENTION, 2 OFF, 3 in transition (R495). -/
def State.domain (s : State) (q : Nat) : Nat := Table.get 0 s.pow.dom q
/-- Set a domain's state. -/
def State.setDomain (s : State) (q v : Nat) : State :=
  { s with pow := { s.pow with dom := Table.set 0 s.pow.dom q v } }
/-- Core stripe domain of a lane's dune (R471). -/
def stripeOf (l : Nat) : Nat := 4 + l / 64
/-- LT octet domain of a lane (R471). -/
def ltOf (l : Nat) : Nat := 12 + l / 8
/-- LR octet domain of a lane (R471). -/
def lrOf (l : Nat) : Nat := 76 + l / 8
/-- Stripe region of a dune (R502). -/
def regionOfDune (d : Nat) : Nat := 0x10 + d / 8

/-- Grains of a lane row by mode: 4,096 in F221, 2,048 in F110 (R12, R49). -/
def State.grainsOf (s : State) (l : Nat) : Nat := if s.cur .laneMode l = 0 then 4096 else 2048

/-! ### Performance counters (R540 to R543) -/

/-- Programming of counter i; the default is event 0x001 on counter 0 and 0x002 on counter 1 (R540). -/
def State.perfCtr (s : State) (i : Nat) : PerfCtr :=
  (Table.find s.log.perf i).getD { event := if i = 0 then 1 else if i = 1 then 2 else 0 }

/-- The listed counters and the two of the default programming. -/
def State.perfList (s : State) : List (Nat × PerfCtr) :=
  (if (Table.find s.log.perf 0).isSome then [] else [(0, s.perfCtr 0)]) ++
  (if (Table.find s.log.perf 1).isSome then [] else [(1, s.perfCtr 1)]) ++ s.log.perf

/-- Add k to counter i. Answers the state and how often the counter wrapped. -/
def State.perfBump (s : State) (i k : Nat) : State × Nat :=
  let v := Table.get 0 s.log.perfVal i + k
  ({ s with log := { s.log with perfVal := Table.set 0 s.log.perfVal i (v % 2 ^ 48) } }, v / 2 ^ 48)

/-! ### Events (R527 to R535) -/

/-- Entries of an event with n bytes of payload: 24 bytes to a continuation entry (R527). -/
def eventLen (n : Nat) : Nat := 1 + (n + 23) / 24

/-- Free entries of a device ring: it holds at most C − 1 unread entries (R380). -/
def DevRing.room (r : DevRing) : Nat :=
  if r.on then 2 ^ r.log2 - 1 - (r.next + 2 ^ r.log2 - r.head) % 2 ^ r.log2 else 0

/-- Entries in the event queue. -/
def queued (q : List Event) : Nat :=
  match q with
  | [] => 0
  | e :: r => e.len + queued r

/-- The code dropped most often, and its number; ties go to the first listed (log entry 13). -/
def mostDropped (t : Table Nat) : Nat × Nat :=
  match t with
  | [] => (0, 0)
  | (c, n) :: r => let (c', n') := mostDropped r; if n' ≤ n then (c, n) else (c', n')

/-- Put an event into the queue with the next ESEQ. -/
def State.pushEvent (s : State) (cls sev : Nat) (isSet : Bool) (code obj data : Nat) (payload : List Byte) : State :=
  { s with log := { s.log with
      queue := s.log.queue ++ [⟨s.log.eseq, cls, sev, eventLen payload.length, isSet, s.clk.rsn, code, s.clk.tod, s.tq,
        obj % 2 ^ 32, data % 2 ^ 32, payload, 1⟩],
      eseq := (s.log.eseq + 1) % 2 ^ 32 } }

/-- A performance event whose wraps produce no event of their own: the count of dropped events (R540, R542). -/
def State.perfQuiet (s : State) (event k : Nat) : State :=
  s.perfList.foldl (fun s x => if x.2.event = event then (s.perfBump x.1 k).1 else s) s

/-- An event of a class that can be dropped is dropped and counted (R534). -/
def State.dropEvent (s : State) (cls code : Nat) : State :=
  let d := Table.get {} s.log.drops cls
  let d' : Drops := { count := d.count + 1, first := if d.count = 0 then s.clk.rsn else d.first, last := s.clk.rsn,
                      codes := Table.put d.codes code (Table.get 0 d.codes code + 1) }
  let s := ({ s with log := { s.log with drops := Table.put s.log.drops cls d' } }).perfQuiet 7 1
  match cls with
  | 1 => s.bump .logPmDropInfo 0 1
  | 2 => s.bump .logPmDropPerf 0 1
  | _ => s.bump .logPmDropTrace 0 1

/-- The first matching filter decides; no match passes (R535). -/
def filterPass (fs : List FilterEntry) (cls code obj : Nat) : Bool :=
  match fs with
  | [] => true
  | f :: r =>
    if (f.code = 0xFFFF ∨ f.code = code) ∧ f.cls = cls ∧ (f.obj = 0xFFFFFFFF ∨ f.obj = obj % 2 ^ 32) then f.action = 0
    else filterPass r cls code obj

/-- The SUMMARY event that reports the drops of a class (R534). -/
def State.dropSummary (s : State) (cls : Nat) : State :=
  let d := Table.get {} s.log.drops cls
  if d.count = 0 then s
  else
    let s := s.pushEvent 4 0 false cls d.count (mostDropped d.codes).1 (leBytes 8 d.first.toNat ++ leBytes 8 d.last.toNat)
    { s with log := { s.log with drops := Table.drop s.log.drops cls } }

/-- An event of class INFO (1), PERF (2) or TRACE (3): filtered, dropped or queued (R531, R534, R535). -/
def State.softEvent (s : State) (cls code obj data : Nat) : State :=
  if !filterPass s.log.filters cls code obj then s.bump .logPmFiltered 0 1
  else
    let c := 2 ^ s.host.evt.log2
    let f := s.host.evt.room
    let q := queued s.log.queue
    let need := q + 1 + c / (match cls with | 1 => 8 | 2 => 4 | _ => 2)
    if s.host.evt.on ∧ need ≤ f ∧ q + 1 ≤ 3584 then (s.dropSummary cls).pushEvent cls 0 false code obj data []
    else s.dropEvent cls code

/-- An INFO event. -/
def State.info (s : State) (code obj data : Nat) : State := s.softEvent 1 code obj data

/-- Fold an event into its running summary (R533). -/
def foldInto (fs : List Fold) (code obj : Nat) (r : Rsn) : Option (List Fold) :=
  match fs with
  | [] => none
  | f :: rest =>
    if f.code = code ∧ f.obj = obj then some ({ f with count := f.count + 1, last := r } :: rest)
    else (foldInto rest code obj r).map (f :: ·)

/-- An ALARM event that finds no room in the queue (R533): its own running summary, a free one of the 1,024, or the one
for its code. -/
def State.foldEvent (s : State) (code obj : Nat) : State :=
  let opened := fun (k : Nat) => { s with log := { s.log with folds := s.log.folds ++ [⟨code, k, 1, s.clk.rsn, s.clk.rsn⟩] } }
  match foldInto s.log.folds code obj s.clk.rsn with
  | some fs => { s with log := { s.log with folds := fs } }
  | none =>
    if (s.log.folds.filter fun f => f.obj != 0xFFFFFFFF).length < 1024 then opened obj
    else match foldInto s.log.folds code 0xFFFFFFFF s.clk.rsn with
      | some fs => { s with log := { s.log with folds := fs } }
      | none => opened 0xFFFFFFFF

/-- Merge an alarm change into the queued change of the same instance: the final state, and in DATA the number of changes
it stands for (R532). -/
def mergeEvent (q : List Event) (code obj : Nat) (isSet : Bool) : Option (List Event) :=
  match q with
  | [] => none
  | e :: r =>
    if e.cls = 0 ∧ e.code = code ∧ e.obj = obj then
      some ({ e with isSet := isSet, data := e.changes + 1, changes := e.changes + 1 } :: r)
    else (mergeEvent r code obj isSet).map (e :: ·)

/-- An ALARM-class event: never dropped; merged or folded when the queue has no room (R531 to R533). change tells the
change of an alarm instance from the records of R530. -/
def State.alarmEvent (s : State) (sev : Nat) (isSet change : Bool) (code obj data : Nat) (payload : List Byte) : State :=
  if queued s.log.queue + eventLen payload.length ≤ 4096 then s.pushEvent 0 sev isSet code obj data payload
  else match (if change then mergeEvent s.log.queue code (obj % 2 ^ 32) isSet else none) with
    | some q => ({ s with log := { s.log with queue := q } }).bump .logPmAlarmCoalesced 0 1
    | none => s.foldEvent code (obj % 2 ^ 32)

/-- A performance event occurs k times (R540, R541): every counter programmed with it adds k. A counter that wraps adds to
its chain or produces a PERF event 0x3001. -/
def State.perf (s : State) (event inst k : Nat) : State :=
  go s.perfList s
where
  /-- Over the programmed counters. -/
  go (cs : List (Nat × PerfCtr)) (s : State) : State :=
    match cs with
    | [] => s
    | (i, c) :: r =>
      if c.event = event ∧ (c.obj = inst ∨ c.obj = 0xFFFF) ∧ k ≠ 0 then
        let (s, w) := s.perfBump i k
        if w = 0 then go r s
        else if i % 2 = 0 ∧ (s.perfCtr (i + 1)).chain = true then
          let (s, w') := s.perfBump (i + 1) w
          go r (if w' = 0 then s else s.softEvent 2 0x3001 (i + 1) 0)
        else go r (s.softEvent 2 0x3001 i 0)
      else go r s

/-- An occupancy event over a number of cycles: with THRESHOLD 0 the occupancy adds in every cycle, otherwise 1 in each
cycle in which it exceeds the threshold (R541). -/
def State.perfOccupancy (s : State) (event inst occ cycles : Nat) : State :=
  go s.perfList s
where
  /-- Over the programmed counters. -/
  go (cs : List (Nat × PerfCtr)) (s : State) : State :=
    match cs with
    | [] => s
    | (i, c) :: r =>
      if c.event = event ∧ (c.obj = inst ∨ c.obj = 0xFFFF) then
        go r (s.perfBump i (if c.threshold = 0 then occ * cycles else if c.threshold < occ then cycles else 0)).1
      else go r s

/-! ### The journal (R403, R536 to R538) -/

/-- The 64 bytes of a journal record (R403). -/
def JRec.bytes (r : JRec) : List Byte :=
  leBytes 8 r.seq ++ leBytes 8 r.rsn.toNat ++ leBytes 8 (stampOf r.tod r.tq) ++ leBytes 1 r.path ++ leBytes 1 r.role ++
  leBytes 1 r.kind ++ leBytes 1 0 ++ leBytes 4 r.session ++ leBytes 4 r.cmdId ++ leBytes 2 r.code ++ leBytes 2 r.status ++
  leBytes 4 r.obj ++ leBytes 4 r.count ++ leBytes 8 r.value ++ leBytes 8 r.link.toNat

/-- Bytes 0–7 of a SHA-384 digest as they stand in LINK (R403); byte 0 of a digest is its most significant byte. -/
def linkOf (d : BitVec 384) : BitVec 64 :=
  BitVec.ofNat 64 (leNat (List.reverse (leBytes 8 (d.toNat / 2 ^ 320))))

/-- Free records of the sequencer's buffer, B of R536; records in the space of RESTART records do not count. -/
def State.jfree (s : State) : Nat := 8192 - (s.log.jbuf.filter fun r => !r.own).length

/-- JOURNAL_FULL with its two thresholds (R537). -/
def State.jupdate (s : State) : State :=
  let b := s.jfree
  { s with log := { s.log with jfull := if b < 1024 then true else if 2048 ≤ b then false else s.log.jfull } }

/-- Writes of a slot of MRAM, for log.life_wear: area × 256 + slot (R544). Key of an accumulator: number × 2^24 + bin. -/
def State.lifeAdd (s : State) (acc bin k : Nat) : State :=
  let key := acc * 2 ^ 24 + bin
  { s with log := { s.log with life := Table.set 0 s.log.life key (Table.get 0 s.log.life key + k) } }

/-- Accumulator number of log.life_wear. -/
def accWear : Nat := 9

/-- A record enters the buffer: SEQ, LINK and time are formed; the ceiling in MRAM stays above every SEQ issued, advanced
once per 65,536 records (R403, R536, R539). -/
def State.pushRec (s : State) (own : Bool) (path role kind session cmdId code status obj cnt value : Nat) : State :=
  let r : JRec := ⟨s.log.jseq, s.clk.rsn, s.clk.tod, s.tq, path, role, kind, session, cmdId, code, status, obj % 2 ^ 32,
    cnt % 2 ^ 32, value % 2 ^ 64, s.log.jlink, own⟩
  let up := s.log.jceil ≤ s.log.jseq + 1
  let s := { s with log := { s.log with
      jbuf := s.log.jbuf ++ [r], jseq := s.log.jseq + 1, jlink := linkOf (Config.sha384 r.bytes),
      jceil := if up then s.log.jceil + 65536 else s.log.jceil } }
  let s := if up then s.lifeAdd accWear (4 * 256 + s.log.jceil / 65536 % 256) 1 else s
  ((s.bump .logPmJournalRecords 0 1).perf 5 0 1).jupdate

/-- A CHANGE (1) or NOOP (2) record of a command. -/
def State.journalCmd (s : State) (c : CmdRef) (kind obj cnt value : Nat) : State :=
  s.pushRec false c.path c.role kind c.session c.cmdId c.code 0 obj cnt value

/-- First and last RSN packed as 32 bits each (R403). -/
def packRsn (a b : Nat) : Nat := a % 2 ^ 32 + b % 2 ^ 32 * 2 ^ 32

/-- Coalesce an autonomous action of a code (R538). -/
def State.coalesce (s : State) (code k : Nat) : State :=
  let (n, a, _) := Table.get (0, 0, 0) s.log.jcoal code
  let t := Table.put s.log.jcoal code (n + k, if n = 0 then s.clk.rsn.toNat else a, s.clk.rsn.toNat)
  let s := { s with log := { s.log with jcoal := t } }
  s.bump .logPmJournalCoalesced 0 k

/-- An AUTONOMOUS record of code R591, with the causing command where R591 gives one; below 256 free records it is
coalesced (R538). -/
def State.journalAuto (s : State) (code obj value : Nat) (c : CmdRef := {}) : State :=
  if 256 ≤ s.jfree then s.pushRec false c.path c.role 3 c.session c.cmdId code 0 obj 1 value
  else s.coalesce code 1

/-- A SUMMARY record of an action code (R538, R204). -/
def State.journalSummary (s : State) (code obj cnt value : Nat) : State :=
  s.pushRec false 3 0 4 0 0 code 0 obj cnt value

/-- A SECURITY record: written while B ≥ 256, otherwise counted (R404, R537). -/
def State.journalSecurity (s : State) (path role session cmdId code status obj : Nat) : State :=
  if 256 ≤ s.jfree then s.pushRec false path role 5 session cmdId code status obj 1 0
  else s.bump .logPmSecurityCounted 0 1

/-- A RESTART record: in its own space of 16, in a free record of the buffer, or held as a running count (R538). -/
def State.journalRestart (s : State) (obj value : Nat) : State :=
  let own := (s.log.jbuf.filter fun r => r.own).length
  let (n, first) := s.log.jheld
  let v := if n = 0 then value else first
  let clear := fun (s : State) => { s with log := { s.log with jheld := (0, 0) } }
  if own < 16 then (clear s).pushRec true 3 0 6 0 0 0 0 obj (n + 1) v
  else if 0 < s.jfree then (clear s).pushRec false 3 0 6 0 0 0 0 obj (n + 1) v
  else { s with log := { s.log with jheld := (n + 1, if n = 0 then s.clk.rsn.toNat else first) } }

/-- Write the coalesced actions of superframes that have ended and find a free record as SUMMARY records, one per code
(R538). -/
def State.flushCoalesced (s : State) : State :=
  go s.log.jcoal s
where
  /-- Over the codes with coalesced actions. -/
  go (t : List (Nat × Nat × Nat × Nat)) (s : State) : State :=
    match t with
    | [] => s
    | (code, n, a, b) :: r =>
      if b / 625 = s.clk.rsn.toNat / 625 then go r s
      else if 0 < s.jfree then
        go r ({ s with log := { s.log with jcoal := Table.drop s.log.jcoal code } }.journalSummary code 0 n (packRsn a b))
      else s

/-! ### Interrupts and rings (R379 to R382) -/

/-- Signal a vector: pending while its MSI-X entry is masked (R382, R413). -/
def State.signal (s : State) (v : Nat) : State :=
  let masked := (Table.get (0 : BitVec 32) s.host.msix (4 * v + 3)).getLsbD 0
  if masked then { s with host := { s.host with irqPba := if v ∈ s.host.irqPba then s.host.irqPba else v :: s.host.irqPba } }
  else { s with host := { s.host with irqSent := v :: s.host.irqSent,
                                      irqTick := Table.put s.host.irqTick v (s.clk.tick + 1) } }

/-- Entries have been written to a ring of vector v: the vector is signalled at most once per host.irq_holdoff; inside a
hold-off it waits for its end (R382). -/
def State.interrupt (s : State) (v : Nat) : State :=
  let last := Table.get 0 s.host.irqTick v
  if last = 0 ∨ last + s.cur .hostIrqHoldoff 0 * usTicks ≤ s.clk.tick + 1 then s.signal v
  else if v ∈ s.host.irqWait then s
  else { s with host := { s.host with irqWait := s.host.irqWait ++ [v] } }

/-- Write bytes into host memory. -/
def State.hostWrite (s : State) (addr : Nat) (bs : List Byte) : State :=
  { s with host := { s.host with mem := Table.setRun 0 s.host.mem addr bs } }

/-- Room for another completion in a pair's CQ: unread entries and completions still due (R380). -/
def RingPair.cqRoom (r : RingPair) : Bool :=
  decide ((r.cqNext + 2 ^ r.cqLog - r.cqHead) % 2 ^ r.cqLog + r.outstanding < 2 ^ r.cqLog - 1)

/-- The 16 bytes of a completion entry (R385) with its FLAGS. -/
def complBytes (cmdId status sqHead result detail ring flags : Nat) : List Byte :=
  leBytes 4 cmdId ++ leBytes 2 status ++ leBytes 2 sqHead ++ leBytes 4 result ++ leBytes 2 detail ++ leBytes 1 ring ++
  leBytes 1 flags

/-- The next completion entry of a pair is written, while the pair exists, and its vector is due (R379, R385, R389). -/
def State.completePair (s : State) (ring cmdId status result detail flags : Nat) : State :=
  let p := s.ringPair ring
  if p.on then
    let s := s.hostWrite (p.cqAddr + 16 * p.cqNext)
      (complBytes cmdId status p.sqHead result detail ring (flags + if p.phase then 128 else 0))
    let last := p.cqNext + 1 = 2 ^ p.cqLog
    let q := { p with
      cqNext := if last then 0 else p.cqNext + 1
      phase := p.phase != last
      outstanding := p.outstanding - 1 }
    (s.setRingPair ring q).interrupt p.vector
  else s

/-- A mailbox that is BUSY is DONE with its completion (R377, R378). -/
def State.completeMail (s : State) (ring cmdId status result detail flags : Nat) : State :=
  let m := s.mailbox (ring - 16)
  if m.state = 1 then
    let c := BitVec.ofNat 128 (leNat (complBytes cmdId status 0 result detail ring flags))
    s.setMailbox (ring - 16) { m with
      state := 2
      taken := false
      compl := c }
  else s

/-- The sideband's command is DONE (R406, R408). -/
def State.completeSide (s : State) (r : Compl) : State :=
  { s with host := { s.host with sb := { s.host.sb with
      state := 2
      taken := false
      compl := r } } }

/-- Post the completion of a command: into its pair's CQ while the pair still belongs to the session, into its mailbox, or
into the sideband (R376, R385, R389, R397, R410). -/
def State.complete (s : State) (c : CmdRef) (status result detail : Nat) (noop : Bool) : State :=
  let flags := if noop then 1 else 0
  if c.ring < 16 then s.completePair c.ring c.cmdId status result detail flags
  else if c.ring < 24 then s.completeMail c.ring c.cmdId status result detail flags
  else if c.ring = 24 then s.completeSide ⟨c.cmdId, status, 0, result, detail, 24, noop⟩
  else s

/-- Response data of a command on a mailbox or the sideband (R377, R406). -/
def State.respond (s : State) (ring : Nat) (bs : List Byte) : State :=
  if 16 ≤ ring ∧ ring < 24 then
    s.setMailbox (ring - 16) { s.mailbox (ring - 16) with resp := BitVec.ofNat 512 (leNat bs) }
  else if ring = 24 then { s with host := { s.host with sb := { s.host.sb with resp := bs } } }
  else s

/-! ### Serving a Drepex command (R378 to R393) -/

/-- The answer of a command's own checks and effect. A record of the journal is (OBJECT, COUNT, VALUE). -/
inductive Reply where
  /-- Refused: STATUS, RESULT, DETAIL; nothing changes. -/
  | refuse (st : Nat) (result : Nat := 0xFFFFFFFF) (detail : Nat := 0)
  /-- Refused, with the marks the manual gives that refusal. -/
  | refuseIn (s : State) (st : Nat) (result : Nat := 0xFFFFFFFF) (detail : Nat := 0)
  /-- Applied; its effect has taken place. -/
  | done (s : State) (result : Nat := 0) (recs : List (Nat × Nat × Nat) := [])
  /-- Accepted; its effect, and with it its completion, comes later. -/
  | accept (s : State) (recs : List (Nat × Nat × Nat) := [])
  /-- Accepted; a reset of the unit that served it follows, and no completion is posted. -/
  | restart (f : State → State) (recs : List (Nat × Nat × Nat) := [])
  /-- A valid no-op (R438); journalled when the command is a change command. -/
  | noop (change : Bool)

/-- The first check of a list that applies refuses: whether it applies, STATUS, DETAIL. Otherwise r. -/
def guarded (cs : List (Bool × Nat × Nat)) (r : Reply) : Reply :=
  match cs with
  | [] => r
  | (b, st, detail) :: rest => if b then .refuse st 0xFFFFFFFF detail else guarded rest r

/-- The first item of a list that fails a check refuses, with its index in RESULT (R385). Otherwise r. -/
def checkItems {α : Type} (l : List α) (bad : α → Bool) (st : Nat) (r : Reply) : Reply :=
  match l.findIdx? bad with
  | some i => .refuse st i
  | none => r

/-- Path of a ring code (R405): the sideband is I2C, everything else PCIe. -/
def pathOf (ring : Nat) : Nat := if ring = 24 then 1 else 0

/-- A session of that handle that is OPEN or SUSPENDED. -/
def State.findSession (s : State) (handle : Nat) : Option Session :=
  let x := s.session (handle % 8)
  if handle ≠ 0 ∧ x.handle = handle ∧ (x.state = .opened ∨ x.state = .suspended) then some x else none

/-- The commands served without a session in BOOT and RECOVERY, with the path of the entry (R401, R408). -/
def bootServes (m : Mode) (code ring : Nat) : Bool :=
  match m with
  | .boot => if ring = 24 then code = 0x1206 else code = 0x1201 || code = 0x1301
  | .recovery => code = 0x1201 || code = 0x1202 || code = 0x1207 || code = 0x1301
  | _ => false

/-- The commands that the sideband carries (R408). -/
def onSideband (m : Mode) (code : Nat) : Bool :=
  match m with
  | .recovery => code = 0x1201 || code = 0x1202 || code = 0x1207
  | _ => code = 0x0101 || code = 0x0102 || code = 0x0103 || code = 0x1206

/-- The rights of a role: SERVICE holds the rights of ADMIN but SEC.KEY_SET; rights of SERVICE need SERVICE; an OBSERVER has PERF.READ
with perf.observer_read = 1 (R394, R543). -/
def State.mayRun (s : State) (role : Nat) (d : CmdDesc) : Bool :=
  decide (d.role ≤ role) && !(role == 4 && d.code == 0x1303) &&
    !(d.code == 0x1102 && decide (role < 2) && s.cur .perfObserverRead 0 == 0)

/-- The commands open to a session on the initial ADMIN key: the read commands, SESSION.CLOSE and SEC.KEY_SET of the ADMIN key, whose
role stands in byte 28 (R565). -/
def initialMay (d : CmdDesc) (e : Entry) : Bool :=
  [0x0103, 0x0106, 0x0201, 0x0203, 0x0502, 0x0504, 0x0B02, 0x0D02, 0x1004, 0x1102, 0x1201, 0x1301, 0x1302, 0x1303, 0x1501,
    0x1503].contains d.code && !(d.code == 0x1303 && e.field 28 1 != 3)

/-- The session was opened with the initial ADMIN key, which has not been replaced since (R565). -/
def State.onInitial (s : State) (x : Session) : Bool := x.initial && x.role == 3 && s.sec.adminInitial

/-- Refusals 2 to 7 of R388, that hold before a command's own checks: UNKNOWN_OP, for a code that R401 does not list too, RESERVED_NONZERO, NO_SESSION or
SESSION_SUSPENDED, DENIED, NOT_ON_PATH, TAKEOVER. PARAM.SET checks roles entry by entry, so its need is 0. -/
def State.headRefusal (s : State) (d : CmdDesc) (e : Entry) : Option Nat :=
  let m := s.dev.mode
  let boot := m = .boot ∨ m = .recovery
  let free := bootServes m d.code e.ring
  let session := !free ∧ d.code ≠ 0x0101 ∧ d.code ≠ 0x0102
  if catalogued d.code = false ∨ (boot ∧ free = false) ∨ (!boot ∧ d.code = 0x1207) ∨ m = .quiescent then some 0x0001
  else if e.reservedZero d = false then some 0x0002
  else if session then
    match s.findSession e.session with
    | none => some 0x0101
    | some x =>
      if x.path ≠ pathOf e.ring ∨ (e.ring < 16 ∧ (s.ringPair e.ring).owner ≠ e.session) then some 0x0101
      else if x.state = .suspended then some 0x0102
      else if s.mayRun x.role d = false ∨ (s.onInitial x = true ∧ initialMay d e = false) then some 0x0103
      else if e.ring = 24 ∧ onSideband m d.code = false then some 0x0008
      else if s.pair.takeover = true ∧ 5 ≤ d.code / 256 ∧ d.code / 256 ≤ 10 then some 0x0010
      else none
  else if e.ring = 24 ∧ onSideband m d.code = false ∧ m ≠ .boot then some 0x0008
  else none

/-- The entry into QUIESCENT has been accepted (R410, R482). -/
def State.shutting (s : State) : Bool :=
  match s.pow.sleep with
  | some r => r.quiescent && r.accepted
  | none => false

/-- The Jaray complex takes commands: the firmware runs and is not on its way into QUIESCENT, or in BOOT and RECOVERY mailboxes and
sideband are served (R378, R401, R409, R410). -/
def State.serves (s : State) (ring : Nat) : Bool :=
  match s.dev.jcc with
  | .running => s.dev.mode.working && !s.shutting
  | .bootRom | .starting => decide (16 ≤ ring) && (s.dev.mode == .boot || s.dev.mode == .recovery)
  | _ => false

/-- A command stands at the head of its SQ, mailbox or sideband and may be taken (R378, R380, R408). -/
def State.ready (s : State) (ring : Nat) : Bool :=
  if ring < 16 then
    let p := s.ringPair ring
    p.on && decide (p.sqHead ≠ p.sqTail) && p.cqRoom
  else if ring < 24 then
    let m := s.mailbox (ring - 16)
    decide (m.state = 1) && !m.taken
  else if ring = 24 then decide (s.host.sb.state = 1) && !s.host.sb.taken
  else false

/-- A command stands at the head of a ring that is served. -/
def State.standing (s : State) (ring : Nat) : Bool := s.serves ring && s.ready ring

/-- The entry is the one that stands there: what the mailbox or the sideband holds. What stands in an SQ is in host memory, and the
entry brings it (R377, R380, R408; log entry 19). -/
def State.holds (s : State) (e : Entry) : Bool :=
  if e.ring < 16 then true
  else if e.ring < 24 then (s.mailbox (e.ring - 16)).cmd == e.word
  else s.host.sb.cmd == e.word

/-- A long command has been accepted and its completion is still due (R391). -/
def State.longWaits (s : State) : Bool :=
  !s.com.stageWaits.isEmpty || !s.com.loadWaits.isEmpty || (match s.pair.release with | some (_, some _) => true | _ => false)

/-- An urgent command waits in a mailbox other than the ring named; what waits in an SQ this model does not see (R391; log entry 19). -/
def State.urgentWaits (s : State) (ring : Nat) : Bool :=
  (List.range 8).any fun k => 16 + k != ring && s.standing (16 + k) && urgentCode (Entry.code ⟨16 + k, (s.mailbox k).cmd⟩)

/-- The turn of the ring pairs and mailboxes has come to this one: none between it and the one served last has a command (R378,
R390). -/
def State.inTurn (s : State) (ring : Nat) : Bool :=
  decide (24 ≤ ring) || ((List.range 24).map fun k => (s.host.turn + 1 + k) % 24).find? s.standing == some ring

/-- The command may start now: an urgent one at once; any other when no urgent one waits and its ring's turn has come; a long one when
no other long one runs, and then the rings behind a waiting one go on (R390, R391). -/
def State.mayStart (s : State) (d : CmdDesc) (ring : Nat) : Bool :=
  d.urgent || (!(d.long && s.longWaits) && !s.urgentWaits ring && (s.longWaits || s.inTurn ring))

/-- What an entry is served as: the catalogue's description, or a code that it does not list (R387). -/
def descOf (d : CmdDesc) (e : Entry) : CmdDesc := if catalogued e.code then d else ⟨e.code, 0, false, false, []⟩

/-- The command stands there and may start: the entry spells it, or spells a code that R401 does not list (R383, R387, R390, R391). -/
def State.starts (s : State) (d : CmdDesc) (e : Entry) : Bool :=
  s.standing e.ring && s.holds e && (!catalogued e.code || e.spells d) && s.mayStart (descOf d e) e.ring

/-- Take the command from its SQ, mailbox or sideband; the turn goes on from there (R390). -/
def State.take (s : State) (ring : Nat) : State :=
  let s := if ring < 24 then { s with host := { s.host with turn := ring } } else s
  if ring < 16 then
    let p := s.ringPair ring
    s.setRingPair ring { p with sqHead := if p.sqHead + 1 = 2 ^ p.sqLog then 0 else p.sqHead + 1,
                                expSeq := (p.expSeq + 1) % 2 ^ 32, outstanding := p.outstanding + 1 }
  else if ring < 24 then s.setMailbox (ring - 16) { s.mailbox (ring - 16) with taken := true }
  else { s with host := { s.host with sb := { s.host.sb with taken := true } } }

/-- The session has submitted a command (R396, R400). -/
def State.touch (s : State) (handle : Nat) : State :=
  match s.findSession handle with
  | none => s
  | some x => s.setSession (handle % 8) { x with last := s.clk.rsn, lastTick := s.clk.tick }

/-- The reference by which a taken command is completed and journalled. -/
def State.refOf (s : State) (d : CmdDesc) (e : Entry) : CmdRef :=
  ⟨e.ring, pathOf e.ring, e.session, (match s.findSession e.session with | some x => x.role | none => 0), e.cmdId, d.code⟩

/-- The configuration space records an error of a completion (R373, R464): 0x10 and 0x11 in the status register, 0x12 and 0x13 in the
AER status (log entry 118). -/
def State.linkError (s : State) (detail : Nat) : State :=
  let p := s.host.pcie
  let q := match detail with
    | 0x10 => { p with status := p.status ||| 0x2000 }
    | 0x11 => { p with status := p.status ||| 0x1000 }
    | 0x12 => { p with aer := p.aer ||| 0x1000 }
    | 0x13 => { p with aer := p.aer ||| 0x4000 }
    | _ => p
  { s with host := { s.host with pcie := q } }

/-- A refusal: nothing is applied; DENIED, AUTH_FAILED and AUTH_LOCKED are journalled as SECURITY (R389, R404). -/
def State.refuseCmd (s : State) (c : CmdRef) (st result detail : Nat) : State :=
  let s := if st = 0x0103 ∨ st = 0x0104 ∨ st = 0x0105 then s.journalSecurity c.path c.role c.session c.cmdId c.code st 0 else s
  let s := if st = 0x0007 then (s.bump .cfgPmAddrFaults 0 1).linkError detail else s
  let s := if st = 0x000A then s.bump .logPmJournalRefused 0 1 else s
  s.complete c st result detail false

/-- The journal has room for n records of a command beside the standing reservations (R537). -/
def State.journalRoom (s : State) (n : Nat) : Bool :=
  n == 0 || (!s.log.jfull && decide (1024 + n + s.log.jreserved ≤ s.jfree))

/-- Write the CHANGE records of an accepted command. -/
def State.journalAll (s : State) (c : CmdRef) (recs : List (Nat × Nat × Nat)) : State :=
  match recs with
  | [] => s
  | (o, n, v) :: r => (s.journalCmd c 1 o n v).journalAll c r

/-- The command was accepted: the ring remembers its SUBMIT_SEQ (R393) and the TRACE event is offered (R530). -/
def State.accepted (s : State) (c : CmdRef) (seq : Nat) : State :=
  let s := if c.ring < 16 then s.setRingPair c.ring { s.ringPair c.ring with lastSeq := seq } else s
  if s.cur .logTraceCommands 0 = 1 then s.softEvent 3 0x4001 c.cmdId (c.code + c.ring * 65536) else s

/-- Answer of a command after its own checks (R388 item 11, R389): the last refusal is JOURNAL_FULL, and it leaves s as
it was before the effect. -/
def State.finish (s : State) (c : CmdRef) (seq : Nat) (r : Reply) : State :=
  match r with
  | .refuse st result detail => s.refuseCmd c st result detail
  | .refuseIn s' st result detail => s'.refuseCmd c st result detail
  | .done s' result recs =>
    if s.journalRoom recs.length then ((s'.journalAll c recs).accepted c seq).complete c 0 result 0 false
    else s.refuseCmd c 0x000A 0xFFFFFFFF 0
  | .accept s' recs =>
    if s.journalRoom recs.length then (s'.journalAll c recs).accepted c seq
    else s.refuseCmd c 0x000A 0xFFFFFFFF 0
  | .restart f recs =>
    if s.journalRoom recs.length then f ((s.journalAll c recs).accepted c seq)
    else s.refuseCmd c 0x000A 0xFFFFFFFF 0
  | .noop change =>
    if s.journalRoom (if change then 1 else 0) then
      ((if change then s.journalCmd c 2 0 0 0 else s).accepted c seq).complete c 0 0 0 true
    else s.refuseCmd c 0x000A 0xFFFFFFFF 0

/-- Serve a Drepex command: take it from its ring, mailbox or sideband, check it in the order of R388, apply it and post
its completion. A command that does not stand there, whose turn has not come, or that finds the complex not serving, changes nothing. -/
def serve (d : CmdDesc) (e : Entry) (s : State) (body : CmdRef → State → Reply) : Host.Outcome State Fault Refusal :=
  if s.starts d e then
    let d := descOf d e
    let stale := e.ring < 16 ∧ (s.ringPair e.ring).expSeq ≠ e.submitSeq
    let s := s.take e.ring
    let c := s.refOf d e
    if stale then .next (s.complete c 0x0006 0xFFFFFFFF 0 false)
    else
      let s := ((s.touch e.session).perf 0x047 e.ring 1)
      let s := if d.urgent then s.perf 0x049 0 1 else s
      match s.headRefusal d e with
      | some st => .next (s.refuseCmd c st 0xFFFFFFFF 0)
      | none => .next (s.finish c e.submitSeq (body c s))
  else .next s

/-- The device reads a buffer: DMA is allowed, the windows permit it, and no read completes with an error (R374, R376, R463, R464). -/
def State.bufRead (s : State) (b : Buf) (len : Nat) : Bool := s.host.dmaOn && s.readOk b.addr len && b.readErr == 0
/-- DETAIL of the ADDR_FAULT of a read: 0x0001 outside the windows, which is issued not at all, else the error of the completion (R463,
R464). -/
def State.readDetail (s : State) (b : Buf) (len : Nat) : Nat :=
  if s.host.dmaOn && s.readOk b.addr len then 0x000F + b.readErr else 0x0001
/-- The device may write a buffer. -/
def State.bufWrite (s : State) (b : Buf) (len : Nat) : Bool := s.host.dmaOn && s.writeOk b.addr len

/-- The checks of a buffer of at least need bytes that the device reads or writes: INVALID_ZERO for length 0, OUT_OF_RANGE
for a shorter one, ADDR_FAULT (R374, R438, R463; log entry 16). -/
def State.bufChecks (s : State) (b : Buf) (need : Nat) (write : Bool) : List (Bool × Nat × Nat) :=
  [(b.len == 0, 0x0003, 0), (decide (b.len < need), 0x0004, 0),
   (!(if write then s.bufWrite b need else s.bufRead b need), 0x0007, if write then 0x0001 else s.readDetail b need)]

/-- The refusal ADDR_FAULT with DETAIL 0x0001 OUTSIDE_WINDOW (R463). -/
def addrFault : Reply := .refuse 0x0007 0xFFFFFFFF 0x0001

/-! ### References of commands under way -/

/-- The last effect of an accepted command has come, unless another of its effects is still due (R389, R430). -/
def State.settle (s : State) (c : CmdRef) (result : Nat) : State :=
  if (s.prot.waits.any fun w => w.2.1 == c) || (s.par.buffered.any fun b => b.refs.any fun r => r.1 == c) then s
  else s.complete c 0 result 0 false

/-- Change every reference to a command whose completion is still due. -/
def State.mapRefs (s : State) (f : CmdRef → CmdRef) : State :=
  let o := Option.map f
  { s with
    dev := { s.dev with pend := s.dev.pend.map fun p => { p with ref := o p.ref } }
    par := { s.par with buffered := s.par.buffered.map fun b => { b with refs := b.refs.map fun (r, v) => (f r, v) } }
    lanes := s.lanes.map fun (k, l) => (k, { l with test := { l.test with
      loopNext := l.test.loopNext.map fun (a, b, r) => (a, b, f r)
      scan := l.test.scan.map fun (a, b, c, d, e, r) => (a, b, c, d, e, f r) } })
    com := { s.com with
      pend := s.com.pend.map fun p => { p with ref := o p.ref }
      stageWaits := s.com.stageWaits.map fun (r, n) => (f r, n)
      loadWaits := s.com.loadWaits.map f }
    prot := { s.prot with
      groups := s.prot.groups.map fun (k, g) => (k, { g with pend := g.pend.map fun p => { p with ref := f p.ref } })
      merges := s.prot.merges.map fun m => { m with ref := o m.ref, refEnd := o m.refEnd }
      waits := s.prot.waits.map fun (a, r, n) => (a, f r, n) }
    tim := { s.tim with
      cmdPend := s.tim.cmdPend.map fun (a, b, c, d, r) => (a, b, c, d, f r)
      step := s.tim.step.map fun (a, r) => (a, o r) }
    pair := { s.pair with release := s.pair.release.map fun (a, r) => (a, o r) }
    pow := { s.pow with
      sleep := s.pow.sleep.map fun p => { p with ref := o p.ref }
      wake := s.pow.wake.map fun p => { p with ref := o p.ref }
      dvfs := s.pow.dvfs.map fun p => { p with ref := o p.ref } } }

/-- No completion will be posted for the commands that p selects (R376, R393, R397, R410). -/
def State.forget (s : State) (p : CmdRef → Bool) : State :=
  s.mapRefs fun c => if p c then { c with ring := 255 } else c

/-! ### Fault records (R504, R515 to R517) -/

/-- The 32 bytes of a fault record (R515). -/
def FaultRec.bytes (r : FaultRec) : List Byte :=
  leBytes 4 r.fseq ++ leBytes 6 r.rsn.toNat ++ leBytes 1 r.cls ++ leBytes 1 r.region ++
  leBytes 1 (r.outcome + if r.injected then 128 else 0) ++ leBytes 1 r.action ++ leBytes 2 r.location ++
  leBytes 8 r.detail ++ leBytes 4 r.count ++ leBytes 4 r.link

/-- Keep a record in the rotation of 64 in MRAM (R517). -/
def State.faultToMram (s : State) (r : FaultRec) : State :=
  ({ s with flt := { s.flt with mram := (r :: s.flt.mram).take 64 } }).lifeAdd accWear (3 * 256 + r.fseq % 64) 1

/-- The open record of a class at a location (R516). -/
def State.openRec (s : State) (cls region location : Nat) : Option FaultRec :=
  s.flt.log.find? fun r => r.isOpen && r.cls == cls && r.region == region && r.location == location

/-- Record r makes a further fault of a class in a region compound: it stands in the same region, or the further fault strikes its
recovery resources, which are the Jaray complex for a field that the firmware rewrites and for a map entry that its shadow has
not repaired (R503, R512, R520). -/
def State.disturbs (s : State) (r : FaultRec) (cls region : Nat) : Bool :=
  r.isOpen && (r.region == region || (region == 2 && r.cls == 7) || (r.region == 2 && cls == 7) ||
    (region == 2 && r.cls == 3 && s.elapsed r.tick 128))

/-- The first open record that makes a further fault compound (R512). -/
def State.firstOpen (s : State) (cls region : Nat) : Option FaultRec :=
  s.flt.log.reverse.find? fun r => s.disturbs r cls region

/-- Open a fault record at detection, or count a further occurrence in the open one (R512, R515 to R517). A compound record links
to the first, and outside TIM and AON its ACTION has PERSIST (R514). -/
def State.openFault (s : State) (cls region location detail action : Nat) (escalated injected : Bool) : State :=
  match s.openRec cls region location with
  | some r =>
    { s with flt := { s.flt with log := s.flt.log.map fun x =>
        if x.fseq = r.fseq then { x with count := (x.count + 1) % 2 ^ 32, tick := s.clk.tick } else x } }
  | none =>
    let first := s.firstOpen cls region
    let outcome := if escalated then 3 else if first.isSome then 2 else 1
    let link := if escalated then 0 else (match first with | some f => f.fseq | none => 0)
    let action := if outcome = 2 ∧ 1 < region then action ||| 0x80 else action
    let r : FaultRec := ⟨s.flt.next, s.clk.rsn, cls, region, outcome, injected, action, location, detail % 2 ^ 64, 1, link,
      true, s.clk.tick⟩
    let s := { s with flt := { s.flt with next := s.flt.next + 1, log := (r :: s.flt.log).take 4096, lastRegion := region } }
    let s := match outcome with
      | 1 => s.bump .cfgPmFaultDetected 0 1
      | 2 => (s.bump .cfgPmFaultCompound 0 1).bump .cfgPmFaultEscalated 0 1
      | _ => s.bump .cfgPmFaultEscalated 0 1
    let s := if outcome = 1 then s else s.faultToMram r
    s.alarmEvent 0 false false 0x1F01 r.fseq 0 (r.bytes ++ List.replicate 16 0)

/-- A fault is reported: INJECTED where DIAG.FAULT_INJECT placed it (R518). -/
def State.report (s : State) (cls region location detail action : Nat) : State :=
  let mark := fun (x : Nat × Nat × Nat) => x.1 == cls && x.2.1 == region && x.2.2 == location
  let inj := s.flt.injected.any mark
  let s := { s with flt := { s.flt with injected := s.flt.injected.filter fun x => !mark x } }
  s.openFault cls region location detail action false inj

/-- Set ACTION bits in the open record of a class at a location. -/
def State.markRec (s : State) (cls region location bits : Nat) : State :=
  { s with flt := { s.flt with log := s.flt.log.map fun r =>
      if r.isOpen && r.cls == cls && r.region == region && r.location == location then { r with action := r.action ||| bits } else r } }

/-- A masked fault opens no record: it is counted, with at most one informational event per region per second (R516). -/
def State.maskedFault (s : State) (cls region : Nat) : State :=
  let s := s.bump .cfgPmFaultMasked 0 1
  let last := Table.get 0 s.flt.maskTick region
  if last = 0 ∨ last + secTicks ≤ s.clk.tick + 1 then
    ({ s with flt := { s.flt with maskTick := Table.put s.flt.maskTick region (s.clk.tick + 1) } }).info 0x2006 region cls
  else s

/-- A compound record is open in a region (R512). -/
def State.compoundIn (s : State) (region : Nat) : Bool :=
  s.flt.log.any fun r => r.isOpen && r.region == region && r.outcome == 2

/-! ### Errors on the matrix -/

/-- An error response reaches its master: read data is 0; J0 and J1 take a precise bus-error exception, and the Sared engine abandons the
message (R448; log entry 119). -/
def State.errorTo (s : State) (master addr : Nat) : State :=
  let s := { s with jcc := { s.jcc with error := true, readData := 0 } }
  if master < 2 then { s with jcc := { s.jcc with busError := Table.put s.jcc.busError master addr } }
  else if master = 11 then { s with pair := { s.pair with rxPart := [] } }
  else s

/-- The default target answers a request with an error: counted, and the first hit per master in each millisecond produces
an informational event (R448). -/
def State.defaultHit (s : State) (master addr : Nat) : State :=
  let s := (s.bump .cfgPmDefaultHits 0 1)
  let last := Table.get 0 s.jcc.hitTick master
  let s := s.errorTo master addr
  if last = 0 ∨ last + msTicks ≤ s.clk.tick + 1 then
    ({ s with jcc := { s.jcc with hitTick := Table.put s.jcc.hitTick master (s.clk.tick + 1) } }).info 0x2002 master addr
  else s

/-- A torn-write record for each write burst that a master reset cuts short (R460). cause is the kind of reset, 3 or 4; 16 an endpoint
reset, 17 the Sared link going down, 18 a reset of the JTAG port, 19 an abort by firmware (log entry 119). -/
def State.tornWrites (s : State) (cause : Nat) (bs : List Burst) : State :=
  match bs with
  | [] => s
  | b :: r =>
    let s := s.bump .cfgPmTornWrites 0 1
    let pay := leBytes 1 b.master ++ leBytes 1 b.target ++ leBytes 1 cause ++ List.replicate 5 0 ++
      leBytes 8 b.firstWritten ++ leBytes 8 b.lastWritten ++ leBytes 8 b.firstSuppressed ++ leBytes 8 b.lastSuppressed ++
      List.replicate 8 0
    (s.alarmEvent 0 false false 0x1F02 0 0 pay).tornWrites cause r

/-- Every semaphore of the masters that p selects is released (R456, R459). -/
def State.dropSems (s : State) (p : Nat → Bool) : State :=
  { s with jcc := { s.jcc with sems := s.jcc.sems.filter fun x => !(x.2 != 0 && p (x.2 - 1)) } }

end Sys2Proof.Machine
end

