-- ==== Sys2Proof/Machine/Frame.lean ====
section
/-!
DEFINITION. Machine/Frame.lean: the Fereri row bit by bit (R48 to R89): the CRCs, the information bytes of a row, the
scrambler, the RS(544,514) encoder and decoder, the line order, the PAM4 mapping and the precoder, what a receiver makes of a stretch
of the line, the symbols a transmitter sends, HDLC framing, and the lane trace message.
-/
namespace Sys2Proof.Machine

/-- One bit of a most-significant-bit-first CRC of w bits with polynomial poly. -/
def crcBitMsb (w poly : Nat) (crc : Nat) (b : Bool) : Nat :=
  let top := crc.testBit (w - 1) != b
  let sh := crc * 2 % 2 ^ w
  if top then Nat.xor sh poly else sh

/-- The eight bits of a byte into a most-significant-bit-first CRC. -/
def crcByteMsb (w poly : Nat) (crc : Nat) (b : Byte) : Nat :=
  [7, 6, 5, 4, 3, 2, 1, 0].foldl (fun c i => crcBitMsb w poly c (b.getLsbD i)) crc

/-- The CRC-16 of R63. -/
def crc16 (bs : List Byte) : BitVec 16 := BitVec.ofNat 16 (bs.foldl (crcByteMsb 16 0x1021) 0xFFFF)

/-- The CRC-8 of the sideband's packet error code (R406). -/
def crc8 (bs : List Byte) : BitVec 8 := BitVec.ofNat 8 (bs.foldl (crcByteMsb 8 0x07) 0)

/-- One bit of a reflected 32-bit CRC. -/
def crcBitLsb (poly : Nat) (crc : Nat) : Nat :=
  if crc.testBit 0 then Nat.xor (crc / 2) poly else crc / 2

/-- One byte into a reflected 32-bit CRC. -/
def crcByteLsb (poly : Nat) (crc : Nat) (b : Byte) : Nat :=
  [0, 1, 2, 3, 4, 5, 6, 7].foldl (fun c _ => crcBitLsb poly c) (Nat.xor crc b.toNat)

/-- The CRC-32C of R68: Castagnoli, reflected, initial value and final XOR all ones. -/
def crc32c (bs : List Byte) : BitVec 32 :=
  BitVec.ofNat 32 (Nat.xor (bs.foldl (crcByteLsb 0x82F63B78) 0xFFFFFFFF) 0xFFFFFFFF)

/-- The 32-bit FCS of ISO/IEC 13239 (R71): reflected polynomial 0xEDB88320, initial value and final XOR all ones (log
entry 14). -/
def fcs32 (bs : List Byte) : BitVec 32 :=
  BitVec.ofNat 32 (Nat.xor (bs.foldl (crcByteLsb 0xEDB88320) 0xFFFFFFFF) 0xFFFFFFFF)

/-- A grain's 16 bytes, the first in time first (R50). -/
def grainBytes (g : Grain) : List Byte := beBytes 16 g.toNat

/-- A grain of 16 bytes. -/
def grainOf (bs : List Byte) : Grain := BitVec.ofNat 128 (beNat bs)

/-- Grain AIS (R87). -/
def grainAis : Grain := BitVec.allOnes 128
/-- The idle grain, 16 × 0x5A (R87). -/
def grainIdle : Grain := 0x5A5A5A5A5A5A5A5A5A5A5A5A5A5A5A5A
/-- The tributary AIS slot (R87). -/
def slotAis : BitVec 64 := BitVec.allOnes 64

/-- Grain g of a row. -/
def rowGrain (r : RowContent) (g : Nat) : Grain := Table.get r.fill r.grains g

/-- Write grain g of a row. -/
def rowSetGrain (r : RowContent) (g : Nat) (w : Grain) : RowContent :=
  { r with grains := Table.set r.fill r.grains g w }

/-- A row of grain AIS. -/
def rowAis : RowContent := ⟨grainAis, []⟩
/-- A row of idle grains. -/
def rowIdle : RowContent := ⟨grainIdle, []⟩

/-- Slots per row: 128 in F221, 64 in F110 (R76). -/
def State.slotsOf (s : State) (l : Nat) : Nat := if s.cur .laneMode l = 0 then 128 else 64

/-- Codewords per row: 104 in F221, 52 in F110 (R49). -/
def State.codewordsOf (s : State) (l : Nat) : Nat := if s.cur .laneMode l = 0 then 104 else 52

/-- The alignment word: 8 × 0x3D then 8 × 0xC2 (R61). -/
def alignmentWord : List Byte := List.replicate 8 0x3D ++ List.replicate 8 0xC2

/-- The n slots of a row from slot k on. -/
def slotBytes (t : Table (BitVec 64)) (k n : Nat) : List Byte :=
  match n with
  | 0 => []
  | m + 1 => beBytes 8 (Table.get 0 t k).toNat ++ slotBytes t (k + 1) m

/-- The bytes of n grains from grain k on. -/
def contentBytes (r : RowContent) (k n : Nat) : List Byte :=
  match n with
  | 0 => []
  | m + 1 => grainBytes (rowGrain r k) ++ contentBytes r (k + 1) m

/-- The information bytes of a row in F221 or F110 (R49, R50, R61): lane overhead, tributary overhead area, grains. -/
def infoBytes (f221 : Bool) (t : TxRow) : List Byte :=
  let rsn := beBytes 6 t.rsn.toNat
  let aps := padTo 14 t.aps
  alignmentWord ++ rsn ++ beBytes 2 (crc16 rsn).toNat ++ [t.trace, t.ql] ++ beBytes 2 t.remote.toNat ++
  beBytes 4 t.check.toNat ++ aps ++ beBytes 2 (crc16 aps).toNat ++ padTo 64 t.mgmt ++ beBytes 8 t.tod.toNat ++
  [t.validity] ++ List.replicate 9 0 ++ (if f221 then padTo 130 t.ext else []) ++
  slotBytes t.slots 0 (if f221 then 128 else 64) ++ contentBytes t.content 0 (if f221 then 4096 else 2048)

/-- Bits of a byte, most significant first (R52). -/
def bitsOfByte (b : Byte) : List Bool := [7, 6, 5, 4, 3, 2, 1, 0].map fun i => b.getLsbD i

/-- The scrambler of R59 from a state on. -/
def scrambleFrom (st : Nat) (bs : List Bool) : List Bool :=
  match bs with
  | [] => []
  | b :: r =>
    let k := st.testBit 30 != st.testBit 27
    (b != k) :: scrambleFrom (st * 2 % 2 ^ 31 + if k then 1 else 0) r

/-- Scramble the information bits of a row: bits 0–127 pass, the rest is scrambled from the seed (R59). Descrambling is the
same operation (R60). -/
def scramble (bs : List Bool) : List Bool := bs.take 128 ++ scrambleFrom 0x55555555 (bs.drop 128)

/-- Line bit of an information bit (R53). -/
def lineBit (i : Nat) : Nat := 5440 * (i / 5140) + i % 5140

/-- Multiplication in GF(2^10) with x^10 + x^3 + 1 (R54). -/
def gfMul (a b : Nat) : Nat :=
  [9, 8, 7, 6, 5, 4, 3, 2, 1, 0].foldl (fun acc i =>
    let sh := acc * 2
    let sh := if sh.testBit 10 then Nat.xor sh 0x409 else sh
    if b.testBit i then Nat.xor sh a else sh) 0

/-- A sum of polynomials over GF(2^10), coefficient by coefficient, lowest degree first. -/
def polyAdd (p q : List Nat) : List Nat :=
  match p, q with
  | [], q => q
  | p, [] => p
  | a :: p, b :: q => Nat.xor a b :: polyAdd p q

/-- A polynomial, lowest degree first, at a point. -/
def polyAt (p : List Nat) (x : Nat) : Nat := p.foldr (fun c acc => Nat.xor c (gfMul acc x)) 0

/-- The product of two polynomials, lowest degree first. -/
def polyMul (p q : List Nat) : List Nat :=
  match p with
  | [] => []
  | a :: r => polyAdd (q.map (gfMul a)) (0 :: polyMul r q)

/-- α^k for k = 0 to n − 1, times a (R54). -/
def gfPowers (n a : Nat) : List Nat :=
  match n with
  | 0 => []
  | m + 1 => a :: gfPowers m (gfMul a 2)

/-- α^k (R54). -/
def gfExp (k : Nat) : Nat :=
  match k with
  | 0 => 1
  | m + 1 => gfMul (gfExp m) 2

/-- The inverse a^1022 of a non-zero field element. -/
def gfInv (a : Nat) : Nat :=
  ((List.range 9).foldl (fun (x : Nat × Nat) _ => let q := gfMul x.1 x.1; (q, gfMul x.2 q)) (a, 1)).2

/-- Multiply a polynomial, highest degree first, by (x + r). -/
def polyMulRoot (p : List Nat) (r : Nat) : List Nat :=
  List.zipWith Nat.xor (p ++ [0]) (0 :: p.map (gfMul r))

/-- The generator polynomial with roots α^0 to α^29, from n roots on (R54). -/
def rsGenerator (n : Nat) (root : Nat) (p : List Nat) : List Nat :=
  match n with
  | 0 => p
  | m + 1 => rsGenerator m (gfMul root 2) (polyMulRoot p root)

/-- The 30 parity symbols of a message, highest degree first (R53, R54). -/
def rsParity (msg : List Nat) : List Nat :=
  let g := (rsGenerator 30 1 [1]).drop 1
  msg.foldl (fun reg m =>
    match reg with
    | [] => []
    | t :: rest => let f := Nat.xor t m; List.zipWith Nat.xor (rest ++ [0]) (g.map (gfMul f))) (List.replicate 30 0)

/-- A symbol of 10 bits, the first bit most significant. -/
def symbolOf (bs : List Bool) : Nat := bs.foldl (fun v b => v * 2 + if b then 1 else 0) 0

/-- The 10 bits of a symbol. -/
def bitsOfSymbol (v : Nat) : List Bool := [9, 8, 7, 6, 5, 4, 3, 2, 1, 0].map fun i => v.testBit i

/-- The symbols of n × 10 bits. -/
def symbolsOf (n : Nat) (bs : List Bool) : List Nat :=
  match n with
  | 0 => []
  | m + 1 => symbolOf (bs.take 10) :: symbolsOf m (bs.drop 10)

/-- The line bits of n codewords: 514 message symbols and 30 parity symbols each (R53). -/
def encodeWords (n : Nat) (bs : List Bool) : List Bool :=
  match n with
  | 0 => []
  | m + 1 =>
    let msg := bs.take 5140
    msg ++ (rsParity (symbolsOf 514 msg)).flatMap bitsOfSymbol ++ encodeWords m (bs.drop 5140)

/-- Gray value of a pair of line bits (R56). -/
def gray (a b : Bool) : Nat :=
  match a, b with
  | false, false => 0
  | false, true => 1
  | true, true => 2
  | true, false => 3

/-- Gray values of line bits. -/
def grayAll (bs : List Bool) : List Nat :=
  match bs with
  | a :: b :: r => gray a b :: grayAll r
  | _ => []

/-- The precoder of R57 from level p on. -/
def precodeFrom (p : Nat) (gs : List Nat) : List Nat :=
  match gs with
  | [] => []
  | g :: r => let q := (g + 4 - p % 4) % 4; q :: precodeFrom q r

/-- The line bits of a row (R48). -/
def lineBits (f221 : Bool) (t : TxRow) : List Bool :=
  encodeWords (if f221 then 104 else 52) (scramble ((infoBytes f221 t).flatMap bitsOfByte))

/-- Precoder level after a row (R57). -/
def precodeAfter (p : Nat) (gs : List Nat) : Nat :=
  match gs with
  | [] => p
  | g :: r => precodeAfter ((g + 4 - p % 4) % 4) r

/-! ### What is sent on the line (R48, R316, R317, R323) -/

/-- Invert a bit at each place of a list that a test names; i is the place of the head. -/
def invertAt (hit : Nat → Bool) (i : Nat) (bs : List Bool) : List Bool :=
  match bs with
  | [] => []
  | b :: r => (b != hit i) :: invertAt hit (i + 1) r

/-- Place i of n places is one of k spread evenly over them: the multiples of k that cross a multiple of n (R323; log entry 105). -/
def spread (k n i : Nat) : Bool := decide ((i + 1) * k / n ≠ i * k / n)

/-- k places of a codeword, each once: which ones an injection corrupts the manual leaves open (R323). -/
def pickSymbols (c k : Nat) (pool : List Nat) : List Nat :=
  match k with
  | 0 => []
  | m + 1 =>
    let i := Config.corrupted c m % pool.length
    pool.getD i 0 :: pickSymbols c m (pool.eraseIdx i)

/-- Corrupt k symbols of every codeword but codeword 0 (R323): what they become the manual leaves open. -/
def corruptWords (k : Nat) (c : Nat) (ws : List (List Nat)) : List (List Nat) :=
  match ws with
  | [] => []
  | w :: r =>
    let at' := if c = 0 then [] else pickSymbols c k (List.range w.length)
    w.mapIdx (fun i v => if at'.contains i then (v + 1 + Config.corruption k c i % 1023) % 1024 else v) :: corruptWords k (c + 1) r

/-- n symbols of each of the codewords of a row. -/
def rowWords (n : Nat) (bs : List Bool) : List (List Nat) :=
  match n with
  | 0 => []
  | m + 1 => symbolsOf 544 (bs.take 5440) :: rowWords m (bs.drop 5440)

/-- An injection of kind RSN_CRC, ROW_CHECK or PAYLOAD_BIT at work on the information bits of a row before scrambling (R323); codes
are those of TxRow.inj. -/
def injectInfo (f221 : Bool) (inj : Nat × Nat) (bits : List Bool) : List Bool :=
  let b := if f221 then 10272 else 5136
  let n := if f221 then 524288 else 262144
  match inj.1 with
  | 3 => invertAt (fun i => decide (22 ≤ i / 8 ∧ i / 8 < 24)) 0 bits
  | 4 => invertAt (fun i => decide (28 ≤ i / 8 ∧ i / 8 < 32)) 0 bits
  | 5 => bits.take b ++ invertAt (spread inj.2 n) 0 (bits.drop b)
  | _ => bits

/-- An injection of kind SYM or AW at work on the line bits of a row (R323). -/
def injectLine (f221 : Bool) (inj : Nat × Nat) (bits : List Bool) : List Bool :=
  let n := if f221 then 104 else 52
  if inj.1 = 1 then (corruptWords inj.2 0 (rowWords n bits)).flatMap fun w => w.flatMap bitsOfSymbol
  else if inj.1 = 2 then invertAt (fun i => decide (i < inj.2)) 0 bits
  else bits

/-- The line bits of a row as they are sent (R48, R323). -/
def injectedBits (f221 : Bool) (t : TxRow) : List Bool :=
  injectLine f221 t.inj (encodeWords (if f221 then 104 else 52) (scramble (injectInfo f221 t.inj ((infoBytes f221 t).flatMap bitsOfByte))))

/-- The next bit of a pattern whose register holds the last bits, the newest lowest, is the sum of the taps (R317, R322). -/
def tapBit (taps : List Nat) (reg : Nat) : Bool := taps.foldl (fun v i => v != reg.testBit i) false

/-- Register width and taps of PRBS13 and PRBS31 by the code of lane.prbs_pattern (R317, R321): 1 + x + x² + x¹² + x¹³ and
1 + x²⁸ + x³¹ (IEEE 802.3; log entry 106). -/
def prbsTaps (pattern : Nat) : Nat × List Nat := if pattern = 0 then (13, [12, 11, 1, 0]) else (31, [30, 27])

/-- PRBS31 leaves inverted (IEEE 802.3; log entry 106). -/
def prbsInverted (pattern : Nat) : Bool := pattern == 1

/-- n bits of a pattern's register from reg on, after skip bits that are passed over. -/
def patternBits (w : Nat) (taps : List Nat) (inv : Bool) (reg skip n : Nat) : List Bool :=
  match skip, n with
  | 0, 0 => []
  | k + 1, n => patternBits w taps inv ((reg * 2 + (tapBit taps reg).toNat) % 2 ^ w) k n
  | 0, m + 1 =>
    let b := tapBit taps reg
    (b != inv) :: patternBits w taps inv ((reg * 2 + b.toNat) % 2 ^ w) 0 m

/-- n symbols of a LINE pattern from symbol i after its start on, by the code of lane.prbs_pattern (R317): PRBS13Q and PRBS31Q are
the pattern's bits in Gray-coded pairs, of a period of 2^w − 1 symbols, from a start that the standard leaves open; SSPRQ is the
standard's sequence of 65,535 symbols; SQ8 is 8 symbols at level 3, then 8 at level 0 (log entry 106). -/
def patternLine (pattern i n : Nat) : List Nat :=
  if pattern = 3 then (List.range n).map fun j => if (i + j) % 16 < 8 then 3 else 0
  else if pattern = 2 then (List.range n).map fun j => Config.ssprq ((i + j) % 65535) % 4
  else
    let (w, taps) := prbsTaps pattern
    let start := Config.prbsStart pattern % (2 ^ w - 1) + 1
    grayAll (patternBits w taps (prbsInverted pattern) start (2 * (i % (2 ^ w - 1))) (2 * n))

/-- The symbols of a LINE pattern, k of every N of them in error (R317, R323). -/
def corruptLine (k total : Nat) (ls : List Nat) : List Nat :=
  ls.mapIdx fun j v => if spread k total j then (v + 1 + Config.corruption k 0 j % 3) % 4 else v

/-- Symbols of a row (R56). -/
def rowSymbols (f221 : Bool) : Nat := if f221 then 282880 else 141440

/-- The Gray values or pattern levels of the row being sent, before precoding and polarity (R48, R56, R317). -/
def TxRow.grayValues (f221 : Bool) (t : TxRow) : List Nat := grayAll (injectedBits f221 t)

/-- The level indices that leave the TX pins in the row (R48, R56, R57, R316 to R318, R323, R324); none: electrical idle. A far loop
sends the symbols that it holds. -/
def TxRow.levels (f221 : Bool) (t : TxRow) : List Nat :=
  if t.idle then []
  else
    let ls :=
      if t.far then t.symbols
      else if t.line ≠ 0 then
        corruptLine (if t.inj.1 = 6 then t.inj.2 else 0) (rowSymbols f221) (patternLine (t.line - 1) t.pos (rowSymbols f221))
      else if t.precode then precodeFrom t.start (t.grayValues f221)
      else t.grayValues f221
    if t.inverted then ls.map fun x => 3 - x else ls

/-! ### What a receiver makes of the line (R48, R54 to R60, R93) -/

/-- Level indices after the receiver's polarity map (R97). -/
def polarityMap (inv : Bool) (ls : List Nat) : List Nat := if inv then ls.map fun x => 3 - x % 4 else ls

/-- The receiver's recovery of Gray values from precoded levels, from the level p before them on (R57). -/
def deprecode (p : Nat) (ls : List Nat) : List Nat :=
  match ls with
  | [] => []
  | x :: r => (x + p) % 4 :: deprecode x r

/-- The line bits of a Gray value (R56). -/
def grayBits (g : Nat) : List Bool :=
  match g % 4 with
  | 0 => [false, false]
  | 1 => [false, true]
  | 2 => [true, true]
  | _ => [true, false]

/-- The raw line bits of a stretch of n symbols (R56, R57): a symbol that is missing reads as level 0. -/
def rawBits (r : RawRow) (n : Nat) (precode inv : Bool) : List Bool :=
  let ls := r.levels.take n
  let ls := polarityMap inv (ls ++ List.replicate (n - ls.length) 0)
  let p := if inv then 3 - r.prev % 4 else r.prev
  ((if precode then deprecode p ls else ls).flatMap grayBits)

/-- Places at which two bit lists differ. -/
def bitErrors (a b : List Bool) : Nat := ((List.zipWith (fun x y => x != y) a b).filter id).length

/-- An alignment word as a P/N reversal shows it (R58): without precoding the first bit of each pair is complemented, with it the
pairs 00 and 11 change places. -/
def reversedWord (precode : Bool) (w : List Byte) : List Byte :=
  if precode then
    if w = alignmentWord then List.replicate 8 0xC1 ++ List.replicate 8 0x3E else w
  else w.map fun b => b ^^^ 0xAA

/-- The 30 syndromes of a received codeword, highest degree first: its values at α^0 to α^29 (R54). -/
def rsSyndromes (w : List Nat) : List Nat :=
  (gfPowers 30 1).map fun a => w.foldl (fun acc c => Nat.xor (gfMul acc a) c) 0

/-- The error locator of a list of syndromes by the algorithm of Berlekamp and Massey: C, B, L, m, b, and the syndromes seen, the
newest first. -/
def rsLocate (ss seen : List Nat) (c b : List Nat) (l m d0 : Nat) : List Nat × Nat :=
  match ss with
  | [] => (c, l)
  | s :: rest =>
    let seen := s :: seen
    let d := (List.zipWith gfMul c seen).foldl Nat.xor 0
    if d = 0 then rsLocate rest seen c b l (m + 1) d0
    else
      let f := gfMul d (gfInv d0)
      let c' := polyAdd c (List.replicate m 0 ++ b.map (gfMul f))
      if 2 * l ≤ seen.length - 1 then rsLocate rest seen c' c (seen.length - l) 1 d
      else rsLocate rest seen c' b l (m + 1) d0

/-- The formal derivative of a polynomial over a field of characteristic 2. -/
def polyDerive (p : List Nat) : List Nat :=
  match p with
  | [] => []
  | [_] => []
  | [_, a] => [a]
  | _ :: a :: r => a :: 0 :: polyDerive r

/-- Correct the symbols of a codeword, highest degree first, where the locator has its roots (Chien, Forney); x is the inverse of
the head's place α^j. Answers the symbols and the number corrected. -/
def rsCorrect (lam om dlam : List Nat) (x : Nat) (w : List Nat) : List Nat × Nat :=
  match w with
  | [] => ([], 0)
  | c :: r =>
    let (t, n) := rsCorrect lam om dlam (gfMul x 2) r
    if polyAt lam x = 0 then
      (Nat.xor c (gfMul (gfInv x) (gfMul (polyAt om x) (gfInv (polyAt dlam x)))) :: t, n + 1)
    else (c :: t, n)

/-- Decode a codeword of 544 symbols: the symbols and how many were corrected, at most 15, or uncorrectable (R54, R55). -/
def rsDecode (w : List Nat) : Option (List Nat × Nat) :=
  let ss := rsSyndromes w
  if ss.all (· == 0) then some (w, 0)
  else
    let (lam, l) := rsLocate ss [] [1] [1] 0 1 1
    let om := (polyMul ss lam).take 30
    let (w', n) := rsCorrect lam om (polyDerive lam) (gfExp 480) w
    if n = l ∧ n ≤ 15 ∧ (rsSyndromes w').all (· == 0) = true then some (w', n) else none

/-- What the decoder makes of the codewords of a row: those corrected with their corrected symbols, those uncorrectable, and the
message bits, those of an uncorrectable codeword as received (R55). -/
structure Decoded where
  corr : List (Nat × Nat)
  unc : List Nat
  bits : List Bool

/-- Decode n codewords, c being the number of the first (R53 to R55). -/
def decodeWords (n c : Nat) (bs : List Bool) : Decoded :=
  match n with
  | 0 => ⟨[], [], []⟩
  | m + 1 =>
    let w := bs.take 5440
    let d := decodeWords m (c + 1) (bs.drop 5440)
    match rsDecode (symbolsOf 544 w) with
    | none => ⟨d.corr, c :: d.unc, w.take 5140 ++ d.bits⟩
    | some (_, 0) => ⟨d.corr, d.unc, w.take 5140 ++ d.bits⟩
    | some (v, k) => ⟨(c, k) :: d.corr, d.unc, (v.take 514).flatMap bitsOfSymbol ++ d.bits⟩

/-- The bytes of a list of bits (R52). -/
def bytesOfBits (bs : List Bool) : List Byte :=
  match bs with
  | a :: b :: c :: d :: e :: f :: g :: h :: r => BitVec.ofNat 8 (symbolOf [a, b, c, d, e, f, g, h]) :: bytesOfBits r
  | _ => []

/-- A received row as its receiver holds it: the places at which the word at the alignment position differs from the two forms of
R58, the decoder's outcome by codeword, and the information bytes after FEC correction and descrambling (R48, R55, R60). -/
structure LineRow where
  f221 : Bool
  signal : Bool
  offset : Nat
  theta : Int
  trueErrs : Nat
  revErrs : Nat
  corr : List (Nat × Nat)
  unc : List Nat
  info : List Byte

/-- Bits of the alignment word that differ from its true and from its reversed form (R58, R93). -/
def wordErrs (r : RawRow) (precode : Bool) (w : List Byte) : Nat × Nat :=
  let bs := rawBits r 64 precode false
  (bitErrors bs (w.flatMap bitsOfByte), bitErrors bs ((reversedWord precode w).flatMap bitsOfByte))

/-- A receiver undoes the steps of R48 in reverse order: polarity, precoding, Gray mapping, FEC, scrambler. -/
def lineRowOf (r : RawRow) (f221 precode inv : Bool) : LineRow :=
  let d := decodeWords (if f221 then 104 else 52) 0 (rawBits r (rowSymbols f221) precode inv)
  let e := wordErrs r precode alignmentWord
  { f221 := f221, signal := r.signal, offset := r.offset, theta := r.theta, trueErrs := e.1, revErrs := e.2, corr := d.corr,
    unc := d.unc, info := bytesOfBits (scramble d.bits) }

/-- Bytes k to k + n − 1 of the row. -/
def LineRow.field (r : LineRow) (k n : Nat) : List Byte := (r.info.drop k).take n

/-- The RSN field (R62). -/
def LineRow.rsn (r : LineRow) : Rsn := BitVec.ofNat 48 (beNat (r.field 16 6))
/-- The RSN CRC is correct (R63). -/
def LineRow.rsnCrcOk (r : LineRow) : Bool := beNat (r.field 22 2) == (crc16 (r.field 16 6)).toNat
/-- The lane trace byte (R64). -/
def LineRow.trace (r : LineRow) : Byte := (r.field 24 1).getD 0 0
/-- The QL byte (R66). -/
def LineRow.ql (r : LineRow) : Byte := (r.field 25 1).getD 0 0
/-- Remote status (R67). -/
def LineRow.remote (r : LineRow) : BitVec 16 := BitVec.ofNat 16 (beNat (r.field 26 2))
/-- The row check of the row before (R68). -/
def LineRow.check (r : LineRow) : BitVec 32 := BitVec.ofNat 32 (beNat (r.field 28 4))
/-- The APS channel with its CRC (R70). -/
def LineRow.aps (r : LineRow) : List Byte := r.field 32 16
/-- The management octets (R71). -/
def LineRow.mgmt (r : LineRow) : List Byte := r.field 48 64
/-- The extended management octets of F221 (R71). -/
def LineRow.ext (r : LineRow) : List Byte := r.field 130 130
/-- The validity byte (R74). -/
def LineRow.validity (r : LineRow) : Byte := (r.field 120 1).getD 0 0
/-- Where the tributary overhead area begins, and how many slots it has (R49). -/
def LineRow.slotBase (r : LineRow) : Nat × Nat := if r.f221 then (260, 128) else (130, 64)
/-- Where the grains begin, and how many there are (R49). -/
def LineRow.grainBase (r : LineRow) : Nat × Nat := if r.f221 then (1284, 4096) else (642, 2048)

/-- The entries of a table read from n fields of w bytes each; those that hold the default are not listed. -/
def fieldTable {α : Type} [DecidableEq α] (dflt : α) (mk : List Byte → α) (w k n : Nat) (bs : List Byte) : Table α :=
  match n with
  | 0 => []
  | m + 1 =>
    let v := mk (bs.take w)
    let t := fieldTable dflt mk w (k + 1) m (bs.drop w)
    if v = dflt then t else (k, v) :: t

/-- The tributary overhead slots of the row (R76). -/
def LineRow.slots (r : LineRow) : Table (BitVec 64) :=
  fieldTable 0 (fun b => BitVec.ofNat 64 (beNat b)) 8 0 r.slotBase.2 (r.info.drop r.slotBase.1)
/-- The grains of the row (R50). -/
def LineRow.content (r : LineRow) : RowContent :=
  ⟨grainAis, fieldTable grainAis grainOf 16 0 r.grainBase.2 (r.info.drop r.grainBase.1)⟩

/-- CRC-32C over the information bytes of a received row after FEC correction (R68, R69). -/
def lineCrc (r : LineRow) : BitVec 32 := crc32c r.info

/-- The row's line bits with fresh parity, as a FAR_ROW loop sends them on; an uncorrectable codeword keeps the bytes as received
(R324, R327). -/
def LineRow.resend (r : LineRow) : List Nat :=
  grayAll (encodeWords (if r.f221 then 104 else 52) (scramble (r.info.flatMap bitsOfByte)))

/-- The message bits of n codewords. -/
def wordMessages (n : Nat) (bs : List Bool) : List Bool :=
  match n with
  | 0 => []
  | m + 1 => bs.take 5140 ++ wordMessages m (bs.drop 5440)

/-- n codewords with other message bits and the parity as received. -/
def withMessages (n : Nat) (msg line : List Bool) : List Bool :=
  match n with
  | 0 => []
  | m + 1 => msg.take 5140 ++ (line.drop 5140).take 300 ++ withMessages m (msg.drop 5140) (line.drop 5440)

/-- The row that a far loop sends, with the injection programme that runs on at work on it (R323, R324, R336): SYM and AW on its line
symbols, RSN_CRC, ROW_CHECK and PAYLOAD_BIT on its information bits, under FAR_ROW before the fresh encoding, under FAR_ANALOG, which
encodes nothing, with the parity as received (log entry 105). A loop sends no LINE pattern of its own. -/
def injectFar (f221 fresh : Bool) (inj : Nat × Nat) (ys : List Nat) : List Nat :=
  let n := if f221 then 104 else 52
  let line := ys.flatMap grayBits
  if inj.1 = 1 ∨ inj.1 = 2 then grayAll (injectLine f221 inj line)
  else if 3 ≤ inj.1 ∧ inj.1 ≤ 5 then
    let msg := scramble (injectInfo f221 inj (scramble (wordMessages n line)))
    grayAll (if fresh then encodeWords n msg else withMessages n msg line)
  else ys

/-! ### Lane trace (R64) -/

/-- The 64 bytes of the lane trace message (R64). -/
def laneTraceMsg (serial : Nat) (planeB : Bool) (lane : Nat) (text : List Byte) : List Byte :=
  let m := beBytes 8 serial ++ [BitVec.ofNat 8 ((if planeB then 128 else 0) + lane / 256), BitVec.ofNat 8 lane, 0, 0] ++
    padTo 32 text ++ List.replicate 18 0
  m ++ beBytes 2 (crc16 m).toNat

/-- A 64-byte trace message carries a correct CRC at positions 62 and 63 (R64, R81). -/
def traceCrcOk (m : List Byte) : Bool := beNat (m.drop 62) == (crc16 (m.take 62)).toNat

/-- Sender identity of a lane trace message. -/
def traceIdentity (m : List Byte) : Nat := beNat (m.take 8)
/-- Sender plane: bit 7 of position 8. -/
def tracePlane (m : List Byte) : Nat := (m.getD 8 0).toNat / 128
/-- Sender lane number: bit 0 of position 8 and position 9. -/
def traceLane (m : List Byte) : Nat := (m.getD 8 0).toNat % 2 * 256 + (m.getD 9 0).toNat
/-- Trace text. -/
def traceText (m : List Byte) : List Byte := (m.drop 12).take 32

/-! ### HDLC (R71, R72) -/

/-- Octet transparency: 0x7E and 0x7D are sent as 0x7D and the octet XOR 0x20. -/
def hdlcStuff (bs : List Byte) : List Byte :=
  match bs with
  | [] => []
  | b :: r => if b = 0x7E ∨ b = 0x7D then 0x7D :: (b ^^^ 0x20) :: hdlcStuff r else b :: hdlcStuff r

/-- A frame on the line: the opening flag, the information field and its FCS, least significant byte first, and the closing
flag (log entry 14). -/
def hdlcFrame (info : List Byte) : List Byte :=
  0x7E :: hdlcStuff (info ++ leBytes 4 (fcs32 info).toNat) ++ [0x7E]

/-- One received octet. State: octets collected, in a frame, after an escape. Answers the next state and the frame that a
closing flag completes. A control escape followed by a flag is the abort of ISO/IEC 13239: the frame is dropped unseen; any other octet
after it, an escape too, is XORed with 0x20. -/
def hdlcOctet (st : List Byte × Bool × Bool) (b : Byte) : (List Byte × Bool × Bool) × Option (List Byte) :=
  let (acc, on, esc) := st
  if b = 0x7E then (([], true, false), if on && !esc && !acc.isEmpty then some acc else none)
  else if !on then ((acc, false, false), none)
  else if esc then ((acc ++ [b ^^^ 0x20], true, false), none)
  else if b = 0x7D then ((acc, true, true), none)
  else ((acc ++ [b], true, false), none)

/-- A received frame is good: its FCS is right and its information field has 1–4,096 octets (R72). -/
def hdlcGood (f : List Byte) : Option (List Byte) :=
  let n := f.length - 4
  let info := f.take n
  if 5 ≤ f.length ∧ n ≤ 4096 ∧ leNat (f.drop n) = (fcs32 info).toNat then some info else none

/-- Octets through the receiver: the state after them and the frames completed, in order. -/
def hdlcRun (st : List Byte × Bool × Bool) (bs : List Byte) : (List Byte × Bool × Bool) × List (List Byte) :=
  match bs with
  | [] => (st, [])
  | b :: r =>
    let (st, f) := hdlcOctet st b
    let (st, fs) := hdlcRun st r
    (st, match f with | some x => x :: fs | none => fs)

/-- The next n octets of a channel: octets of the frame being sent, then queued frames, then flags (R71). Answers the
octets, the octets left, the frames left and the number of frames started. -/
def hdlcSend (n : Nat) (cur : List Byte) (q : List (List Byte)) : List Byte × List Byte × List (List Byte) × Nat :=
  match q with
  | [] => (cur.take n ++ List.replicate (n - cur.length) 0x7E, cur.drop n, [], 0)
  | f :: r =>
    if n ≤ cur.length then (cur.take n, cur.drop n, f :: r, 0)
    else let (a, b, c, k) := hdlcSend n (cur ++ hdlcFrame f) r; (a, b, c, k + 1)

end Sys2Proof.Machine
end

