-- ==== Sys2Proof/Machine/TribRx.lean ====
section
/-!
DEFINITION. Machine/TribRx.lean: what a judged lane row does to the tributaries of its lane: the pointer, the overhead
slot, the path trace, BIP-8 and the write side of the elastic ring (R76 to R86, R121 to R134, R144, R145).
-/
namespace Sys2Proof.Machine

/-- A near loop is in force: the receiver sees the lane's own transmitter (R324, R326). -/
def Lane.near (x : Lane) : Bool := x.test.loop == 1 || x.test.loop == 2

/-- A parity-protected field of the lane's receive direction is in doubt (R509). -/
def State.rxDoubt (s : State) (l : Nat) : Bool :=
  s.flt.parityBad.any fun p => decide (0x20 ≤ p.1 ∧ p.1 < 0x28) && p.2 == l + 512

/-- A consequent action that places ingress AIS on the lane is in force (R106, R110), or its receive block is in doubt (R509). -/
def State.ingressAis (s : State) (l : Nat) : Bool :=
  let x := s.lane l
  x.los || x.lof || x.anf || (x.tim && s.flag .laneTimAction l) || x.slf || s.rxDoubt l

/-- The merge pair that a lane belongs to. -/
def State.pairOf (s : State) (l : Nat) : Option Merge :=
  s.prot.merges.find? fun m => m.laneA == l || m.laneB == l

/-- Lower-numbered lane of a pair. -/
def Merge.low (m : Merge) : Nat := min m.laneA m.laneB
/-- Higher-numbered lane of a pair. -/
def Merge.high (m : Merge) : Nat := max m.laneA m.laneB

/-- The lane whose tributaries read the rows of a lane: the lower one of a pair that merges (R124). -/
def State.tribLane (s : State) (l : Nat) : Nat :=
  match s.pairOf l with
  | some m => if m.active then m.low else l
  | none => l

/-- No content reaches the tributaries that read a lane: ingress AIS, or the direction is off; on a pair that merges, on both lanes
(R106, R124, R134, R174). -/
def State.tribsDown (s : State) (l : Nat) : Bool :=
  let down := fun (k : Nat) => !(s.lane k).rxOn || s.ingressAis k
  match s.pairOf l with
  | some m => if m.active then down m.laneA && down m.laneB else down l
  | none => down l

/-- n of a tributary. -/
def Trib.n (t : Trib) : Nat := t.grains.length

/-- Overhead position p: the lowest member grain (R76); the list is kept in ascending order. -/
def Trib.pos (t : Trib) : Nat := t.grains.headD 0

/-- The defects of R138 that put the egress of a tributary into AIS. -/
def State.tribAis (s : State) (k : Nat) : Bool :=
  let t := s.trib k
  t.tais || t.tlop || t.tszm || t.tuneq || (t.tplm && s.flag .tribPlmAction k) || (t.ttim && s.flag .tribTimAction k)

/-- The tributary gives SF to selectors: the defects whose action names it (R144). -/
def State.tribSf (s : State) (k : Nat) : Bool := s.tribAis k

/-- The tributary raises PRDI (R144, R146). -/
def State.tribPrdi (s : State) (k : Nat) : Bool := s.tribAis k

/-- The defects that TLOP holds clear; the integration of each, the path trace run of TTIM among them, restarts from zero (R144, R145). -/
def Trib.holdByLop (t : Trib) : Trib :=
  { t with
    tszm := false
    tuneq := false
    tplm := false
    ttim := false
    tsd := false
    trdi := false
    ptBuf := []
    ptLen := 0
    ptLast := []
    ptRun := 0
    ptAcc := none
    runs := { inv := t.runs.inv, ais := t.runs.ais, leave := t.runs.leave, slipOk := t.runs.slipOk } }

/-- TAIS sets and holds the other defects of R145 clear; their integration restarts from zero. The pointer's own state, an announcement
and a candidate among it, stays (R131, R132). -/
def Trib.enterTais (t : Trib) : Trib :=
  { t.holdByLop with
    tais := true
    tlop := false
    runs := { slipOk := t.runs.slipOk } }

/-- While TAIS or TLOP is set the defects it holds stay clear (R145). -/
def Trib.mask (t : Trib) : Trib :=
  if t.tais then { t.enterTais with runs := { leave := t.runs.leave, slipOk := t.runs.slipOk } }
  else if t.tlop then t.holdByLop else t

/-- Ingress AIS on a lane puts each of its tributaries into TAIS at once; those of a pair that merges read the merged row (R124, R134,
R144). -/
def State.laneTais (s : State) (l : Nat) : State :=
  if s.tribsDown l then
    let k := s.tribLane l
    { s with tribs := Table.mapVals {} (fun _ t => if t.on && t.lane == k && !t.tais then t.enterTais else t) s.tribs }
  else s

/-- TTIM after an acceptance or a change of trib.trace_check or trib.trace_expected (R144, R152). -/
def State.evalTtim (s : State) (k : Nat) : State :=
  let t := s.trib k
  match t.ptAcc with
  | none => if s.cur .tribTraceCheck k = 0 then s.setTrib k { t with ttim := false } else s
  | some m =>
    let differs := leNat (m.take 62) ≠ s.cur .tribTraceExpected k
    s.setTrib k { t with ttim := s.cur .tribTraceCheck k = 1 && differs && !t.tais && !t.tlop }

/-- The unit with index u of a PMF carries data, by the justification executed in that PMF: 0 none, 1 positive, 2 negative
(R127). -/
def carriesData (exec u : Nat) : Bool :=
  match exec with
  | 0 => decide (u ≤ 510)
  | 1 => decide (1 ≤ u ∧ u ≤ 510)
  | _ => true

/-- First data-carrying unit of a PMF (R127, R128). -/
def firstData (exec : Nat) : Nat := if exec = 1 then 1 else 0

/-- Pointer after a PMF that executed a justification (R129). -/
def pointerAfter (exec p : Nat) : Nat :=
  match exec with
  | 0 => p
  | 1 => (p + 1) % 511
  | _ => (p + 510) % 511

/-- Units that the list of a ring keeps: the 48 of the ring, a row on its way into it and a row on its way out, for the model moves the
units of a row at once (R125, R126; log entry 107). -/
def ringKeep : Nat := 80

/-- Write units into the ring, which keeps the newest (R126). Fill units are never written; the first unit of a PMF that a positive
justification leaves without data is kept aside. A container start repeats every 511 data-carrying units (R128). -/
def Trib.writeUnits (t : Trib) (u n : Nat) (bs : List Byte) : Trib :=
  match n with
  | 0 => t
  | m + 1 =>
    let t := if carriesData t.rxExec u then
        let r := t.ring ++ [⟨u, t.rxToStart == 0, bs.take t.n⟩]
        { t with
          ring := r.drop (r.length - ringKeep)
          fill := t.fill + 1
          rxToStart := if t.rxToStart = 0 then 510 else t.rxToStart - 1 }
      else if u = 0 then { t with spare := bs.take t.n } else t
    t.writeUnits (u + 1) m (bs.drop t.n)

/-- A positive justification under way is cancelled: U000 of the PMF carries data after all, and takes its place before U001 where that
still waits in the ring (R132). -/
def Trib.cancelExec (t : Trib) : Trib :=
  let unread := t.ring.drop (t.ring.length - t.fill)
  match if t.rxExec = 1 ∧ !t.spare.isEmpty then unread.findIdx? (fun x => x.idx == 1) else none with
  | some i =>
    { t with
      rxExec := 0
      rxAnn := 0
      spare := []
      ring := (t.ring.take (t.ring.length - t.fill + i)) ++ ⟨0, false, t.spare⟩ :: t.ring.drop (t.ring.length - t.fill + i)
      fill := t.fill + 1 }
  | none => { t with rxExec := 0, rxAnn := 0, spare := [] }

/-- A new pointer or an adopted candidate moves only the container-start mark (R133). j is the PMF row of the slot. -/
def Trib.newPointer (t : Trib) (p j : Nat) : Trib :=
  let u0 := firstData t.rxExec
  { t with
    rxPtr := p
    rxToStart := (p + u0 + 1022 - 16 * j) % 511
    ring := t.ring.map fun x => if x.idx < 16 * j then { x with start := x.idx == p + u0 || x.idx == p + u0 + 511 } else x }

/-- PMF m is not among the PMFs before the first one in which an announcement may go out again; PMFs are counted modulo 2^43, so that
they are continuous over the wrap of the RSN (R11, R130). -/
def pmfFree (first : Option Nat) (m : Nat) : Bool :=
  match first with
  | none => true
  | some q => let d := (q + 2 ^ 43 - m % 2 ^ 43) % 2 ^ 43; decide (d = 0 ∨ 4 < d)

/-- A PMF number some PMFs later. -/
def pmfAfter (m k : Nat) : Nat := (m + k) % 2 ^ 43

/-- One pointer word evaluated in PMF m (R130 to R132). Answers the tributary and what to count: a new pointer accepted or
candidate adopted, an invalid word or unadopted candidate. -/
def Trib.pointerWord (t : Trib) (w m j : Nat) : Trib × Bool × Bool :=
  let code := w / 4096
  let p := w % 512
  let form := w / 512 % 8 = 0 ∧ p ≤ 510
  let clean := { t.runs with inv := 0, ais := 0 }
  let spaced := pmfFree t.rxNext m
  let invalid : Trib × Bool × Bool := ({ t with cand := (0, 0), runs := { t.runs with inv := t.runs.inv + 1, ais := 0 } }, false, true)
  if w = 0xFFFF then ({ t with cand := (0, 0), runs := { t.runs with ais := t.runs.ais + 1, inv := 0 } }, false, false)
  else if form ∧ code = 9 then
    ({ t.cancelExec with cand := (0, 0), rxNext := some (pmfAfter m 3), runs := { clean with leave := true } }.newPointer p j,
      true, false)
  else if form ∧ code = 0 ∧ p = t.rxPtr then ({ t with cand := (0, 0), runs := clean }, false, false)
  else if form ∧ code = 0 then
    let run : Nat := if t.cand.1 = p ∧ t.cand.2 ≠ 0 then t.cand.2 + 1 else 1
    if 3 ≤ run then ({ t with cand := (0, 0), runs := { clean with leave := true } }.newPointer p j, true, false)
    else if t.retimed then ({ t with cand := (p, run), runs := { t.runs with inv := t.runs.inv + 1, ais := 0 } }, false, true)
    else ({ t with cand := (p, run), runs := clean }, false, false)
  else if form ∧ (code = 6 ∨ code = 3) ∧ !t.retimed then ({ t with cand := (0, 0), runs := clean }, false, false)
  else if form ∧ (code = 6 ∨ code = 3) ∧ p = t.rxPtr ∧ spaced then
    ({ t with cand := (0, 0), rxAnn := if code = 6 then 1 else 2, runs := clean }, false, false)
  else invalid

/-- Number of ones of a byte. -/
def popcount8 (b : Byte) : Nat :=
  ([0, 1, 2, 3, 4, 5, 6, 7].filter fun i => b.getLsbD i).length

/-- A received label as the manual reads it: reserved codes count as 0x01 (R82). -/
def labelOf (v : Nat) : Nat :=
  if (7 ≤ v ∧ v ≤ 15) ∨ (0xF0 ≤ v ∧ v ≤ 0xFE) then 1 else v

/-- SIZE, label, BIP-8, path status and path trace of an evaluated slot that is not tributary AIS (R77, R80 to R86, R144). -/
def State.slotRest (s : State) (k m : Nat) (slot : BitVec 64) : State :=
  let t := s.trib k
  let b := fun i => byteOf slot.toNat (7 - i)
  let size := b 6 * 16 + b 7 / 16
  let lab := labelOf (b 3)
  let expl := s.eff .tribExpectedLabel k
  let errs := if t.bipHave then popcount8 (t.bipPrev ^^^ BitVec.ofNat 8 (b 4)) else 0
  let prdi := 128 ≤ b 5
  let bad := size ≠ t.n - 1
  let r := t.runs
  let r := { r with
    szBad := if bad then r.szBad + 1 else 0
    szOk := if bad then 0 else r.szOk + 1
    uneq := if lab = 0 then r.uneq + 1 else 0
    eqOk := if lab = 0 then 0 else r.eqOk + 1
    plmBad := if s.flag .tribLabelCheck k && lab != expl then r.plmBad + 1 else 0
    plmOk := if lab = expl then r.plmOk + 1 else 0
    bipErrs := r.bipErrs + errs
    bipPmfs := r.bipPmfs + 1
    rdiOn := if prdi then r.rdiOn + 1 else 0
    rdiOff := if prdi then 0 else r.rdiOff + 1 }
  let pos := m % 64
  let byte := BitVec.ofNat 8 (b 2)
  let buf := if pos = 0 then [(0, byte)] else t.ptBuf ++ [(pos, byte)]
  let len := if pos = 0 then 1 else if t.ptLen = pos then pos + 1 else 0
  let t : Trib := { t with runs := r, prei := errs, ptBuf := buf, ptLen := len }
  let s := ((s.setTrib k t).bump .tribPmBip k errs).bump .tribPmFeBip k (b 5 / 8 % 16)
  if pos ≠ 63 then s
  else
    let msg : List Byte := buf.map (·.2)
    let t : Trib := { s.trib k with ptBuf := [], ptLen := 0 }
    if len ≠ 64 then s.setTrib k { t with ptRun := 0 }
    else if traceCrcOk msg = false then (s.setTrib k { t with ptRun := 0 }).bump .tribPmTraceCrc k 1
    else
      let run : Nat := if t.ptLast = msg then t.ptRun + 1 else 1
      let acc := if 3 ≤ run then some msg else t.ptAcc
      let s := s.setTrib k { t with ptRun := run, ptLast := msg, ptAcc := acc }
      if 3 ≤ run then s.evalTtim k else s

/-- The end of a path trace multiframe, met with the first PMF of another one, closes the BIP-8 account of TSD (R144, R152). -/
def State.closeTsd (s : State) (k : Nat) : State :=
  let thr := s.eff .tribSdThreshold k
  let t := s.trib k
  let bad := thr ≠ 0 ∧ thr < t.runs.bipErrs
  let r := { t.runs with sdBad := decide bad, sdOk := if bad then 0 else t.runs.sdOk + 1, bipErrs := 0, bipPmfs := 0 }
  (s.setTrib k { t with runs := r }).release .tribSdThreshold k

/-- The member bytes of a row, grain by grain in ascending index (R79). -/
def memberBytes (r : RowContent) (gs : List Nat) : List Byte :=
  match gs with
  | [] => []
  | g :: rest => grainBytes (rowGrain r g) ++ memberBytes r rest

/-- XOR of bytes (R80). -/
def bip8 (acc : Byte) (bs : List Byte) : Byte := bs.foldl (· ^^^ ·) acc

/-- A received execution that ran to the end of its PMF without being cancelled is counted (R132, R153). -/
def State.countExec (s : State) (k : Nat) : State :=
  match (s.trib k).rxExec with
  | 0 => s
  | 1 => (s.bump .tribPmRxPjPos k 1).perf 0x030 k 1
  | _ => (s.bump .tribPmRxPjNeg k 1).perf 0x030 k 1

/-- A PMF of a tributary begins: the pointer moves on after an execution, a justification announced in the PMF just before executes now,
and the BIP-8 of that PMF, received whole, becomes the one to compare (R80, R129). -/
def State.startPmf (s : State) (k m : Nat) : State :=
  let s := s.countExec k
  let t := s.trib k
  let next := m % 2 ^ 43 == pmfAfter t.rxPmf 1
  let ex := if next then t.rxAnn else 0
  let t : Trib := { t with
    rxPtr := pointerAfter t.rxExec t.rxPtr
    rxExec := ex
    rxAnn := 0
    rxPmf := m
    rxNext := if ex = 0 then t.rxNext else some (pmfAfter m 3)
    spare := []
    bipPrev := t.bipNow
    bipHave := next && t.bipRows == 32
    bipNow := 0
    bipRows := 0 }
  let old := (s.trib k).rxPmf
  let s := s.setTrib k t
  if m / 64 = old / 64 then s else s.closeTsd k

/-- The overhead slot of a tributary in a row judged valid (R131, R132, R134). A PMF in tributary AIS neither extends nor breaks the runs
of TSZM, TUNEQ, TPLM and TRDI (log entry 111). -/
def State.evalSlot (s : State) (k m j : Nat) (slot : BitVec 64) : State :=
  let w := slot.toNat / 2 ^ 48
  let (t, acc, inv) := (s.trib k).pointerWord w m j
  let s := s.setTrib k t
  let s := if acc then s.bump .tribPmRxNdf k 1 else s
  let s := if inv then s.bump .tribPmInvPtr k 1 else s
  let s := if w = 0xFFFF then s else s.slotRest k m slot
  s.modTrib k Trib.mask

/-- One judged row for one tributary. ais: the row is ingress AIS, or missed in FLYWHEEL, and its slot is not evaluated
(R106). -/
def State.tribRow (s : State) (k spr : Nat) (rsn : Rsn) (valid ais : Bool) (slots : Table (BitVec 64)) (c : RowContent) :
    State :=
  let j := rsn.toNat % 32
  let m := rsn.toNat / 32
  let s := if j = 0 ∨ m ≠ (s.trib k).rxPmf then s.startPmf k m else s
  let p := (s.trib k).pos
  let s := if p / spr = j ∧ valid ∧ !ais then s.evalSlot k m j (Table.get 0 slots (p % spr)) else s
  let t := s.trib k
  let bs := memberBytes (if ais then rowAis else c) t.grains
  let t : Trib := { t with bipNow := bip8 t.bipNow bs, bipRows := if ais then t.bipRows else t.bipRows + 1 }
  let t := if t.retimed then t.writeUnits (16 * j) 16 bs else t
  s.setTrib k t

/-- A judged row for every tributary of its lane. -/
def State.tribRows (s : State) (l : Nat) (rsn : Rsn) (valid ais : Bool) (slots : Table (BitVec 64)) (c : RowContent) : State :=
  go s.tribs s
where
  /-- Over the tributaries. -/
  go (ts : List (Nat × Trib)) (s : State) : State :=
    match ts with
    | [] => s
    | (k, t) :: r => go r (if t.on && t.lane == l then s.tribRow k (s.slotsOf l) rsn valid ais slots c else s)

/-! ### Creation (R121 to R125, R138) -/

/-- Units from the read position to the next container start, modulo the 511 units of a container (R128). -/
def Trib.toStart (t : Trib) : Nat :=
  let unread := t.ring.drop (t.ring.length - t.fill)
  match unread.findIdx? (·.start) with
  | some i => i
  | none => (t.fill + t.rxToStart) % 511

/-- A new RETIMED tributary's ring: units whose content nothing has written yet, each byte a free value (R125, R138; log entry
1). -/
def freshRing (base n : Nat) : List RingUnit :=
  (List.range ringKeep).map fun u => ⟨u, false, (List.range n).map fun i => BitVec.ofNat 8 (Config.free (base + u * n + i))⟩

/-- A tributary is created; RETIMED re-centres its ring (R123, R138). -/
def State.makeTrib (s : State) (trib lane mode : Nat) (gs : List Nat) : State :=
  let n := gs.length
  let t : Trib := { on := true, lane := lane, grains := gs, retimed := mode == 0 }
  let s :=
    if mode = 0 then
      let s := { s with clk := { s.clk with free := s.clk.free + ringKeep * n } }
      s.setTrib trib { t with ring := freshRing (s.clk.free - ringKeep * n) n, fill := 40, level := 24, ndf := true, centring := 1 }
    else s.setTrib trib t
  s.laneTais lane

end Sys2Proof.Machine
end

