-- ==== Sys2Proof/Machine/LaneRx.lean ====
section
/-!
DEFINITION. Machine/LaneRx.lean: the receive side of a lane: alignment, row judgement, lane trace, defects, management
frames, APS records and counts (R92 to R118, R226, R227, R281, R321, R322, R330), and the events that bring them.
-/
namespace Sys2Proof.Machine

/-- The lane gives SF (R110): a disabled receiver too (R312). -/
def State.laneSf (s : State) (l : Nat) : Bool :=
  let x := s.lane l
  !x.rxOn || s.ingressAis l || x.unc || x.lais

/-- The lane raises RDI (R110). -/
def State.laneRdi (s : State) (l : Nat) : Bool := s.ingressAis l || (s.lane l).unc

/-- LOS or LOF sets: every defect it masks is held clear and its integration restarts (R111). -/
def Lane.maskAll (x : Lane) : Lane :=
  { x with
    anf := false
    unc := false
    lais := false
    sd := false
    tim := false
    slf := false
    rrdi := false
    anw := false
    timCause := 0
    runs := { losOk := x.runs.losOk, losRow := x.runs.losRow, sync := x.runs.sync } }

/-- LOF sets; the setting at RX enable does not count, nor does an entry into HUNT where LOF is still set (log entry 116). The second in
progress holds a row with LOF set (R110, R118, R119). -/
def State.setLof (s : State) (l : Nat) (counts : Bool) : State :=
  let x := s.lane l
  if x.los then s
  else
    let s := s.setLane l { x.maskAll with lof := true, runs := { sync := 0 }, secErr := true, secSev := true }
    let s := s.laneTais l
    if counts && !x.lof then s.bump .lanePmLof l 1 else s

/-- TIM, TIM_CAUSE and SELF from the accepted message (R108, R109). They are held clear under LOS and LOF, and under a near
loop (R111, R326). -/
def State.traceDefects (s : State) (l : Nat) : State :=
  let x := s.lane l
  match x.traceAcc with
  | none => if s.cur .laneTraceCheck l = 0 then s.setLane l { x with tim := false, timCause := 0 } else s
  | some m =>
    let e := s.cur .laneTraceExpected l
    let chk := s.cur .laneTraceCheck l
    let dId := 2 ≤ chk ∧ traceIdentity m ≠ e % 2 ^ 64
    let dPl := 1 ≤ chk ∧ tracePlane m ≠ byteOf e 8
    let dLn := 1 ≤ chk ∧ traceLane m ≠ e / 256 ^ 9 % 65536
    let dTx := chk = 3 ∧ leNat (traceText m) ≠ e / 256 ^ 12
    let cause := (if dId then 1 else 0) + (if dPl then 2 else 0) + (if dLn then 4 else 0) + if dTx then 8 else 0
    let held := x.los || x.lof || x.near
    let own := traceIdentity m = Config.serial.toNat ∧ tracePlane m = (if s.dev.planeB then 1 else 0)
    let slf := own ∧ ¬(s.flag .laneSelfAllowed l = true ∧ traceLane m ≠ l)
    s.setLane l { x with
      tim := !held && cause != 0
      timCause := if held then 0 else cause
      slf := !held && decide slf }

/-- The lane trace is judged anew; ingress AIS that SELF or TIM brings puts the lane's tributaries into TAIS (R106, R108 to R110,
R134). -/
def State.evalTrace (s : State) (l : Nat) : State := (s.traceDefects l).laneTais l

/-- The trace byte of a row received in alignment (R107). -/
def State.laneTraceByte (s : State) (l : Nat) (rsn : Rsn) (b : Byte) : State :=
  let x := s.lane l
  let p := rsn.toNat % 64
  let buf := if p = 0 then [(0, b)] else x.traceBuf ++ [(p, b)]
  let len := if p = 0 then 1 else if x.traceLen = p then p + 1 else 0
  if p ≠ 63 then s.setLane l { x with traceBuf := if len = 0 then [] else buf, traceLen := len }
  else
    let x : Lane := { x with traceBuf := [], traceLen := 0 }
    let msg : List Byte := buf.map (·.2)
    if len ≠ 64 then s.setLane l { x with traceRun := 0 }
    else if traceCrcOk msg = false then (s.setLane l { x with traceRun := 0 }).bump .lanePmTraceCrc l 1
    else
      let run : Nat := if x.traceLast = msg then x.traceRun + 1 else 1
      let s := s.setLane l { x with traceRun := run, traceLast := msg, traceAcc := if 3 ≤ run then some msg else x.traceAcc }
      if 3 ≤ run then s.evalTrace l else s

/-- A checker seeds itself anew from the received sequence (R322). -/
def LaneTest.reseed (t : LaneTest) : LaneTest :=
  { t with
    rxLock := false
    reg := 0
    seed := 0
    clean := 0
    pos := 0
    errs := [] }

/-- A row lost to FLYWHEEL or HUNT breaks the run of the lane trace (R107) and of failed row checks (R92), and makes a PAYLOAD checker
seed again (R322). -/
def Lane.rowLost (x : Lane) : Lane :=
  { x with
    rcfRun := 0
    traceBuf := []
    traceLen := 0
    traceRun := 0
    test := x.test.reseed }

/-- The first codeword of a stretch that is no longer counted (R118): all of them count while LOS is clear; once LOS has set, those that
were complete when it set. -/
def countEnd (los : Bool) (lost : Option Nat) (n : Nat) : Nat :=
  if los then (match lost with | some k => min n (k / 5440) | none => 0) else n

/-- The codewords of a row from codeword c to codeword d − 1 that the decoder reports: counted in CONFIRM, SYNC and FLYWHEEL until LOS
sets; RUNC reports the uncorrectable ones of the row, also under LOS (R67, R114, R118, R330, R544). -/
def State.countCodewords (s : State) (l : Nat) (lost : Option Nat) (r : LineRow) (c d : Nat) : State :=
  let d := min d (countEnd (s.lane l).los lost (s.codewordsOf l))
  let corr := r.corr.filter fun x => decide (c ≤ x.1 ∧ x.1 < d)
  let unc := (r.unc.filter fun x => decide (c ≤ x ∧ x < d)).length
  let total := corr.foldl (fun a x => a + x.2) 0
  let clean := d - c - corr.length - unc
  let s := s.modLane l fun x => { x with runcTx := (if c = 0 then 0 else x.runcTx) + unc }
  if d ≤ c then s
  else
    let s := ((s.bump .lanePmCorrSym l total).bump .lanePmCorrCw l corr.length).bump .lanePmUncCw l unc
    let s := ((hist l corr s).bump .lanePmCwHist0 l clean).bump .lanePmCwHist16 l unc
    let s := (s.lifeAdd 8 (l * 32) clean).lifeAdd 8 (l * 32 + 16) unc
    (s.perf 0x022 l total).perf 0x023 l unc
where
  /-- The bin of a number of corrected symbols (R330). -/
  bin (k : Nat) : Pn :=
    match k with
    | 0 => .lanePmCwHist0 | 1 => .lanePmCwHist1 | 2 => .lanePmCwHist2 | 3 => .lanePmCwHist3 | 4 => .lanePmCwHist4
    | 5 => .lanePmCwHist5 | 6 => .lanePmCwHist6 | 7 => .lanePmCwHist7 | 8 => .lanePmCwHist8 | 9 => .lanePmCwHist9
    | 10 => .lanePmCwHist10 | 11 => .lanePmCwHist11 | 12 => .lanePmCwHist12 | 13 => .lanePmCwHist13
    | 14 => .lanePmCwHist14 | 15 => .lanePmCwHist15 | _ => .lanePmCwHist16
  /-- Over the corrected codewords. -/
  hist (l : Nat) (cs : List (Nat × Nat)) (s : State) : State :=
    match cs with
    | [] => s
    | (_, k) :: rest => hist l rest ((s.bump (bin k) l 1).lifeAdd 8 (l * 32 + min k 16) 1)

/-- θ lies in the window of anchor a, with m cycles to spare at both edges (R100, R101). -/
def inWindow (a : Nat) (theta : Int) (m : Int) : Bool :=
  decide (4096 * (a : Int) - 11264 + m ≤ theta ∧ theta ≤ 4096 * (a : Int) - 4608 - m)

/-- θ lies within m cycles of an edge of the window of anchor a (R100, R110). -/
def nearEdge (a : Nat) (theta : Int) (m : Nat) : Bool :=
  decide ((theta - (4096 * (a : Int) - 11264)).natAbs ≤ m ∨ (theta - (4096 * (a : Int) - 4608)).natAbs ≤ m)

/-- The choice of an anchor under AUTO; a merge pair's window holds both lanes' θ (R101, R233). -/
def chooseAnchor (prev : Nat) (thetas : List Int) : Nat :=
  let fits := fun m a => thetas.all fun t => inWindow a t m
  match [1, 2, 3].find? (fits 256) with
  | some a => a
  | none => match [1, 2, 3].find? (fits 0) with
    | some a => a
    | none => if prev = 0 then 2 else prev

/-- The lanes whose θ the anchor of a lane must hold: on an active LOCKED pair both lanes, a lane outside SYNC
and FLYWHEEL having no θ (R99, R233; DEDUCED). -/
def State.anchorLanes (s : State) (l : Nat) : List Nat :=
  match s.pairOf l with
  | some m => if m.active then [m.low, m.high].filter fun k => k == l || (s.lane k).align == .sync || (s.lane k).align == .flywheel
    else [l]
  | none => [l]

/-- The lane whose lane.anchor governs: the lower lane of an active pair (R233). -/
def State.anchorLane (s : State) (l : Nat) : Nat :=
  match s.pairOf l with
  | some m => if m.active then m.low else l
  | none => l

/-- Take an anchor; a change is journalled (R101, R591). The first anchor after RX enable replaces none and is no change (log entry
105). -/
def State.setAnchor (s : State) (l a : Nat) : State :=
  let x := s.lane l
  let s := s.setLane l { x with anchor := a }
  if x.anchor ≠ a ∧ x.anchor ≠ 0 then s.journalAuto 0xA007 l a else s

/-- One anchor governs both lanes of an active pair: its partner takes it too, unless it has none in use (R233, R249). -/
def State.shareAnchor (s : State) (l a : Nat) : State :=
  let partner := match s.pairOf l with
    | some m => if m.active then (if m.low = l then m.high else m.low) else l
    | none => l
  let s := s.setAnchor l a
  if partner = l ∨ (s.lane partner).anchor = 0 ∧ (s.lane partner).align ≠ .sync ∧ (s.lane partner).align ≠ .flywheel then s
  else s.setAnchor partner a

/-- Choose the anchor under AUTO for a lane and for its partner (R101, R233). -/
def State.rechoose (s : State) (l : Nat) : State :=
  s.shareAnchor l (chooseAnchor (s.lane l).anchor ((s.anchorLanes l).map fun k => (s.lane k).theta))

/-- The anchor at an entry into SYNC from CONFIRM (R101); none on a PLESIO lane (R104). -/
def State.anchorAtSync (s : State) (l : Nat) : State :=
  if s.cur .laneClocking l = 1 then s
  else
    let p := s.cur .laneAnchor (s.anchorLane l)
    if p = 255 then s.rechoose l else s.shareAnchor l p

/-- Saturate θ at 16 bits (R117). -/
def satTheta (t : Int) : Int := if t < -32768 then -32768 else if 32767 < t then 32767 else t

/-- Frame check of a row at the expected position: the locked form within 8 bits, codeword 0 correctable, RSN CRC correct
(R93). -/
def frameCheck (rev : Bool) (r : LineRow) : Bool :=
  decide ((if rev then r.revErrs else r.trueErrs) ≤ 8) && !(r.unc.contains 0) && r.rsnCrcOk

/-- The receiver undoes precoding: lane.rx_precode, under a near loop lane.tx_precode (R57, R326). -/
def State.rxPrecode (s : State) (l : Nat) : Bool :=
  if (s.lane l).near then s.cur .laneTxPrecode l == 1 else s.cur .laneRxPrecode l == 1

/-- A stretch of the line as the receiver decodes it in one polarity (R48, R57, R97). -/
def State.rxRow (s : State) (l : Nat) (inv : Bool) (r : RawRow) : LineRow :=
  lineRowOf r (s.cur .laneMode l == 0) (s.rxPrecode l) inv

/-- The polarity form that a match in HUNT has, where lane.rx_polarity permits one (R58, R92, R97). A near loop takes the
polarity as NORMAL (R326). -/
def State.huntForm (s : State) (l : Nat) (r : RawRow) : Option Bool :=
  let p := if (s.lane l).near then 1 else s.cur .laneRxPolarity l
  let e := wordErrs r (s.rxPrecode l) alignmentWord
  if p ≠ 2 ∧ e.1 ≤ 8 then some false
  else if p ≠ 1 ∧ e.2 ≤ 8 then some true
  else none

/-- A match in HUNT, or elsewhere in CONFIRM: it opens a candidate, which passes or is rejected (R92, R94, R95). Answers the
lane's candidates and whether one was rejected. -/
def State.openCand (s : State) (l : Nat) (raw : RawRow) : List Cand × Bool :=
  let x := s.lane l
  let barred := x.barred.any fun b => b.1 == raw.offset && !s.elapsed b.2 (64 * 64)
  match s.huntForm l raw with
  | none => (x.cands, false)
  | some rev =>
    let r := s.rxRow l rev raw
    if barred ∨ 8 ≤ x.cands.length then (x.cands, false)
    else if frameCheck rev r then (x.cands ++ [⟨raw.offset, r.rsn, rev, lineCrc r, !r.unc.isEmpty⟩], false)
    else (x.cands, true)

/-- A position is examined outside SYNC and FLYWHEEL: its match opens a candidate or is rejected, and the first candidate held is the
one that CONFIRM examines (R92, R94, R95). -/
def State.examine (s : State) (l : Nat) (raw : RawRow) : State :=
  let o := s.openCand l raw
  let s := if o.2 then s.bump .lanePmCandRej l 1 else s
  s.modLane l fun x => { x with
    align := if o.1.isEmpty then .hunt else .confirm
    cands := o.1 }

/-- The state after HUNT is entered from SYNC or FLYWHEEL: LOF sets, the accepted trace is discarded, the run of equal rows
breaks (R92, R107, R110). -/
def State.enterHunt (s : State) (l : Nat) (bar : Option Nat) : State :=
  let x := (s.lane l).rowLost
  let s := s.setLane l { x with
    align := .hunt
    cands := []
    jump := none
    held := none
    rcfRun := 0
    pnInv := false
    traceAcc := none
    runs := { x.runs with sync := 0 }
    barred := match bar with | some o => (o, s.clk.tick) :: x.barred | none => x.barred }
  s.setLof l true

/-- Row-by-row integration of the defects seen in alignment (R110 to R113). A row in FLYWHEEL fails for LOF and is clean for
the others. lockedRow: the row was received in SYNC; how long the alignment has held SYNC is known under LOS too (R111). A θ outside
the window does not count towards clearing ANW (log entry 105). -/
def Lane.integrate (x : Lane) (locked lockedRow : Bool) (r : Option LineRow) : Lane :=
  let q := x.runs
  let sync : Nat := if lockedRow then q.sync + 1 else 0
  if x.los then { x with runs := { losOk := q.losOk, losRow := q.losRow, sync := sync } }
  else
    let unc := match r with | some y => !y.unc.isEmpty | none => false
    let out := locked && lockedRow && !inWindow x.anchor x.theta 0
    let warn := locked && lockedRow && nearEdge x.anchor x.theta 256
    let calm := !locked || !lockedRow || inWindow x.anchor x.theta 512
    let ais := match r with | some y => y.validity.getLsbD 6 | none => false
    let rdi := match r with | some y => y.remote.getLsbD 15 | none => false
    let q := { q with sync := sync }
    if x.lof then { x with runs := { losOk := q.losOk, losRow := q.losRow, sync := q.sync } }
    else
      { x with runs := { q with
        anfBad := if out then q.anfBad + 1 else 0
        anfOk := if out then 0 else q.anfOk + 1
        anfSet := if x.anf then q.anfSet + 1 else 0
        uncBad := if unc then q.uncBad + 1 else 0
        uncOk := if unc then 0 else q.uncOk + 1
        laisOn := if ais then q.laisOn + 1 else 0
        laisOff := if ais then 0 else q.laisOff + 1
        rdiOn := if rdi then q.rdiOn + 1 else 0
        rdiOff := if rdi then 0 else q.rdiOff + 1
        anwOn := if warn then q.anwOn + 1 else 0
        anwOff := if calm then q.anwOff + 1 else 0
        sfSyms := q.sfSyms + (match r with | some y => y.corr.foldl (fun a c => a + c.2) 0 | none => 0)
        sfRows := q.sfRows + 1 } }

/-- The end of a lane superframe closes the account of SD (R110, R115). The superframe in which LOF or LOS clears is counted as one
(log entry 105). -/
def State.closeSd (s : State) (l : Nat) : State :=
  let x := s.lane l
  let a := s.eff .laneSdThreshold l
  let b := s.eff .laneSdRcfThreshold l
  let bad := (a ≠ 0 ∧ a < x.runs.sfSyms) ∨ (b ≠ 0 ∧ b < x.runs.sfRcf)
  let q := { x.runs with sdBad := decide bad, sdOk := if bad then 0 else x.runs.sdOk + 1, sfSyms := 0, sfRcf := 0, sfRows := 0 }
  ((s.setLane l { x with runs := q }).release .laneSdThreshold l).release .laneSdRcfThreshold l

/-- The last row of a superframe (R10, R11). -/
def sfEnd (r : Rsn) : Bool := decide (r.toNat % 625 = 624 ∨ r.toNat = 2 ^ 48 - 1)

/-- The first row of the superframe after the one that holds row r: the superframe that the wrap of the RSN cuts short has 31 rows (R10,
R11). -/
def nextSf (r : Rsn) : Rsn :=
  let k := (r.toNat / 625 + 1) * 625
  if 2 ^ 48 ≤ k then 0 else BitVec.ofNat 48 k

/-- The row judgement of R105: delivered to the merge, the ring and the tributaries, counted for the second in progress. -/
def State.deliver (s : State) (l : Nat) (rsn : Rsn) (valid ais got : Bool) (c : RowContent) (slots : Table (BitVec 64))
    (aps : List Byte) : State :=
  let x := s.lane l
  let v := valid && !ais
  let e := !v || x.los || x.lof || x.anf || x.unc || x.slf
  let row : Judged := ⟨rsn, v, ais, c, slots, got, aps⟩
  let s := s.setLane l { x with
    rows := (x.rows ++ [row]).drop (x.rows.length + 1 - 8)
    secRows := if v then x.secRows else x.secRows + 1
    secErr := x.secErr || e
    secSev := x.secSev || x.los || x.lof || x.anf }
  let s := if v then s.perf 0x020 l 1 else (s.bump .lanePmInvRows l 1).perf 0x021 l 1
  match s.pairOf l with
  | some m => if m.active then s else s.tribRows l rsn v ais slots c
  | none => s.tribRows l rsn v ais slots c

/-- The held row is judged when the next row arrives or is missed (R69, R105). check: its row check is correct. -/
def State.judge (s : State) (l : Nat) (check : Bool) : State :=
  match (s.lane l).held with
  | none => s
  | some h =>
    let ais := s.ingressAis l
    let clear := h.validity.toNat / 32 = 0
    let valid := h.ok && h.rsnOk && h.uncw == 0 && check && clear && !ais
    let x := s.lane l
    let run : Nat := if check then 0 else if h.uncw = 0 then x.rcfRun + 1 else 0
    let s := s.setLane l { x with
      held := none
      rceTx := !check
      rcfRun := run
      runs := { x.runs with sfRcf := if check then x.runs.sfRcf else x.runs.sfRcf + 1 } }
    let s := if check then s else s.bump .lanePmRce l 1
    let s := if valid then
        let s := (s.bump .lanePmFeUnc l (h.remote.toNat % 256)).bump .lanePmFeRce l (if h.remote.getLsbD 14 then 1 else 0)
        let rank := h.ql.toNat % 16
        let x := s.lane l
        let run : Nat := if x.qlSeen.1 = rank then x.qlSeen.2 + 1 else 1
        s.setLane l { x with qlSeen := (rank, run), qlRank := if 16 ≤ run then rank else x.qlRank }
      else s.modLane l fun x => { x with qlSeen := (x.qlSeen.1, 0) }
    let s := s.deliver l h.rsn valid ais true h.content h.slots h.aps
    if sfEnd h.rsn then s.closeSd l else s

/-- A row missed in FLYWHEEL is a row of ingress AIS for the expected RSN (R105, R106). -/
def State.missRow (s : State) (l : Nat) (rsn : Rsn) : State :=
  let s := s.modLane l Lane.rowLost
  let s := s.deliver l rsn false true false rowAis [] []
  if sfEnd rsn then s.closeSd l else s

/-- Management octets of a row: completed good frames queue 16 deep, others are counted (R71, R72, R402). -/
def State.mgmtBytes (s : State) (l : Nat) (bs ext : List Byte) : State :=
  let x := s.lane l
  let (st0, f0) := hdlcRun x.hdlcRx.1 (padTo 64 bs)
  let (st1, f1) := if s.cur .laneMode l = 0 then hdlcRun x.hdlcRx.2 (padTo 130 ext) else (x.hdlcRx.2, [])
  frames l 1 f1 (frames l 0 f0 (s.setLane l { x with hdlcRx := (st0, st1) }))
where
  /-- Over the completed frames of a channel. -/
  frames (l ch : Nat) (fs : List (List Byte)) (s : State) : State :=
    match fs with
    | [] => s
    | f :: r =>
      match hdlcGood f with
      | none => frames l ch r (s.bump .lanePmMgmtFcs l 1)
      | some info =>
        let x := s.lane l
        let q := if ch = 0 then x.mgmtRx.1 else x.mgmtRx.2
        if 16 ≤ q.length then frames l ch r (s.bump .lanePmMgmtDrop l 1)
        else
          let q' := q ++ [info]
          let s := s.setLane l { x with mgmtRx := if ch = 0 then (q', x.mgmtRx.2) else (x.mgmtRx.1, q') }
          let s := s.perf 0x026 l 1
          frames l ch r (if q.isEmpty then s.info 0x2004 l ch else s)

/-- The selection that R216 fixes for a request code (true is ALTERNATE), none for MANUAL, which takes either; and whether
the code is listed at all. -/
def reqSel (code : Nat) : Option (Option Bool) :=
  match code with
  | 0xF => some (some false)
  | 0xE => some (some false)
  | 0xD => some (some true)
  | 0xB => some (some true)
  | 0xA => some (some false)
  | 0x9 => some (some true)
  | 0x7 => some none
  | 0x5 => some (some true)
  | 0x1 => some (some true)
  | 0x0 => some (some false)
  | _ => none

/-- The BI groups of an APS lane in ascending order, by the values in force (R224, R240). -/
def State.apsMembers (s : State) (l : Nat) : List Nat :=
  (s.namedBy .protApsLane).filter fun k => s.eff .protApsLane k == l && s.flag .protDirection k

/-- The groups whose far end sends on lane l under group number g (R224, R227): those listed with protApsLane = l. -/
def State.apsGroups (s : State) (l g : Nat) : List Nat :=
  (s.apsMembers l).filter fun k => s.eff .protApsRemoteGroup k == g

/-- One received APS record (R225, R227): accepted for the groups it names, in force from the next boundary, or counted as a
bad code. -/
def State.apsRecord (s : State) (l : Nat) (r : List Byte) : State :=
  let b0 := (r.getD 0 0).toNat
  let g := beNat ((r.drop 1).take 2)
  let seq := (r.getD 3 0).toNat
  let req := b0 / 16
  let sel := b0 / 8 % 2 = 1
  let sig := b0 / 4 % 2 = 1
  if b0 % 2 = 0 then s
  else match reqSel req with
    | none => s.bump .lanePmApsBadcode l 1
    | some fixed =>
      if fixed.isSome ∧ fixed ≠ some (decide sig) then s.bump .lanePmApsBadcode l 1
      else go (s.apsGroups l g) req (decide sel) (decide sig) seq s
where
  /-- Over the groups that accept the record. -/
  go (gs : List Nat) (req : Nat) (sel sig : Bool) (seq : Nat) (s : State) : State :=
    match gs with
    | [] => s
    | k :: rest =>
      let x := s.group k
      let old : Option Nat := match x.feNew with | some f => some f.2.2.2 | none => x.fe.map fun f => f.2.2.2
      let s := s.modGroup k fun x => { x with feNew := some (req, sel, sig, seq) }
      go rest req sel sig seq (if old = some seq then s else s.bump .protPmFeChanges k 1)

/-- The CRC of an APS channel is correct (R70). -/
def apsCrcOk (aps : List Byte) : Bool := beNat ((padTo 16 aps).drop 14) == (crc16 ((padTo 16 aps).take 14)).toNat

/-- The two records of an APS channel with a correct CRC (R225, R227). -/
def State.apsRecords (s : State) (l : Nat) (aps : List Byte) : State :=
  (s.apsRecord l (aps.take 7)).apsRecord l ((aps.drop 7).take 7)

/-- The APS bytes 32–47 of a row whose frame check passed (R70, R227). A merge pair reads those of the copy it takes (R233). -/
def State.apsRow (s : State) (l : Nat) (aps : List Byte) : State :=
  if !apsCrcOk aps then s.bump .lanePmApsCrc l 1
  else match (s.pairOf l).filter (·.active) with
    | some _ => s
    | none => s.apsRecords l aps

/-- One bit through a checker whose register has w bits and whose next bit is the sum of the taps: the test state, the bits and errors
counted, and the losses of lock (R322). A register of zeros seeds no sequence. -/
def checkBit (w : Nat) (taps : List Nat) (a : LaneTest × Nat × Nat × Nat) (b : Bool) : LaneTest × Nat × Nat × Nat :=
  let (t, bits, errs, losses) := a
  let shift := fun (v : Bool) => (t.reg * 2 + if v then 1 else 0) % 2 ^ w
  if t.seed < w then
    ({ t with reg := shift b, seed := if t.seed + 1 = w ∧ shift b = 0 then t.seed else t.seed + 1 }, bits, errs, losses)
  else
    let want := tapBit taps t.reg
    if t.rxLock then
      let e := if b = want then t.errs else t.pos :: t.errs.filter fun q => decide (t.pos < q + 8192)
      let n : Nat := if b = want then errs else errs + 1
      if 512 ≤ e.length ∧ b ≠ want then (t.reseed, bits + 1, n, losses + 1)
      else ({ t with reg := shift want, pos := t.pos + 1, errs := e }, bits + 1, n, losses)
    else if b = want then
      let t : LaneTest := { t with reg := shift b, clean := t.clean + 1 }
      (if 1024 ≤ t.clean then { t with rxLock := true, clean := 0, pos := 0, errs := [] } else t, bits, errs, losses)
    else ({ t.reseed with reg := if b then 1 else 0, seed := 1 }, bits, errs, losses)

/-- Received bits through a lane's checker (R321, R322, R339). -/
def State.checkBits (s : State) (l w : Nat) (taps : List Nat) (bs : List Bool) : State :=
  let (t, bits, errs, losses) := bs.foldl (checkBit w taps) ((s.lane l).test, 0, 0, 0)
  let s := s.modLane l fun x => { x with test := t }
  ((s.bump .lanePrbsBits l bits).bump .lanePrbsErrors l errs).bump .lanePrbsLockLoss l losses

/-- The PAYLOAD checker reads the grain bytes of the lane's own row after descrambling (R319, R321). -/
def State.payloadCheck (s : State) (l : Nat) (r : LineRow) : State :=
  s.checkBits l 23 [22, 17] (((r.info.drop r.grainBase.1).take (16 * r.grainBase.2)).flatMap bitsOfByte)

/-- The LINE checker reads the line bits as they arrive, against PRBS13 or PRBS31 (R318, R321; log entry 106). -/
def State.lineCheck (s : State) (l : Nat) (raw : RawRow) : State :=
  let p := s.eff .lanePrbsPattern l
  let (w, taps) := prbsTaps p
  s.checkBits l w taps ((rawBits raw (rowSymbols (s.cur .laneMode l == 0)) false false).map (· != prbsInverted p))

/-- The LINE checker runs on the lane: in TEST, in the test set, with PRBS13Q or PRBS31Q (R321). -/
def State.lineChecker (s : State) (l : Nat) : Bool :=
  s.eff .lanePrbsRx l == 1 && decide (s.eff .lanePrbsPattern l ≤ 1) && decide (s.dev.mode = .test) && (s.lane l).test.under

/-- Take a row into alignment as the row to be judged next (R69). rsnOk: its RSN was the expected one (R105). -/
def State.hold (s : State) (l : Nat) (r : LineRow) (rsnOk : Bool) : State :=
  s.modLane l fun x => { x with held := some ⟨r.rsn, true, r.unc.length, lineCrc r, r.validity,
    r.remote, rsnOk, r.content, r.slots, padTo 16 r.aps, r.ql⟩ }

/-- What every row received in alignment delivers at once: the lane trace byte, the management octets, the APS message and
the PAYLOAD checker (R72, R107, R227, R321). -/
def State.rowFields (s : State) (l : Nat) (r : LineRow) : State :=
  let s := s.laneTraceByte l r.rsn r.trace
  let s := s.mgmtBytes l r.mgmt r.ext
  let s := s.apsRow l r.aps
  if s.eff .lanePrbsRx l = 2 then s.payloadCheck l r else s

/-- A row that fails its frame check with an uncorrectable codeword delivers its management octets all the same (R72). -/
def State.failedFields (s : State) (l : Nat) (r : LineRow) : State :=
  if r.unc.isEmpty then s else s.mgmtBytes l r.mgmt r.ext

/-- Integrate a row, with θ taken while in SYNC (R99, R110). -/
def State.integrateRow (s : State) (l : Nat) (inSync : Bool) (r : Option LineRow) : State :=
  s.modLane l fun x =>
    let x := match inSync, r with
      | true, some y => { x with theta := satTheta y.theta }
      | _, _ => x
    x.integrate (s.cur .laneClocking l == 0) inSync r

/-- The row that brings the lane into SYNC: SYNC holds for the rows after it, which LOF and R111 count (R101, R110). -/
def State.enterSync (s : State) (l : Nat) (r : LineRow) : State :=
  (s.integrateRow l true (some r)).modLane l fun x => { x with runs := { x.runs with sync := 0 } }

/-- A row in HUNT: each match opens a candidate; codeword 0 of a candidate that passes has been decoded in HUNT and is not counted (R92,
R118). -/
def State.rowHunt (s : State) (l : Nat) (raw : RawRow) : State :=
  let s := (s.examine l raw).integrateRow l false none
  if (s.lane l).cands.isEmpty then s else s.modLane l fun x => { x with runcTx := 0 }

/-- The polarity in which the codewords of the stretch after codeword 0 are counted, once its codeword 0 has settled the alignment: the
lane is in SYNC or FLYWHEEL at this position, or in CONFIRM with the candidate that opens here. In HUNT, and at any other position, none is
counted (R118, R330). -/
def Lane.countsAt (x : Lane) (offset : Nat) : Option Bool :=
  match x.align with
  | .sync | .flywheel => if x.offset = offset then some x.pnInv else none
  | .confirm => match x.cands with
    | c :: _ => if c.offset = offset then some c.rev else none
    | [] => none
  | _ => none

/-- The codewords of a stretch after codeword 0 (R118, R330). -/
def State.countRest (s : State) (l : Nat) (raw : RawRow) : State :=
  match (s.lane l).countsAt raw.offset with
  | some rev => s.countCodewords l raw.lost (s.rxRow l rev raw) 1 (s.codewordsOf l)
  | none => s

/-- The values of the SD thresholds come into force with the lane superframe that begins (R117). -/
def State.releaseSd (s : State) (l : Nat) : State := (s.release .laneSdThreshold l).release .laneSdRcfThreshold l

/-- A row in CONFIRM, at the confirming candidate's position or elsewhere (R92, R94, R95). Where the candidate fails, the position is
examined like any other. A candidate row whose row check fails is no judged row, and lane.pm_rce does not count it (log entry
105). -/
def State.rowConfirm (s : State) (l : Nat) (raw : RawRow) : State :=
  match (s.lane l).cands with
  | [] => s.rowHunt l raw
  | c :: rest =>
    if raw.offset = c.offset then
      let r := s.rxRow l c.rev raw
      let s := s.countCodewords l raw.lost r 0 1
      if frameCheck c.rev r ∧ r.rsn = c.rsn + 1 ∧ r.check = c.crc then
        let s := s.modLane l fun x => { x with
          align := .sync
          cands := []
          offset := c.offset
          expRsn := r.rsn + 1
          jump := none
          rcfRun := 0
          pnInv := c.rev
          theta := satTheta r.theta }
        (((((s.releaseSd l).anchorAtSync l).enterSync l r)).rowFields l r).hold l r true
      else
        let s := (s.bump .lanePmCandRej l 1).modLane l fun x => { x with cands := rest }
        (s.examine l raw).integrateRow l false none
    else s.examine l raw

/-- A row in SYNC at the expected position (R92, R93, R96, R105). The row before it is judged first, so that its superframe closes
without this row's symbols. -/
def State.rowSync (s : State) (l : Nat) (raw : RawRow) : State :=
  let x := s.lane l
  let r := s.rxRow l x.pnInv raw
  let s := s.countCodewords l raw.lost r 0 1
  let fc := frameCheck x.pnInv r
  let bad := fun (s : State) =>
    let e := (s.lane l).expRsn
    let s := (s.judge l false).modLane l fun x => { x with align := .flywheel, expRsn := e + 1, jump := none }
    ((s.failedFields l r).missRow l e).integrateRow l false none
  if !fc then bad s
  else
    let checkOk := match x.held with | some h => h.crc == r.check | none => true
    let take := fun (s : State) (exp : Rsn) (rsnOk : Bool) (jump : Option Rsn) =>
      let s := (((s.judge l checkOk).integrateRow l true (some r)).rowFields l r).hold l r rsnOk
      let s := s.modLane l fun x => { x with expRsn := exp, jump := jump }
      if 8 ≤ (s.lane l).rcfRun then ((s.judge l false).bump .lanePmFalseLock l 1).enterHunt l (some x.offset) else s
    match x.jump with
    | some j =>
      if r.rsn = j + 1 then take (s.bump .lanePmRsnJump l 1) (r.rsn + 1) true none
      else if r.rsn = x.expRsn then take s (r.rsn + 1) true none
      else bad s
    | none =>
      if r.rsn = x.expRsn then take s (r.rsn + 1) true none
      else take s (x.expRsn + 1) false (some r.rsn)

/-- A row in FLYWHEEL: back to SYNC, or to HUNT, where its position is examined like any other (R92, R94). -/
def State.rowFlywheel (s : State) (l : Nat) (raw : RawRow) : State :=
  let x := s.lane l
  let r := s.rxRow l x.pnInv raw
  let s := s.countCodewords l raw.lost r 0 1
  if frameCheck x.pnInv r ∧ r.rsn = x.expRsn then
    let s := s.modLane l fun x => { x with align := .sync, expRsn := r.rsn + 1, jump := none }
    ((s.enterSync l r).rowFields l r).hold l r true
  else
    let e := x.expRsn
    ((((s.failedFields l r).missRow l e).integrateRow l false none).enterHunt l none).examine l raw

/-- Under a near loop the receiver sees what its own lane sends in the row, which begins at position 0 (R324, R326). -/
def State.looped (s : State) (l : Nat) (raw : RawRow) : RawRow :=
  let x := s.lane l
  if x.near then
    { raw with
      signal := !x.tx.idle
      offset := 0
      prev := if x.tx.inverted then 3 - x.tx.start % 4 else x.tx.start
      levels := x.tx.levels (s.cur .laneMode l == 0)
      lost := none }
  else raw

/-- The position at which the next row is expected: that of SYNC and FLYWHEEL, or of the confirming candidate (R92). -/
def Lane.expected (x : Lane) : Option Nat :=
  match x.align with
  | .sync | .flywheel => some x.offset
  | .confirm => x.cands.head?.map (·.offset)
  | _ => none

/-- Where a near loop has moved the row away from the expected position, the stretch there: the end of the symbols looped before and the
beginning of the row's (R92, R324, R326). -/
def Lane.loopedElsewhere (x : Lane) (raw : RawRow) : List RawRow :=
  match x.expected with
  | some o =>
    if x.near ∧ o ≠ 0 then
      [{ raw with
        offset := o
        prev := x.test.near.getD (o / 2 - 1) 0
        levels := x.test.near.drop (o / 2) ++ raw.levels.take (o / 2) }]
    else []
  | none => []

/-- What a far loop has to send next: the symbols as received, or in SYNC the row with fresh parity. In SYNC and FLYWHEEL the lane's
own row is meant (R324, R327). -/
def State.keepFar (s : State) (l : Nat) (raw : RawRow) : State :=
  let x := s.lane l
  let locked := x.align == .sync || x.align == .flywheel
  if locked ∧ raw.offset ≠ x.offset then s
  else
    let f :=
      if x.test.loop = 3 then some raw.levels
      else if x.test.loop = 4 ∧ x.align = .sync then some (s.rxRow l x.pnInv raw).resend
      else none
    s.setLane l { x with test := { x.test with far := f } }

/-- The stretch goes through the alignment state machine; in SYNC and FLYWHEEL only the expected position is examined (R92, R95). Its
codewords after codeword 0 count by the state that codeword 0 has left (R118). -/
def State.alignRow (s : State) (l : Nat) (raw : RawRow) : State :=
  let x := s.lane l
  match x.align with
  | .disabled => s
  | .hunt => if raw.signal then (s.rowHunt l raw).countRest l raw else s.integrateRow l false none
  | .confirm => (s.rowConfirm l raw).countRest l raw
  | .sync => if raw.offset = x.offset then (s.rowSync l raw).countRest l raw else s
  | .flywheel => if raw.offset = x.offset then (s.rowFlywheel l raw).countRest l raw else s

/-- The signal as the detector of LOS sees it: rows in a row with signal present, each device row counted once (R110). -/
def LaneRuns.signal (q : LaneRuns) (present : Bool) (row : Nat) : LaneRuns :=
  if !present then { q with losOk := 0, losRow := some row }
  else if q.losRow = some row then q
  else { q with losOk := q.losOk + 1, losRow := some row }

/-- The device row under way, counted from reset. -/
def State.rowNow (s : State) : Nat := s.clk.tick / 64

/-- A stretch of the line of one row length has reached the RX pins (R92 to R118). Nothing is received while the direction is off or its
octet is not ON; under a LINE checker the alignment is held in HUNT and no row is judged (R321). -/
def execLaneRowReceived (lane : Fin 512) (row : RawRow) (s : State) : Host.Outcome State Fault Refusal :=
  let l := lane.val
  let x := s.lane l
  if !x.rxOn || s.domain (lrOf l) != 0 then .next s
  else
    let raw := s.looped l row
    let s := s.modLane l fun x => { x with
      runs := x.runs.signal raw.signal s.rowNow
      test := { x.test with near := if x.near then raw.levels else [] } }
    let s := if s.lineChecker l then s.lineCheck l raw
      else (x.loopedElsewhere raw ++ [raw]).foldl (fun s r => s.alignRow l r) s
    .next (if 3 ≤ x.test.loop then s.keepFar l raw else s)

/-- The signal has been absent for 1 µs: LOS sets and masks every other defect; how long the alignment has held SYNC is kept for R111
(R110, R111). Under a near loop the RX pins are ignored while the lane's own transmitter sends (R324, R336). -/
def execLaneSignalLoss (lane : Fin 512) (s : State) : Host.Outcome State Fault Refusal :=
  let l := lane.val
  let x := s.lane l
  if !x.rxOn || x.los || (x.near && !x.tx.idle) then .next s
  else
    let s := s.setLane l { x.maskAll with los := true, lof := false, runs := { sync := x.runs.sync }, secErr := true, secSev := true }
    .next (s.laneTais l)

/-- RDI, RTIM and RSELF as the defects stand (R67, R114). -/
def State.rdiNow (s : State) (l : Nat) : Bool × Bool × Bool := (s.laneRdi l, (s.lane l).tim, (s.lane l).slf)

/-- A defect has set or cleared at the row boundary now due: the remote status of the row just ending stays as it was (R114; log
entry 25). -/
def State.keepRdi (s : State) (l : Nat) (was : Bool × Bool × Bool) : State :=
  if s.rdiNow l = was then s else s.modLane l fun x => { x with rdiWas := some (x.rdiWas.getD was) }

/-- A lane defect's integration completes at the row boundary now due (R110 to R113, R115; log entry 25). A defect whose count has not
been reached stays as it is. With LOS the run of equal trace messages that TIM and SELF wait for starts anew (R111). -/
def State.laneDefect (s : State) (l : Nat) (d : LaneDefect) : State :=
  let x := s.lane l
  let q := x.runs
  let free := !x.los && !x.lof
  let tais := fun (s : State) => s.laneTais l
  if !x.rxOn then s
  else match d with
  | .los =>
    if x.los && decide (4 ≤ q.losOk) then
      let s := s.setLane l { x with los := false, runs := { sync := q.sync }, traceBuf := [], traceLen := 0, traceRun := 0 }
      if 8 ≤ q.sync then s else s.setLof l true
    else s
  | .lof =>
    if x.lof && !x.los && decide (8 ≤ q.sync) then
      s.setLane l { x with lof := false, runs := { losOk := q.losOk, losRow := q.losRow, sync := q.sync } }
    else s
  | .anf =>
    if free && !x.anf && decide (2 ≤ q.anfBad) then
      tais (s.setLane l { x with anf := true, runs := { q with anfSet := 0 } })
    else if x.anf && decide (8 ≤ q.anfOk) then s.setLane l { x with anf := false } else s
  | .unc =>
    if free && !x.unc && decide (2 ≤ q.uncBad) then s.setLane l { x with unc := true }
    else if x.unc && decide (8 ≤ q.uncOk) then s.setLane l { x with unc := false } else s
  | .lais =>
    if free && !x.lais && decide (2 ≤ q.laisOn) then s.setLane l { x with lais := true }
    else if x.lais && decide (2 ≤ q.laisOff) then s.setLane l { x with lais := false } else s
  | .sd =>
    if free && !x.sd && q.sdBad then s.setLane l { x with sd := true }
    else if x.sd && decide (4 ≤ q.sdOk) then s.setLane l { x with sd := false } else s
  | .rrdi =>
    if free && !x.rrdi && decide (3 ≤ q.rdiOn) then s.setLane l { x with rrdi := true }
    else if x.rrdi && decide (3 ≤ q.rdiOff) then s.setLane l { x with rrdi := false } else s
  | .anw =>
    if free && !x.anw && decide (64 ≤ q.anwOn) then s.setLane l { x with anw := true }
    else if x.anw && decide (64 ≤ q.anwOff) then s.setLane l { x with anw := false } else s

/-- A lane defect's integration completes (R110). -/
def execLaneDefectIntegration (lane : Fin 512) (d : LaneDefect) (s : State) : Host.Outcome State Fault Refusal :=
  .next ((s.laneDefect lane.val d).keepRdi lane.val (s.rdiNow lane.val))

/-- ANF has been set for 64 consecutive rows under AUTO: the anchor is chosen again (R101). -/
def execAnchorRechoose (lane : Fin 512) (s : State) : Host.Outcome State Fault Refusal :=
  let l := lane.val
  let x := s.lane l
  if x.anf && decide (64 ≤ x.runs.anfSet) && s.cur .laneAnchor (s.anchorLane l) == 255 && s.cur .laneClocking l == 0 then
    let s := s.rechoose l
    .next (s.modLane l fun x => { x with runs := { x.runs with anfSet := 0 } })
  else .next s

/-- 64 rows after a false lock the offset may be a candidate again (R95). -/
def execOffsetBarExpiry (lane : Fin 512) (offset : Nat) (s : State) : Host.Outcome State Fault Refusal :=
  .next (s.modLane lane.val fun x => { x with
    barred := x.barred.filter fun b => !(b.1 == offset && s.elapsed b.2 (64 * 64)) })

/-- A tributary defect's integration completes (R144, R145). -/
def execTribDefectIntegration (trib : Nat) (d : TribDefect) (s : State) : Host.Outcome State Fault Refusal :=
  let t := s.trib trib
  let q := t.runs
  let free := t.on && !t.tais && !t.tlop
  let put := fun (t : Trib) => s.setTrib trib t
  let aisIn := s.tribsDown t.lane
  if !t.on then .next s
  else match d with
  | .tais =>
    if !t.tais && decide (2 ≤ q.ais) then .next (put t.enterTais)
    else if t.tais && q.leave && !aisIn then .next (put { t with tais := false, runs := { slipOk := q.slipOk } }) else .next s
  | .tlop =>
    if free && decide (8 ≤ q.inv) then
      .next (put { t.holdByLop with tlop := true, runs := { slipOk := q.slipOk } })
    else if t.tlop && q.leave then .next (put { t with tlop := false, runs := { slipOk := q.slipOk } }) else .next s
  | .tszm =>
    if free && !t.tszm && decide (3 ≤ q.szBad) then .next (put { t with tszm := true })
    else if t.tszm && decide (3 ≤ q.szOk) then .next (put { t with tszm := false }) else .next s
  | .tuneq =>
    if free && !t.tuneq && decide (5 ≤ q.uneq) then .next (put { t with tuneq := true })
    else if t.tuneq && decide (5 ≤ q.eqOk) then .next (put { t with tuneq := false }) else .next s
  | .tplm =>
    if free && !t.tplm && decide (5 ≤ q.plmBad) then .next (put { t with tplm := true })
    else if t.tplm && (decide (5 ≤ q.plmOk) || !s.flag .tribLabelCheck trib) then .next (put { t with tplm := false })
    else .next s
  | .tsd =>
    if free && !t.tsd && q.sdBad then .next (put { t with tsd := true })
    else if t.tsd && decide (4 ≤ q.sdOk) then .next (put { t with tsd := false }) else .next s
  | .trdi =>
    if free && !t.trdi && decide (3 ≤ q.rdiOn) then .next (put { t with trdi := true })
    else if t.trdi && decide (3 ≤ q.rdiOff) then .next (put { t with trdi := false }) else .next s
  | .tslip =>
    if t.tslip && decide (64 ≤ q.slipOk) then .next (put { t with tslip := false }) else .next s

end Sys2Proof.Machine
end

