-- ==== Sys2Proof/Machine/LaneTest.lean ====
section
/-!
DEFINITION. Machine/LaneTest.lean: lane directions, the test set, patterns, injection, loops, eye scans, management frames
and wiring faults (R310 to R339, R402).
-/
namespace Sys2Proof.Machine

/-! ### Directions (R310 to R312) -/

/-- A scan with FREEZE 1 holds lane.rx_adapt at FREEZE while it runs (R331, R336). -/
def State.adaptHeld (s : State) (l : Nat) : Bool :=
  let t := (s.lane l).test
  match t.scan with
  | some (_, _, _, _, freeze, _) => freeze == 1 && !t.scanWait
  | none => false

/-- An eye scan ends when its RX direction is disabled or its lane.mode changes (R332). -/
def Lane.endScan (x : Lane) : Lane :=
  if x.test.scan.isSome then { x with test := { x.test with scanEnd := true } } else x

/-- The TX direction is enabled: precoder at P = 0, the first row carries row check 0, a pattern starts anew (R57, R68, R311, R317,
R319). -/
def State.laneTxOn (s : State) (l : Nat) : State :=
  s.modLane l fun x => { x with
    txOn := true
    txSending := false
    txFirst := true
    txTick := s.clk.tick
    txCrc := 0
    precode := 0
    rdiTx := (false, false, false)
    tx := {}
    test := { x.test with gen := 0, sentSyms := 0 } }

/-- The RX direction is enabled: HUNT, LOF set, nothing held from before; the equaliser starts (R92, R110, R311). -/
def State.laneRxOn (s : State) (l : Nat) : State :=
  let x := (s.lane l).maskAll
  let s := s.setLane l { x with
    rxOn := true
    align := .hunt
    pnInv := false
    cands := []
    barred := []
    jump := none
    held := none
    rcfRun := 0
    anchor := 0
    rows := []
    los := false
    lof := true
    runs := {}
    rceTx := false
    runcTx := 0
    traceBuf := []
    traceLen := 0
    traceLast := []
    traceRun := 0
    traceAcc := none
    qlRank := 0
    qlSeen := (0, 0)
    eqOk := false
    secSev := true
    secErr := true
    test := x.test.reseed }
  let sf : Nat := if s.cur .laneClocking l = 1 then 0 else s.clk.rsn.toNat / 625
  (if s.cur .facetEnable 0 = 1 then s.modFacetLane l fun f => { f with fresh := some sf } else s).laneTais l

/-- A loop that is in force or due ends; a pending command is complete. The TX pins are idle until the next row is sent (R325, R389). -/
def State.endLoop (s : State) (l : Nat) : State :=
  let x := s.lane l
  let s := s.setLane l { x with
    tx := if x.test.loop = 0 then x.tx else {}
    test := { x.test with loop := 0, loopNext := none, far := none, near := [] } }
  match x.test.loopNext with
  | some (_, _, c) => s.complete c 0 0 0 false
  | none => s

/-- The RX direction is disabled: DISABLED, no defect, grain AIS for its grains; a loop and a running scan end (R92, R174,
R312, R325, R332). -/
def State.laneRxOff (s : State) (l : Nat) : State :=
  let x := (s.lane l).maskAll.endScan
  let s := s.setLane l { x with
    rxOn := false
    align := .disabled
    pnInv := false
    cands := []
    jump := none
    held := none
    anchor := 0
    rows := []
    los := false
    lof := false
    runs := {}
    rceTx := false
    runcTx := 0
    traceAcc := none
    eqOk := false
    test := x.test.reseed }
  (s.laneTais l).endLoop l

/-- The TX direction is disabled: electrical idle; a loop and an injection programme end (R310, R325). -/
def State.laneTxOff (s : State) (l : Nat) : State :=
  let x := s.lane l
  (s.setLane l { x with txOn := false, txSending := false, tx := {}, test := { x.test with injRows := 0 } }).endLoop l

/-- Generator, LINE checker, injection and loop of a lane stop; a PAYLOAD checker goes on unless all is true (R325, R336). -/
def State.stopTests (s : State) (l : Nat) (all : Bool) : State :=
  let s := (s.setCur .lanePrbsTx l 0).release .lanePrbsTx l
  let rx := s.cur .lanePrbsRx l
  let ends := rx == 1 || (all && rx != 0)
  let s := if ends then (s.setCur .lanePrbsRx l 0).release .lanePrbsRx l else s
  let s := s.modLane l fun x => { x with test := { (if ends then x.test.reseed else x.test) with injRows := 0 } }
  s.endLoop l

/-- The lanes of the test set. -/
def State.testSet (s : State) : List Nat := (s.lanes.filter fun x => x.2.test.under).map (·.1)

/-- The test set is emptied: every test of its lanes stops first (R320, R336). -/
def State.emptyTestSet (s : State) : State :=
  s.testSet.foldl (fun s l => (s.stopTests l false).modLane l fun x => { x with test := { x.test with under := false } }) s

/-- An enabled TX direction sends its first full row (R311). -/
def execLaneTxStart (lane : Fin 512) (s : State) : Host.Outcome State Fault Refusal :=
  let x := s.lane lane.val
  if x.txOn && !x.txSending && s.domain (ltOf lane.val) == 0 then .next (s.setLane lane.val { x with txSending := true })
  else .next s

/-- The receive equaliser has converged; RESTART returns to CONTINUOUS and a scan that waited starts. While a scan holds lane.rx_adapt at
FREEZE, a value written waits (R311, R315, R331, R336). -/
def execEqualiserConverged (lane : Fin 512) (s : State) : Host.Outcome State Fault Refusal :=
  let l := lane.val
  let x := s.lane l
  if x.rxOn then
    let held := s.adaptHeld l
    let s := s.setLane l { x with eqOk := true, test := { x.test with scanWait := false } }
    .next (if s.cur .laneRxAdapt l = 2 ∧ held = false then s.setCur .laneRxAdapt l 0 else s)
  else .next s

/-! ### The test commands (R320, R323 to R325) -/

/-- A command that acts on a lane under test: WRONG_MODE outside TEST, NOT_UNDER_TEST outside the test set. -/
def State.testChecks (s : State) (l : Nat) : List (Bool × Nat × Nat) :=
  [(s.dev.mode != .test, 0x000B, 0), (!(s.lane l).test.under, 0x0801, 0)]

/-- A LINE checker that did not run in state old starts: the lane is held in HUNT with LOF set (R321). -/
def State.checkerFrom (s old : State) (l : Nat) : State :=
  if s.lineChecker l && !old.lineChecker l && (s.lane l).rxOn then
    (s.enterHunt l none).modLane l fun x => { x with test := x.test.reseed }
  else s

/-- TEST.LANE (R320, R321). -/
def testLaneBody (lane add : Nat) (_c : CmdRef) (s : State) : Reply :=
  guarded [(decide (511 < lane ∨ 1 < add), 0x0004, 0), (s.dev.mode != .test, 0x000B, 0)] <|
    let s := if add = 1 then s else s.stopTests lane false
    let t := s.modLane lane fun x => { x with test := { x.test with under := add == 1 } }
    .done (t.checkerFrom s lane) 0 [(lane, 1, add)]

/-- TEST.LANE (R320). -/
def execTestLane (e : Entry) (lane add : Nat) (s : State) : Host.Outcome State Fault Refusal :=
  serve (cmdOf (.testLane e lane add)) e s (testLaneBody lane add)

/-- The greatest amount per row of an injection kind, coded in table order (R323). -/
def injectMax (kind : Nat) : Nat :=
  match kind with
  | 0 => 30
  | 1 => 128
  | 2 => 1
  | 3 => 1
  | 4 => 64
  | 5 => 4096
  | _ => 0

/-- TEST.INJECT (R323). injRows counts the rows still to be corrupted plus 1 until INJECTION_END. -/
def testInjectBody (rows lane amount kind : Nat) (_c : CmdRef) (s : State) : Reply :=
  guarded ([(decide (511 < lane ∨ 5 < kind), 0x0004, 0)] ++ s.testChecks lane ++
      [(!(s.lane lane).txOn, 0x0802, 0), (decide (amount < 1 ∨ injectMax kind < amount), 0x0004, 0)]) <|
    if rows = 0 then .noop true
    else
      .done (s.modLane lane fun x => { x with test := { x.test with
        injKind := kind
        injAmount := amount
        injRows := rows + 1
        injFrom := s.clk.rsn + 1 } }) 0 [(lane, 1, rows)]

/-- TEST.INJECT (R323). -/
def execTestInject (e : Entry) (rows lane amount kind : Nat) (s : State) : Host.Outcome State Fault Refusal :=
  serve (cmdOf (.testInject e rows lane amount kind)) e s (testInjectBody rows lane amount kind)

/-- TEST.LOOP: it takes effect, and completes, within 1 ms (R324, R325). A loop still pending is replaced. -/
def testLoopBody (lane loop : Nat) (c : CmdRef) (s : State) : Reply :=
  let x := s.lane lane
  guarded ([(decide (511 < lane ∨ 4 < loop), 0x0004, 0), (!(x.rxOn && x.txOn), 0x0802, 0)] ++ s.testChecks lane) <|
    let s := match x.test.loopNext with
      | some (_, _, old) => s.complete old 0 0 0 false
      | none => s
    .accept (s.modLane lane fun x => { x with test := { x.test with loopNext := some (loop, s.clk.tick, c) } }) [(lane, 1, loop)]

/-- TEST.LOOP (R324). -/
def execTestLoop (e : Entry) (lane loop : Nat) (s : State) : Host.Outcome State Fault Refusal :=
  serve (cmdOf (.testLoop e lane loop)) e s (testLoopBody lane loop)

/-- A selected loop takes effect; under a near loop TIM and SELF are held clear. The TX pins are idle until the next row is sent (R325,
R326). -/
def execLoopEffect (lane : Fin 512) (s : State) : Host.Outcome State Fault Refusal :=
  let l := lane.val
  let x := s.lane l
  match x.test.loopNext with
  | none => .next s
  | some (k, _, c) =>
    let s := s.setLane l { x with
      tx := if x.test.loop = k then x.tx else {}
      test := { x.test with loop := k, loopNext := none, far := none, near := [] } }
    .next ((s.evalTrace l).complete c 0 0 0 false)

/-- An injection programme ends after its rows (R323). -/
def execInjectionEnd (lane : Fin 512) (s : State) : Host.Outcome State Fault Refusal :=
  let x := s.lane lane.val
  if x.test.injRows = 1 then .next (s.setLane lane.val { x with test := { x.test with injRows := 0 } }) else .next s

/-! ### Eye scans (R331, R332) -/

/-- Points of a scan: 64 phase by 63 threshold offsets for each eye (R331). -/
def eyePoints (eyes : Nat) : Nat := if eyes = 3 then 12096 else 4032

/-- Scans that run in the device. -/
def State.scans (s : State) : Nat := (s.lanes.filter fun x => x.2.test.scan.isSome).length

/-- LANE.EYE_SCAN (R331, R332). -/
def eyeScanBody (b : Buf) (lane eyes d vstep freeze : Nat) (c : CmdRef) (s : State) : Reply :=
  let x := s.lane lane
  guarded ([(b.len == 0, 0x0003, 0),
      (decide (511 < lane ∨ 3 < eyes ∨ d < 16 ∨ 32 < d ∨ vstep < 1 ∨ 4 < vstep ∨ 1 < freeze), 0x0004, 0)] ++
      s.bufChecks b (4 * eyePoints eyes) true ++
      [(!x.rxOn, 0x0802, 0), (x.test.scan.isSome, 0x0009, 0), (decide (64 ≤ s.scans), 0x0803, 0)]) <|
    .accept (s.setLane lane { x with test := { x.test with
      scan := some (b, eyes, d, vstep, freeze, c)
      scanWait := s.cur .laneRxAdapt lane == 2
      scanEnd := false } })

/-- LANE.EYE_SCAN (R331). -/
def execLaneEyeScan (e : Entry) (b : Buf) (lane eyes d vstep freeze : Nat) (s : State) :
    Host.Outcome State Fault Refusal :=
  serve (cmdOf (.laneEyeScan e b lane eyes d vstep freeze)) e s (eyeScanBody b lane eyes d vstep freeze)

/-- The entry of a point: a saturating count and its mark (R332). -/
def eyeEntry (n : Nat) : List Byte := leBytes 4 (if 2 ^ 24 ≤ n then 2 ^ 24 - 1 + 2 ^ 24 else n)

/-- A scan finishes, or ends with LANE_DISABLED; the points measured by then are in the buffer. A buffer that no longer stands in a window
ends it with ADDR_FAULT; a RESTART written meanwhile takes effect (R315, R331, R332, R374). -/
def execEyeScanDone (lane : Fin 512) (counts : List Nat) (s : State) : Host.Outcome State Fault Refusal :=
  let l := lane.val
  let x := s.lane l
  match x.test.scan with
  | none => .next s
  | some (b, eyes, _, _, _, c) =>
    if x.test.scanWait && !x.test.scanEnd then .next s
    else
      let bs := (counts.take (eyePoints eyes)).flatMap eyeEntry
      let s := s.setLane l { x with
        eqOk := x.eqOk && !(s.adaptHeld l && s.cur .laneRxAdapt l == 2)
        test := { x.test with scan := none, scanWait := false, scanEnd := false } }
      let fits := s.bufWrite b bs.length
      let s := if s.host.linkUp && fits then s.hostWrite b.addr bs else s
      if x.test.scanEnd then .next (s.complete c 0x0802 0xFFFFFFFF 0 false)
      else if fits then .next (s.complete c 0 0 0 false)
      else .next (s.complete c 0x0007 0xFFFFFFFF 0x0001 false)

/-! ### Management frames (R402) -/

/-- Checks of lane and channel: channel 1 exists in F221 alone (R402). -/
def State.mgmtChecks (s : State) (lane channel : Nat) : List (Bool × Nat × Nat) :=
  [(decide (511 < lane ∨ 1 < channel), 0x0004, 0), (channel == 1 && s.cur .laneMode lane != 0, 0x0005, 0)]

/-- LANE.MGMT_SEND: 16 frames wait at most (R402). -/
def mgmtSendBody (b : Buf) (lane channel : Nat) (frame : List Byte) (_c : CmdRef) (s : State) : Reply :=
  let q := (s.lane lane).mgmtTx
  let mine := if channel = 0 then q.1 else q.2
  guarded ([(b.len == 0, 0x0003, 0), (decide (4096 < b.len), 0x0004, 0)] ++ s.mgmtChecks lane channel ++
      [(!s.bufRead b b.len, 0x0007, s.readDetail b b.len), (decide (16 ≤ mine.length), 0x0009, 0)]) <|
    let mine := mine ++ [frame.take b.len]
    .done (s.modLane lane fun x => { x with mgmtTx := if channel = 0 then (mine, q.2) else (q.1, mine) }) 0
      [(lane, 1, channel)]

/-- LANE.MGMT_SEND (R402). -/
def execLaneMgmtSend (e : Entry) (b : Buf) (lane channel : Nat) (frame : List Byte) (s : State) :
    Host.Outcome State Fault Refusal :=
  serve (cmdOf (.laneMgmtSend e b lane channel frame)) e s (mgmtSendBody b lane channel frame)

/-- LANE.MGMT_RECV: the oldest frame, its length in RESULT; an empty queue gives RESULT 0 (R402). -/
def mgmtRecvBody (b : Buf) (lane channel : Nat) (_c : CmdRef) (s : State) : Reply :=
  let q := (s.lane lane).mgmtRx
  guarded ([(b.len == 0, 0x0003, 0)] ++ s.mgmtChecks lane channel) <|
    match if channel = 0 then q.1 else q.2 with
    | [] => .done s 0
    | f :: r =>
      guarded (s.bufChecks b f.length true) <|
        let s := s.modLane lane fun x => { x with mgmtRx := if channel = 0 then (r, q.2) else (q.1, r) }
        .done (s.hostWrite b.addr f) f.length

/-- LANE.MGMT_RECV (R402). -/
def execLaneMgmtRecv (e : Entry) (b : Buf) (lane channel : Nat) (s : State) : Host.Outcome State Fault Refusal :=
  serve (cmdOf (.laneMgmtRecv e b lane channel)) e s (mgmtRecvBody b lane channel)

/-! ### Wiring faults (R333 to R335) -/

/-- Number of bits of a 6-bit word that are set in new and not in old. -/
def bitsSet (old new : Nat) : Nat :=
  ([0, 1, 2, 3, 4, 5].filter fun i => new.testBit i && !old.testBit i).length

/-- The wiring detectors report: TX bits while the LT domain is ON; RX_CAUSE while the LR domain is ON, and for DC coupling
alone. The bits of an octet that is not ON stay as they are: its detectors see nothing (R333, R335, R472). -/
def execWiringFault (lane : Fin 512) (txBits : Fin 16) (rxCause : Fin 4) (s : State) : Host.Outcome State Fault Refusal :=
  let l := lane.val
  let x := s.lane l
  let tx := if s.domain (ltOf l) = 0 then txBits.val else x.wireTx
  let rx := if s.domain (lrOf l) ≠ 0 then x.wireRx else if s.cur .laneRxCoupling l = 1 then rxCause.val else 0
  let n := bitsSet (x.wireTx + 16 * x.wireRx) (tx + 16 * rx)
  .next ((s.setLane l { x with wireTx := tx, wireRx := rx }).bump .laneWiringEvents l n)

end Sys2Proof.Machine
end

