-- ==== Sys2Proof/Machine/Compile.lean ====
section
/-!
DEFINITION. Machine/Compile.lean: map entries, path tags, deliveries, egress tributary instances, the checks of a delta
table and the compiler (R135, R158 to R166, R175, R179 to R191, R265).
-/
namespace Sys2Proof

/-- The egress grain of a delta entry, lane × 4,096 + grain; reserved bits of the fields are ignored (R15, R186). -/
def DeltaEntry.key (e : DeltaEntry) : Nat := e.egrLane % 512 * 4096 + e.egrGrain % 4096
/-- The primary source, lane × 4,096 + grain. -/
def DeltaEntry.pri (e : DeltaEntry) : Nat := e.priLane % 512 * 4096 + e.priGrain % 4096
/-- The alternate source. -/
def DeltaEntry.alt (e : DeltaEntry) : Nat := e.altLane % 512 * 4096 + e.altGrain % 4096
/-- ALT of FLAGS. -/
def DeltaEntry.hasAlt (e : DeltaEntry) : Bool := e.flags % 2 == 1
/-- The source of a cut entry. -/
def CutDelta.src (e : CutDelta) : Nat := e.lane % 512 * 4096 + e.grain % 4096

end Sys2Proof

namespace Sys2Proof.Machine

/-! ### Path tags (R165) -/

/-- The key of a lane. -/
def tagKey (l : Nat) : BitVec 12 := BitVec.ofNat 12 (l % 8 * 512) ||| BitVec.ofNat 12 (l % 512)

/-- The path tag of source Ll.Gg for an egress row of parity r. -/
def pathTag (l g : Nat) (odd : Bool) : BitVec 12 :=
  let t := BitVec.ofNat 12 g ^^^ tagKey l
  if odd then t ^^^ 0xFFF else t

/-- The tag of a source number for even rows. -/
def srcTag (src : Nat) : BitVec 12 := pathTag (src / 4096) (src % 4096) false

/-! ### Map entries (R180 to R183) -/

/-- Bits lo to lo + n − 1 of an entry. -/
def fieldOf (v lo n : Nat) : Nat := v / 2 ^ lo % 2 ^ n

/-- An ingress map entry for a source (R180). -/
def ingWord (src : Nat) : BitVec 16 := BitVec.ofNat 16 (src % 32768 + 32768)
/-- A middle map entry; SRC_W equals the egress word position (R157, R181). -/
def midWord (i slot : Nat) : BitVec 12 := BitVec.ofNat 12 (i % 64 + slot % 16 * 64 + 1024)
/-- A cut input list entry (R183). -/
def cutWord (slot src : Nat) : BitVec 32 := BitVec.ofNat 32 (slot + (srcTag src).toNat * 2 ^ 16 + 2 ^ 28)
/-- An egress map entry (R182). -/
def egrWord (slot src : Nat) (alt : Option (Nat × Nat × Nat)) (inst : Bool) : BitVec 80 :=
  let a := match alt with
    | some (s, x, g) => s * 2 ^ 28 + (srcTag x).toNat * 2 ^ 44 + g * 2 ^ 56 + 2 ^ 73
    | none => 0
  BitVec.ofNat 80 (slot + (srcTag src).toNat * 2 ^ 16 + a + 2 ^ 72 + if inst then 2 ^ 74 else 0)

/-- An ingress middle slot of dune i carries a delivery. -/
def Bank.ingUsed (b : Bank) (i slot : Nat) : Bool := (Table.get 0 b.ing (i * 65536 + slot)).getLsbD 15
/-- An egress middle slot of dune j is filled. -/
def Bank.midUsed (b : Bank) (j slot : Nat) : Bool := (Table.get 0 b.mid (j * 65536 + slot)).getLsbD 10

/-- The source dune of a filled egress middle slot. -/
def Bank.srcDune (b : Bank) (j slot : Nat) : Nat := (Table.get 0 b.mid (j * 65536 + slot)).toNat % 64

/-- The source that an egress middle slot of dune j delivers. -/
def Bank.srcAt (b : Bank) (j slot : Nat) : Nat :=
  let i := b.srcDune j slot
  i * 32768 + (Table.get 0 b.ing (i * 65536 + slot)).toNat % 32768

/-! ### Connections and deliveries (R160) -/

/-- What an egress grain is connected to: the primary, and the alternate with its group. -/
structure Conn where
  pri : Nat
  alt : Option (Nat × Nat)
  deriving DecidableEq, Repr

/-- An egress map entry read as a connection. -/
def Bank.conn (b : Bank) (key : Nat) (w : BitVec 80) : Conn :=
  let v := w.toNat
  let j := key / 32768
  ⟨b.srcAt j (fieldOf v 0 16), if fieldOf v 73 1 = 1 then some (b.srcAt j (fieldOf v 28 16), fieldOf v 56 16) else none⟩

/-- The connections of a bank, by egress grain. -/
def Bank.conns (b : Bank) : Table Conn :=
  (b.egr.filter fun x => x.2.getLsbD 72).map fun x => (x.1, b.conn x.1 x.2)

/-- The cut inputs of a bank, by dune × 8,192 + input. -/
def Bank.cuts (b : Bank) : Table Nat :=
  (b.cut.filter fun x => x.2.getLsbD 28).map fun x => (x.1, b.srcAt (x.1 / 8192) (x.2.toNat % 65536))

/-- One delta entry applied to the connections (R186). -/
def applyEntry (t : Table Conn) (e : DeltaEntry) : Table Conn :=
  if e.op = 1 then Table.put t e.key ⟨e.pri, if e.hasAlt then some (e.alt, e.group) else none⟩ else Table.drop t e.key

/-- One cut entry applied to the cut inputs of a dune (R265). -/
def applyCut (t : Table Nat) (x : Nat × CutDelta) : Table Nat :=
  let k := x.1 * 8192 + x.2.input
  if x.2.op = 1 then Table.put t k x.2.src else Table.drop t k

/-- The distinct deliveries of a set of connections and cut inputs, destination dune × 2^21 + source. -/
def deliveries (cs : Table Conn) (cuts : Table Nat) : Table Bool :=
  let add := fun (t : Table Bool) (j src : Nat) => Table.put t (j * 2 ^ 21 + src) true
  let t := cs.foldl (fun t x =>
    let t := add t (x.1 / 32768) x.2.pri
    match x.2.alt with | some (a, _) => add t (x.1 / 32768) a | none => t) []
  cuts.foldl (fun t x => add t (x.1 / 8192) x.2) t

/-- D_i. -/
def leaving (t : Table Bool) (i : Nat) : Nat := (t.filter fun x => x.1 % 2 ^ 21 / 32768 == i).length
/-- E_j. -/
def entering (t : Table Bool) (j : Nat) : Nat := (t.filter fun x => x.1 / 2 ^ 21 == j).length

/-- Every dune. -/
def allDunes : List Nat := List.range 64

/-- Some D_i or E_j exceeds 65,536 (R161). -/
def routeFull (t : Table Bool) : Bool := allDunes.any fun k => decide (65536 < leaving t k ∨ 65536 < entering t k)

/-- The dunes whose D_i or E_j differs (R188). -/
def dunesChanged (t u : Table Bool) : Nat :=
  (allDunes.filter fun k => leaving t k != leaving u k || entering t k != entering u k).length

/-! ### Tributary members and instances (R135, R141) -/

/-- The tributary that holds a grain as a member. -/
def State.memberOf (s : State) (src : Nat) : Option (Nat × Trib) :=
  s.tribs.find? fun x => x.2.on && x.2.lane == src / 4096 && x.2.grains.contains (src % 4096)

/-- The RETIMED tributary of a source. -/
def State.retimedOf (s : State) (src : Nat) : Option (Nat × Trib) :=
  (s.memberOf src).filter fun x => x.2.retimed

/-- The k-th egress grain of a lane that the primary src feeds. -/
def occurrence (cs : Table Conn) (lane src k : Nat) : Option Nat :=
  ((cs.filter fun x => x.1 / 4096 == lane && x.2.pri == src).map fun x => x.1 % 4096)[k]?

/-- All entries of a list are some. -/
def allSome {α : Type} (l : List (Option α)) : Option (List α) :=
  match l with
  | [] => some []
  | none :: _ => none
  | some x :: r => (allSome r).map (x :: ·)

/-- Strictly ascending. -/
def ascending (l : List Nat) : Bool :=
  match l with
  | a :: b :: r => decide (a < b) && ascending (b :: r)
  | _ => true

/-- What the instance check finds of the k-th instance of a tributary on a lane. -/
inductive InstCheck where
  | ok (i : Inst)
  | incomplete
  | broken

/-- Protection of an instance: none, or one group and the members of one RETIMED tributary of equal n in order (R135,
R141). Each instance is judged by itself: other entries may share its group (log entry 111). -/
def State.instProt (s : State) (n : Nat) (alts : List (Option (Nat × Nat))) : Option (Option (Nat × Nat)) :=
  if alts.all (·.isNone) then some none
  else match allSome alts with
    | none => none
    | some xs => match xs.head? with
      | none => none
      | some (a, g) => match s.retimedOf a with
        | none => none
        | some (k, t) =>
          if t.n = n ∧ xs.all (fun x => x.2 == g) ∧ xs.map (·.1) = t.grains.map (fun m => t.lane * 4096 + m) then some (some (k, g))
          else none

/-- The k-th instance of tributary T on a lane: it takes the k-th occurrence of each member, so that instances nest in one way only (log
entry 111). -/
def State.instance' (s : State) (cs : Table Conn) (lane k num : Nat) (t : Trib) : InstCheck :=
  match allSome (t.grains.map fun m => occurrence cs lane (t.lane * 4096 + m) k) with
  | none => .incomplete
  | some gs =>
    let alts := gs.map fun g => ((Table.find cs (lane * 4096 + g)).bind (·.alt))
    match s.instProt t.n alts with
    | none => .broken
    | some p => if ascending gs then .ok ⟨num, lane, gs, p⟩ else .broken

/-- How many instances of a tributary a lane carries: the most occurrences of one member. -/
def instCount (cs : Table Conn) (lane : Nat) (t : Trib) : Nat :=
  (t.grains.map fun m => (cs.filter fun x => x.1 / 4096 == lane && x.2.pri == t.lane * 4096 + m).length).foldl max 0

/-- The egress lanes that carry connections, each once. -/
def egressLanes (cs : Table Conn) : List Nat := (cs.map fun x => x.1 / 4096).eraseDups

/-- Every instance on lanes that are no loupe lanes (R135). -/
def State.instances (s : State) (cs : Table Conn) : List InstCheck :=
  (egressLanes cs).flatMap fun lane =>
    if s.cur .laneLoupe lane = 1 then []
    else s.tribs.flatMap fun (num, t) =>
      if t.on && t.retimed then (List.range (instCount cs lane t)).map fun k => s.instance' cs lane k num t else []

/-- An entry on a lane that is no loupe lane names a re-pointed word as alternate to a plain primary (R141). -/
def State.looseAlt (s : State) (cs : Table Conn) : Bool :=
  cs.any fun x => s.cur .laneLoupe (x.1 / 4096) != 1 && (s.retimedOf x.2.pri).isNone &&
    (match x.2.alt with | some (a, _) => (s.retimedOf a).isSome | none => false)

/-- An instance breaks R135 or R141. -/
def State.instBroken (s : State) (cs : Table Conn) : Bool :=
  s.looseAlt cs || (s.instances cs).any fun x => match x with | .broken => true | _ => false

/-- An instance is incomplete. -/
def State.instIncomplete (s : State) (cs : Table Conn) : Bool :=
  (s.instances cs).any fun x => match x with | .incomplete => true | _ => false

/-- The descriptors of the instances. -/
def State.descriptors (s : State) (cs : Table Conn) : List Inst :=
  (s.instances cs).filterMap fun x => match x with | .ok i => some i | _ => none

/-! ### The checks of a delta table (R187, R265) -/

/-- Lane and grain lie in the lane's mode (R12, R49). -/
def State.grainOk (s : State) (src : Nat) : Bool := decide (src % 4096 < s.grainsOf (src / 4096))

/-- The code of a delta entry or the address of a grain is out of range. -/
def State.entryRange (s : State) (e : DeltaEntry) : Bool :=
  (e.op != 1 && e.op != 2) || !s.grainOk e.key ||
    (e.op == 1 && (!s.grainOk e.pri || (e.hasAlt && !s.grainOk e.alt)))

/-- Fields of a delta entry contradict each other. -/
def DeltaEntry.fieldBad (e : DeltaEntry) : Bool :=
  (e.hasAlt && e.alt == e.pri) || (!e.hasAlt && (e.altLane != 0 || e.altGrain != 0 || e.group != 0)) ||
    (e.op == 2 && (e.hasAlt || e.priLane != 0 || e.priGrain != 0 || e.altLane != 0 || e.altGrain != 0 || e.group != 0))

/-- A source that cannot be connected: a PLESIO lane's grain that is no member of a RETIMED tributary, or the higher lane of
a merge pair (R104, R187). -/
def State.sourceBad (s : State) (src : Nat) : Bool :=
  let l := src / 4096
  (s.cur .laneClocking l == 1 && (s.retimedOf src).isNone) || (s.prot.merges.any fun m => m.high == l)

/-- Packing ratio of a cut format (R266). -/
def cutRatio (fmt : Nat) : Nat := if fmt = 1 then 4 else 2

/-- Grains that a cut output occupies (R269). -/
def State.cutGrains (s : State) (d : Nat) : Nat :=
  let r := cutRatio (s.cur .cutFormat d)
  (s.cur .cutInputs d + r - 1) / r

/-- The facet stream owns a grain: as configured while facet.enable is 1, and until a stream under way has ended (R264, R275). -/
def State.facetOwns (s : State) (key : Nat) : Bool :=
  let f := s.cur .facetLoupeFirst 0
  (s.cur .facetEnable 0 == 1 && s.cur .facetDest 0 != 0 && key / 4096 == s.cur .facetLoupeLane 0 &&
    decide (f ≤ key % 4096 ∧ key % 4096 < f + s.cur .facetLoupeGrains 0)) ||
  (match s.obs.facet.loupe with
    | some p => key / 4096 == p.lane && decide (p.first ≤ key % 4096 ∧ key % 4096 < p.first + p.k)
    | none => false)

/-- The cut stage of the grain's dune owns it (R269). -/
def State.cutOwns (s : State) (key : Nat) : Bool :=
  let d := key / 32768
  let f := s.cur .cutFirst d
  s.cur .cutEnable d == 1 && key / 4096 == s.cur .cutLane d && decide (f ≤ key % 4096 ∧ key % 4096 < f + s.cutGrains d)

/-- A grain is owned by another output. -/
def State.owned (s : State) (key : Nat) : Bool := s.facetOwns key || s.cutOwns key

/-- The stripe of a lane is not ON (R175). -/
def State.stripeDown (s : State) (lane : Nat) : Bool := s.domain (stripeOf lane) != 0

/-- A delivery of the entry needs a stripe that is not ON; a DISCONNECT on such a stripe is refused as well (R175; log entry 112). -/
def State.entryDown (s : State) (e : DeltaEntry) : Bool :=
  s.stripeDown (e.key / 4096) || (e.op == 1 && (s.stripeDown (e.pri / 4096) || (e.hasAlt && s.stripeDown (e.alt / 4096))))

/-- Either unit of a pair is in MAINTAIN (R46). -/
def State.maintained (s : State) : Bool :=
  s.dev.mode == .maintain || (s.cur .pairEnable 0 == 1 && s.pair.peerMode == 6)

/-- CARAVAN.START is accepted and not yet in effect (R203). -/
def State.caravanStarting (s : State) : Bool := s.com.car.start.isSome && s.dev.mode != .caravan

/-- A COMMIT.NOW or COMMIT.AT is pending, or a timetable that has ended still commits its last entry (R187). -/
def State.commitPending (s : State) : Bool :=
  match s.com.pend with
  | some p => !p.caravan || s.dev.mode != .caravan
  | none => false

/-- A holder with a joined follower (R197). -/
def State.paired (s : State) : Bool := s.dev.role == .holder && s.pair.peerJoined

/-- The staged delta belongs to another session (R399). -/
def State.stageOwned (s : State) (c : CmdRef) : Bool := s.com.hasDelta && s.com.owner != 0 && s.com.owner != c.session

/-- The rows WRONG_MODE to SARED_DOWN of R187, which every staging command shares. -/
def State.stageModeChecks (s : State) : List (Bool × Nat × Nat) :=
  [(s.dev.mode == .caravan || s.maintained || s.caravanStarting, 0x000B, 0), (s.commitPending, 0x0305, 0),
   (s.dev.role == .follower, 0x0201, 0), (s.paired && !s.pair.linkUp, 0x0202, 0)]

/-- The shadow bank after a replay that is due (R192, R207). -/
def State.afterReplay (s : State) : State :=
  if s.com.replaying then
    { s.setShadow s.egrB with com := { s.com with replaying := false } }
  else s

/-- Some egress grain stands twice in a table. -/
def dupIndex (seen : List Nat) (l : List Nat) (k : Nat) : Option Nat :=
  match l with
  | [] => none
  | x :: r => if seen.contains x then some k else dupIndex (x :: seen) r (k + 1)

/-- The first key that stands twice refuses with DELTA_CONFLICT and its index. -/
def checkDup (l : List Nat) (r : Reply) : Reply :=
  match dupIndex [] l 0 with
  | some i => .refuse 0x0302 i
  | none => r

/-- The content checks of R187 for a delta table, from the field checks to DOMAIN_OFF, against connections cs and cut inputs
that stand before it; mid: ADDR_FAULT and STAGE_OWNED, which R388 places after the field checks. -/
def State.deltaChecks (s : State) (cs : Table Conn) (cuts : Table Nat) (es : List DeltaEntry)
    (mid : List (Bool × Nat × Nat)) (r : Reply) : Reply :=
  let after := es.foldl applyEntry cs
  let con := fun (e : DeltaEntry) => e.op == 1
  checkItems es s.entryRange 0x0004 <|
  checkItems es DeltaEntry.fieldBad 0x0005 <|
  guarded mid <|
  checkDup (es.map (·.key)) <|
  checkItems es (fun e => con e && (s.sourceBad e.pri || (e.hasAlt && s.sourceBad e.alt))) 0x0303 <|
  checkItems es (fun e => con e && s.owned e.key) 0x0309 <|
  guarded [(s.instBroken after, 0x0304, 0), (routeFull (deliveries after cuts), 0x0301, 0)] <|
  checkItems es s.entryDown 0x000D r

/-! ### The compiler (R164, R190) -/

/-- The first number of n from k on, counting round 65,536, for which p holds. -/
def probe (p : Nat → Bool) (k n : Nat) : Option Nat :=
  match n with
  | 0 => none
  | m + 1 => if p (k % 65536) then some (k % 65536) else probe p (k + 1) m

/-- The slot that delivers src to dune j, where one does. -/
def Bank.slotOf (b : Bank) (j src : Nat) : Option Nat :=
  let i := src / 32768
  ((b.ing.filter fun x => x.1 / 65536 == i && x.2.toNat % 32768 == src % 32768 && x.2.getLsbD 15).map fun x =>
    x.1 % 65536).find? fun slot => b.midUsed j slot && b.srcDune j slot == i

/-- Write a delivery of src into slot of both sides. -/
def Bank.addDelivery (b : Bank) (j src slot : Nat) : Bank :=
  let i := src / 32768
  { b with
    ing := Table.set 0 b.ing (i * 65536 + slot) (ingWord src)
    mid := Table.set 0 b.mid (j * 65536 + slot) (midWord i slot) }

/-- Remove the delivery in a slot of dune j. -/
def Bank.dropDelivery (b : Bank) (j slot : Nat) : Bank :=
  let i := b.srcDune j slot
  { b with
    ing := Table.drop b.ing (i * 65536 + slot)
    mid := Table.drop b.mid (j * 65536 + slot) }

/-- The chain of deliveries of slot numbers a and b that begins at destination dune j: destination, source, old and new slot
number (R190). -/
def Bank.chain (b : Bank) (j x y n : Nat) : List (Nat × Nat × Nat × Nat) :=
  match n with
  | 0 => []
  | m + 1 =>
    if b.midUsed j x then
      let i := b.srcDune j x
      (j, b.srcAt j x, x, y) ::
        (match allDunes.find? fun k => b.midUsed k y && b.srcDune k y == i with
          | some k => (k, b.srcAt k y, y, x) :: b.chain k x y m
          | none => [])
    else []

/-- The egress and cut entries of one moved delivery take its new slot; entries are marked by their old slot number plus
65,536 first, so that two moves never meet. -/
def Bank.reslot (b : Bank) (mv : List (Nat × Nat × Nat × Nat)) : Bank :=
  let newOf := fun (j slot : Nat) =>
    match mv.find? fun m => m.1 == j && m.2.2.1 == slot with
    | some m => m.2.2.2
    | none => slot
  let egr := fun (key : Nat) (w : BitVec 80) =>
    let v := w.toNat
    let j := key / 32768
    let p := newOf j (fieldOf v 0 16)
    let a := if fieldOf v 73 1 = 1 then newOf j (fieldOf v 28 16) else fieldOf v 28 16
    BitVec.ofNat 80 (v - fieldOf v 0 16 - fieldOf v 28 16 * 2 ^ 28 + p + a * 2 ^ 28)
  let cut := fun (key : Nat) (w : BitVec 32) =>
    BitVec.ofNat 32 (w.toNat - w.toNat % 65536 + newOf (key / 8192) (w.toNat % 65536))
  { b with egr := Table.mapVals 0 egr b.egr, cut := Table.mapVals 0 cut b.cut }

/-- Move the deliveries of a chain. -/
def Bank.moveChain (b : Bank) (mv : List (Nat × Nat × Nat × Nat)) : Bank :=
  let c := mv.foldl (fun b m => b.dropDelivery m.1 m.2.2.1) b
  (mv.foldl (fun b m => b.addDelivery m.1 m.2.1 m.2.2.2) c).reslot mv

/-- Place a new delivery of src to dune j (R164, R190): a slot number free on both sides, else a swap along an alternating
chain. Which of several free numbers is taken is a free value (seed). Answers the bank, the slot and the moves. -/
def Bank.place (b : Bank) (j src seed : Nat) : Bank × Nat × List (Nat × Nat) :=
  let i := src / 32768
  match probe (fun k => !b.ingUsed i k && !b.midUsed j k) seed 65536 with
  | some k => (b.addDelivery j src k, k, [])
  | none =>
    let x := (probe (fun k => !b.ingUsed i k) seed 65536).getD 0
    let y := (probe (fun k => !b.midUsed j k) seed 65536).getD 0
    let mv := b.chain j x y 64
    ((b.moveChain mv).addDelivery j src x, x, mv.map fun m => (m.2.1 / 32768, m.1))

/-- Some egress or cut entry of dune j reads a slot. -/
def Bank.slotRead (b : Bank) (j slot : Nat) : Bool :=
  (b.egr.any fun x => x.1 / 32768 == j && x.2.getLsbD 72 && (fieldOf x.2.toNat 0 16 == slot ||
    (x.2.getLsbD 73 && fieldOf x.2.toNat 28 16 == slot))) ||
  (b.cut.any fun x => x.1 / 8192 == j && x.2.getLsbD 28 && x.2.toNat % 65536 == slot)

/-- A slot of dune j that nothing reads any more is free again, unless its source is wanted there. -/
def Bank.unplace (b : Bank) (j slot : Nat) (wanted : List (Nat × Nat)) : Bank :=
  if b.midUsed j slot && !b.slotRead j slot && !wanted.contains (j, b.srcAt j slot) then b.dropDelivery j slot else b

/-- The sources that a delta wants delivered, with the dune. -/
def wantedOf (es : List DeltaEntry) (cuts : List (Nat × CutDelta)) : List (Nat × Nat) :=
  (es.flatMap fun e => if e.op = 1 then
    (e.key / 32768, e.pri) :: (if e.hasAlt then [(e.key / 32768, e.alt)] else []) else []) ++
  (cuts.flatMap fun x => if x.2.op = 1 then [(x.1, x.2.src)] else [])

/-- Take an egress entry out. -/
def Bank.clearEgr (b : Bank) (key : Nat) (wanted : List (Nat × Nat)) : Bank :=
  let v := (Table.get 0 b.egr key).toNat
  let b := { b with egr := Table.drop b.egr key }
  if fieldOf v 72 1 = 0 then b
  else
    let b := b.unplace (key / 32768) (fieldOf v 0 16) wanted
    if fieldOf v 73 1 = 1 then b.unplace (key / 32768) (fieldOf v 28 16) wanted else b

/-- Take a cut entry out. -/
def Bank.clearCut (b : Bank) (key : Nat) (wanted : List (Nat × Nat)) : Bank :=
  let v := (Table.get 0 b.cut key).toNat
  let b := { b with cut := Table.drop b.cut key }
  if v / 2 ^ 28 % 2 = 0 then b else b.unplace (key / 8192) (v % 65536) wanted

/-- The slot that delivers src to dune j, placed where none does. -/
def Bank.deliver (b : Bank) (j src seed : Nat) : Bank × Nat × List (Nat × Nat) :=
  match b.slotOf j src with
  | some k => (b, k, [])
  | none => b.place j src seed

/-- Compile one CONNECT. inst: the grain belongs to an egress instance. -/
def Bank.connect (b : Bank) (e : DeltaEntry) (inst : Bool) (seed : Nat) : Bank × List (Nat × Nat) :=
  let j := e.key / 32768
  let (b, _, mv) := b.deliver j e.pri seed
  let (b, mv2) := if e.hasAlt then (let (b, _, m) := b.deliver j e.alt seed; (b, m)) else (b, [])
  let p := (b.slotOf j e.pri).getD 0
  let alt := if e.hasAlt then some ((b.slotOf j e.alt).getD 0, e.alt, e.group) else none
  ({ b with egr := Table.set 0 b.egr e.key (egrWord p e.pri alt inst) }, mv ++ mv2)

/-- Compile one cut input. -/
def Bank.connectCut (b : Bank) (d : Nat) (e : CutDelta) (seed : Nat) : Bank × List (Nat × Nat) :=
  let (b, k, mv) := b.deliver d e.src seed
  ({ b with cut := Table.set 0 b.cut (d * 8192 + e.input) (cutWord k e.src) }, mv)

/-- INST of R182: a re-pointed word on a lane that is no loupe lane. -/
def State.instBit (s : State) (e : DeltaEntry) : Bool :=
  (s.retimedOf e.pri).isSome && s.cur .laneLoupe (e.key / 4096) != 1

/-- Compile a delta into a bank. Answers the bank and the deliveries moved. -/
def State.compile (s : State) (b : Bank) (es : List DeltaEntry) (cuts : List (Nat × CutDelta)) (seed : Nat) :
    Bank × List (Nat × Nat) :=
  let w := wantedOf es cuts
  let b := es.foldl (fun b e => b.clearEgr e.key w) b
  let b := cuts.foldl (fun b x => b.clearCut (x.1 * 8192 + x.2.input) w) b
  let (b, mv) := es.foldl (fun (b, mv) e =>
    if e.op = 1 then (let (b, m) := b.connect e (s.instBit e) seed; (b, mv ++ m)) else (b, mv)) (b, [])
  cuts.foldl (fun (b, mv) x =>
    if x.2.op = 1 then (let (b, m) := b.connectCut x.1 x.2 seed; (b, mv ++ m)) else (b, mv)) (b, mv)

/-! ### Compiled records (R189, R198) -/

/-- Read one map entry of a bank as 80 bits. -/
def Bank.entry (b : Bank) (map dune index : Nat) : BitVec 80 :=
  match map with
  | 0 => (Table.get 0 b.ing (dune * 65536 + index)).setWidth 80
  | 1 => (Table.get 0 b.mid (dune * 65536 + index)).setWidth 80
  | 2 => Table.get 0 b.egr (dune * 32768 + index)
  | _ => (Table.get 0 b.cut (dune * 8192 + index)).setWidth 80

/-- Write one map entry. -/
def Bank.write (b : Bank) (r : MapRec) : Bank :=
  let v := r.value.getD 0
  match r.map with
  | 0 => { b with ing := Table.set 0 b.ing (r.dune * 65536 + r.index) (v.setWidth 16) }
  | 1 => { b with mid := Table.set 0 b.mid (r.dune * 65536 + r.index) (v.setWidth 12) }
  | 2 => { b with egr := Table.set 0 b.egr (r.dune * 32768 + r.index) v }
  | _ => { b with cut := Table.set 0 b.cut (r.dune * 8192 + r.index) (v.setWidth 32) }

/-- Write records in order. -/
def Bank.writeAll (b : Bank) (rs : List MapRec) : Bank := rs.foldl (fun b r => b.write r) b

/-- The keys of two tables, each once. -/
def keysOf {α : Type} (t u : Table α) : List Nat :=
  t.map (·.1) ++ ((u.map (·.1)).filter fun k => (Table.find t k).isNone)

/-- The record that brings entry (map, dune, index) to its value in b; none where a holds it already. -/
def recFor (a b : Bank) (map dune index : Nat) : Option MapRec :=
  let v := b.entry map dune index
  if a.entry map dune index = v then none else some ⟨map, dune, index, if v = 0 then none else some v⟩

/-- The records by which b differs from a. -/
def diffRecs (a b : Bank) : List MapRec :=
  ((keysOf a.ing b.ing).filterMap fun k => recFor a b 0 (k / 65536) (k % 65536)) ++
  ((keysOf a.mid b.mid).filterMap fun k => recFor a b 1 (k / 65536) (k % 65536)) ++
  ((keysOf a.egr b.egr).filterMap fun k => recFor a b 2 (k / 32768) (k % 32768)) ++
  ((keysOf a.cut b.cut).filterMap fun k => recFor a b 3 (k / 8192) (k % 8192))

/-- The deliveries of a bank with their slot numbers: destination dune × 2^21 + source (R159, R160). -/
def Bank.slots (b : Bank) : Table Nat :=
  (b.mid.filter fun x => x.2.getLsbD 10).map fun x => (x.1 / 65536 * 2 ^ 21 + b.srcAt (x.1 / 65536) (x.1 % 65536), x.1 % 65536)

/-- The deliveries that stand in both banks in different slots, source dune and destination dune (R178, R190). -/
def movesBetween (a b : Bank) : List (Nat × Nat) :=
  let old := a.slots
  (b.slots.filter fun x => match Table.find old x.1 with | some k => k != x.2 | none => false).map fun x =>
    (x.1 % 2 ^ 21 / 32768, x.1 / 2 ^ 21)

/-- The two records of a delivery in a slot, in its source dune's ingress map and its destination's middle map (R189). -/
def slotRecs (d slot : Nat) (write : Bool) : List MapRec :=
  let src := d % 2 ^ 21
  let i := src / 32768
  [⟨0, i, slot, if write then some ((ingWord src).setWidth 80) else none⟩,
   ⟨1, d / 2 ^ 21, slot, if write then some ((midWord i slot).setWidth 80) else none⟩]

/-- The records of the deliveries by which b differs from a: 2 for one added or removed, 4 for one moved; slots are emptied first
(R189). -/
def deliveryRecs (a b : Bank) : List MapRec :=
  let old := a.slots
  let new := b.slots
  ((old.filter fun x => Table.find new x.1 != some x.2).flatMap fun x => slotRecs x.1 x.2 false) ++
  (new.filter fun x => Table.find old x.1 != some x.2).flatMap fun x => slotRecs x.1 x.2 true

/-- The record of an entry as a bank holds it. -/
def Bank.record (b : Bank) (map dune index : Nat) : MapRec :=
  let v := b.entry map dune index
  ⟨map, dune, index, if v = 0 then none else some v⟩

/-- The records of a delta that leads from bank a to b and names egress grains gs and cut inputs cs (dune × 8,192 + input): those of
its deliveries, one for each egress entry and cut entry that it writes, and for each whose slot a move changes (R189, R190). -/
def deltaRecs (a b : Bank) (gs cs : List Nat) : List MapRec :=
  let moved := fun (map size : Nat) (ks named : List Nat) =>
    ks.filter fun k => !named.contains k && decide (a.entry map (k / size) (k % size) ≠ b.entry map (k / size) (k % size))
  deliveryRecs a b ++
  ((gs ++ moved 2 32768 (keysOf a.egr b.egr) gs).map fun k => b.record 2 (k / 32768) (k % 32768)) ++
  ((cs ++ moved 3 8192 (keysOf a.cut b.cut) cs).map fun k => b.record 3 (k / 8192) (k % 8192))

/-- The records of a staged delta in staging order: those that still stand keep their place (R189, R198). -/
def stagedRecs (old new : List MapRec) : List MapRec := old.filter new.contains ++ new.filter fun r => !old.contains r

/-- map.stage_digest (R198). -/
def digestOf (rs : List MapRec) : BitVec 32 :=
  crc32c (rs.flatMap fun r => Config.recordBytes r.map r.dune r.index (r.value.getD 0))

/-- Records at dune k: its own maps and its erg port (R189). -/
def recsAt (rs : List MapRec) (k : Nat) : Nat := (rs.filter fun r => r.dune == k).length

/-- ⌈a / b⌉. -/
def ceilDiv (a b : Nat) : Nat := (a + b - 1) / b

/-- w of R196. -/
def spacingW (r1 r2 : List MapRec) : Nat :=
  max (ceilDiv (r1.length + r2.length) 262144)
    ((allDunes.map fun k => ceilDiv (recsAt r1 k + recsAt r2 k) 196608).foldl max 0)

/-- Rows from one commit to the next (R196). -/
def spacingRows (r1 r2 : List MapRec) : Nat := max 4 (1 + spacingW r1 r2)

end Sys2Proof.Machine
end

