-- ==== Sys2Proof/Machine/Host.lean ====
section
/-!
DEFINITION. Machine/Host.lean: sessions, ring pairs, mailboxes, doorbells, the endpoint reset and the I2C sideband (R374 to
R410).
-/
namespace Sys2Proof.Machine

/-! ### Sessions (R394 to R400, R592) -/

/-- The key of a role, where one is provisioned (R565). -/
def State.roleKey (s : State) (role : Nat) : Option (BitVec 384) :=
  if role = 3 && s.sec.adminInitial then some Config.initialAdminKey else Table.find s.sec.keys role

/-- The message that the tags of R395 cover, after its six letters. -/
def proofMsg (tag : List Byte) (role path : Nat) (nd nh : List Byte) : List Byte :=
  tag ++ leBytes 1 role ++ leBytes 1 path ++ leBytes 8 Config.serial.toNat ++ nd ++ nh

/-- "DRPX-H" (R395). -/
def tagHost : List Byte := [0x44, 0x52, 0x50, 0x58, 0x2D, 0x48]
/-- "DRPX-D" (R395). -/
def tagDevice : List Byte := [0x44, 0x52, 0x50, 0x58, 0x2D, 0x44]

/-- A slot that no session or provisional handle uses. -/
def State.freeSlot (s : State) : Option Nat :=
  [0, 1, 2, 3, 4, 5, 6, 7].find? fun k => (s.session k).state == .free

/-- HELLO is barred on a path (R396). -/
def State.helloBarred (s : State) (path : Nat) : Bool :=
  match Table.find s.host.authBar path with
  | some t => !s.elapsed t (60 * secTicks)
  | none => false

/-- A suspended session of that handle and role (R398, R592). -/
def State.resumable (s : State) (handle role : Nat) : Bool :=
  match s.findSession handle with
  | some x => x.state == .suspended && x.role == role
  | none => false

/-- The checks of SESSION.HELLO in the order of R388 and R592. -/
def State.helloChecks (s : State) (c : CmdRef) (role resume handle respAddr : Nat) : List (Bool × Nat × Nat) :=
  [(decide (role < 1 ∨ 4 < role ∨ 1 < resume), 0x0004, 0),
   (respAddr != 0 && !s.bufWrite ⟨respAddr, 44, 0⟩ 44, 0x0007, 0x0001),
   (resume == 0 && handle != 0, 0x0005, 0),
   (s.helloBarred c.path, 0x0105, 0),
   (role == 4 && !s.dev.serviceEn, 0x0103, 0),
   ((s.roleKey role).isNone, 0x0107, 0),
   (resume == 1 && !s.resumable handle role, 0x0101, 0),
   (resume == 0 && s.freeSlot.isNone, 0x0106, 0)]

/-- Response data to RESP_ADDR, 0 standing for the mailbox or sideband response (R395). -/
def State.answer (s : State) (ring respAddr : Nat) (bs : List Byte) : State :=
  if respAddr = 0 then s.respond ring bs else s.hostWrite respAddr bs

/-- SESSION.HELLO: a device nonce and a provisional handle. A resumption uses the session's own slot and handle (log entry
17). -/
def helloBody (role resume handle : Nat) (nonce : List Byte) (respAddr : Nat) (c : CmdRef) (s : State) : Reply :=
  guarded (s.helloChecks c role resume handle respAddr) <|
    let nd := leBytes 32 s.draw
    let s := s.drawn
    let k := if resume = 1 then handle % 8 else s.freeSlot.getD 0
    let h := if resume = 1 then handle else k + 8 * (1 + s.draw % (2 ^ 29 - 1))
    let s := s.drawn
    let x := if resume = 1 then { s.session k with resume := true }
             else { state := .provisional, handle := h, role := role, path := c.path }
    let s := s.setSession k { x with nonceD := nd, nonceH := nonce, respAddr := respAddr, hello := s.clk.tick }
    .done (s.answer c.ring respAddr (nd ++ leBytes 8 Config.serial.toNat ++ leBytes 4 h)) h

/-- SESSION.HELLO (R395). -/
def execSessionHello (e : Entry) (role resume handle : Nat) (nonce : List Byte) (respAddr : Nat) (s : State) :
    Host.Outcome State Fault Refusal :=
  serve (cmdOf (.sessionHello e role resume handle nonce respAddr)) e s (helloBody role resume handle nonce respAddr)

/-- The session slot a PROVE names: a provisional handle, or a session that is being resumed, within 1 s of its HELLO (R395,
R592). -/
def State.proving (s : State) (handle : Nat) : Option Session :=
  let x := s.session (handle % 8)
  if handle ≠ 0 ∧ x.handle = handle ∧ (x.state = .provisional ∨ (x.state = .suspended ∧ x.resume = true)) ∧
      s.elapsed x.hello secTicks = false then some x else none

/-- A failed PROVE: the fourth on a path within 60 s bars HELLO there, which is journalled (R396, R404). -/
def State.proveFailed (s : State) (c : CmdRef) : State :=
  let fails := (c.path, s.clk.tick) :: s.host.authFails.filter fun f => !s.elapsed f.2 (60 * secTicks)
  let s := { s with host := { s.host with authFails := fails } }
  if 4 ≤ (fails.filter fun f => f.1 == c.path).length then
    let s := { s with host := { s.host with
      authBar := Table.put s.host.authBar c.path s.clk.tick
      authFails := fails.filter fun f => f.1 != c.path } }
    s.journalSecurity c.path 0 c.session c.cmdId c.code 0x0105 0
  else s

/-- SESSION.PROVE: the tag opens the session or resumes it (R395, R396, R398, R592). -/
def proveBody (handle : Nat) (tag : BitVec 384) (c : CmdRef) (s : State) : Reply :=
  match s.proving handle with
  | none => .refuse 0x0101
  | some x =>
    let key := (s.roleKey x.role).getD 0
    if x.respAddr ≠ 0 ∧ s.bufWrite ⟨x.respAddr, 48, 0⟩ 48 = false then addrFault
    else if tag ≠ Config.hmac384 key (proofMsg tagHost x.role c.path x.nonceD x.nonceH) then
      .refuseIn (s.proveFailed c) 0x0104
    else
      let t := Config.hmac384 key (proofMsg tagDevice x.role c.path x.nonceD x.nonceH)
      let y : Session := { x with
        state := .opened
        path := c.path
        opened := s.clk.rsn
        last := if x.state = .suspended then x.last else 0
        lastTick := s.clk.tick
        resume := false
        initial := x.role == 3 && s.sec.adminInitial
        key := key }
      let s := (s.setSession (handle % 8) y).answer c.ring x.respAddr (beBytes 48 t.toNat)
      .done (s.journalSecurity c.path x.role x.handle c.cmdId c.code 0 x.handle)

/-- SESSION.PROVE (R395). -/
def execSessionProve (e : Entry) (tag : BitVec 384) (s : State) : Host.Outcome State Fault Refusal :=
  serve (cmdOf (.sessionProve e tag)) e s (proveBody e.session tag)

/-- The mailboxes whose command has been taken and will not complete return to IDLE, as at an endpoint reset (R397, R410; log entry
19). -/
def State.freeMail (s : State) (p : Nat → Mailbox → Bool) : State :=
  let f := fun (k : Nat) (m : Mailbox) =>
    if m.state = 1 ∧ m.taken = true ∧ p k m = true then ({ m with state := 0, taken := false } : Mailbox) else m
  { s with host := { s.host with mail := Table.mapVals {} f s.host.mail } }

/-- A session closes: it is journalled, its accepted commands keep their effect without a completion, its staged delta may
be taken over, its slot is free (R396, R397, R399). -/
def State.closeSession (s : State) (k : Nat) (c : CmdRef) : State :=
  let x := s.session k
  let s := s.freeMail fun j m => 16 + j != c.ring && Entry.session ⟨16 + j, m.cmd⟩ == x.handle
  let s := s.journalSecurity c.path c.role c.session c.cmdId 0x0103 0 x.handle
  let s := s.forget fun r => r.session == x.handle
  let s := if s.com.owner = x.handle then { s with com := { s.com with owner := 0 } } else s
  s.setSession k {}

/-- The ring pairs of sessions that no longer exist are deleted, after the completions that were due (R397). -/
def State.reapRings (s : State) : State :=
  let f := fun (p : RingPair) => if p.on && (s.findSession p.owner).isNone then {} else p
  { s with host := { s.host with pairs := Table.mapVals {} (fun _ p => f p) s.host.pairs } }

/-- The same on an outcome. -/
def reapAfter (o : Host.Outcome State Fault Refusal) : Host.Outcome State Fault Refusal :=
  match o with
  | .next s => .next s.reapRings
  | .fault f => .fault f
  | .refused r => .refused r

/-- SESSION.CLOSE (R396, R592). -/
def closeBody (handle : Nat) (c : CmdRef) (s : State) : Reply :=
  let h := if handle = 0 then c.session else handle
  guarded [(h != c.session && decide (c.role < 3), 0x0103, 0), ((s.findSession h).isNone, 0x0101, 0x0001)] <|
    .done (s.closeSession (h % 8) c)

/-- SESSION.CLOSE (R396). -/
def execSessionClose (e : Entry) (handle : Nat) (s : State) : Host.Outcome State Fault Refusal :=
  reapAfter (serve (cmdOf (.sessionClose e handle)) e s (closeBody handle))

/-- Checks of the size, vector and base of a ring of n-byte entries (R374, R379, R382). -/
def State.ringChecks (s : State) (log2 vector addr n : Nat) (write : Bool) : List (Bool × Nat × Nat) :=
  [(log2 == 0, 0x0003, 0), (decide (log2 < 4 ∨ 16 < log2 ∨ 31 < vector), 0x0004, 0), (addr % 4096 != 0, 0x0005, 0),
   (!(if write then s.writeOk addr (n * 2 ^ log2) else s.readOk addr (n * 2 ^ log2)), 0x0007, 0x0001)]

/-- The checks of SESSION.RING_CREATE, INVALID_ZERO before OUT_OF_RANGE before INVALID_FIELD before ADDR_FAULT (R388). -/
def State.createChecks (s : State) (pair sq cq vector sqAddr cqAddr : Nat) : List (Bool × Nat × Nat) :=
  [(sq == 0 || cq == 0, 0x0003, 0), (decide (15 < pair), 0x0004, 0), (decide (cq < 4 ∨ 16 < cq), 0x0004, 0)] ++
  (s.ringChecks sq vector sqAddr 64 false).take 2 ++
  [(sqAddr % 4096 != 0 || cqAddr % 4096 != 0, 0x0005, 0)] ++ (s.ringChecks sq vector sqAddr 64 false).drop 3 ++
  (s.ringChecks cq vector cqAddr 16 true).drop 3 ++ [((s.ringPair pair).on, 0x0108, 0)]

/-- SESSION.RING_CREATE: a pair owned by the calling session; the device may issue DMA again (R376, R379, R397). -/
def ringCreateBody (pair sq cq vector sqAddr cqAddr : Nat) (c : CmdRef) (s : State) : Reply :=
  guarded (s.createChecks pair sq cq vector sqAddr cqAddr) <|
    let s := s.setRingPair pair { on := true, owner := c.session, sqAddr := sqAddr, cqAddr := cqAddr, sqLog := sq, cqLog := cq, vector := vector }
    .done { s with host := { s.host with dmaOn := true } } 0 [(pair, 1, 0)]

/-- SESSION.RING_CREATE (R379). -/
def execSessionRingCreate (e : Entry) (pair sqLog2 cqLog2 vector sqAddr cqAddr : Nat) (s : State) :
    Host.Outcome State Fault Refusal :=
  serve (cmdOf (.sessionRingCreate e pair sqLog2 cqLog2 vector sqAddr cqAddr)) e s (ringCreateBody pair sqLog2 cqLog2 vector sqAddr cqAddr)

/-- SESSION.RING_DELETE: accepted commands take effect without completions; unstarted entries are discarded (R410, R592). -/
def ringDeleteBody (pair : Nat) (c : CmdRef) (s : State) : Reply :=
  guarded [(decide (15 < pair), 0x0004, 0), (!(s.ringPair pair).on, 0x0005, 0),
      ((s.ringPair pair).owner != c.session, 0x0101, 0x0002)] <|
    .done ((s.forget fun r => r.ring == pair).setRingPair pair {}) 0 [(pair, 1, 0)]

/-- SESSION.RING_DELETE (R410). Its own completion goes to the ring it came from, unless that ring is the one deleted. -/
def execSessionRingDelete (e : Entry) (pair : Nat) (s : State) : Host.Outcome State Fault Refusal :=
  serve (cmdOf (.sessionRingDelete e pair)) e s (ringDeleteBody pair)

/-- Code of a session slot's state (R400). -/
def SessState.code (x : SessState) : Nat :=
  match x with
  | .free => 0 | .provisional => 1 | .opened => 2 | .suspended => 3

/-- The pairs a session owns, bit p for pair p (R400). -/
def State.ringsOf (s : State) (handle : Nat) : Nat :=
  ((List.range 16).map fun p => if (s.ringPair p).on && (s.ringPair p).owner == handle then 2 ^ p else 0).foldl (· + ·) 0

/-- The 32 bytes of a slot in SESSION.LIST (R400). all: the caller is ADMIN or SERVICE. -/
def State.slotEntry (s : State) (own : Nat) (all : Bool) (k : Nat) : List Byte :=
  let x := s.session k
  if x.state = .free then leBytes 4 0 ++ leBytes 1 k ++ List.replicate 27 0
  else
    leBytes 4 (if all || x.handle == own then x.handle else 0) ++ leBytes 1 k ++ leBytes 1 x.state.code ++
    leBytes 1 x.role ++ leBytes 1 x.path ++ leBytes 2 (s.ringsOf x.handle) ++ List.replicate 6 0 ++
    leBytes 8 x.opened.toNat ++ leBytes 8 x.last.toNat

/-- SESSION.LIST (R400). -/
def sessionListBody (b : Buf) (c : CmdRef) (s : State) : Reply :=
  guarded (s.bufChecks b 256 true) <|
    let used := ((List.range 8).filter fun k => (s.session k).state != .free).length
    .done (s.hostWrite b.addr ((List.range 8).flatMap (s.slotEntry c.session (decide (3 ≤ c.role))))) used

/-- SESSION.LIST (R400). -/
def execSessionList (e : Entry) (b : Buf) (s : State) : Host.Outcome State Fault Refusal :=
  serve (cmdOf (.sessionList e b)) e s (sessionListBody b)

/-- A provisional handle expires 1 s after its HELLO (R395); a session under resumption stays suspended. -/
def execProvisionalHandleExpiry (slot : Fin 8) (s : State) : Host.Outcome State Fault Refusal :=
  let x := s.session slot.val
  if s.elapsed x.hello secTicks = false then .next s
  else if x.state = .provisional then .next (s.setSession slot.val {})
  else if x.resume then .next (s.setSession slot.val { x with resume := false })
  else .next s

/-- An internal origin: path 3, no session (R405). -/
def internalRef (code : Nat) : CmdRef := ⟨255, 3, 0, 0, 0, code⟩

/-- A session that submits nothing for session.idle_timeout closes; 0 disables it (R396, R411). -/
def execSessionIdleTimeout (slot : Fin 8) (s : State) : Host.Outcome State Fault Refusal :=
  let x := s.session slot.val
  let t := s.cur .sessionIdleTimeout 0
  if x.state = .opened ∧ t ≠ 0 ∧ s.elapsed x.lastTick (t * secTicks) = true then
    .next (s.closeSession slot.val (internalRef 0x0103)).reapRings
  else .next s

/-- A suspended session that is not resumed within session.resume_window closes; 0 disables it (R398, R411). -/
def execResumeWindowExpiry (slot : Fin 8) (s : State) : Host.Outcome State Fault Refusal :=
  let x := s.session slot.val
  let t := s.cur .sessionResumeWindow 0
  if x.state = .suspended ∧ t ≠ 0 ∧ s.elapsed x.since (t * secTicks) = true then
    .next (s.closeSession slot.val (internalRef 0x0103)).reapRings
  else .next s

/-- The bar of HELLO on a path ends after 60 s (R396). -/
def execAuthLockExpiry (path : Fin 2) (s : State) : Host.Outcome State Fault Refusal :=
  match Table.find s.host.authBar path.val with
  | some t =>
    if s.elapsed t (60 * secTicks) then
      .next { s with host := { s.host with authBar := Table.drop s.host.authBar path.val } }
    else .next s
  | none => .next s

/-- Sessions of the paths that p selects become SUSPENDED; provisional handles there are gone (R376, R393). -/
def State.suspendSessions (s : State) (p : Session → Bool) : State :=
  let f := fun (x : Session) =>
    if !p x then x
    else match x.state with
      | .provisional => {}
      | .opened => { x with state := .suspended, since := s.clk.tick, resume := false }
      | _ => x
  { s with host := { s.host with sessions := Table.mapVals {} (fun _ x => f x) s.host.sessions } }

/-- BAR0 answers: the endpoint is out of reset and the device powers it (R376, R401). -/
def State.barUp (s : State) : Bool := s.host.linkUp && s.dev.jcc != .off && s.dev.jcc != .retained

/-! ### Doorbells and heads (R380) -/

/-- An event DOORBELL_INVALID for a register offset (R380, R530). -/
def State.doorbellInvalid (s : State) (offset : Nat) : State := s.info 0x2005 offset 0

/-- A head lies, counting forward, from the current head up to the next entry the device will write (R380). -/
def headOk (log2 cur next v : Nat) : Bool :=
  decide (v < 2 ^ log2 ∧ (v + 2 ^ log2 - cur) % 2 ^ log2 ≤ (next + 2 ^ log2 - cur) % 2 ^ log2)

/-- DOORBELL p: SQ_TAIL in [15:0], CQ_HEAD in [31:16] (R380). A pair that does not exist has no valid index (log entry
18). -/
def execDoorbellWrite (pair : Fin 16) (v : BitVec 32) (s : State) : Host.Outcome State Fault Refusal :=
  let p := s.ringPair pair.val
  let tail := v.toNat % 65536
  let head := v.toNat / 65536
  if !s.barUp then .next s
  else if p.on && decide (tail < 2 ^ p.sqLog) && headOk p.cqLog p.cqHead p.cqNext head then
    .next (s.setRingPair pair.val { p with sqTail := tail, cqHead := head })
  else .next (s.doorbellInvalid (0x0100 + 4 * pair.val))

/-- A head write of a device ring: none where it breaks the index rules. -/
def DevRing.consume (r : DevRing) (v : BitVec 32) : Option DevRing :=
  let h := v.toNat % 65536
  if r.on && headOk r.log2 r.head r.next h then some { r with head := h } else none

/-- EVT_HEAD (R380). -/
def execEvtHeadWrite (v : BitVec 32) (s : State) : Host.Outcome State Fault Refusal :=
  if !s.barUp then .next s
  else match s.host.evt.consume v with
    | some r => .next { s with host := { s.host with evt := r } }
    | none => .next (s.doorbellInvalid 0x0050)

/-- JRN_HEAD (R380). -/
def execJrnHeadWrite (v : BitVec 32) (s : State) : Host.Outcome State Fault Refusal :=
  if !s.barUp then .next s
  else match s.host.jrn.consume v with
    | some r => .next { s with host := { s.host with jrn := r } }
    | none => .next (s.doorbellInvalid 0x0054)

/-- FAC_HEAD (R380). -/
def execFacHeadWrite (v : BitVec 32) (s : State) : Host.Outcome State Fault Refusal :=
  if !s.barUp then .next s
  else match s.host.fac.consume v with
    | some r => .next { s with host := { s.host with fac := r } }
    | none => .next (s.doorbellInvalid 0x0058)

/-- GO of a mailbox: writing 1 in IDLE or DONE starts the command in CMD; while BUSY it is ignored (R377, R378). -/
def execMailboxGo (mb : Fin 8) (v : BitVec 32) (s : State) : Host.Outcome State Fault Refusal :=
  let m := s.mailbox mb.val
  if s.barUp && v.getLsbD 0 && m.state != 1 then
    .next (s.setMailbox mb.val { m with state := 1, taken := false })
  else .next s

/-- The end of a hold-off: the vectors that wait and whose hold-off has run out are signalled (R382). -/
def execIrqHoldoffEnd (s : State) : Host.Outcome State Fault Refusal :=
  let due := s.host.irqWait.filter fun v =>
    decide (Table.get 0 s.host.irqTick v + s.cur .hostIrqHoldoff 0 * usTicks ≤ s.clk.tick + 1)
  let s := { s with host := { s.host with irqWait := s.host.irqWait.filter fun v => !due.contains v } }
  .next (due.foldl (fun s v => s.signal v) s)

/-- A long command yields (R391): it is counted; a meaning runs a long command whole (log entry 19). -/
def execLongCommandYield (s : State) : Host.Outcome State Fault Refusal :=
  .next (s.perf 0x04A 0 1)

/-! ### The endpoint reset (R376) -/

/-- The link trains at the highest rate and the greatest width that both ends support (R373). -/
def trained : PcieLink :=
  { rate := ([64, 32, 16].find? Config.hostRates.contains).getD 16
    width := ([8, 4, 2, 1].find? Config.hostWidths.contains).getD 1 }

/-- The link comes up with the configuration space at reset. -/
def State.linkTrains (s : State) : State := { s with host := { s.host with pcie := trained } }

/-- An endpoint reset: the link, the configuration space, BAR0 state, MSI-X, every ring and the mailboxes return to their reset values; PCIe sessions become
SUSPENDED; completions of commands under way are not posted; no DMA until a ring is configured again; bursts of PCIe
inbound and the facet DMA are cut (R376, R458, R459). -/
def State.endpointReset (s : State) (bursts : List Burst) : State :=
  let s := s.forget fun c => decide (c.ring < 24)
  let h := s.host
  let h : HostIf := { h with
    dmaOn := false
    unlocked := false
    badKeys := 0
    pcie := {}
    turn := 23
    msix := []
    irqWait := []
    irqTick := []
    irqPba := []
    mail := []
    pairs := []
    evt := {}
    jrn := {}
    fac := {} }
  let s := { s with
    host := h
    obs := { s.obs with facet := { s.obs.facet with out := none } } }
  let s := s.suspendSessions fun x => x.path == 0
  (s.tornWrites 16 (bursts.filter fun b => b.master == 10 || b.master == 12)).journalRestart 0 s.clk.rsn.toNat

/-- PERST_N is asserted (R376). -/
def execPerstNAssert (bursts : List Burst) (s : State) : Host.Outcome State Fault Refusal :=
  let s := s.endpointReset bursts
  .next { s with host := { s.host with linkUp := false } }

/-- A function-level reset (R376). -/
def execFunctionLevelReset (bursts : List Burst) (s : State) : Host.Outcome State Fault Refusal :=
  if s.host.linkUp then .next (s.endpointReset bursts).linkTrains else .next s

/-! ### The I2C sideband (R406 to R409) -/

/-- The sideband is served: by the firmware, or by the boot ROM in BOOT and RECOVERY (R409). -/
def State.sidebandServed (s : State) : Bool := s.serves 24

/-- PENDING: an accepted mode change waits (R30, R33). -/
def State.modePending (s : State) : Bool := s.dev.pend.isSome

/-- DEVICE_STATE (R30). -/
def State.deviceState (s : State) : Nat :=
  let d := s.dev
  let bit := fun (b : Bool) (k : Nat) => if b then 2 ^ k else 0
  let joined := match d.role with | .none => false | .standalone => true | .holder => true | .follower => d.joined
  d.mode.code + bit s.modePending 3 + d.prevMode.code * 16 + d.role.code * 256 + bit joined 10 + bit d.planeB 11 +
    bit d.primary 12 + bit d.serviceEn 13

/-- ALARM_COUNT: the alarms that are set; the spec gives 16 bits and no value for more (R407, R413; log entry 119). -/
def State.alarmCount (s : State) : Nat :=
  if s.log.alarms.length < 2 ^ 16 then s.log.alarms.length else (Config.alarmsBeyond s.log.alarms.length).toNat

/-- The 16 bytes of the sideband STATUS (R407). -/
def State.statusBytes (s : State) : List Byte :=
  leBytes 4 s.deviceState ++ leBytes 1 (s.tim.state.code + if s.log.alarmLow then 128 else 0) ++ leBytes 1 s.tim.sel ++
  leBytes 1 (unsignedOf 8 s.host.tjMax) ++ leBytes 1 s.dev.resetKind ++ leBytes 4 s.com.gen ++
  leBytes 2 s.alarmCount ++
  leBytes 1 ((List.range 8).filter fun k => (s.session k).state == .opened).length ++
  leBytes 1 (if s.pow.waking then 1 else 0)

/-- A read transaction's bytes with its packet error code over both address bytes, the command byte and the data (R406). -/
def State.sidebandReply (s : State) (cmd : Nat) (bs : List Byte) : List Byte :=
  let a := 0x58 + s.dev.addr
  bs ++ [crc8 ([BitVec.ofNat 8 (2 * a), BitVec.ofNat 8 cmd, BitVec.ofNat 8 (2 * a + 1)] ++ bs)]

/-- The sideband answers with these bytes; none while nothing serves it (R409). -/
def State.setReply (s : State) (bs : List Byte) : State :=
  { s with host := { s.host with sb := { s.host.sb with reply := bs } } }

/-- STATUS (R407). -/
def execI2cStatus (s : State) : Host.Outcome State Fault Refusal :=
  .next (s.setReply (if s.sidebandServed then s.sidebandReply 0x01 s.statusBytes else []))

/-- SUBMIT: it starts the command of its 64-byte entry unless STATE is BUSY; with a wrong PEC, over the address byte, the command byte and
the entry, it is not executed and completes with BAD_PEC (R406, R408). The command itself follows as its own row, with RING 24. -/
def execI2cSubmit (head : BitVec 128) (args : BitVec 384) (pec : Byte) (s : State) : Host.Outcome State Fault Refusal :=
  let entry := entryBits head args
  let b := s.host.sb
  if !s.sidebandServed || b.state == 1 then .next s
  else
    let right := crc8 ([BitVec.ofNat 8 (2 * (0x58 + s.dev.addr)), 0x10] ++ leBytes 64 entry.toNat)
    let done : Compl := { cmdId := Entry.cmdId ⟨24, entry⟩, status := 0x0012, result := 0xFFFFFFFF, ring := 24 }
    .next { s with host := { s.host with sb :=
      if pec = right then { b with state := 1, taken := false, cmd := entry, resp := [] }
      else { b with state := 2, taken := false, cmd := entry, compl := done, resp := [] } } }

/-- RESULT: STATE, the completion and 64 bytes of response (R406, R408). -/
def execI2cResult (s : State) : Host.Outcome State Fault Refusal :=
  let b := s.host.sb
  let c := b.compl
  let bs := leBytes 1 b.state ++
    complBytes c.cmdId c.status c.sqHead c.result c.detail c.ring (if c.noop then 1 else 0) ++ padTo 64 b.resp
  .next (s.setReply (if s.sidebandServed then s.sidebandReply 0x11 bs else []))

end Sys2Proof.Machine
end

