-- ==== Sys2Proof/Machine/Telemetry.lean ====
section
/-!
DEFINITION. Machine/Telemetry.lean: alarms, event and journal rings, filters, performance counters, lifetime accumulators
(R523 to R549).
-/
namespace Sys2Proof.Machine

/-! ### The alarm table (R523 to R525) -/

/-- Instances of a code over the entries of a table for which p holds. -/
def alarmsOf {α : Type} (t : Table α) (code sev : Nat) (p : Nat → α → Bool) : List (Nat × Nat × Nat) :=
  (t.filter fun x => p x.1 x.2).map fun x => (code, x.1, sev)

/-- An instance with object 0. -/
def alarmIf (b : Bool) (code sev : Nat) : List (Nat × Nat × Nat) := if b then [(code, 0, sev)] else []

/-- The lane alarms, in code order (R524). -/
def State.laneAlarms (s : State) : List (Nat × Nat × Nat) :=
  let f := fun code sev (p : Lane → Bool) => alarmsOf s.lanes code sev fun _ x => p x
  f 0x0101 2 (·.los) ++ f 0x0102 2 (·.lof) ++ f 0x0103 2 (·.anf) ++ f 0x0104 2 (·.unc) ++ f 0x0105 2 (·.lais) ++
  f 0x0106 1 (·.sd) ++ f 0x0107 2 (·.tim) ++ f 0x0108 2 (·.slf) ++ f 0x0109 0 (·.rrdi) ++ f 0x010A 0 (·.anw) ++
  f 0x0110 2 fun x => x.wireTx != 0 || x.wireRx != 0

/-- The tributary alarms (R524). -/
def State.tribAlarms (s : State) : List (Nat × Nat × Nat) :=
  let f := fun code sev (p : Trib → Bool) => alarmsOf s.tribs code sev fun _ x => x.on && p x
  f 0x0201 2 (·.tais) ++ f 0x0202 2 (·.tlop) ++ f 0x0203 2 (·.tszm) ++ f 0x0204 2 (·.tuneq) ++ f 0x0205 1 (·.tplm) ++
  f 0x0206 1 (·.ttim) ++ f 0x0207 1 (·.tsd) ++ f 0x0208 0 (·.trdi) ++ f 0x0209 1 (·.tslip) ++ f 0x020A 1 (·.tdiv)

/-- The alarms of dunes, commits, selector groups and merge pairs (R524). -/
def State.coreAlarms (s : State) : List (Nat × Nat × Nat) :=
  let m := fun code sev (p : Merge → Bool) => (s.prot.merges.filter p).map fun x => (code, x.low, sev)
  alarmsOf s.sw.dunes 0x0301 3 (fun _ d => d.msr) ++ alarmsOf s.sw.dunes 0x0302 2 (fun _ d => d.msa) ++
  alarmIf s.com.lag.isSome 0x0401 2 ++ alarmIf s.com.shadowEcc 0x0402 1 ++
  alarmsOf s.prot.groups 0x0601 1 (fun _ g => g.psm) ++ alarmsOf s.prot.groups 0x0602 2 (fun _ g => g.apsl) ++
  alarmsOf s.prot.groups 0x0603 1 (fun _ g => g.psdiv) ++
  m 0x0701 2 (·.mdi) ++ m 0x0702 1 (·.mdiff) ++ m 0x0703 0 (·.mskw) ++ m 0x0704 0 (·.mpln)

/-- The timing alarms (R524). -/
def State.timingAlarms (s : State) : List (Nat × Nat × Nat) :=
  let f := fun code (p : RefIn → Bool) =>
    ((List.range 24).filter fun i => p (s.refIn i)).map fun i => (code, i, 1)
  let g := fun code (p : PpsIn → Bool) => ((List.range 2).filter fun i => p (s.ppsIn i)).map fun i => (code, i, 1)
  f 0x0801 (·.rlos) ++ f 0x0802 (·.rwf) ++ f 0x0803 (·.rfh) ++ f 0x0804 (·.rfs) ++ f 0x0805 (·.rout) ++
  f 0x0806 (·.rnl) ++ alarmIf (s.tim.state == .freerun) 0x0810 2 ++ alarmIf (s.tim.state == .oasis) 0x0811 2 ++
  alarmIf (s.tim.state == .pulled) 0x0812 2 ++ alarmIf s.tim.oxf 0x0813 2 ++ alarmIf s.tim.osns 0x0814 1 ++
  alarmIf s.tim.tode 0x0815 1 ++ alarmIf s.tim.toff 0x0816 2 ++ alarmIf s.tim.tfol 0x0817 1 ++
  alarmIf s.tim.prskw 0x0818 1 ++ g 0x0819 (·.plos) ++ g 0x081A (·.pjmp)

/-- The pairing alarms (R524). -/
def State.pairAlarms (s : State) : List (Nat × Nat × Nat) :=
  let p := s.pair
  alarmIf p.sld 0x0B01 2 ++ alarmIf p.slx 0x0B02 0 ++ alarmIf p.speer 0x0B03 2 ++ alarmIf p.cpin 0x0B04 1 ++
  alarmIf p.cloop.isSome 0x0B05 1 ++ alarmIf p.cnoh 0x0B06 3 ++ alarmIf p.cdual 0x0B07 3 ++
  alarmIf p.cstrap.isSome 0x0B08 3 ++ alarmIf p.cpair.isSome 0x0B09 1 ++ alarmIf p.faultAnn 0x0B0A 2

/-- MRAM slots whose write count has reached 9 × 10⁸ (R545). -/
def State.wornSlots (s : State) : List Nat :=
  (s.log.life.filter fun x => x.1 / 2 ^ 24 == accWear && decide (900000000 ≤ x.2)).map fun x => x.1 % 2 ^ 24

/-- The alarms of faults, the control complex and logging (R524). -/
def State.systemAlarms (s : State) : List (Nat × Nat × Nat) :=
  ((s.flt.log.reverse.filter fun r => r.isOpen && r.outcome != 0).map fun r => (0x1001, r.fseq, if r.outcome = 1 then 2 else 3)) ++
  (s.flt.uncovered.map fun r => (0x1002, r, 2)) ++ alarmIf (s.dev.jcc == .held) 0x1003 3 ++
  alarmIf s.log.jfull 0x1201 2 ++ alarmIf (!s.log.drops.isEmpty) 0x1202 0 ++ (s.wornSlots.map fun k => (0x1203, k, 1))

/-- The alarm conditions in force, in code order and then object order: code, object, severity (R524). -/
def State.conditions (s : State) : List (Nat × Nat × Nat) :=
  s.laneAlarms ++ s.tribAlarms ++ s.coreAlarms ++ s.timingAlarms ++ alarmIf s.obs.facet.dropped 0x0901 1 ++
  s.pairAlarms ++ s.systemAlarms

/-- The active instances after this boundary: an instance that stays active keeps SINCE (R523, R526). -/
def State.newAlarms (s : State) : List Alarm :=
  s.conditions.map fun (code, obj, sev) =>
    match s.log.alarms.find? fun a => a.code == code && a.obj == obj with
    | some a => { a with sev := sev }
    | none => ⟨code, obj, sev, s.clk.rsn⟩

/-- Code and object order of alarms. -/
def Alarm.before (a b : Alarm) : Bool := decide (a.code < b.code ∨ (a.code = b.code ∧ a.obj ≤ b.obj))

/-- Put a change into its place in code and object order. -/
def insertAlarm (x : Bool × Alarm) (l : List (Bool × Alarm)) : List (Bool × Alarm) :=
  match l with
  | [] => [x]
  | y :: r => if x.2.before y.2 then x :: y :: r else y :: insertAlarm x r

/-- DATA of an alarm change: LAG names the holder's generation, which is the unit's own once LAG has cleared (R200; log entry 112). -/
def State.alarmData (s : State) (code : Nat) : Nat := if code = 0x0401 then s.com.lag.getD s.com.gen else 0

/-- One event per changed instance, in code and then object order (R530, R546). -/
def State.alarmEvents (s : State) (chg : List (Bool × Alarm)) : State :=
  match chg with
  | [] => s
  | (isSet, a) :: r => (s.alarmEvent a.sev isSet true a.code a.obj (s.alarmData a.code) []).alarmEvents r

/-- The alarm table and ALARM_N at a row boundary (R523, R525). -/
def State.updateAlarms (s : State) : State :=
  let old := s.log.alarms
  let new := s.newAlarms
  let has := fun (l : List Alarm) (a : Alarm) => l.any fun b => b.code == a.code && b.obj == a.obj
  let chg := ((new.filter fun a => !has old a).map fun a => (true, a)) ++
    ((old.filter fun a => !has new a).map fun a => (false, a))
  let s := s.alarmEvents (chg.foldr insertAlarm [])
  { s with log := { s.log with
    alarms := new
    alarmLow := new.any fun a => decide (s.eff .logAlarmLevel 0 ≤ a.sev) } }

/-! ### Rings of the device -/

/-- Write one entry of n bytes into a device ring and move on; PHASE inverts at the wrap (R381). -/
def DevRing.advance (r : DevRing) : DevRing :=
  let last := r.next + 1 = 2 ^ r.log2
  { r with next := if last then 0 else r.next + 1, phase := r.phase != last, seq := r.seq + 1 }

/-- The first entry of an event (R527). -/
def Event.head (e : Event) (phase : Bool) : List Byte :=
  leBytes 4 e.eseq ++ leBytes 1 e.cls ++ leBytes 1 e.sev ++ leBytes 1 e.len ++
  leBytes 1 ((if phase then 128 else 0) + if e.isSet then 1 else 0) ++ leBytes 6 e.rsn.toNat ++ leBytes 2 e.code ++
  leBytes 8 (stampOf e.tod e.tq) ++ leBytes 4 e.obj ++ leBytes 4 e.data

/-- A continuation entry (R527). -/
def Event.more (e : Event) (phase : Bool) (pay : List Byte) : List Byte :=
  leBytes 4 e.eseq ++ [0, 0, 0] ++ leBytes 1 ((if phase then 128 else 0) + 64) ++ padTo 24 pay

/-- One entry into the event ring. -/
def State.evtEntry (s : State) (f : Bool → List Byte) : State :=
  let r := s.host.evt
  let s := s.hostWrite (r.addr + 32 * r.next) (f r.phase)
  { s with host := { s.host with evt := r.advance } }

/-- The n continuation entries of an event. -/
def State.evtMore (s : State) (e : Event) (n : Nat) (pay : List Byte) : State :=
  match n with
  | 0 => s
  | m + 1 => (s.evtEntry fun ph => e.more ph (pay.take 24)).evtMore e m (pay.drop 24)

/-- One event into the event ring (R527). -/
def State.writeEvent (s : State) (e : Event) : State :=
  let s := (s.evtEntry e.head).evtMore e (e.len - 1) e.payload
  ((s.bump .logPmEvents 0 1).perf 6 0 1)

/-- The SUMMARY event of a running summary (R533). -/
def State.foldSummary (s : State) (f : Fold) : State :=
  s.pushEvent 4 0 false f.code f.obj f.count (leBytes 8 f.first.toNat ++ leBytes 8 f.last.toNat)

/-- Running summaries are queued in the order in which they were opened as soon as the queue has room (R533). -/
def State.unfold (s : State) : State :=
  go s.log.folds s
where
  /-- Over the summaries. -/
  go (fs : List Fold) (s : State) : State :=
    match fs with
    | [] => s
    | f :: r =>
      if queued s.log.queue + 2 ≤ 4096 then go r ({ s with log := { s.log with folds := r } }.foldSummary f) else s

/-- Queued events go to the ring in order, as long as all entries of an event fit, at most n of them (R531). -/
def State.drainEvents (s : State) (n : Nat) : State :=
  match n with
  | 0 => s
  | k + 1 =>
    match s.log.queue with
    | [] => s
    | e :: r =>
      if e.len ≤ s.host.evt.room then (({ s with log := { s.log with queue := r } }).writeEvent e).drainEvents k
      else s

/-- The device writes ring entries by DMA programmed by the firmware (R375, R461, R466). -/
def State.ringsServed (s : State) : Bool := s.dev.jcc == .running && s.host.linkUp && s.host.dmaOn

/-- Queued events are written to the event ring as room exists (R531, R533); the vector is signalled (R382). -/
def execEventRingWrite (s : State) : Host.Outcome State Fault Refusal :=
  if s.ringsServed && s.host.evt.on then
    let t := (s.drainEvents s.log.queue.length).unfold
    .next (if t.host.evt.seq = s.host.evt.seq then t else t.interrupt t.host.evt.vector)
  else .next s

/-- Buffered records go to the journal ring in SEQ order while it has a free entry (R536). -/
def State.drainJournal (s : State) (q : List JRec) : State :=
  match q with
  | [] => s
  | j :: r =>
    if 1 ≤ s.host.jrn.room then
      let k := s.host.jrn
      let s := s.hostWrite (k.addr + 64 * k.next) j.bytes
      let s := { s with host := { s.host with jrn := k.advance } }
      ({ s with log := { s.log with jbuf := r } }).drainJournal r
    else s

/-- Buffered journal records move to the journal ring (R536); coalesced actions of past superframes find the records freed
(R538). -/
def execJournalRingWrite (s : State) : Host.Outcome State Fault Refusal :=
  if s.ringsServed && s.host.jrn.on then
    let t := ((s.drainJournal s.log.jbuf).jupdate).flushCoalesced
    .next (if t.host.jrn.seq = s.host.jrn.seq then t else t.interrupt t.host.jrn.vector)
  else .next s

/-- LOG.EVENT_RING (R528). -/
def eventRingBody (addr log2 vector : Nat) (_c : CmdRef) (s : State) : Reply :=
  guarded (s.ringChecks log2 vector addr 32 true ++ [(s.host.evt.on, 0x0108, 0)]) <|
    .done { s with host := { s.host with evt := { on := true, addr := addr, log2 := log2, vector := vector }, dmaOn := true } } 0
      [(0, 1, addr)]

/-- LOG.EVENT_RING (R528). -/
def execLogEventRing (e : Entry) (addr log2 vector : Nat) (s : State) : Host.Outcome State Fault Refusal :=
  serve (cmdOf (.logEventRing e addr log2 vector)) e s (eventRingBody addr log2 vector)

/-- LOG.JOURNAL_RING (R379). -/
def journalRingBody (addr log2 vector : Nat) (_c : CmdRef) (s : State) : Reply :=
  guarded (s.ringChecks log2 vector addr 64 true ++ [(s.host.jrn.on, 0x0108, 0)]) <|
    .done { s with host := { s.host with jrn := { on := true, addr := addr, log2 := log2, vector := vector }, dmaOn := true } } 0
      [(0, 1, addr)]

/-- LOG.JOURNAL_RING (R379). -/
def execLogJournalRing (e : Entry) (addr log2 vector : Nat) (s : State) : Host.Outcome State Fault Refusal :=
  serve (cmdOf (.logJournalRing e addr log2 vector)) e s (journalRingBody addr log2 vector)

/-- LOG.FILTER: the whole filter set is replaced (R535). -/
def logFilterBody (b : Buf) (count : Nat) (entries : List FilterEntry) (_c : CmdRef) (s : State) : Reply :=
  if count = 0 then .noop true
  else
    guarded [(b.len == 0, 0x0003, 0), (decide (64 < count ∨ b.len < 8 * count), 0x0004, 0)] <|
    checkItems (entries.take count) (fun f => decide (4 < f.cls ∨ 1 < f.action)) 0x0004 <|
    checkItems (entries.take count) (fun f => f.cls == 0 || f.cls == 4) 0x0005 <|
    if s.bufRead b (8 * count) then .done { s with log := { s.log with filters := entries.take count } } 0 [(0, count, 0)]
    else .refuse 0x0007 0xFFFFFFFF (s.readDetail b (8 * count))

/-- LOG.FILTER (R535). -/
def execLogFilter (e : Entry) (b : Buf) (count : Nat) (entries : List FilterEntry) (s : State) :
    Host.Outcome State Fault Refusal :=
  serve (cmdOf (.logFilter e b count entries)) e s (logFilterBody b count entries)

/-- The 16 bytes of an alarm entry (R526). -/
def Alarm.bytes (a : Alarm) : List Byte :=
  leBytes 2 a.code ++ leBytes 1 a.sev ++ leBytes 1 0 ++ leBytes 4 a.obj ++ leBytes 6 a.since.toNat ++ leBytes 2 0

/-- LOG.ALARMS: as many entries as the buffer holds; RESULT is the number of active alarms (R526). -/
def logAlarmsBody (b : Buf) (_c : CmdRef) (s : State) : Reply :=
  let bs := (s.log.alarms.take (b.len / 16)).flatMap Alarm.bytes
  guarded [(b.len == 0, 0x0003, 0), (b.len % 16 != 0, 0x0004, 0), (!s.bufWrite b b.len, 0x0007, 0x0001)] <|
    .done (s.hostWrite b.addr bs) s.log.alarms.length

/-- LOG.ALARMS (R526). -/
def execLogAlarms (e : Entry) (b : Buf) (s : State) : Host.Outcome State Fault Refusal :=
  serve (cmdOf (.logAlarms e b)) e s (logAlarmsBody b)

/-! ### Performance counters (R540 to R543) -/

/-- The event numbers of R542. -/
def perfListed (n : Nat) : Bool :=
  decide (n ≤ 8 ∨ (0x010 ≤ n ∧ n ≤ 0x019) ∨ (0x020 ≤ n ∧ n ≤ 0x027) ∨ (0x030 ≤ n ∧ n ≤ 0x033) ∨ (0x040 ≤ n ∧ n ≤ 0x04B) ∨
    (0x050 ≤ n ∧ n ≤ 0x055) ∨ (0x060 ≤ n ∧ n ≤ 0x064) ∨ (0x070 ≤ n ∧ n ≤ 0x072) ∨ (0x0B0 ≤ n ∧ n ≤ 0x18F))

/-- The occupancy events of R542. -/
def perfIsOccupancy (n : Nat) : Bool := [0x032, 0x045, 0x048, 0x054, 0x063, 0x064, 0x072].contains n

/-- An entry of PERF.PROGRAM contradicts itself (R541). -/
def PerfEntry.conflict (e : PerfEntry) : Bool :=
  (e.flags % 2 == 1 && (e.counter % 2 == 0 || e.event != 0)) || (e.threshold != 0 && !perfIsOccupancy e.event)

/-- A counter is named twice. -/
def namedTwice (l : List Nat) : Bool :=
  match l with
  | [] => false
  | x :: r => r.contains x || namedTwice r

/-- PERF.PROGRAM: the entries apply at the next row boundary, where the command completes (R389, R541). -/
def perfProgramBody (b : Buf) (count : Nat) (entries : List PerfEntry) (c : CmdRef) (s : State) : Reply :=
  if count = 0 then .noop true
  else
    let entries := entries.take count
    guarded [(b.len == 0, 0x0003, 0), (decide (192 < count ∨ b.len < 16 * count), 0x0004, 0)] <|
    checkItems entries (fun e => decide (191 < e.counter) || !perfListed e.event) 0x0004 <|
    checkItems entries PerfEntry.conflict 0x0005 <|
    guarded [(namedTwice (entries.map (·.counter)), 0x0005, 0), (!s.bufRead b (16 * count), 0x0007, s.readDetail b (16 * count))] <|
    .accept { s with
      log := { s.log with perfPend := s.log.perfPend ++ entries }
      prot := { s.prot with waits := s.prot.waits ++ [(s.clk.rsn + 1, c, 0)] } } [(0, count, 0)]

/-- PERF.PROGRAM (R541). -/
def execPerfProgram (e : Entry) (b : Buf) (count : Nat) (entries : List PerfEntry) (s : State) :
    Host.Outcome State Fault Refusal :=
  serve (cmdOf (.perfProgram e b count entries)) e s (perfProgramBody b count entries)

/-- The programming that waits for the row boundary applies (R541). -/
def State.applyPerf (s : State) : State :=
  let s := s.log.perfPend.foldl (fun s e =>
    let c : PerfCtr := { event := e.event, obj := e.obj, chain := e.flags % 2 == 1, threshold := e.threshold }
    { s with log := { s.log with
      perf := Table.put s.log.perf e.counter c
      perfVal := if e.flags / 2 % 2 = 1 then Table.drop s.log.perfVal e.counter else s.log.perfVal } }) s
  { s with log := { s.log with perfPend := [] } }

/-- The firmware restores the default programming after a restart; values stay, an event reports the number of counters
changed (R540). -/
def State.defaultPerf (s : State) : State :=
  let dflt := fun (i : Nat) => ({ event := if i = 0 then 1 else if i = 1 then 2 else 0 } : PerfCtr)
  let n := (s.log.perf.filter fun x => x.2 != dflt x.1).length
  let s := { s with log := { s.log with perf := [], perfDefault := false } }
  s.info 0x2009 0 n

/-- PERF.READ (R543). -/
def perfReadBody (b : Buf) (first count : Nat) (_c : CmdRef) (s : State) : Reply :=
  if count = 0 then .noop false
  else
    let word := fun i => Table.get 0 s.log.perfVal i + (if i < 192 then (s.perfCtr i).event else 0) * 2 ^ 48
    guarded ([(b.len == 0, 0x0003, 0), (decide (415 < first + count - 1), 0x0004, 0)] ++ s.bufChecks b (8 * count) true) <|
      .done (s.hostWrite b.addr ((List.range count).flatMap fun i => leBytes 8 (word (first + i))))

/-- PERF.READ (R543). -/
def execPerfRead (e : Entry) (b : Buf) (first count : Nat) (s : State) : Host.Outcome State Fault Refusal :=
  serve (cmdOf (.perfRead e b first count)) e s (perfReadBody b first count)

/-! ### Heartbeat, temperature, lifetime records -/

/-- The running firmware increments HEARTBEAT every 1 ms (R413). -/
def execHeartbeat (s : State) : Host.Outcome State Fault Refusal :=
  if s.dev.jcc = .running then .next { s with host := { s.host with heartbeat := s.host.heartbeat + 1 } } else .next s

/-- TJ_MAX is updated every 1 ms (R413). -/
def execTjUpdate (temp : Int) (s : State) : Host.Outcome State Fault Refusal :=
  .next { s with host := { s.host with tjMax := temp } }

/-- Bin of a temperature (R544). -/
def tjBin (t : Int) : Nat :=
  if t < -40 then 0 else if 125 ≤ t then 32 else ((t + 40) / 5).toNat

/-- Add 1 to an accumulator for each listed value: number, first bin, bins. -/
def State.lifeEach (s : State) (acc stride : Nat) (bins : List Nat) : State :=
  go s 0 bins
where
  /-- Over the dies or rails. -/
  go (s : State) (k : Nat) (bs : List Nat) : State :=
    match bs with
    | [] => s
    | b :: r => go (s.lifeAdd acc (k * stride + b) 1) (k + 1) r

/-- The greatest of some temperatures. -/
def hottest (ts : List Int) : Option Int :=
  match ts with
  | [] => none
  | t :: r => match hottest r with
    | none => some t
    | some m => some (if m < t then t else m)

/-- Thermal cycles: one each time the hottest die falls 40 K below the highest temperature since the previous count
(R544). -/
def State.thermalCycle (s : State) (t : Int) : State :=
  match s.log.lifePeak with
  | none => { s with log := { s.log with lifePeak := some t } }
  | some p =>
    if t ≤ p - 40 then ({ s with log := { s.log with lifePeak := some t } }).lifeAdd 3 0 1
    else if p < t then { s with log := { s.log with lifePeak := some t } }
    else s

/-- The accumulators of a second: time on, temperature bins, supply bins, thermal cycles (R544). -/
def execLifetimeSample (temps : List Int) (supplyBins : List Nat) (s : State) : Host.Outcome State Fault Refusal :=
  let s := ((s.lifeAdd 0 0 1).lifeEach 1 64 (temps.map tjBin)).lifeEach 2 32 (supplyBins.map (min 31))
  .next (match hottest temps with
    | none => s
    | some t => s.thermalCycle t)

/-- The accumulators are copied into the next of 8 slots in MRAM (R544). -/
def State.lifeSlot (s : State) : State :=
  let k := s.log.lifeNext % 8
  let s := (s.lifeAdd accWear (256 + k) 1).bump .logPmLifetimeWrites 0 1
  { s with log := { s.log with
    lifeSlots := Table.set [] s.log.lifeSlots k s.log.life
    lifeNext := s.log.lifeNext + 1
    lifeTick := s.clk.tick } }

/-- Every 60 s of TIM time the running firmware copies the accumulators (R544). -/
def execLifetimeSlotWrite (s : State) : Host.Outcome State Fault Refusal :=
  if s.dev.jcc = .running ∧ s.elapsed s.log.lifeTick (60 * secTicks) = true then .next s.lifeSlot else .next s

end Sys2Proof.Machine
end

