-- ==== Sys2Proof/Machine/Modes.lean ====
section
/-!
DEFINITION. Machine/Modes.lean: what the engines of TIM share: messages to the peer, lease frames, acquiring and releasing
the clasp, the end of a pending commit, caravan aborts, mode changes (R29 to R46, R192, R205, R207, R348 to R359), and the
mode commands.
-/
namespace Sys2Proof.Machine

/-! ### Reservations -/

/-- A journal record is reserved for an effect still to come (R392). -/
def State.reserve (s : State) : State := { s with log := { s.log with jreserved := s.log.jreserved + 1 } }

/-- A reservation ends. -/
def State.unreserve (s : State) : State := { s with log := { s.log with jreserved := s.log.jreserved - 1 } }

/-- Accept a command whose record is written when its effect takes place; the last refusal is JOURNAL_FULL (R388, R392). -/
def acceptReserved (s : State) (f : State → State) : Reply :=
  if s.journalRoom 1 then .accept (f s.reserve) else .refuse 0x000A

/-- The effect of such a command takes place: its record and its completion. -/
def State.effectOf (s : State) (c : CmdRef) (obj cnt value : Nat) : State :=
  (s.unreserve.journalCmd c 1 obj cnt value).complete c 0 0 0 false

/-- An accepted command ends without its effect: STATUS and DETAIL; its reservation ends. -/
def State.failRef (s : State) (c : Option CmdRef) (st detail : Nat) : State :=
  match c with
  | some c => s.unreserve.complete c st 0xFFFFFFFF detail false
  | none => s

/-! ### Messages to the peer (R345, R346) -/

/-- A message for the peer is queued in its class (R345, R346). -/
def State.tell (s : State) (m : PeerMsg) : State := { s with pair := { s.pair with out := s.pair.out ++ [m] } }

/-- A command that the holder accepted goes to the follower with its head and the row at which it acts (R229, R405). -/
def State.forwardCmd (s : State) (c : CmdRef) (row : Rsn) (f : Forwarded) : State :=
  s.tell (.forward ⟨c.session, c.role, c.cmdId, c.code, row⟩ f)

/-! ### Lease frames (R348, R349) -/

/-- STATE of a lease frame: a RELEASE or FAULT announcement, or the role's (R349). -/
def State.leaseState (s : State) : Nat :=
  if s.pair.faultAnn then 4
  else if s.pair.announce ≠ 0 then s.pair.announce
  else match s.dev.role with
    | .none => 0
    | .follower => 1
    | .holder => 2
    | .standalone => 5

/-- HOLDER_N is low exactly while ROLE is HOLDER (R42, R354). -/
def State.holderPin (s : State) : Bool := s.dev.role != .holder

/-- Send a lease frame on both paths (R348, R349). -/
def State.sendFrame (s : State) : State :=
  let p := s.pair
  let recent := match p.ack with
    | some (_, t) => !s.elapsed t (2 * msTicks)
    | none => false
  let aborted := match s.com.car.abortTick with
    | some t => !s.elapsed t (10 * msTicks)
    | none => false
  let f : LeaseFrame := {
    state := s.leaseState
    primary := s.dev.primary
    plane := s.dev.planeB
    lseq := p.lseq
    ackSeq := match p.ack with | some (n, _) => n | none => 0
    ackValid := recent
    tsel := s.tim.sel
    tstate := s.tim.state.code
    caravanAbort := aborted
    saredUp := p.linkUp
    generation := s.com.gen
    serial := Config.serial.setWidth 32 }
  let s := s.tell (.lease f)
  { s with pair := { s.pair with
    lseq := (p.lseq + 1) % 256
    sent := if f.state = 2 then ((p.lseq, s.clk.tick) :: p.sent).take 64 else p.sent
    frames := (f :: p.frames).take 16
    repeats := p.repeats - 1
    announce := if p.repeats ≤ 1 then 0 else p.announce } }

/-! ### Commits and caravans that end (R192, R199, R205, R207) -/

/-- The pending commit ends without taking effect: STATUS, and DETAIL. The staged delta stays staged. COMMIT_ABORTED is
counted (R210). -/
def State.endCommit (s : State) (st detail : Nat) : State :=
  match s.com.pend with
  | none => s
  | some p =>
    let s := { s with com := { s.com with pend := none } }
    if p.caravan || p.catchUp || p.copyGen.isSome then s
    else
      let s := if st = 0x0308 then s.bump .mapPmAborts 0 1 else s
      s.failRef p.ref st detail

/-- COMMIT_ABORTED with a reason of R386. -/
def State.abortCommit (s : State) (detail : Nat) : State := s.endCommit 0x0308 detail

/-- A commit that is not armed is aborted when the clasp moves (R207, R353). -/
def State.abortUnarmed (s : State) : State :=
  match s.com.pend with
  | some p => if p.armed then s else s.abortCommit 7
  | none => s

/-- A pending entry of the timetable that is not armed is dropped. -/
def State.dropEntry (s : State) : State :=
  match s.com.pend with
  | some p => if p.caravan && !p.armed then { s with com := { s.com with pend := none } } else s
  | none => s

/-- A timetable is under way: in CARAVAN, or on a follower in CONFIGURE, which takes the holder's start (R45, R205, R367). -/
def State.onTimetable (s : State) : Bool :=
  s.com.car.start.isSome && (s.dev.mode == .caravan || (s.dev.mode == .configure && s.dev.role == .follower))

/-- The timetable is over: an entry that is not armed is dropped, and a follower that was to enter CARAVAN enters TRANSPORT
instead (R45, R204, R205). -/
def State.endTimetable (s : State) : State :=
  let s := s.dropEntry
  let turn := fun (p : ModeChange) => if p.target = .caravan ∧ s.dev.role = .follower then { p with target := .transport } else p
  { s with
    dev := { s.dev with pend := s.dev.pend.map turn }
    com := { s.com with car := { s.com.car with start := none, stop := none, startRef := none, stopRef := none } } }

/-- The caravan aborts: TRANSPORT at the next row boundary, announced to the peer unless the peer announced it; a follower in CONFIGURE
stays there (R205, R210, R367, R591). -/
def State.abortCaravan (s : State) (byPeer : Bool) : State :=
  if !s.onTimetable then s
  else
    let s := if s.dev.mode = .caravan then
        { s.endTimetable with dev := { s.dev with toTransport := some (s.clk.rsn + 1) } }
      else s.endTimetable
    let s := if byPeer then s else { s with com := { s.com with car := { s.com.car with abortTick := some s.clk.tick } } }
    let s := (s.bump .mapPmAborts 0 1).journalAuto 0xA00D 0 1
    if byPeer then s else s.tell .caravanAbort

/-! ### The clasp (R351 to R359) -/

/-- The mode permits HOLDER (R43). -/
def Mode.mayHold (m : Mode) : Bool :=
  match m with
  | .configure | .transport | .caravan | .maintain => true
  | _ => false

/-- What a copy that is abandoned leaves: no copy, the shadow banks as the active ones, and no commit at its end. A commit of the copy
that is armed completes, but joins nothing (R192, R208, R367; log entry 84). -/
def State.abandonCopy (s : State) : State :=
  let armed := match s.com.pend with | some p => p.copyGen.isSome && p.armed | none => false
  let filled := s.dev.role == .follower && s.pair.live.isSome && s.pair.live != some 0
  let s := { s with pair := { s.pair with live := none, liveTime := none } }
  if armed || !filled then s
  else
    let pend := match s.com.pend with | some p => if p.copyGen.isSome then none else some p | none => none
    { s.setShadow s.egrB with com := { s.com with pend := pend, entryRecs := [], entryMoves := [] } }

/-- The unit acquires the clasp (R354): HOLD frames are sent, the checkpoint load begins (R364), a live copy is abandoned
(R367). -/
def State.acquire (s : State) (lease : Nat) (seized : Bool) : State :=
  let s := s.abandonCopy
  let s := { s with
    dev := { s.dev with role := .holder }
    pair := { s.pair with
      leaseEnd := lease
      seized := seized
      sent := []
      takeover := true
      cnoh := false
      announce := 0
      repeats := 0 } }
  ((s.bump .pairPmAcquire 0 1).lifeAdd 6 0 1).sendFrame

/-- The clasp is given up: role FOLLOWER, the unarmed commit aborted, a copy abandoned (R351, R353, R358). kind 0 RELEASE,
1 FAULT, 2 RELEASE on CDUAL or CSTRAP, 3 lapse. -/
def State.giveUp (s : State) (kind : Nat) : State :=
  let s := s.abandonCopy
  let s := { s with
    dev := { s.dev with role := .follower, joined := s.pair.peerJoined && s.dev.mode != Mode.configure }
    pair := { s.pair with
      freedTick := some s.clk.tick
      followTick := s.clk.tick
      seized := false
      takeover := false
      cdual := false
      release := none
      faultAnn := s.pair.faultAnn || kind == 1
      announce := if kind = 0 ∨ kind = 2 then 3 else 0
      repeats := if kind = 3 then 0 else 3 } }
  let s := s.abortUnarmed
  let s := if kind = 3 then s.bump .pairPmLapse 0 1 else (s.bump .pairPmRelease 0 1).lifeAdd 7 0 1
  let s := match kind with
    | 1 => s.journalAuto 0xA009 0 0
    | 2 => s.journalAuto 0xA009 0 2
    | 3 => s.journalAuto 0xA009 0 1
    | _ => s
  s.sendFrame

/-- A release that is due at the next row boundary (R358, R359, R38). A FAULT release is not replaced by another. -/
def State.releaseSoon (s : State) (kind : Nat) (c : Option CmdRef) : State :=
  if s.dev.role ≠ .holder then s
  else match s.pair.release with
    | some (1, none) => { s with pair := { s.pair with release := some (1, c) } }
    | some (1, _) => s
    | some (_, old) =>
      let s := if kind = 1 then s.failRef old 0x0011 0 else s
      { s with pair := { s.pair with release := some (kind, if kind = 1 then c else c <|> old) } }
    | none => { s with pair := { s.pair with release := some (kind, c) } }

/-- The row boundary at which a release is due. -/
def State.doRelease (s : State) : State :=
  match s.pair.release with
  | none => s
  | some (kind, c) =>
    let s := if s.dev.role = .holder then s.giveUp kind else { s with pair := { s.pair with release := none } }
    match c with
    | some c => s.effectOf c 0 1 0
    | none => s

/-- A cause of R358: a holder releases with FAULT at the next boundary. -/
def State.faultRelease (s : State) : State := s.releaseSoon 1 none

/-! ### Mode changes (R29 to R45) -/

/-- The role in a mode (R42, R43). -/
def State.roleIn (s : State) (m : Mode) : Role :=
  match m with
  | .boot | .recovery | .quiescent => .none
  | .test => if s.dev.role = .holder then .follower else s.dev.role
  | _ => if s.dev.role = .none then (if s.cur .pairEnable 0 = 1 then .follower else .standalone) else s.dev.role

/-- The first entry of the timetable that can still arm at the present row, with its pass (R203, R367). -/
def Caravan.seek (k : Caravan) (rsn : Rsn) : Caravan :=
  let now := rsn.toNat + 2
  let first := match k.entries.head? with | some e => e.rsn.toNat | none => 0
  let p := if k.loopRows = 0 then 0 else (now - first) / k.loopRows
  match k.entries.findIdx? fun e => decide (now < e.rsn.toNat + p * k.loopRows) with
  | some i => { k with next := i, pass := p }
  | none => if k.loopRows = 0 then { k with next := k.entries.length, pass := 0 } else { k with next := 0, pass := p + 1 }

/-- CARAVAN is entered by a follower whose holder is there: the timetable runs from its next entry (R45, R367). -/
def State.joinCaravan (s : State) : State :=
  if s.com.car.start.isSome then s
  else { s with com := { s.com with car := { s.com.car.seek s.clk.rsn with start := some s.clk.rsn } } }

/-- A mode that ends what a timetable named for later: the unit is out of service. -/
def Mode.outOfService (m : Mode) : Bool := m == .test || !m.working

/-- A mode is entered: tests end on leaving TEST, a holder has released the clasp before a mode that permits none, JOINED is 0 in
CONFIGURE, a copy is abandoned outside CONFIGURE, a timetable that runs ends outside CARAVAN (R30, R43, R45, R38, R44, R354, R366,
R367). -/
def State.enterMode (s : State) (m : Mode) : State :=
  let s := if s.dev.mode = .test ∧ m ≠ .test then s.emptyTestSet else s
  let s := if s.dev.role = .holder ∧ m.mayHold = false then s.giveUp 0 else s
  let s := if m = .configure then s else s.abandonCopy
  let s := if m = .caravan then s.joinCaravan
    else if s.dev.mode = .caravan ∨ m.outOfService = true then s.endTimetable
    else s
  let role := s.roleIn m
  let changed := role ≠ s.dev.role
  let s := { s with
    dev := { s.dev with
      mode := m
      prevMode := s.dev.mode
      toTransport := none
      role := role
      joined := if m = .configure ∨ m = .test then false else s.dev.joined }
    pair := { s.pair with
      heard := false
      modeTick := s.clk.tick
      followTick := if changed ∧ role = .follower then s.clk.tick else s.pair.followTick
      holdSince := if m = .configure then false else s.pair.holdSince }
    pow := { s.pow with quietTick := if m = .quiescent then s.clk.tick else s.pow.quietTick } }
  if changed then s.sendFrame else s

/-- An autonomous mode change, journalled, on a follower with the holder's command that brought it (R33, R405, R591). A commanded change
that waits is overtaken: it completes when it leads to the same mode, and otherwise ends with WRONG_MODE; one that is a reset overrides
(R37). -/
def State.autoModeBy (s : State) (m : Mode) (by' : Option CmdRef) : State :=
  let old := s.dev.mode
  let s := s.enterMode m
  let s := match by' with
    | some c => s.journalCmd c 1 m.code 1 old.code
    | none => s.journalAuto 0xA00A m.code old.code
  match s.dev.pend with
  | none => s
  | some p =>
    if p.target = .recovery ∧ m ≠ .recovery then s
    else
      let s := { s with dev := { s.dev with pend := none } }
      match p.ref with
      | none => if m = .quiescent then s else s.unreserve
      | some c => if p.target = m then s.unreserve.complete c 0 0 0 false else s.failRef (some c) 0x000B 0

/-- An autonomous mode change without a command (R33, R37). -/
def State.autoMode (s : State) (m : Mode) : State := s.autoModeBy m none

/-- DPLL condition of the entry into TRANSPORT (R38). -/
def State.dpllReady (s : State) : Bool :=
  s.tim.state == .locked || s.tim.state == .oasis || s.tim.state == .pulled || s.cur .timingAllowFreerun 0 == 1

/-- The modes from which a command may lead to a mode (R38). FW.RESUME and CARAVAN commands are checked by their own. -/
def modeFrom (m target : Mode) : Bool :=
  match target with
  | .configure => m == .transport
  | .transport => m == .configure
  | .quiescent => m == .configure
  | .test | .maintain => m == .configure || m == .transport
  | _ => false

/-- A power request runs (R475, R494). -/
def State.powerBusy (s : State) : Bool := s.pow.sleep.isSome || s.pow.wake.isSome

/-- MODE_BUSY, also during a power request, then WRONG_MODE (R34, R38, R494). -/
def State.modeChecks (s : State) (ok : Bool) : List (Bool × Nat × Nat) :=
  [(s.modePending || s.powerBusy, 0x000C, 0), (!ok, 0x000B, 0)]

/-- The conditions for TRANSPORT in the order listed (R38). -/
def State.transportChecks (s : State) : List (Bool × Nat × Nat) :=
  [(s.com.gen == 0, 0x000B, 1), (!s.dpllReady, 0x000B, 2), (s.dev.role == .follower && !s.dev.joined, 0x0204, 0)]

/-- COMMIT_PENDING of R35. -/
def State.commitBars (s : State) : List (Bool × Nat × Nat) := [(s.commitPending, 0x0305, 0)]

/-- An accepted mode command: PENDING, the change at the second row boundary (R33). A holder releases the clasp first where
R38 says so. -/
def acceptMode (s : State) (c : CmdRef) (target : Mode) (release : Bool) : Reply :=
  acceptReserved s fun s =>
    let s := if release then s.releaseSoon 0 none else s
    { s with dev := { s.dev with pend := some ⟨target, s.clk.rsn + 2, some c⟩ } }

/-- A holder's peer is in TRANSPORT or CARAVAN (R38). -/
def State.peerCarries (s : State) : Bool := s.pair.peerMode == 3 || s.pair.peerMode == 4

/-- The mode that POWER.MODE TRANSPORT leads to: CARAVAN on a follower whose holder is there (R38, R45, R367). -/
def State.transportTarget (s : State) : Mode :=
  if s.dev.role = .follower ∧ s.pair.peerMode = 4 then .caravan else .transport

/-- POWER.MODE with the argument CONFIGURE (R38). -/
def configureBody (c : CmdRef) (s : State) : Reply :=
  guarded (s.modeChecks (modeFrom s.dev.mode .configure) ++ s.commitBars) <|
    acceptMode s c .configure s.peerCarries

/-- POWER.MODE with the argument TRANSPORT (R38). -/
def transportBody (c : CmdRef) (s : State) : Reply :=
  guarded (s.modeChecks (modeFrom s.dev.mode .transport) ++ s.transportChecks) <|
    acceptMode s c s.transportTarget false

/-- TEST.ENTER (R38, R43). -/
def testEnterBody (c : CmdRef) (s : State) : Reply :=
  guarded (s.modeChecks (modeFrom s.dev.mode .test) ++ s.commitBars) <| acceptMode s c .test true

/-- TEST.ENTER (R32). -/
def execTestEnter (e : Entry) (s : State) : Host.Outcome State Fault Refusal :=
  serve (cmdOf (.testEnter e)) e s testEnterBody

/-- TEST.EXIT (R38). -/
def testExitBody (c : CmdRef) (s : State) : Reply :=
  guarded (s.modeChecks (s.dev.mode == .test) ++ s.commitBars) <| acceptMode s c .configure false

/-- TEST.EXIT (R32). -/
def execTestExit (e : Entry) (s : State) : Host.Outcome State Fault Refusal :=
  serve (cmdOf (.testExit e)) e s testExitBody

/-- FW.MAINTAIN (R38). A follower in MAINTAIN is joined (R43); the status of the refusal of another is that of TRANSPORT (log entry
114). -/
def maintainBody (c : CmdRef) (s : State) : Reply :=
  guarded (s.modeChecks (modeFrom s.dev.mode .maintain) ++ s.commitBars ++
      [(s.dev.role == .follower && !s.dev.joined, 0x0204, 0)]) <| acceptMode s c .maintain false

/-- FW.MAINTAIN (R32). -/
def execFwMaintain (e : Entry) (s : State) : Host.Outcome State Fault Refusal :=
  serve (cmdOf (.fwMaintain e)) e s maintainBody

/-- FW.RESUME: back to PREV_MODE (R38). -/
def resumeBody (c : CmdRef) (s : State) : Reply :=
  guarded (s.modeChecks (s.dev.mode == .maintain)) <| acceptMode s c s.dev.prevMode false

/-- FW.RESUME (R32). -/
def execFwResume (e : Entry) (s : State) : Host.Outcome State Fault Refusal :=
  serve (cmdOf (.fwResume e)) e s resumeBody

/-- The autonomous change that is due at this boundary, with the command that brought it: an aborted caravan's return to TRANSPORT, and
the holder's start and stop of the timetable on a joined follower (R38, R45, R204, R205). -/
def State.autoDue (s : State) : Option (Mode × Option CmdRef) :=
  let past := fun (r : Option Rsn) => match r with | some r => rsnLe r s.clk.rsn | none => false
  let k := s.com.car
  if past s.dev.toTransport then some (.transport, none)
  else if s.dev.role ≠ .follower then none
  else if s.dev.mode = .caravan ∧ past k.stop = true then some (.transport, k.stopRef)
  else if s.dev.mode = .transport ∧ s.dev.joined = true ∧ past k.start = true ∧ past k.stop = false then some (.caravan, k.startRef)
  else none

end Sys2Proof.Machine
end

