-- ==== Sys2Proof/Machine/Maps.lean ====
section
/-!
DEFINITION. Machine/Maps.lean: staging a delta: MAP.STAGE, MAP.PROBE, MAP.DISCARD, MAP.READ, CUT.STAGE, LOUPE.MIRROR, the
follower's staging port, and the damage and repair of map entries (R185 to R191, R246, R265, R505).
-/
namespace Sys2Proof.Machine

/-- Count the shadow records written at each dune (R542). -/
def State.countShadow (s : State) (rs : List MapRec) : State :=
  allDunes.foldl (fun s k => s.perf 0x016 k (recsAt rs k)) s

/-- The egress grains and cut inputs that a staged delta names. -/
def Commit.named (c : Commit) : List Nat × List Nat :=
  (c.staged.map DeltaEntry.key, c.stagedCut.map fun x => x.1 * 8192 + x.2.input)

/-- Entries and cut inputs join the staged delta; one for the same grain or input replaces the earlier one (R187, R265). -/
def Commit.join (c : Commit) (es : List DeltaEntry) (cuts : List (Nat × CutDelta)) : Commit :=
  let keys : List Nat := es.map DeltaEntry.key
  let inputs : List (Nat × Nat) := cuts.map fun x => (x.1, x.2.input)
  { c with
    staged := (c.staged.filter fun (e : DeltaEntry) => !keys.contains e.key) ++ es
    stagedCut := (c.stagedCut.filter fun (x : Nat × CutDelta) => !inputs.contains (x.1, x.2.input)) ++ cuts
    hasDelta := true }

/-- Nothing is staged. -/
def Commit.unstaged (c : Commit) : Commit :=
  { c with
    staged := []
    stagedCut := []
    hasDelta := false
    owner := 0
    recs := []
    moves := [] }

/-- Add changes to the staged delta and compile them into the shadow bank (R187 to R190); in a pair the staging port sends them on
(R191). Answers the state and the number of dunes whose delivery counts changed. -/
def State.stageDelta (s : State) (owner : Nat) (es : List DeltaEntry) (cuts : List (Nat × CutDelta)) : State × Nat :=
  let s := s.afterReplay
  let old := s.shadow
  let (b, mv) := s.compile old es cuts s.draw
  let s := s.drawn
  let b : Bank := { b with insts := s.descriptors b.conns }
  let n := dunesChanged (deliveries old.conns old.cuts) (deliveries b.conns b.cuts)
  let c := s.com.join es cuts
  let recs := stagedRecs s.com.recs (deltaRecs s.egrB b c.named.1 c.named.2)
  let s := (s.setShadow b).countShadow (recs.filter fun r => !s.com.recs.contains r)
  let s := { s with com := { c with
    owner := if c.owner = 0 then owner else c.owner
    recs := recs
    moves := c.moves ++ mv } }
  (if s.paired then s.tell (.stage ⟨es, cuts, recs, mv⟩ false) else s, n)

/-- A staging command is complete: at once, or in a pair when the follower's shadow banks hold the delta (R188). -/
def State.staged (c : CmdRef) (x : State × Nat) (recs : List (Nat × Nat × Nat)) : Reply :=
  let (s, n) := x
  if s.paired then .accept { s with com := { s.com with stageWaits := s.com.stageWaits ++ [(c, n)] } } recs
  else .done s n recs

/-- The shadow bank returns to the active generation; nothing is staged; the follower does the same (R187, R207). -/
def State.discardDelta (s : State) : State :=
  let s := s.afterReplay
  let s := { s.setShadow s.egrB with com := s.com.unstaged }
  if s.paired then s.tell (.stage ⟨[], [], [], []⟩ true) else s

/-! ### MAP.STAGE and MAP.PROBE (R186 to R188) -/

/-- The refusals that come before the table's content: INVALID_ZERO and OUT_OF_RANGE of count and buffer. -/
def countChecks (b : Buf) (count most size : Nat) : List (Bool × Nat × Nat) :=
  [(count == 0 || b.len == 0, 0x0003, 0), (decide (most < count ∨ b.len < size * count), 0x0004, 0)]

/-- ADDR_FAULT, then STAGE_OWNED (R388). -/
def State.midChecks (s : State) (b : Buf) (len : Nat) (owned : Bool) : List (Bool × Nat × Nat) :=
  [(!s.bufRead b len, 0x0007, s.readDetail b len), (owned, 0x0109, 0)]

/-- MAP.STAGE: every check of R187, then the whole table is staged. -/
def mapStageBody (b : Buf) (entries : Nat) (table : List (BitVec 128)) (c : CmdRef) (s : State) : Reply :=
  let t := s.afterReplay.shadow
  let es := (table.take entries).map DeltaEntry.ofWord
  guarded (countChecks b entries 65536 16) <|
  s.deltaChecks t.conns t.cuts es (s.midChecks b (16 * entries) (s.stageOwned c)) <|
  guarded s.stageModeChecks <|
    State.staged c (s.stageDelta c.session es []) [(s.com.gen, entries, 0)]

/-- MAP.STAGE (R186). -/
def execMapStage (e : Entry) (b : Buf) (entries : Nat) (table : List (BitVec 128)) (s : State) :
    Host.Outcome State Fault Refusal :=
  serve (cmdOf (.mapStage e b entries table)) e s (mapStageBody b entries table)

/-- The 64 entries that MAP.PROBE writes (R188). -/
def probeBytes (t : Table Bool) : List Byte :=
  allDunes.flatMap fun k => leBytes 4 (leaving t k) ++ leBytes 4 (entering t k)

/-- MAP.PROBE: the checks of R187, and the counts that staging would give (R188). -/
def mapProbeBody (b : Buf) (entries : Nat) (table : List (BitVec 128)) (out : Buf) (_c : CmdRef) (s : State) : Reply :=
  let t := s.afterReplay.shadow
  let es := (table.take entries).map DeltaEntry.ofWord
  guarded (countChecks b entries 65536 16 ++ [(decide (out.len < 512), 0x0004, 0)]) <|
  s.deltaChecks t.conns t.cuts es (s.midChecks b (16 * entries) false ++ [(!s.bufWrite out 512, 0x0007, 0x0001)]) <|
  guarded (s.stageModeChecks ++ [(!s.journalRoom 1, 0x000A, 0)]) <|
    let now := deliveries t.conns t.cuts
    let new := deliveries (es.foldl applyEntry t.conns) t.cuts
    .done (s.hostWrite out.addr (probeBytes new)) (dunesChanged now new)

/-- MAP.PROBE (R188). -/
def execMapProbe (e : Entry) (b : Buf) (entries : Nat) (table : List (BitVec 128)) (out : Buf) (s : State) :
    Host.Outcome State Fault Refusal :=
  serve (cmdOf (.mapProbe e b entries table out)) e s (mapProbeBody b entries table out)

/-! ### MAP.DISCARD and MAP.READ -/

/-- MAP.DISCARD: COMMIT_PENDING, NOT_HOLDER, STAGE_OWNED, JOURNAL_FULL in that order; a no-op with nothing staged (R187). -/
def mapDiscardBody (c : CmdRef) (s : State) : Reply :=
  guarded [(s.commitPending, 0x0305, 0), (s.dev.role == .follower, 0x0201, 0), (s.stageOwned c, 0x0109, 0)] <|
    if s.com.hasDelta then .done s.discardDelta 0 [(s.com.gen, s.com.staged.length + s.com.stagedCut.length, 0)]
    else .noop true

/-- MAP.DISCARD (R187). -/
def execMapDiscard (e : Entry) (s : State) : Host.Outcome State Fault Refusal :=
  serve (cmdOf (.mapDiscard e)) e s mapDiscardBody

/-- Entries of a map held per dune (R179). -/
def mapEntries (map : Nat) : Nat :=
  match map with
  | 0 | 1 => 65536
  | 2 => 32768
  | _ => 8192

/-- Bytes that an entry of a map takes in the buffer of MAP.READ (R180 to R183). -/
def mapEntryBytes (map : Nat) : Nat :=
  match map with
  | 0 | 1 => 2
  | 2 => 10
  | _ => 4

/-- MAP.READ: entries of the active (bank 0) or shadow bank (R180). -/
def mapReadBody (b : Buf) (first count bank map dune : Nat) (_c : CmdRef) (s : State) : Reply :=
  if count = 0 then .noop false
  else
    let w := mapEntryBytes map
    let k := if bank = 0 then s.egrB else s.shadow
    guarded ([(b.len == 0, 0x0003, 0),
        (decide (1 < bank ∨ 3 < map ∨ 63 < dune ∨ mapEntries map < first + count), 0x0004, 0)] ++
        s.bufChecks b (w * count) true) <|
      .done (s.hostWrite b.addr ((List.range count).flatMap fun i => leBytes w (k.entry map dune (first + i)).toNat))

/-- MAP.READ (R180). -/
def execMapRead (e : Entry) (b : Buf) (first count bank map dune : Nat) (s : State) :
    Host.Outcome State Fault Refusal :=
  serve (cmdOf (.mapRead e b first count bank map dune)) e s (mapReadBody b first count bank map dune)

/-! ### CUT.STAGE (R265) -/

/-- A cut entry contradicts itself, as R187 says of a DISCONNECT. -/
def CutDelta.fieldBad (x : CutDelta) : Bool := x.op == 2 && (x.lane != 0 || x.grain != 0)

/-- Input number, op, or source address out of range. -/
def State.cutRange (s : State) (x : CutDelta) : Bool :=
  decide (8191 < x.input) || (x.op != 1 && x.op != 2) || decide (511 < x.lane ∨ 4095 < x.grain) ||
    (x.op == 1 && !s.grainOk x.src)

/-- CUT.STAGE: input changes of one dune join the staged delta (R265). -/
def cutStageBody (b : Buf) (count dune : Nat) (table : List (BitVec 64)) (c : CmdRef) (s : State) : Reply :=
  let t := s.afterReplay.shadow
  let xs := (table.take count).map CutDelta.ofWord
  let pairs := xs.map fun x => (dune, x)
  guarded (countChecks b count 65536 8 ++ [(decide (63 < dune), 0x0004, 0)]) <|
  checkItems xs s.cutRange 0x0004 <|
  checkItems xs CutDelta.fieldBad 0x0005 <|
  guarded (s.midChecks b (8 * count) (s.stageOwned c)) <|
  checkDup (xs.map (·.input)) <|
  checkItems xs (fun x => x.op == 1 && s.sourceBad x.src) 0x0303 <|
  guarded [(routeFull (deliveries t.conns (pairs.foldl applyCut t.cuts)), 0x0301, 0)] <|
  checkItems xs (fun x => s.domain (4 + dune / 8) != 0 || (x.op == 1 && s.stripeDown (x.src / 4096))) 0x000D <|
  guarded s.stageModeChecks <|
    State.staged c (s.stageDelta c.session [] pairs) [(dune, count, 0)]

/-- CUT.STAGE (R265). -/
def execCutStage (e : Entry) (b : Buf) (count dune : Nat) (table : List (BitVec 64)) (s : State) :
    Host.Outcome State Fault Refusal :=
  serve (cmdOf (.cutStage e b count dune table)) e s (cutStageBody b count dune table)

/-! ### LOUPE.MIRROR (R246) -/

/-- The CONNECT that copies a connection to a grain. -/
def connectOf (key : Nat) (x : Conn) : DeltaEntry :=
  let (a, g) := x.alt.getD (0, 0)
  { op := 1, flags := if x.alt.isSome then 1 else 0, egrLane := key / 4096, egrGrain := key % 4096, priLane := x.pri / 4096,
    priGrain := x.pri % 4096, altLane := a / 4096, altGrain := a % 4096, group := g }

/-- The observed grain's entry: from the staged delta where it holds the grain, otherwise from the active map. -/
def State.observedConn (s : State) (key : Nat) : Option Conn :=
  match s.com.staged.find? fun e => e.key == key with
  | some e => if e.op = 1 then some ⟨e.pri, if e.hasAlt then some (e.alt, e.group) else none⟩ else none
  | none => Table.find s.egrB.conns key

/-- LOUPE.MIRROR: one CONNECT joins the staged delta; RESULT is E_j of the loupe lane's dune (R246). -/
def loupeMirrorBody (obsLane obsGrain loupeLane loupeGrain : Nat) (c : CmdRef) (s : State) : Reply :=
  let t := s.afterReplay.shadow
  let obs := obsLane * 4096 + obsGrain
  let key := loupeLane * 4096 + loupeGrain
  guarded [(decide (511 < obsLane ∨ 511 < loupeLane ∨ s.grainsOf obsLane ≤ obsGrain ∨ s.grainsOf loupeLane ≤ loupeGrain), 0x0004, 0),
      (s.cur .laneLoupe loupeLane == 0, 0x0005, 0)] <|
    match s.observedConn obs with
    | none => .refuse 0x0005
    | some x =>
      let e := connectOf key x
      s.deltaChecks t.conns t.cuts [e] [(s.stageOwned c, 0x0109, 0)] <|
      guarded s.stageModeChecks <|
        let (s, _) := s.stageDelta c.session [e] []
        State.staged c (s, entering (deliveries s.shadow.conns s.shadow.cuts) (loupeLane / 8)) [(loupeLane, 1, 0)]

/-- LOUPE.MIRROR (R246). -/
def execLoupeMirror (e : Entry) (obsLane obsGrain loupeLane loupeGrain : Nat) (s : State) :
    Host.Outcome State Fault Refusal :=
  serve (cmdOf (.loupeMirror e obsLane obsGrain loupeLane loupeGrain)) e s (loupeMirrorBody obsLane obsGrain loupeLane loupeGrain)

/-! ### The follower's staging port (R191) -/

/-- Compiled records arrive at the follower's staging port: its controller takes no part. The delta is the holder's, record for record,
with its cut inputs and moves; a discard empties it (R187, R191, R207). -/
def execStageRecords (m : StageMsg) (discard : Bool) (s : State) : Host.Outcome State Fault Refusal :=
  if s.dev.role = .follower ∧ s.pair.linkUp = true then
    let s := s.afterReplay
    if discard then .next { s.setShadow s.egrB with com := s.com.unstaged }
    else
      let b := s.egrB.writeAll m.recs
      let b : Bank := { b with insts := s.descriptors b.conns }
      let s := (s.setShadow b).countShadow (m.recs.filter fun r => !s.com.recs.contains r)
      let c := s.com.join m.entries m.cuts
      .next { s with com := { c with
        recs := m.recs
        moves := c.moves ++ m.moves } }
  else .next s

/-! ### Damage and repair (R185, R505) -/

/-- Damaged shadow entries are found: SHADOW_ECC sets, each is counted and its dune reported (R185, R210, R504 class 0x04). -/
def State.findShadow (s : State) (xs : List (Nat × Nat × Nat)) (detail : Nat) : State :=
  let dunes := (xs.map fun (x : Nat × Nat × Nat) => x.2.1).eraseDups
  let s := ({ s with com := { s.com with shadowEcc := true, shadowFound := s.com.shadowFound ++ xs } }).bump .mapPmShadowEcc 0 xs.length
  dunes.foldl (fun s k => s.report 4 (regionOfDune k) k detail 0) s

/-- The scrub of the shadow banks, every 64 rows: single-bit errors are corrected in place and counted as masked; a multi-bit error sets
SHADOW_ECC (R185, R210, R504 class 0x01). -/
def execShadowScrub (s : State) : Host.Outcome State Fault Refusal :=
  if !s.elapsed s.com.scrubTick (64 * 64) then .next s
  else
    let new := s.com.shadowBad.filter fun x => !s.com.shadowFound.contains x
    let soft := s.com.shadowSoft
    let s := { s with com := { s.com with shadowSoft := [], scrubTick := s.clk.tick } }
    let s := soft.foldl (fun s x => (s.perf 0x018 x.2.1 1).maskedFault 1 (regionOfDune x.2.1)) s
    if new.isEmpty then .next s else .next (s.findShadow new 0)

/-- The compiler rewrites from its database the damaged shadow entries that have been found; SHADOW_ECC clears (R185). -/
def execShadowRewrite (s : State) : Host.Outcome State Fault Refusal :=
  if s.com.shadowEcc ∧ s.dev.jcc = .running then
    .next { s with com := { s.com with
      shadowEcc := false
      shadowBad := s.com.shadowBad.filter fun x => !s.com.shadowFound.contains x
      shadowFound := [] } }
  else .next s

/-- A damaged active entry is whole again (R505). -/
def State.mendMap (s : State) (map dune index : Nat) : State :=
  let left := s.flt.mapBad.filter fun x => !(x.1 == map && x.2.1 == dune && x.2.2 == index)
  let s := if left.length < s.flt.mapBad.length ∧ (left.any fun x => x.2.1 == dune) = false then s.markRec 3 (regionOfDune dune) dune 0x40
    else s
  { s with flt := { s.flt with mapBad := left } }

/-- The shadow entry equals the active one: no staged record and no replay record touches it (R505). -/
def State.shadowClean (s : State) (map dune index : Nat) : Bool :=
  let hit := fun (r : MapRec) => r.map == map && r.dune == dune && r.index == index
  !(s.com.recs.any hit) && !(s.com.entryRecs.any hit) && !(s.com.replaying && s.com.lastRecs.any hit) &&
    !(s.com.shadowBad.any fun x => x.1 == map && x.2.1 == dune && x.2.2 == index)

/-- The shadow entry of a damaged active entry is damaged too (R504 class 0x04). -/
def State.shadowHit (s : State) (map dune index : Nat) : Bool :=
  s.com.shadowBad.any fun x => x.1 == map && x.2.1 == dune && x.2.2 == index

/-- A dune copies a clean shadow entry over a damaged active entry; a repair read that meets a damaged shadow entry reports it
(R504, R505). -/
def execMapShadowRepair (map : Fin 4) (dune : Fin 64) (index : Nat) (s : State) : Host.Outcome State Fault Refusal :=
  let bad := s.flt.mapBad.any fun x => x.1 == map.val && x.2.1 == dune.val && x.2.2 == index
  if s.shadowClean map.val dune.val index then .next (s.mendMap map.val dune.val index)
  else if bad && s.shadowHit map.val dune.val index && !s.com.shadowFound.contains (map.val, dune.val, index) then
    .next (s.findShadow [(map.val, dune.val, index)] index)
  else .next s

/-- The firmware rewrites a damaged active entry from its database (R505). -/
def execMapDatabaseRepair (map : Fin 4) (dune : Fin 64) (index : Nat) (s : State) : Host.Outcome State Fault Refusal :=
  if s.dev.jcc = .running then .next (s.mendMap map.val dune.val index) else .next s

end Sys2Proof.Machine
end

