-- ==== Sys2Proof/Machine/Commit.lean ====
section
/-!
DEFINITION. Machine/Commit.lean: the commit commands and the commit sequence (R192 to R196), the handshake of a pair (R197
to R200), and caravan timetables (R201 to R205).
-/
namespace Sys2Proof.Machine

/-! ### Generations and the earliest commit (R184, R194, R196) -/

/-- The generation after g (R184). -/
def nextGen (g : Nat) : Nat := if g = 2 ^ 32 - 1 then 1 else g + 1

/-- The later of two RSNs. -/
def rsnMax (a b : Rsn) : Rsn := if rsnLe a b then b else a

/-- The least c that the spacing of R196 and the distance of R194 allow; the holder waits for the end of superframe 3 of a
live copy (R366). -/
def State.earliestCommit (s : State) : Rsn :=
  let base := s.clk.rsn + (if s.paired then 6 else 3)
  let spaced := s.com.lastC + BitVec.ofNat 48 (spacingRows s.com.lastRecs s.com.recs)
  let e := if s.com.committed then rsnMax spaced base else base
  if s.dev.role = .holder ∧ s.pair.live = some 3 then
    rsnMax (nextSf s.clk.rsn + 1) e
  else e

/-- A commit may not be accepted in this mode: MAINTAIN on either unit, CARAVAN, an accepted CARAVAN.START, or an accepted
entry into CONFIGURE, TEST, MAINTAIN or QUIESCENT (R29, R35, R46, R203). -/
def State.commitModeBad (s : State) : Bool :=
  let m := s.dev.mode
  !(m == .configure || m == .transport || m == .test) || s.maintained || s.caravanStarting ||
    (match s.dev.pend with
     | some p => p.target == .configure || p.target == .test || p.target == .maintain || p.target == .quiescent
     | none => false)

/-- The refusals that COMMIT.NOW and COMMIT.AT share, in order. -/
def State.commitChecks (s : State) (c : CmdRef) : List (Bool × Nat × Nat) :=
  let cs := s.afterReplay.shadow.conns
  [(s.stageOwned c, 0x0109, 0), (s.instBroken cs || s.instIncomplete cs, 0x0304, 0), (s.commitModeBad, 0x000B, 0),
   (s.commitPending, 0x0305, 0), (s.dev.role == .follower, 0x0201, 0), (s.paired && !s.pair.linkUp, 0x0202, 0)]

/-- An accepted commit waits for its arming boundary; a is the row of R197. -/
def State.pendCommit (s : State) (at' a : Rsn) (c : CmdRef) : State :=
  let p : PendCommit := { c := at', accepted := a, armed := false, ready := false, handshake := s.paired, proposed := false,
                          refused := none, switched := false, ref := some c }
  { s with com := { s.com with pend := some p } }

/-- COMMIT.NOW commits at the earliest permitted RSN (R194). -/
def commitNowBody (c : CmdRef) (s : State) : Reply :=
  guarded (s.commitChecks c) <| acceptReserved s fun s => s.pendCommit s.earliestCommit s.clk.rsn c

/-- COMMIT.NOW (R194). -/
def execCommitNow (e : Entry) (s : State) : Host.Outcome State Fault Refusal :=
  serve (cmdOf (.commitNow e)) e s commitNowBody

/-- COMMIT.AT commits at a stated RSN (R194). -/
def commitAtBody (rsn : Nat) (c : CmdRef) (s : State) : Reply :=
  let at' := BitVec.ofNat 48 rsn
  let ahead := (at' - s.clk.rsn).toNat
  guarded [(decide (2 ^ 48 ≤ rsn ∨ (2 ^ 31 ≤ ahead ∧ ahead < 2 ^ 47)), 0x0004, 0)] <|
  guarded (s.commitChecks c ++ [(!rsnLe s.earliestCommit at', 0x0306, 0)]) <|
    acceptReserved s fun s => s.pendCommit at' (if s.paired then at' - 6 else s.clk.rsn) c

/-- COMMIT.AT (R194). -/
def execCommitAt (e : Entry) (rsn : Nat) (s : State) : Host.Outcome State Fault Refusal :=
  serve (cmdOf (.commitAt e rsn)) e s (commitAtBody rsn)

/-- COMMIT.CANCEL withdraws a pending commit that is not armed (R194). -/
def commitCancelBody (c : CmdRef) (s : State) : Reply :=
  let armed := match s.com.pend with | some p => p.armed | none => false
  guarded [(s.stageOwned c, 0x0109, 0), (s.dev.role == .follower, 0x0201, 0), (armed, 0x0307, 0)] <|
    match s.com.pend with
    | none => .noop true
    | some p => .done ((if p.proposed then s.tell (.abort (nextGen s.com.gen)) else s).abortCommit 8) 0 [(nextGen s.com.gen, 1, 0)]

/-- COMMIT.CANCEL (R194). -/
def execCommitCancel (e : Entry) (s : State) : Host.Outcome State Fault Refusal :=
  serve (cmdOf (.commitCancel e)) e s commitCancelBody

/-! ### Arming (R192) -/

/-- The writes of the replay and of the records recs go on until row c or later begins: c lies within the rows that R196 gives them
(R192, R196). -/
def State.writesLate (s : State) (recs : List MapRec) (c : Rsn) : Bool :=
  s.com.replaying && !rsnLe (s.com.lastC + 1 + BitVec.ofNat 48 (spacingW s.com.lastRecs recs)) c

/-- The unit's own reason not to arm for row c: SHADOW_ECC, or a shadow write that will not be complete by the boundary of c − 1
(R192). -/
def State.notReady (s : State) (c : Rsn) : Option Nat :=
  if s.com.shadowEcc then some 3 else if s.writesLate s.com.recs c then some 5 else none

/-- The pending commit is armed. -/
def State.armPend (s : State) (p : PendCommit) : State :=
  { s with com := { s.com with pend := some { p with armed := true } } }

/-- The boundary of c − 2 for a commit that a command or a catch-up made pending (R192, R197, R199). -/
def State.armCommit (s : State) (p : PendCommit) : State :=
  if p.catchUp || p.copyGen.isSome then
    match s.notReady p.c with
    | none => s.armPend p
    | some _ => { s with com := { s.com with pend := some { p with c := p.c + 4 } } }
  else if p.handshake then
    match s.notReady p.c with
    | some d => (s.tell (.abort (nextGen s.com.gen))).abortCommit d
    | none =>
      if p.ready then (s.armPend p).tell (.arm (nextGen s.com.gen))
      else
        let s := s.tell (.abort (nextGen s.com.gen))
        ({ s with com := { s.com with peerRefused := true } }).abortCommit (p.refused.getD 6)
  else match s.notReady p.c with
    | some d => s.abortCommit d
    | none => s.armPend p

/-! ### The timetable at work (R203 to R205) -/

/-- The unit runs a timetable: in CARAVAN, or as a joined follower in CONFIGURE whose holder runs it (R367). -/
def State.caravanRuns (s : State) : Bool :=
  s.com.car.start.isSome && (s.dev.mode == .caravan ||
    (s.dev.mode == .configure && s.dev.role == .follower && s.dev.joined && s.pair.peerMode == 4))

/-- The next entry with its commit RSN in the present pass (R203). -/
def Caravan.nextEntry (k : Caravan) : Option (CaravanBlock × Rsn) :=
  (k.entries[k.next]?).map fun e => (e, e.rsn + BitVec.ofNat 48 (k.pass * k.loopRows))

/-- The entry after the next one (R203). -/
def Caravan.advance (k : Caravan) : Caravan :=
  if k.next + 1 = k.entries.length ∧ k.loopRows ≠ 0 then { k with next := 0, pass := k.pass + 1 } else { k with next := k.next + 1 }

/-- The timetable has been stopped before this boundary (R204). -/
def State.caravanStopped (s : State) : Bool :=
  match s.com.car.stop with
  | some t => rsnLe t s.clk.rsn
  | none => false

/-- The arming boundary of the next entry: its records are in the shadow bank and the entry arms; SHADOW_ECC aborts the
caravan (R203, R205). An entry whose shadow writes would not be complete does not arm (R192; log entry 115). -/
def State.armEntry (s : State) : State :=
  match s.com.car.nextEntry with
  | none => s
  | some (e, c) =>
    if c ≠ s.clk.rsn + 2 then s
    else if s.com.shadowEcc then s.abortCaravan false
    else if s.writesLate e.recs c then s
    else
      let s := s.afterReplay
      let b := s.shadow.writeAll e.recs
      let b : Bank := { b with insts := s.descriptors b.conns }
      let s := (s.setShadow b).countShadow e.recs
      { s with com := { s.com with
        entryRecs := e.recs
        entryMoves := e.moves
        car := s.com.car.advance
        pend := some { c := c, accepted := s.clk.rsn, armed := true, ready := false, handshake := false, proposed := false,
                       refused := none, switched := false, ref := none, caravan := true } } }

/-- The boundary of c − 2: the commit arms or is aborted, the next entry of a timetable arms (R192, R203). -/
def execCommitArming (s : State) : Host.Outcome State Fault Refusal :=
  match s.com.pend with
  | some p => if !p.armed && p.c == s.clk.rsn + 2 then .next (s.armCommit p) else .next s
  | none => if s.caravanRuns && !s.caravanStopped then .next s.armEntry else .next s

/-- The PROPOSE of a pending commit (R197). -/
def State.proposal (s : State) (p : PendCommit) : ProposeMsg :=
  let c := p.ref.getD {}
  ⟨nextGen s.com.gen, p.c, digestOf s.com.recs, c.session, c.role, c.cmdId, c.code⟩

/-- An armed entry whose RSN a step has passed never commits: the shadow banks return to the active generation (R205). -/
def State.undoEntry (s : State) (p : PendCommit) : State :=
  let s := { s with
    sw := { s.sw with ingBank := if p.switched then !s.sw.ingBank else s.sw.ingBank }
    com := { s.com with pend := none, entryRecs := [], entryMoves := [] } }
  s.setShadow s.egrB

/-- Digest of a caravan store (R203). -/
def Caravan.digest (k : Caravan) : BitVec 32 := crc32c (Config.messageBytes (.store k.entries k.loopRows k.base))

/-- Staging commands and loads complete once the follower holds the delta, or the timetable, as well (R188, R202). -/
def State.peerHolds (s : State) : State :=
  let staged := !s.paired || s.pair.peerStage == digestOf s.com.recs
  let loaded := !s.paired || s.pair.peerStore == s.com.car.digest
  let a := if staged then s.com.stageWaits else []
  let b := if loaded then s.com.loadWaits else []
  let s := { s with com := { s.com with
    stageWaits := if staged then [] else s.com.stageWaits
    loadWaits := if loaded then [] else s.com.loadWaits } }
  let s := a.foldl (fun s x => s.complete x.1 0 x.2 0 false) s
  b.foldl (fun s c => s.complete c 0 0 0 false) s

/-- A follower that does not change mode with its holder's timetable records the start and the stop at their rows all the same; the stop
ends its timetable (R45, R204, R405). -/
def State.passTimetable (s : State) : State :=
  let past := fun (r : Option Rsn) => match r with | some r => rsnLe r s.clk.rsn | none => false
  let k := s.com.car
  if s.dev.role ≠ .follower ∨ s.dev.mode = .caravan ∨ s.autoDue.isSome = true then s
  else
    let s := match past k.start, k.startRef with
      | true, some c => ({ s with com := { s.com with car := { s.com.car with startRef := none } } }).journalCmd c 1 0 1 (k.start.getD 0).toNat
      | _, _ => s
    if past k.stop then
      let s := match k.stopRef with
        | some c => s.journalCmd c 1 0 1 (k.stop.getD 0).toNat
        | none => s
      s.endTimetable
    else s

/-- What a row boundary does to commits: PROPOSE is sent in row a + 1 (R197); an arming boundary that has passed unarmed ends
a commit (R192) and aborts a caravan, as does a damaged block record within 2 rows of its entry's arming (R205). -/
def State.commitRow (s : State) : State :=
  let s := s.peerHolds.passTimetable
  let s := match s.com.pend with
    | some p =>
      if p.armed then (if p.caravan && !rsnLe s.clk.rsn p.c then s.undoEntry p else s)
      else if rsnLe (s.clk.rsn + 2) p.c = false then s.abortCommit 5
      else if p.handshake && !p.proposed && rsnLe (p.accepted + 1) s.clk.rsn then
        ({ s with com := { s.com with pend := some { p with proposed := true } } }).tell (.propose (s.proposal p))
      else s
    | none => s
  if s.caravanRuns && !s.caravanStopped then
    match s.com.car.nextEntry with
    | none => s
    | some (_, c) =>
      let lost := rsnLe (s.clk.rsn + 2) c = false
      let bad := s.com.car.bad = some s.com.car.next ∧ rsnLe c (s.clk.rsn + 4) = true
      let s := if bad then s.report 2 0x10 0 (2 ^ 21 + s.com.car.next) 0 else s
      if lost ∨ bad then s.abortCaravan false else s
  else s

/-! ### The bank switches (R192) -/

/-- The boundary of c − 1: ingress maps, middle maps and cut input lists switch (R192). -/
def execCommitIngressSwitch (s : State) : Host.Outcome State Fault Refusal :=
  match s.com.pend with
  | some p =>
    if p.armed && !p.switched && p.c == s.clk.rsn + 1 then
      let s := s.afterReplay
      .next { s with
        sw := { s.sw with ingBank := !s.sw.ingBank }
        com := { s.com with pend := some { p with switched := true } } }
    else .next s
  | none => .next s

/-- The egress instances in service after a commit at row c: one that begins sends tributary AIS until the next PMF start,
then code 0x9 (R140). -/
def beginInsts (was : Table InstTx) (old new : List Inst) (c : Rsn) : Table InstTx :=
  new.foldl (fun t i =>
    let key := i.lane * 4096 + i.grains.headD 0
    let kept := old.any fun o => o.lane == i.lane && o.grains == i.grains && o.trib == i.trib
    Table.put t key (if kept then Table.get {} was key
      else { waitPmf := c.toNat % 32 != 0 })) []

/-- Count the moves of a delta at both dunes (R178, R542). -/
def State.countMoves (s : State) (ms : List (Nat × Nat)) : State :=
  ms.foldl (fun s m => ((((s.bump .dunePmMoves m.1 1).bump .dunePmMoves m.2 1).perf 0x019 m.1 1).perf 0x019 m.2 1)) s

/-- A copy of the banks is under way to the follower: the records committed meanwhile are dirty (R366). -/
def State.copying (s : State) : Bool := s.dev.role == .holder && (s.pair.live == some 1 || s.pair.live == some 2)

/-- The boundary of c: egress maps and descriptors switch, the generation becomes gen, the old banks wait for the replay. recs and
moves are those of the delta committed (R184, R192, R207, R366). -/
def State.switchEgress (s : State) (c : Rsn) (gen : Nat) (recs : List MapRec) (moves : List (Nat × Nat)) : State :=
  let old := s.egrB
  let touched := fun (x : Nat × Nat × Nat) => recs.any fun r => r.map == x.1 && r.dune == x.2.1 && r.index == x.2.2
  let s := { s with sw := { s.sw with egrBank := !s.sw.egrBank } }
  let tx := beginInsts s.sw.instTx old.insts s.egrB.insts c
  let s := { s with
    sw := { s.sw with instTx := tx }
    flt := { s.flt with mapBad := [], mapNew := s.com.shadowBad }
    com := { s.com with
      shadowBad := (s.flt.mapBad ++ s.flt.mapNew).filter fun x => !touched x
      shadowFound := []
      shadowSoft := []
      shadowEcc := false
      gen := gen
      lastC := c
      committed := true
      lastRecs := recs
      replaying := true
      staged := []
      stagedCut := []
      hasDelta := false
      owner := 0
      recs := []
      moves := []
      entryRecs := []
      entryMoves := []
      pend := none
      peerRefused := false }
    pair := { s.pair with dirty := if s.copying then s.pair.dirty ++ recs else s.pair.dirty } }
  let s := s.countMoves moves
  ((s.bump .mapPmCommits 0 1).lifeAdd 5 0 1).perf 3 0 1

/-- The rings of a follower re-centre to the holder's bytes at the end of a live copy, as the lockstep frame told their distance (R149,
R366). -/
def State.copyRings (s : State) : State :=
  let one := fun (_ : Nat) (t : Trib) =>
    match t.holderAt with
    | some d => if t.on && t.retimed then { t with centring := (t.toStart + d) % 511 + 2, tdiv := false, holderAt := none } else t
    | none => t
  { s with tribs := Table.mapVals {} one s.tribs }

/-- The commit that ends a live copy has taken effect: the record; a copy that was not abandoned since it armed makes the follower joined
(R366, R367, R372, R591; log entry 84). -/
def State.copyDone (s : State) (g : Nat) (c : Rsn) : State :=
  let t := s.journalAuto 0xA00C g c.toNat
  if s.pair.live.isNone then t
  else
    let t := t.copyRings
    ({ t with
      dev := { t.dev with joined := t.dev.role == Role.follower }
      pair := { t.pair with live := none } }).bump .pairPmLiveCopy 0 1

/-- The boundary of c for a commanded commit: the record with RSN c and the completion (R192); a follower journals the
holder's command (R197); a live copy ends (R366). -/
def execCommitEgressSwitch (s : State) : Host.Outcome State Fault Refusal :=
  match s.com.pend with
  | none => .next s
  | some p =>
    if p.armed && p.switched && p.c == s.clk.rsn && !p.caravan && !p.catchUp then
      let n := s.com.staged.length + s.com.stagedCut.length
      let g := if p.copyGen.isSome then s.pair.liveGen else nextGen s.com.gen
      if p.copyGen.isSome then .next ((s.switchEgress p.c g s.com.entryRecs []).copyDone g p.c)
      else
      let t := s.switchEgress p.c g s.com.recs s.com.moves
      match p.ref with
        | none => .next t
        | some c => if c.path = 2 then .next (t.journalCmd c 1 g n g) else .next (t.effectOf c g n g)
    else .next s

/-- The replay into the old banks is complete (R192). -/
def execCommitReplayDone (s : State) : Host.Outcome State Fault Refusal :=
  if s.com.replaying then
    let rs := s.com.lastRecs
    .next (allDunes.foldl (fun s k => s.perf 0x017 k (recsAt rs k)) s.afterReplay)
  else .next s

/-- Caravan commits of a superframe are journalled as one SUMMARY record when it ends (R204, R591). -/
def State.flushCaravan (s : State) : State :=
  let (n, a, b, g) := s.com.car.sf
  if n = 0 then s
  else ({ s with com := { s.com with car := { s.com.car with sf := (0, 0, 0, 0) } } }).journalSummary 0xA010 g n (packRsn a b)

/-- A timetable entry commits at its RSN; after the last entry of one that runs once the mode returns to TRANSPORT (R203,
R204, R591). -/
def execCaravanEntryCommit (s : State) : Host.Outcome State Fault Refusal :=
  match s.com.pend with
  | none => .next s
  | some p =>
    if p.armed && p.switched && p.c == s.clk.rsn && p.caravan then
      let g := nextGen s.com.gen
      let s := s.switchEgress p.c g s.com.entryRecs s.com.entryMoves
      let (n, a, _, f) := s.com.car.sf
      let sf := (n + 1, if n = 0 then p.c.toNat else a, p.c.toNat, if n = 0 then g else f)
      let s := { s with com := { s.com with car := { s.com.car with sf := sf } } }
      let done := s.com.car.start.isSome && s.com.car.loopRows == 0 && decide (s.com.car.entries.length ≤ s.com.car.next)
      if done then
        let s := (s.journalAuto 0xA00D 0 0).endTimetable
        let s := { s with com := { s.com with car := { s.com.car with next := 0, pass := 0 } } }
        if s.dev.mode = .caravan then .next (s.autoMode .transport) else .next s
      else .next s
    else .next s

/-! ### The handshake (R197 to R200) -/

/-- The follower's answer to a PROPOSE: the reason of a REFUSE, none for READY (R198). -/
def State.proposeAnswer (s : State) (m : ProposeMsg) : Option Nat :=
  if m.generation ≠ nextGen s.com.gen then some 1
  else if m.digest ≠ digestOf s.com.recs then some 2
  else if s.com.shadowEcc then some 3
  else if s.dev.mode = .maintain then some 4
  else if s.com.committed ∧ rsnLe (s.com.lastC + BitVec.ofNat 48 (spacingRows s.com.lastRecs s.com.recs)) m.rsn = false then some 5
  else none

/-- PROPOSE arrives at a follower (R197, R198). -/
def execPropose (m : ProposeMsg) (s : State) : Host.Outcome State Fault Refusal :=
  if s.dev.role = .follower ∧ s.pair.linkUp = true then
    match s.proposeAnswer m with
    | some d => .next (s.tell (.refuse d))
    | none =>
      .next (({ s with com := { s.com with
        readySent := some m.rsn
        readyRef := some ⟨255, 2, m.session, m.role, m.cmdId, m.code⟩ } }).tell (.ready m.generation))
  else .next s

/-- READY arrives at the holder (R197). -/
def execReady (s : State) : Host.Outcome State Fault Refusal :=
  match s.com.pend with
  | some p =>
    if p.handshake && p.proposed && !p.armed then .next { s with com := { s.com with pend := some { p with ready := true } } }
    else .next s
  | none => .next s

/-- REFUSE arrives at the holder: the commit will not arm (R199). -/
def execRefuse (reason : Nat) (s : State) : Host.Outcome State Fault Refusal :=
  match s.com.pend with
  | some p =>
    if p.handshake && p.proposed && !p.armed then
      .next { s with com := { s.com with pend := some { p with refused := some reason, ready := false } } }
    else .next s
  | none => .next s

/-- ARM arrives at the follower before the boundary of c − 1: it arms (R197). -/
def execArm (s : State) : Host.Outcome State Fault Refusal :=
  match s.com.readySent with
  | some c =>
    if s.dev.role = .follower ∧ rsnLe s.clk.rsn (c - 2) = true ∧ s.com.pend = none then
      .next { s with com := { s.com with
        readySent := none
        pend := some { c := c, accepted := s.clk.rsn, armed := true, ready := false, handshake := false, proposed := false,
                       refused := none, switched := false, ref := s.com.readyRef } } }
    else .next s
  | none => .next s

/-- ABORT arrives at the follower (R197). -/
def execAbort (s : State) : Host.Outcome State Fault Refusal :=
  .next { s with com := { s.com with readySent := none } }

/-- A joined follower whose own caravan abort left it an entry behind its holder (R205). -/
def State.behindAfterAbort (s : State) (g : Nat) : Bool :=
  s.dev.role == .follower && s.dev.joined && s.com.car.abortTick.isSome && s.com.car.start.isNone && s.com.lag.isNone &&
    s.com.pend.isNone && s.com.readySent.isNone && g == nextGen s.com.gen

/-- The peer's generation is heard: a follower that sent READY and got neither ARM nor ABORT by the boundary of c − 1 sets LAG
and prepares its catch-up commit (R200); so does one that a caravan abort left behind, which has nothing to catch up with (R205). -/
def State.learnGen (s : State) (g : Nat) : State :=
  let s := { s with pair := { s.pair with peerGen := g } }
  let late := match s.com.readySent with
    | some c => rsnLe (c - 1) s.clk.rsn
    | none => false
  if late && s.dev.role == .follower && s.com.pend.isNone && g == nextGen s.com.gen then
    let c := s.earliestCommit
    { s with com := { s.com with
      lag := some g
      readySent := none
      pend := some { c := c, accepted := s.clk.rsn, armed := false, ready := false, handshake := false, proposed := false,
                     refused := none, switched := false, ref := none, catchUp := true } } }
  else if s.com.lag.isSome && g == s.com.gen then { s with com := { s.com with lag := none } }
  else if s.behindAfterAbort g then { s with com := { s.com with lag := some g } }
  else s

/-- The follower's catch-up commit takes effect; LAG clears (R200, R591). -/
def execCatchUpCommit (s : State) : Host.Outcome State Fault Refusal :=
  match s.com.pend with
  | none => .next s
  | some p =>
    if p.armed && p.switched && p.c == s.clk.rsn && p.catchUp then
      let g := nextGen s.com.gen
      let s := s.switchEgress p.c g s.com.recs s.com.moves
      let s := { s with com := { s.com with lag := none } }
      .next ((s.journalAuto 0xA00B g p.c.toNat).bump .mapPmLag 0 1)
    else .next s

/-! ### Loading, starting and stopping a timetable (R201 to R204) -/

/-- The checks of R187 that a block must pass against a bank, from INVALID_ZERO to DOMAIN_OFF; an instance must be complete. -/
def State.blockOk (s : State) (b : Bank) (es : List DeltaEntry) : Bool :=
  let fine := match s.deltaChecks b.conns b.cuts es [] (.noop false) with
    | .noop _ => true
    | _ => false
  fine && !es.isEmpty && decide (es.length ≤ 65536) && !s.instIncomplete (es.foldl applyEntry b.conns)

/-- Two banks connect alike. -/
def Bank.same (a b : Bank) : Bool := decide (a.conns = b.conns) && decide (a.cuts = b.cuts)

/-- Compile the entries in timetable order, each against the maps that those before it leave; for a loop the last entry
brings back the starting bank where the connections agree (R202). Answers the entries and the last bank, or the index of
the entry that fails. -/
def State.compileTable (s : State) (start b : Bank) (loop : Bool) (blocks : List (List DeltaEntry)) (tt : List TimetableEntry)
    (k : Nat) : Except Nat (List CaravanBlock × Bank) :=
  match tt with
  | [] => .ok ([], b)
  | e :: r =>
    let es := blocks.getD e.block []
    if s.blockOk b es = false then .error k
    else
      let (x, mv) := s.compile b es [] s.draw
      let back := loop && r.isEmpty && x.same start
      let mv := if back then movesBetween b start else mv
      let x := if back then start else x
      match s.compileTable start x loop blocks r (k + 1) with
      | .error i => .error i
      | .ok (xs, z) => .ok (⟨e.rsn, e.block, deltaRecs b x (es.map DeltaEntry.key) [], mv⟩ :: xs, z)

/-- The index of the entry at which RSNs do not rise or consecutive entries break R196. -/
def badStep (xs : List CaravanBlock) (k : Nat) : Option Nat :=
  match xs with
  | a :: b :: r =>
    if b.rsn.toNat ≤ a.rsn.toNat ∨ b.rsn.toNat < a.rsn.toNat + spacingRows a.recs b.recs then some (k + 1)
    else badStep (b :: r) (k + 1)
  | _ => none

/-- A loop breaks R196 from its last entry to its first, or its period is too short (R202). -/
def loopBad (xs : List CaravanBlock) (loopRows : Nat) : Bool :=
  match xs.head?, xs.getLast? with
  | some a, some z =>
    decide (loopRows ≤ z.rsn.toNat - a.rsn.toNat ∨ a.rsn.toNat + loopRows < z.rsn.toNat + spacingRows z.recs a.recs)
  | _, _ => true

/-- Records of a timetable. -/
def tableRecs (xs : List CaravanBlock) : Nat :=
  match xs with
  | [] => 0
  | x :: r => x.recs.length + tableRecs r

/-- Keep a timetable in the caravan store; it replaces the old one (R202). -/
def State.storeTable (s : State) (xs : List CaravanBlock) (loopRows base : Nat) : State :=
  { s with com := { s.com with car := { s.com.car with
    entries := xs
    loopRows := loopRows
    base := base
    next := 0
    pass := 0
    bad := none } } }

/-- CARAVAN.LOAD (R201, R202). -/
def caravanLoadBody (tt blk : Buf) (entries blocks loopRows : Nat) (table : List (BitVec 128)) (deltas : List (List (BitVec 128)))
    (c : CmdRef) (s : State) : Reply :=
  let es := (table.take entries).map TimetableEntry.ofWord
  let ds := (deltas.take blocks).map fun t => t.map DeltaEntry.ofWord
  let start := s.egrB
  guarded [(entries == 0 || blocks == 0 || tt.len == 0 || blk.len == 0, 0x0003, 0),
      (decide (tt.len < 16 * entries), 0x0004, 0)] <|
  checkItems es (fun e => decide (blocks ≤ e.block)) 0x0004 <|
  guarded [(!s.bufRead tt (16 * entries), 0x0007, s.readDetail tt (16 * entries)), (!s.bufRead blk blk.len, 0x0007, s.readDetail blk blk.len),
      (decide (4096 < entries ∨ 4096 < blocks), 0x0402, 0)] <|
  match s.compileTable start start (loopRows != 0) ds es 0 with
  | .error i => .refuse 0x0401 i
  | .ok (xs, z) =>
    guarded [(decide (1044480 < tableRecs xs), 0x0402, 0)] <|
    match badStep xs 0 with
    | some i => .refuse 0x0401 i
    | none =>
      guarded [(loopRows != 0 && (!z.same start || loopBad xs loopRows), 0x0401, 0),
          (!(s.dev.mode == .transport || s.dev.mode == .configure) || s.maintained, 0x000B, 0),
          (s.commitPending, 0x0305, 0), (s.dev.role == .follower, 0x0201, 0), (s.paired && !s.pair.linkUp, 0x0202, 0)] <|
        let s := s.drawn.storeTable xs loopRows s.com.gen
        if s.paired then
          let t := s.tell (.store xs loopRows s.com.gen)
          .accept { t with com := { t.com with loadWaits := t.com.loadWaits ++ [c] } } [(s.com.gen, entries, loopRows)]
        else .done s 0 [(s.com.gen, entries, loopRows)]

/-- CARAVAN.LOAD (R202). -/
def execCaravanLoad (e : Entry) (tt blk : Buf) (entries blocks loopRows : Nat) (table : List (BitVec 128))
    (deltas : List (List (BitVec 128))) (s : State) : Host.Outcome State Fault Refusal :=
  serve (cmdOf (.caravanLoad e tt blk entries blocks loopRows table deltas)) e s
    (caravanLoadBody tt blk entries blocks loopRows table deltas)

/-- The holder's timetable arrives in the joined follower's caravan store, record for record (R202). -/
def execCaravanStoreCopy (timetable : List TimetableEntry) (blocks : List BlockRecs) (loopRows base : Nat) (s : State) :
    Host.Outcome State Fault Refusal :=
  let xs : List CaravanBlock := List.zipWith (fun e b => ⟨e.rsn, e.block, b.recs, b.moves⟩) timetable blocks
  if s.dev.role = .follower ∧ s.pair.linkUp = true then .next (s.storeTable xs loopRows base) else .next s

/-- The start conditions of R203 that give CARAVAN_INVALID. -/
def State.startBad (s : State) (at' : Rsn) : Bool :=
  let k := s.com.car
  !rsnLe (s.clk.rsn + 3) at' ||
    (match k.entries.head? with | some e => !rsnLe (at' + 4) e.rsn | none => true) ||
    s.com.gen != k.base || (s.paired && s.pair.peerStore != k.digest) || s.com.hasDelta

/-- CARAVAN.START: the mode becomes CARAVAN at s (R203). A pending commit does not refuse it (log entry 115). -/
def caravanStartBody (rsn : Nat) (c : CmdRef) (s : State) : Reply :=
  let at' := BitVec.ofNat 48 rsn
  guarded ([(decide (2 ^ 48 ≤ rsn), 0x0004, 0), (s.dev.role == .follower, 0x0201, 0)] ++
      s.modeChecks (s.dev.mode == .transport) ++ [(s.startBad at', 0x0401, 0)]) <|
    acceptReserved s fun s =>
      let s := { s with
        dev := { s.dev with pend := some ⟨.caravan, at', some c⟩ }
        com := { s.com with car := { s.com.car with
          start := some at'
          next := 0
          pass := 0
          stop := none
          startRef := none
          stopRef := none } } }
      if s.paired then s.forwardCmd c at' (.caravanStart at') else s

/-- CARAVAN.START (R203). -/
def execCaravanStart (e : Entry) (rsn : Nat) (s : State) : Host.Outcome State Fault Refusal :=
  serve (cmdOf (.caravanStart e rsn)) e s (caravanStartBody rsn)

/-- CARAVAN.STOP: the timetable stops at the boundary of row a + 2 (R204). -/
def caravanStopBody (c : CmdRef) (s : State) : Reply :=
  guarded ([(s.dev.role == .follower, 0x0201, 0)] ++ s.modeChecks (s.dev.mode == .caravan)) <|
    acceptReserved s fun s =>
      let t := s.clk.rsn + 2
      let s := { s with
        dev := { s.dev with pend := some ⟨.transport, t, some c⟩ }
        com := { s.com with car := { s.com.car with stop := some t } } }
      if s.paired then s.forwardCmd c t (.caravanStop t) else s

/-- CARAVAN.STOP (R204). -/
def execCaravanStop (e : Entry) (s : State) : Host.Outcome State Fault Refusal :=
  serve (cmdOf (.caravanStop e)) e s caravanStopBody

/-- The peer's caravan abort: the caravan stops before the next unarmed entry; a generation behind is LAG (R205). -/
def State.peerAbort (s : State) : State :=
  let s := s.abortCaravan true
  if s.dev.role = .follower ∧ s.pair.peerGen = nextGen s.com.gen ∧ s.com.pend = none then
    { s with com := { s.com with lag := some s.pair.peerGen } }
  else s

/-- CARAVAN_ABORT of the peer on the Sared link (R205). -/
def execCaravanAbort (s : State) : Host.Outcome State Fault Refusal := .next s.peerAbort

end Sys2Proof.Machine
end

