-- ==== Sys2Proof/Machine/Prot.lean ====
section
/-!
DEFINITION. Machine/Prot.lean: selector groups, APS and merge pairs (R211 to R241).
-/
namespace Sys2Proof.Machine

/-! ### Source conditions (R214, R235) -/

/-- A pair's indications reach the selectors from its first merged entry row until its deletion takes effect (R232, R235, R237). -/
def Merge.inForce (m : Merge) (row : Rsn) : Bool :=
  (m.active || rsnLe m.entry row) && !(match m.ending with | some r => rsnLe r row | none => false)

/-- SF of a lane as selectors see it: of the pair while it is merged (R214, R235). -/
def State.selSf (s : State) (l : Nat) : Bool :=
  match s.pairOf l with
  | some m => if m.inForce s.clk.rsn then m.mdi else s.laneSf l
  | none => s.laneSf l

/-- SD of a lane as selectors see it. -/
def State.selSd (s : State) (l : Nat) : Bool :=
  match s.pairOf l with
  | some m => if m.inForce s.clk.rsn then (s.lane m.laneA).sd && (s.lane m.laneB).sd else (s.lane l).sd
  | none => (s.lane l).sd

/-- SF of a source: a member grain adds its tributary's indications (R144, R214). -/
def State.sourceSf (s : State) (src : Nat) : Bool :=
  s.selSf (src / 4096) || (match s.memberOf src with | some (k, _) => s.tribSf k | none => false)

/-- SD of a source. -/
def State.sourceSd (s : State) (src : Nat) : Bool :=
  s.selSd (src / 4096) || (match s.memberOf src with | some (_, t) => t.tsd | none => false)

/-- The connections of the active egress maps that name a group (R211). -/
def State.groupConns (s : State) (g : Nat) : List Conn :=
  (s.egrB.conns.map (·.2)).filter fun c => match c.alt with | some (_, k) => k == g | none => false

/-- The four conditions present for a group: SF_P, SF_A, SD_P, SD_A (R214). -/
def State.groupCond (s : State) (g : Nat) : Bool × Bool × Bool × Bool :=
  let cs := s.groupConns g
  let alts := cs.filterMap fun c => c.alt.map (·.1)
  let sd := s.flag .protSdEnable g
  (cs.any fun c => s.sourceSf c.pri, alts.any s.sourceSf, sd && cs.any fun c => s.sourceSd c.pri, sd && alts.any s.sourceSd)

/-- Condition i of four. -/
def condAt (c : Bool × Bool × Bool × Bool) (i : Nat) : Bool :=
  match i with
  | 0 => c.1
  | 1 => c.2.1
  | 2 => c.2.2.1
  | _ => c.2.2.2

/-- Set condition i of four. -/
def condSet (c : Bool × Bool × Bool × Bool) (i : Nat) (b : Bool) : Bool × Bool × Bool × Bool :=
  match i with
  | 0 => (b, c.2)
  | 1 => (c.1, b, c.2.2)
  | 2 => (c.1, c.2.1, b, c.2.2.2)
  | _ => (c.1, c.2.1, c.2.2.1, b)

/-- Hold-off of condition i at boundary b: absent clears it, present starts its hold-off, without one it is effective (R215). -/
def Group.hold1 (g : Group) (h : Nat) (b : Rsn) (i : Nat) : Group :=
  if condAt g.cond i = false then { g with eff := condSet g.eff i false, hold := g.hold.filter fun x => x.1 != i }
  else if condAt g.eff i then g
  else if h = 0 then { g with eff := condSet g.eff i true, hold := g.hold.filter fun x => x.1 != i }
  else if g.hold.any fun x => x.1 == i then g
  else { g with hold := g.hold ++ [(i, b)] }

/-! ### Requests (R216 to R218) -/

/-- The highest local request but WTR, DNR and NR; 0 where none holds (R216). -/
def Group.highReq (g : Group) : Nat :=
  if g.cmd = 1 then 0xF
  else if g.eff.2.1 then 0xE
  else if g.cmd = 2 then 0xD
  else if g.eff.1 then 0xB
  else if g.eff.2.2.2 then 0xA
  else if g.eff.2.2.1 then 0x9
  else if g.cmd = 3 then 0x7
  else 0

/-- The selection that a local request demands, true for ALTERNATE (R216). -/
def Group.demand (g : Group) (code : Nat) : Bool :=
  match reqSel code with
  | some (some b) => b
  | some none => g.target
  | none => false

/-- One evaluation of a group at boundary b from the conditions and commands in force (R217, R218, R220). A far-end request above WTR is
a code that applies, so that the timer does not start under it (R218; log entry 113). An empty group keeps its
selection: no timer runs in it and its far end does not move it; a command that stands in it, or enters (moved), has its effect (R211).
Answers the group and whether MANUAL was cleared. -/
def State.evalGroup (s : State) (k : Nat) (g : Group) (moved : Bool) : Group × Bool :=
  let rev := s.flag .protRevertive k
  let high := g.highReq
  let wtrSecs := s.eff .protWtr k
  let far := match s.flag .protDirection k, g.fe with
    | true, some (r, _, _, _) => r
    | _, _ => 0
  let empty := (s.groupConns k).isEmpty
  let start := rev && g.sel && (g.loc == 0xB || g.loc == 0x9) && high == 0 && decide (far ≤ 0x5)
  let wtr := if 0x5 < high ∨ empty = true then none
    else if g.wtr.isSome then g.wtr
    else if start && wtrSecs != 0 then some s.clk.tick
    else none
  let loc := if high ≠ 0 then high else if wtr.isSome then 0x5 else if g.sel && !rev then 0x1 else 0
  let g : Group := { g with wtr := wtr, loc := loc }
  let own := if empty && high == 0 && !moved then g.sel else g.demand loc
  let (req, next) := match s.flag .protDirection k, g.fe with
    | true, some (r, _, sig, _) => if loc < r then (r, if empty then own else sig) else (loc, own)
    | _, _ => (loc, own)
  let clear := g.cmd == 3 && decide (0x7 < req)
  ({ g with req := req, next := next, cmd := if clear then 0 else g.cmd }, clear)

/-! ### Commands that enter, and selections that apply -/

/-- A PROT command is present (R219, R220): kind 1 LOCKOUT, 2 FORCE, 3 MANUAL, 4 CLEAR. LOCKOUT and FORCE give way to no lower
command. -/
def Group.enter (g : Group) (p : ProtCmd) : Group :=
  match p.kind with
  | 1 => { g with cmd := 1 }
  | 2 => if g.cmd = 1 then g else { g with cmd := 2 }
  | 3 => if g.cmd = 1 ∨ g.cmd = 2 then g else { g with cmd := 3, target := p.target }
  | _ => { g with cmd := 0, wtr := none, loc := if g.loc = 0x5 then 0 else g.loc }

/-- The commands due at a boundary (R219, R229). -/
def Group.due (g : Group) (b : Rsn) : List ProtCmd := g.pend.filter fun p => rsnLe p.due b

/-- The commands due at a boundary enter. -/
def Group.enterDue (g : Group) (b : Rsn) : Group :=
  let g' := (g.due b).foldl Group.enter g
  { g' with pend := g.pend.filter fun p => !rsnLe p.due b }

/-- The commands due at a boundary enter one row later (R221). -/
def Group.putOff (g : Group) (b : Rsn) : Group :=
  { g with pend := g.pend.map fun p => if rsnLe p.due b then { p with due := b + 1 } else p }

/-- The completion of a command that enters one row later follows it (R219, R221). -/
def State.putOffWaits (s : State) (due : List ProtCmd) : State :=
  { s with prot := { s.prot with waits := s.prot.waits.map fun w =>
    if (due.any fun p => p.ref == w.2.1) then (s.clk.rsn + 2, w.2) else w } }

/-- The commands and conditions of boundary b meet in a group. A command that would write the command state in the cycle in which MANUAL
clears enters one row later (R221). A selection that a command changes has it as its cause (R222, R591). Answers the group and
whether MANUAL was cleared. -/
def State.meet (s : State) (k : Nat) (g : Group) : Group × Bool :=
  let b := s.clk.rsn
  let (alone, cleared) := s.evalGroup k g false
  match (g.due b).getLast? with
  | none => ({ alone with cause := none }, cleared)
  | some p =>
    if cleared then ({ alone.putOff b with cause := none }, true)
    else
      let (g, cleared) := s.evalGroup k (g.enterDue b) true
      ({ g with cause := if g.next = alone.next then none else some p.ref }, cleared)

/-- A selection change of a group is counted and journalled with the request code and the command that caused it (R222, R241, R591). -/
def State.noteSwitch (s : State) (k req : Nat) (sel : Bool) (by' : Option CmdRef) : State :=
  ((s.bump .protPmSwitches k 1).perf 4 0 1).journalAuto 0xA001 k (req + if sel then 256 else 0) (by'.getD {})

/-- The selection prepared at the last boundary applies (R217, R222, R241, R591). -/
def State.applySel (s : State) (k : Nat) : State :=
  let g := s.group k
  if g.sel = g.next then s else (s.modGroup k fun g => { g with sel := g.next }).noteSwitch k g.req g.next g.cause

/-! ### APS (R224 to R228, R230) -/

/-- Byte 0 of a group's record (R225). -/
def State.apsByte0 (s : State) (k : Nat) : Nat :=
  let g := s.group k
  let bit := fun (b : Bool) (v : Nat) => if b then v else 0
  g.loc * 16 + bit g.sel 8 + bit (g.demand g.loc) 4 + bit (s.flag .protRevertive k) 2 + 1

/-- The seven bytes of a group's record (R225). -/
def State.apsBytes (s : State) (k : Nat) : List Byte :=
  leBytes 1 (s.group k).byte0 ++ beBytes 2 k ++ leBytes 1 (s.group k).seq ++ [0, 0, 0]

/-- The group's record changes: SEQ steps with byte 0, and a change of REQ or SEL queues its record for three positions (R225,
R226). -/
def State.apsUpdate (s : State) (k : Nat) : State :=
  let g := s.group k
  let b := s.apsByte0 k
  if b = g.byte0 then s
  else
    let s := s.modGroup k fun g => { g with byte0 := b, seq := if g.byte0 = 0 then 0 else (g.seq + 1) % 256 }
    let l := s.eff .protApsLane k
    if b / 8 = g.byte0 / 8 ∨ s.flag .protDirection k = false ∨ 511 < l then s
    else s.modLane l fun x => { x with apsQ := x.apsQ ++ [(s.apsBytes k, 3)] }

/-- The next record position of a lane: a queued change, or the rotation (R226). -/
def State.apsNext (s : State) (l : Nat) : State × List Byte :=
  let x := s.lane l
  match x.apsQ with
  | (bs, n) :: r => (s.setLane l { x with apsQ := if n ≤ 1 then r else (bs, n - 1) :: r }, bs)
  | [] =>
    let ms := s.apsMembers l
    match ms[x.apsRot % max 1 ms.length]? with
    | some k => (s.setLane l { x with apsRot := (x.apsRot + 1) % max 1 ms.length }, s.apsBytes k)
    | none => (s, List.replicate 7 0)

/-- Form the APS message of a lane for a row (R225, R226). -/
def State.formAps (s : State) (l : Nat) (row : Rsn) : State :=
  let (s, a) := s.apsNext l
  let (s, b) := s.apsNext l
  s.modLane l fun x => { x with apsFor := x.apsFor ++ [(row, a ++ b)] }

/-- The lanes named as APS lane. -/
def State.apsLanes (s : State) : List Nat :=
  ((((s.namedBy .protApsLane).map fun k => s.eff .protApsLane k).filter fun l => decide (l < 512)).eraseDups).filter fun l =>
    !(s.apsMembers l).isEmpty

/-- Groups that are evaluated: named in the active egress map, holding state, or written BI, in ascending order. -/
def State.liveGroups (s : State) : List Nat :=
  let named := s.egrB.conns.filterMap fun x => x.2.alt.map (·.2)
  ((named ++ s.namedBy .protDirection ++ s.prot.groups.map (·.1)).foldl (fun (t : Table Unit) k => Table.put t k ()) []).map (·.1)

/-- The APS message that a lane holds for a row. -/
def Lane.apsHeld (x : Lane) (r : Rsn) : Option (List Byte) := (x.apsFor.find? fun a => a.1 == r).map (·.2)

/-- The APS messages of device row n, once the boundary into it has settled: a lane without one for row n forms it, and a holder with a
joined follower forms the one of row n + 2 and sends it to the follower (R226, R230, R361). -/
def State.apsLane (s : State) (l : Nat) : State :=
  let n := s.clk.rsn
  let s := s.modLane l fun x => { x with apsFor := x.apsFor.filter fun a => rsnLe n a.1 }
  let s := if ((s.lane l).apsHeld n).isSome then s else s.formAps l n
  if s.paired && s.pair.linkUp && ((s.lane l).apsHeld (n + 2)).isNone then
    let s := s.formAps l (n + 2)
    s.tell (.aps l (n + 2) (((s.lane l).apsHeld (n + 2)).getD []))
  else s

/-- Records that have changed at the boundary into the present row queue in ascending group number; then the messages are formed
(R226). -/
def State.apsSend (s : State) : State :=
  let s := s.liveGroups.foldl State.apsUpdate s
  s.apsLanes.foldl State.apsLane s

/-- A forwarded APS message that has arrived by the boundary of row − 1 is sent in place of the follower's own (R230). -/
def execApsForward (lane : Fin 512) (row : Rsn) (bytes : List Byte) (s : State) : Host.Outcome State Fault Refusal :=
  if s.dev.role = .follower ∧ rsnLe (s.clk.rsn + 2) row = true then
    .next (s.modLane lane.val fun x => { x with
      apsFor := (x.apsFor.filter fun a => a.1 != row) ++ [(row, bytes.take 14)] })
  else .next s

/-! ### The row boundary of the selectors (R214 to R231) -/

/-- The far end's record of the row just ended is in force; rows without one are counted; PSM's runs (R227, R228). -/
def Group.farEnd (g : Group) (bi : Bool) : Group :=
  let g : Group := match g.feNew with
    | some f => { g with fe := some f, feNew := none, feAge := 0 }
    | none => { g with feAge := if bi then g.feAge + 1 else 0 }
  let run := match bi, g.fe with
    | true, some (_, sel, _, _) => if sel = g.sel then (0, g.psmRun.2 + 1) else (g.psmRun.1 + 1, 0)
    | _, _ => (0, 0)
  { g with psmRun := run }

/-- One group at boundary b (R214 to R222). -/
def State.groupBoundary (s : State) (k : Nat) : State :=
  let s := s.applySel k
  let b := s.clk.rsn
  let h := s.eff .protHoldoff k
  let g := (s.group k).farEnd (s.flag .protDirection k)
  let g : Group := { g with cond := s.groupCond k }
  let g := [0, 1, 2, 3].foldl (fun g i => g.hold1 h b i) g
  let (x, cleared) := s.meet k g
  let late := if cleared then (g.due b).filter fun p => x.pend.any fun q => q.ref == p.ref else []
  let s := (s.modGroup k fun _ => x).putOffWaits late
  if cleared then s.journalAuto 0xA002 k 0 else s

/-- Every group at a row boundary, in a mode in which the selectors are not inactive (R29); completions of PROT commands that are due
(R217, R219). -/
def State.protBoundary (s : State) : State :=
  let s := if s.dev.mode.working then s.liveGroups.foldl State.groupBoundary s else s
  let due := s.prot.waits.filter fun w => rsnLe w.1 s.clk.rsn
  let s := { s with prot := { s.prot with waits := s.prot.waits.filter fun w => !rsnLe w.1 s.clk.rsn } }
  due.foldl (fun s w => s.settle w.2.1 w.2.2) s

/-- A group is evaluated again at the boundary at which an event has changed it: a change that this makes has no command as its cause
(R217, R222). In a mode in which the selectors are inactive the event stands and nothing is evaluated (R29). -/
def State.again (s : State) (k : Nat) (g : Group) (moved : Bool) : State :=
  if s.dev.mode.working = false then s.modGroup k fun _ => g
  else
  let (x, cleared) := s.evalGroup k g moved
  let s := s.modGroup k fun _ => { x with cause := if x.next = g.next then g.cause else none }
  if cleared then s.journalAuto 0xA002 k 0 else s

/-- The hold-off of a condition runs out at boundary b + h: it is effective, and the group is evaluated with it (R215, R217). -/
def execHoldoffExpiry (group : Nat) (cond : Fin 4) (s : State) : Host.Outcome State Fault Refusal :=
  let g := s.group group
  match g.hold.find? fun x => x.1 == cond.val with
  | none => .next s
  | some (_, b) =>
    if condAt g.cond cond.val ∧ rsnLe (b + BitVec.ofNat 48 (s.eff .protHoldoff group)) s.clk.rsn then
      let g : Group := { g with eff := condSet g.eff cond.val true, hold := g.hold.filter fun x => x.1 != cond.val }
      .next (s.again group g false)
    else .next s

/-- The wait-to-restore timer expires: the request falls to NR and the selection returns to PRIMARY at the next boundary
(R218, R241). No timer runs in an empty group (R211). -/
def execWtrExpiry (group : Nat) (s : State) : Host.Outcome State Fault Refusal :=
  let g := s.group group
  match g.wtr with
  | none => .next s
  | some t =>
    if s.elapsed t (s.eff .protWtr group * secTicks) && !(s.groupConns group).isEmpty then
      .next ((s.again group { g with wtr := none, loc := 0x5 } true).bump .protPmWtrExpired group 1)
    else .next s

/-- APSL and PSM of a group complete their integration; under APSL the far end's request is NR from this boundary (R228). -/
def execApsDefectIntegration (group : Nat) (psm : Bool) (s : State) : Host.Outcome State Fault Refusal :=
  let g := s.group group
  let bi := s.flag .protDirection group
  if psm then
    if !g.psm && decide (16384 ≤ g.psmRun.1) then .next (s.modGroup group fun g => { g with psm := true })
    else if g.psm && (decide (625 ≤ g.psmRun.2) || !bi) then .next (s.modGroup group fun g => { g with psm := false })
    else .next s
  else
    let n := (s.apsMembers (s.eff .protApsLane group)).length
    if bi && !g.apsl && decide (max 64 (3 * ((n + 1) / 2)) ≤ g.feAge) then
      .next (s.again group { g with apsl := true, fe := none } false)
    else if g.apsl && (decide (g.feAge = 0) || !bi) then .next (s.modGroup group fun g => { g with apsl := false })
    else .next s

/-! ### PROT commands (R219, R229) -/

/-- A command enters the named groups at a boundary. -/
def State.enterProt (s : State) (kind : Nat) (target : Bool) (gs : List Nat) (due : Rsn) (c : CmdRef) : State :=
  gs.foldl (fun s k => s.modGroup k fun g => { g with pend := g.pend ++ [⟨due, kind, target, c⟩] }) s

/-- The effect of an accepted PROT command: present at a + 1, on both units at a + 2; RESULT is the number of groups (R219,
R229, and the example of chapter 12 that forces S00007). -/
def State.acceptProt (s : State) (kind : Nat) (target : Bool) (gs : List Nat) (c : CmdRef) : State :=
  let both := s.paired && s.pair.linkUp
  let due := s.clk.rsn + (if both then 2 else 1)
  let s := s.enterProt kind target gs due c
  let s := { s with prot := { s.prot with waits := s.prot.waits ++ [(due + 1, c, gs.length)] } }
  if both then s.forwardCmd c due (.prot kind gs target) else s

/-- The checks of a PROT command in the order of R219; preempted: the groups that refuse it. -/
def protBody (kind target : Nat) (b : Buf) (count : Nat) (groups : List Nat) (preempted : Group → Bool) (c : CmdRef) (s : State) :
    Reply :=
  let gs := groups.take count
  if count = 0 then (if s.dev.role = .follower then .refuse 0x0201 else .noop true)
  else
    guarded [(b.len == 0, 0x0003, 0), (decide (1024 < count ∨ b.len < 2 * count ∨ 1 < target), 0x0004, 0)] <|
    checkItems gs (fun k => decide (65535 < k)) 0x0004 <|
    guarded [(!s.bufRead b (2 * count), 0x0007, s.readDetail b (2 * count))] <|
    checkItems gs (fun k => preempted (s.group k)) 0x0601 <|
    guarded [(s.dev.role == .follower, 0x0201, 0)] <|
      .accept (s.acceptProt kind (target == 1) gs c) [(gs.headD 0, count, target)]

/-- PROT.LOCKOUT (R219). -/
def execProtLockout (e : Entry) (b : Buf) (count : Nat) (groups : List Nat) (s : State) : Host.Outcome State Fault Refusal :=
  serve (cmdOf (.protLockout e b count groups)) e s (protBody 1 0 b count groups fun _ => false)

/-- PROT.FORCE (R219). -/
def execProtForce (e : Entry) (b : Buf) (count : Nat) (groups : List Nat) (s : State) : Host.Outcome State Fault Refusal :=
  serve (cmdOf (.protForce e b count groups)) e s (protBody 2 0 b count groups fun g => g.cmd == 1)

/-- PROT.MANUAL (R219). -/
def execProtManual (e : Entry) (b : Buf) (count target : Nat) (groups : List Nat) (s : State) :
    Host.Outcome State Fault Refusal :=
  serve (cmdOf (.protManual e b count target groups)) e s (protBody 3 target b count groups fun g => decide (0x7 < g.req))

/-- PROT.CLEAR (R219). -/
def execProtClear (e : Entry) (b : Buf) (count : Nat) (groups : List Nat) (s : State) : Host.Outcome State Fault Refusal :=
  serve (cmdOf (.protClear e b count groups)) e s (protBody 4 0 b count groups fun _ => false)

/-! ### Merge pairs (R232 to R235) -/

/-- Put a pair into its place by lower lane. -/
def insertPair (m : Merge) (l : List Merge) : List Merge :=
  match l with
  | [] => [m]
  | x :: r => if m.low ≤ x.low then m :: x :: r else x :: insertPair m r

/-- A grain of the lane is a source in a bank (R232). -/
def Bank.sourceLane (b : Bank) (l : Nat) : Bool :=
  (b.conns.any fun x => x.2.pri / 4096 == l || (match x.2.alt with | some (a, _) => a / 4096 == l | none => false)) ||
    b.cuts.any fun x => x.2 / 4096 == l

/-- NOT_HOLDER, SARED_DOWN of MERGE commands (R232). -/
def State.holderChecks (s : State) : List (Bool × Nat × Nat) :=
  [(s.dev.role == .follower, 0x0201, 0), (s.paired && !s.pair.linkUp, 0x0202, 0)]

/-- The refusals of MERGE.CREATE in order (R232). -/
def State.mergeChecks (s : State) (a b : Nat) : List (Bool × Nat × Nat) :=
  let hi := max a b
  [(decide (511 < a ∨ 511 < b), 0x0004, 0), (a / 8 != b / 8 || a == b, 0x0005, 0),
   (decide (4 ≤ (s.prot.merges.filter fun m => m.low / 8 == a / 8).length ∨ 256 ≤ s.prot.merges.length), 0x0603, 0),
   ((s.pairOf a).isSome || (s.pairOf b).isSome || s.cur .laneMode a != s.cur .laneMode b ||
     s.cur .laneClocking a != s.cur .laneClocking b || s.egrB.sourceLane hi || s.shadow.sourceLane hi, 0x0604, 0),
   (s.tribs.any fun t => t.2.on && t.2.lane == hi, 0x0501, 0)] ++ s.holderChecks

/-- Change the pair of a lower lane. -/
def State.modPair (s : State) (low : Nat) (f : Merge → Merge) : State :=
  { s with prot := { s.prot with merges := s.prot.merges.map fun x => if x.low = low then f x else x } }

/-- A merge pair takes effect from an entry row (R232, R234). -/
def State.addPair (s : State) (a b : Nat) (entry : Rsn) (c : Option CmdRef) : State :=
  let m : Merge := { laneA := a, laneB := b, entry := entry, ref := c }
  let m := { m with prev := s.flag .mergePreferred m.low }
  { s with prot := { s.prot with merges := insertPair m s.prot.merges } }

/-- A pair's deletion takes effect from an entry row (R232). -/
def State.endPair (s : State) (l : Nat) (entry : Rsn) (c : Option CmdRef) : State :=
  match s.pairOf l with
  | some m => s.modPair m.low fun m => { m with ending := some entry, refEnd := c }
  | none => s

/-- MERGE.CREATE (R232). -/
def mergeCreateBody (a b : Nat) (c : CmdRef) (s : State) : Reply :=
  guarded (s.mergeChecks a b) <|
    let t := s.addPair a b (s.clk.rsn + 2) (some c)
    .accept (if s.paired then t.forwardCmd c (s.clk.rsn + 2) (.mergeCreate a b) else t) [(min a b, 1, max a b)]

/-- MERGE.CREATE (R232). -/
def execMergeCreate (e : Entry) (laneA laneB : Nat) (s : State) : Host.Outcome State Fault Refusal :=
  serve (cmdOf (.mergeCreate e laneA laneB)) e s (mergeCreateBody laneA laneB)

/-- The lane stands in no pair, or in one whose deletion has been accepted. -/
def State.notMerged (s : State) (l : Nat) : Bool :=
  match s.pairOf l with
  | some m => m.ending.isSome
  | none => true

/-- MERGE.DELETE (R232). -/
def mergeDeleteBody (l : Nat) (c : CmdRef) (s : State) : Reply :=
  guarded ([(decide (511 < l), 0x0004, 0), (s.notMerged l, 0x0005, 0)] ++ s.holderChecks) <|
    let t := s.endPair l (s.clk.rsn + 2) (some c)
    .accept (if s.paired then t.forwardCmd c (s.clk.rsn + 2) (.mergeDelete l) else t) [(l, 1, 0)]

/-- MERGE.DELETE (R232). -/
def execMergeDelete (e : Entry) (lane : Nat) (s : State) : Host.Outcome State Fault Refusal :=
  serve (cmdOf (.mergeDelete e lane)) e s (mergeDeleteBody lane)

/-- Post a completion that is due, where a command waits for it. -/
def State.completeOpt (s : State) (c : Option CmdRef) : State :=
  match c with
  | some c => s.complete c 0 0 0 false
  | none => s

/-- A lane whose alignment stands takes the anchor that now governs it (R101, R233). -/
def State.newAnchor (s : State) (l : Nat) : State :=
  let x := s.lane l
  if x.align = .sync ∨ x.align = .flywheel then s.anchorAtSync l else s

/-- A lane that no pair governs any more is in ingress AIS: its tributaries are in TAIS (R106, R134). -/
def State.aloneAis (s : State) (l : Nat) : State := if s.ingressAis l then s.laneTais l else s

/-- A pair's creation or deletion takes effect at its entry row (R232); the anchor of the lower lane governs both lanes from then on, and
the lane.anchor of each again after it (R101, R233). -/
def execMergeEntryEffect (lane : Fin 512) (s : State) : Host.Outcome State Fault Refusal :=
  match s.pairOf lane.val with
  | none => .next s
  | some m =>
    let put := s.modPair m.low
    if !m.active && rsnLe m.entry s.clk.rsn then
      let t := put fun x => { x with active := true, ref := none }
      .next (((t.newAnchor m.low).newAnchor m.high).completeOpt m.ref)
    else match m.ending with
      | some r =>
        if rsnLe r s.clk.rsn then
          let t := { s with prot := { s.prot with merges := s.prot.merges.filter fun x => x.low != m.low } }
          let t := (((t.newAnchor m.low).newAnchor m.high).aloneAis m.low).aloneAis m.high
          .next ((t.completeOpt m.ref).completeOpt m.refEnd)
        else .next s
      | none => .next s

/-- A lane's accepted message carries another plane than the pair assigns to it (R235). -/
def State.planeWrong (s : State) (l : Nat) (plane : Nat) : Bool :=
  match (s.lane l).traceAcc with
  | some m => tracePlane m != plane
  | none => false

/-- A lane's accepted message is there and matches. -/
def State.planeRight (s : State) (l : Nat) (plane : Nat) : Bool :=
  match (s.lane l).traceAcc with
  | some m => tracePlane m == plane
  | none => false

/-- A merge defect completes its integration (R235). -/
def execMergeDefectIntegration (lane : Fin 512) (d : MergeDefect) (s : State) : Host.Outcome State Fault Refusal :=
  match s.pairOf lane.val with
  | none => .next s
  | some m =>
    let put := s.modPair m.low
    let (bad, good, same, skewed, within) := m.runs
    match d with
    | .mdi =>
      if !m.mdi && decide (2 ≤ bad) then .next (put fun x => { x with mdi := true })
      else if m.mdi && decide (8 ≤ good) then .next (put fun x => { x with mdi := false }) else .next s
    | .mdiff =>
      if !m.mdiff && same == 1 then .next (put fun x => { x with mdiff := true })
      else if m.mdiff && decide (626 ≤ same) then .next (put fun x => { x with mdiff := false }) else .next s
    | .mskw =>
      if !m.mskw && decide (64 ≤ skewed) then .next (put fun x => { x with mskw := true })
      else if m.mskw && (decide (64 ≤ within) || s.eff .mergeSkewWarn m.low == 0) then
        .next (put fun x => { x with mskw := false })
      else .next s
    | .mpln =>
      if s.planeWrong m.laneA 0 || s.planeWrong m.laneB 1 then .next (put fun x => { x with mpln := true })
      else if m.mpln && (s.planeRight m.laneA 0 || s.planeRight m.laneB 1) then .next (put fun x => { x with mpln := false })
      else .next s

end Sys2Proof.Machine
end

