-- ==== Sys2Proof/Machine/Timing.lean ====
section
/-!
DEFINITION. Machine/Timing.lean: reference qualification and selection, the DPLL, oasis holdover, PPS and TOD, RSN steps (R279
to R309).
-/
namespace Sys2Proof.Machine

/-! ### Inputs and qualification (R279 to R284) -/

/-- Rank in use of an input (R281, R307). -/
def State.rankOf (s : State) (i : Nat) : Nat :=
  if i < 8 then (s.refIn i).rank
  else
    let o := s.eff .timingLrefQlOverride i
    if o ≠ 255 then o else (s.lane (s.cur .timingLrefLane i)).qlRank

/-- A rank that may be selected. -/
def State.rankOk (s : State) (i : Nat) : Bool :=
  let r := s.rankOf i
  decide (1 ≤ r ∧ r ≤ 14) || (r == 0 && s.flag .timingRefAcceptUnknown i)

/-- QUALIFIED and enabled with a rank that may be selected; RFS aside (R285). -/
def State.staysOk (s : State) (i : Nat) : Bool :=
  (s.refIn i).qual == .qualified && s.flag .timingRefEnable i && s.rankOk i

/-- Eligible for selection. -/
def State.eligible (s : State) (i : Nat) : Bool := s.staysOk i && !(s.refIn i).rfs

/-- A disqualifying defect other than RNL. -/
def RefIn.barred (x : RefIn) : Bool := x.rlos || x.rwf || x.rfh || x.rout

/-- A disqualifying defect sets: DISQUALIFIED at once, the means restart (R282, R284, R309). -/
def State.disqualify (s : State) (i : Nat) : State :=
  if (s.refIn i).qual = .disqualified then s
  else (s.modRefIn i fun x => { x with
    qual := .disqualified
    meanSecs := 0
    hardOk := 0
    softOk := 0
    cut := some (s.clk.tick, x.meanSecs) }).bump .timingPmDisq i 1

/-- The input has been disqualified at the update under way (R305). -/
def State.cutNow (s : State) (i : Nat) : Option Nat :=
  match (s.refIn i).cut with
  | some (t, n) => if t = s.clk.tick then some n else none
  | none => none

/-- Seconds that the means of an input hold; a disqualification at the update under way does not take them from its other limits (R284,
R305). -/
def State.meanSecsOf (s : State) (i : Nat) : Nat := (s.cutNow i).getD (s.refIn i).meanSecs

/-- DISQUALIFIED with every defect but RNL clear: WAITING, and RNL clears; a wait of 0 qualifies at once (R282). -/
def State.tryWait (s : State) (i : Nat) : State :=
  let x := s.refIn i
  if x.qual ≠ .disqualified ∨ x.barred = true then s
  else
    let w := s.cur .timingRefWtr 0
    s.modRefIn i fun x => { x with
      qual := if w = 0 then .qualified else .waiting
      rnl := false
      waitTick := s.clk.tick
      waitFor := w }

/-- Loss of a REF: no edge for 1 µs, or a stuck level; the bias detector gives the cause (R282). -/
def execRefSignalLoss (ref : Fin 8) (cause : Fin 3) (s : State) : Host.Outcome State Fault Refusal :=
  let s := s.modRefIn ref.val fun x => { x with rlos := true, losCause := cause.val, active := 0 }
  .next (s.disqualify ref.val)

/-- One 1 ms gate of an input: activity, and its offset against timing.ref_freq in ppb (R282). -/
def execRefFrequencyGate (input : Fin 24) (offsetPpb : Int) (active : Bool) (s : State) : Host.Outcome State Fault Refusal :=
  let i := input.val
  let x := s.refIn i
  let act : Nat := if active then x.active + 1 else 0
  let far := active && decide (100000 < offsetPpb.natAbs)
  let near := active && decide (offsetPpb.natAbs ≤ 50000)
  let bad : Nat := if far then x.gatesBad + 1 else 0
  let ok : Nat := if near then x.gatesOk + 1 else 0
  let rlos := x.rlos && !(decide (i < 8) && decide (10 ≤ act))
  let rwf := if 100 ≤ bad then true else if 100 ≤ ok then false else x.rwf
  let s := s.modRefIn i fun x => { x with
    active := act
    gatesBad := bad
    gatesOk := ok
    rlos := rlos
    rwf := rwf
    losCause := if rlos then x.losCause else 0 }
  if rwf && !x.rwf then .next (s.disqualify i)
  else if active then .next (s.tryWait i)
  else .next s

/-- The 1 s update of the 10 s and 100 s means, with the limits RFH and RFS (R282, R284, R294, R305). -/
def execRefMeanUpdate (input : Fin 24) (mean10 mean100 : Int) (s : State) : Host.Outcome State Fault Refusal :=
  let i := input.val
  let x := s.refIn i
  let n := s.meanSecsOf i + 1
  let hard := s.cur .timingRefHardPpb 0
  let soft := s.cur .timingRefSoftPpb 0
  let judged := decide (10 ≤ n) && !s.tim.oxf
  let beyond := fun (lim : Nat) => lim != 0 && decide (lim < mean10.natAbs)
  let hardOk : Nat := if beyond hard then 0 else x.hardOk + 1
  let softOk : Nat := if beyond soft then 0 else x.softOk + 1
  let rfh := if !judged then x.rfh else if beyond hard then true else x.rfh && decide (hardOk < 10)
  let rfs := if !judged then x.rfs else if beyond soft then true else x.rfs && decide (softOk < 10)
  let s := s.modRefIn i fun x => { x with
    mean10 := mean10
    mean100 := mean100
    meanSecs := if (s.cutNow i).isSome then 0 else n
    hardOk := if judged then hardOk else 0
    softOk := if judged then softOk else 0
    rfh := rfh
    rfs := rfs }
  .next (if rfh then s.disqualify i else if x.rfh then s.tryWait i else s)

/-- Voters: QUALIFIED inputs other than the selected one with a full 100 s window (R283, R284). -/
def State.voters (s : State) : List Nat :=
  (List.range 24).filter fun i => i != s.tim.sel && (s.refIn i).qual == .qualified && decide (100 ≤ (s.refIn i).meanSecs)

/-- The voters whose mean lies within 50 ppb above that of voter i. -/
def State.voteSet (s : State) (i : Nat) : List Nat :=
  let m := (s.refIn i).mean100
  s.voters.filter fun j => decide (m ≤ (s.refIn j).mean100 ∧ (s.refIn j).mean100 ≤ m + 50)

/-- The largest set; among equal sets the one that holds the lowest index (R283). -/
def bestSet (l : List (List Nat)) : List Nat :=
  match l with
  | [] => []
  | x :: r =>
    let y := bestSet r
    if y.length < x.length ∨ (x.length = y.length ∧ x.headD 24 ≤ y.headD 24) then x else y

/-- The selected input is outvoted (R283). -/
def State.outvoted (s : State) : Bool :=
  let v := bestSet (s.voters.map s.voteSet)
  let x := s.refIn s.tim.sel
  let sum := v.foldl (fun a j => a + (s.refIn j).mean100) 0
  s.flag .timingVoteEnable 0 && decide (s.tim.sel < 24 ∧ 2 ≤ v.length ∧ 100 ≤ s.meanSecsOf s.tim.sel) &&
    decide (500 * v.length < (x.mean100 * v.length - sum).natAbs)

/-- The vote of each second: ROUT sets on an outvoted selection, and clears after 10 updates without it (R282, R283). -/
def execRefVote (s : State) : Host.Outcome State Fault Refusal :=
  let out := s.outvoted
  let sel := s.tim.sel
  let s := (List.range 24).foldl (fun s i =>
    let x := s.refIn i
    if x.rout && !(out && i == sel) then
      let s := s.modRefIn i fun x => { x with voteOk := x.voteOk + 1, rout := decide (x.voteOk + 1 < 10) }
      if (s.refIn i).rout then s else s.tryWait i
    else s) s
  if out then .next ((s.modRefIn sel fun x => { x with rout := true, voteOk := 0 }).disqualify sel) else .next s

/-- The wait of an input has run (R282). -/
def execRefWaitExpiry (input : Fin 24) (s : State) : Host.Outcome State Fault Refusal :=
  let x := s.refIn input.val
  if x.qual = .waiting ∧ s.elapsed x.waitTick (x.waitFor * secTicks) = true then
    .next (s.modRefIn input.val fun x => { x with qual := .qualified })
  else .next s

/-! ### The DPLL (R288 to R294) -/

/-- Enter a DPLL state; the frequency history restarts at an entry into LOCKED (R288, R291, R308, R309, R591). -/
def State.setDpll (s : State) (d : Dpll) : State :=
  let old := s.tim.state
  if old = d then s
  else
    let s := { s with tim := { s.tim with
      state := d
      stateTick := s.clk.tick
      calmTick := none
      lockFor := if d = Dpll.acquire then s.cur .timingLockTimeout 0 else s.tim.lockFor
      hist := if d = Dpll.locked then [] else s.tim.hist
      histValid := s.tim.histValid && d != Dpll.freerun } }
    let s := if d = .pulled then s.bump .timingPmPulled 0 1 else s
    s.journalAuto 0xA004 d.code old.code

/-- No input is selected: OASIS with a history, otherwise FREERUN (R289, R294). -/
def State.holdOver (s : State) : State :=
  let s := { s with tim := { s.tim with sel := 31, switching := false, clampHit := false } }
  s.setDpll (if s.tim.histValid && !s.tim.oxf then .oasis else .freerun)

/-- Select an input: from none ACQUIRE, between two inputs a hitless switch; ACQUIRE counts its time anew on the new input (R282, R286,
R289). -/
def State.selectRef (s : State) (i : Nat) : State :=
  let old := s.tim.sel
  if old = i then s
  else if old = 31 then ({ s with tim := { s.tim with sel := i } }).setDpll .acquire
  else
    let s := { s with tim := { s.tim with
      sel := i
      switching := true
      switchTick := s.clk.tick
      stateTick := if s.tim.state = Dpll.acquire then s.clk.tick else s.tim.stateTick } }
    let s := (s.bump .timingPmSwitches 0 1).journalAuto 0xA003 i old
    if s.tim.state = .pulled then s.setDpll .locked else s

/-- Order of candidates: rank, priority, index (R285). -/
def State.refKey (s : State) (i : Nat) : Nat :=
  let r := s.rankOf i
  (if r = 0 then 15 else r) * 1024 + s.eff .timingRefPriority i * 32 + i

/-- The input with the least key. -/
def State.bestRef (s : State) (l : List Nat) : Option Nat :=
  match l with
  | [] => none
  | i :: r => match s.bestRef r with
    | none => some i
    | some j => if s.refKey i ≤ s.refKey j then some i else some j

/-- The candidate (R285). -/
def State.candidate (s : State) : Option Nat := s.bestRef ((List.range 24).filter s.eligible)

/-- A follower that has a holder to follow (R303, R361). -/
def State.follows (s : State) : Bool :=
  s.dev.role == .follower && (match s.pair.holdTick with | some t => !s.elapsed t (12 * msTicks) | none => false)

/-- The input that R285 and the commands of R287 select; none: the selection is lost. A keep answers the present one. -/
def State.wanted (s : State) : Option Nat :=
  let sel := s.tim.sel
  let c := s.candidate
  let i := s.tim.cmdInput
  if s.tim.cmd = 1 ∧ (s.refIn i).qual = .qualified ∧ s.flag .timingRefEnable i = true then some i
  else if s.tim.cmd = 2 ∧ s.eligible i = true then some i
  else if sel = 31 ∨ s.staysOk sel = false then c
  else match c with
    | none => some sel
    | some j =>
      let rank := fun k => s.refKey k / 1024
      if s.flag .timingRevertive 0 then some j else if rank j < rank sel then some j else some sel

/-- Evaluate the selection (R285, R286, R287). A MANUAL whose input is no longer eligible is cleared. -/
def State.evalRef (s : State) : State :=
  if s.tim.switching || s.tim.cmd == 3 || s.follows || s.flt.engines.contains .dpll then s
  else
    let lost := s.tim.cmd == 2 && !s.eligible s.tim.cmdInput
    let s := if lost then ({ s with tim := { s.tim with cmd := 0 } }).journalAuto 0xA005 s.tim.cmdInput 0 else s
    match s.wanted with
    | some i => s.selectRef i
    | none => if s.tim.sel = 31 then s else s.holdOver

/-- The follower takes the holder's selection at the row boundary after a lease message, and stays on it while its own copy serves; without
an eligible copy of it, it holds over and raises TFOL, which ends with the following (R303). -/
def State.followRef (s : State) : State :=
  if !s.follows then { s with tim := { s.tim with tfol := false, heard := none } }
  else if s.tim.switching || s.flt.engines.contains .dpll then s
  else match s.tim.heard with
    | none => s
    | some (sel, _) =>
      let ok := if s.tim.sel = sel then s.staysOk sel else s.eligible sel
      let lost := decide (sel < 24) && !ok
      let s := { s with tim := { s.tim with tfol := lost } }
      if decide (sel < 24) && ok then s.selectRef sel
      else if s.tim.sel = 31 then s
      else s.holdOver

/-- A command of R287 acts. TIMING.HOLDOVER ends no switch: it takes the input at the end of one that runs (R286). -/
def State.actTiming (s : State) (kind i rank : Nat) : State :=
  match kind with
  | 1 => { s with tim := { s.tim with cmd := 1, cmdInput := i } }
  | 2 => { s with tim := { s.tim with cmd := 2, cmdInput := i } }
  | 3 =>
    let s := { s with tim := { s.tim with cmd := 3 } }
    if s.tim.switching then s else s.holdOver
  | 4 => { s with tim := { s.tim with cmd := 0, cmdInput := 31 } }
  | _ => s.modRefIn i fun x => { x with rank := rank }

/-- The commands due at this boundary act, and their completions are posted; ql: TIMING.SET_QL, or the others (R287). -/
def State.timingCommands (s : State) (ql : Bool) : State :=
  let mine := fun (p : Rsn × Nat × Nat × Nat × CmdRef) => rsnLe p.1 s.clk.rsn && (p.2.1 == 5) == ql
  let due := s.tim.cmdPend.filter mine
  let s := { s with tim := { s.tim with cmdPend := s.tim.cmdPend.filter fun p => !mine p } }
  due.foldl (fun s p => (s.actTiming p.2.1 p.2.2.1 p.2.2.2.1).complete p.2.2.2.2 0 0 0 false) s

/-- The selection commands due at this boundary act one row later (R287). -/
def State.putOffTiming (s : State) : State :=
  { s with tim := { s.tim with cmdPend := s.tim.cmdPend.map fun p => if rsnLe p.1 s.clk.rsn then (s.clk.rsn + 1, p.2) else p } }

/-- RLOS of the LREFs at a row boundary: SF of the lane, or RX disabled (R282). -/
def State.lrefLoss (s : State) : State :=
  ((List.range 16).map (· + 8)).foldl (fun s i =>
    let lost := s.laneSf (s.cur .timingLrefLane i)
    let x := s.refIn i
    if lost && !x.rlos then (s.modRefIn i fun x => { x with rlos := true, losCause := 3 }).disqualify i
    else if !lost && x.rlos then (s.modRefIn i fun x => { x with rlos := false, losCause := 0 }).tryWait i
    else s) s

/-- Sums of powers of the temperatures of samples about a temperature x, and of their products with the frequency: Σ1, Σx, …, Σx⁴, Σy, Σxy,
Σx²y. -/
def powerSums (x0 : Int) (xs : List (Int × Int)) : List Int :=
  xs.foldl (fun a p =>
    let x := p.1 - x0
    let y := p.2
    List.zipWith (· + ·) a [1, x, x * x, x * x * x, x * x * x * x, y, x * y, x * x * y]) (List.replicate 8 0)

/-- Determinant of the matrix with rows (a b c), (d e f), (g h i). -/
def det3 (a b c d e f g h i : Int) : Int := a * (e * i - f * h) - b * (d * i - f * g) + c * (d * h - e * g)

/-- The correction that a quadratic least-squares fit of frequency over temperature gives for a temperature dx away from x0; 0 where the
samples fit no parabola (R292; log entry 109). -/
def fittedCorrection (xs : List (Int × Int)) (x0 dx : Int) : Int :=
  match powerSums x0 xs with
  | [n, x, x2, x3, x4, y, xy, x2y] =>
    let d := det3 n x x2 x x2 x3 x2 x3 x4
    let b := det3 n y x2 x xy x3 x2 x2y x4
    let c := det3 n x y x x2 xy x2 x3 x2y
    if d = 0 then 0 else (b * dx + c * dx * dx) / d
  | _ => 0

/-- The oasis model in 10⁻¹²: the frozen mean, corrected for the temperature where TEMP_VALID is 1 and the sensor can be read (R292). -/
def State.oasisModel (s : State) : Int :=
  match s.tim.tempValid && !s.tim.osns, s.tim.temp, s.tim.histTemp with
  | true, some t, some t0 => s.tim.histMean + fittedCorrection s.tim.samples t0 (t - t0)
  | _, _, _ => s.tim.histMean

/-- The clamp: following the selected input would take the output further than timing.clamp_ppb from the oasis model (R289, R305). -/
def State.clampRow (s : State) (inputPpt : Int) : State :=
  let lim := s.eff .timingClampPpb 0
  let pull := (inputPpt - s.oasisModel).natAbs
  let hit := s.tim.histValid && lim != 0 && decide (1000 * lim < pull)
  let calm := if s.tim.state = .pulled ∧ 2 * pull ≤ 1000 * lim then
      (match s.tim.calmTick with | some t => some t | none => some s.clk.tick)
    else none
  let s := { s with tim := { s.tim with clampHit := hit, calmTick := calm } }
  if hit && s.tim.state == .locked && !s.tim.switching then s.setDpll .pulled else s

/-- Skew of the peer's row boundary (R303). -/
def State.skewRow (s : State) (ns : Nat) : State :=
  let run : Nat := if s.dev.role = .follower ∧ s.pair.linkUp = true ∧ 100 < ns then s.tim.skewRun + 1 else 0
  { s with tim := { s.tim with skewRun := run, prskw := decide (64 ≤ run) || (s.tim.prskw && decide (0 < run)) } }

/-- What CLKOUT o sends: the root divided, held low in the states that timing.clkout_squelch names (R302). -/
def State.clkoutOf (s : State) (o : Nat) : Option Nat :=
  let free := s.tim.state == .freerun
  let held : Bool := match s.eff .timingClkoutSquelch o with
    | 1 => free
    | 2 => free || s.tim.state == .oasis || s.tim.state == .pulled
    | _ => false
  if held then none else some (s.eff .timingClkoutDiv o)

/-- The selection changes by itself at a boundary (R285, R287, R303). -/
def State.selectAlone (s : State) : State := s.followRef.evalRef

/-- The row boundary of the timing subsystem: the selection and the clamp are evaluated; unless something changed by itself commands act
and the selection is evaluated again; then the outputs (R282, R285, R287, R289, R302, R303, R305). -/
def State.timingBoundary (s : State) (m : RowMeas) : State :=
  let s := (s.timingCommands true).lrefLoss
  let t := s.selectAlone.clampRow m.inputPpt
  let same := t.tim.sel = s.tim.sel ∧ t.tim.state = s.tim.state ∧ t.tim.cmd = s.tim.cmd
  let s := if same then (t.timingCommands false).evalRef else t.putOffTiming
  let s := s.skewRow m.skewNs
  { s with tim := { s.tim with clkOut := (List.range 8).map s.clkoutOf } }

/-- Rank sent on the egress lanes (R301). -/
def State.qlRankTx (s : State) : Nat :=
  match s.tim.state with
  | .locked => if s.tim.sel < 24 then s.rankOf s.tim.sel else s.eff .timingHoldoverQl 0
  | .freerun => s.eff .timingFreerunQl 0
  | _ => s.eff .timingHoldoverQl 0

/-- What the end of a row fixes for the next egress row (R301). -/
def State.qlLatch (s : State) : State :=
  let own := if 8 ≤ s.tim.sel ∧ s.tim.sel < 24 then s.cur .timingLrefLane s.tim.sel else 512
  { s with tim := { s.tim with qlTx := s.qlRankTx, tstateTx := s.tim.state.code, qlLane := own } }

/-- A hitless switch completes: TIMING.HOLDOVER takes effect where it came during the switch; selection is evaluated at once, and PULLED is
entered where the clamp still holds for an input that stays selected (R286, R287, R305). -/
def execSwitchComplete (s : State) : Host.Outcome State Fault Refusal :=
  if s.tim.switching then
    let s := { s with tim := { s.tim with switching := false } }
    if s.tim.cmd = 3 then .next s.holdOver
    else
    let t := s.evalRef
    let kept := t.tim.sel == s.tim.sel && !t.tim.switching && (t.refIn t.tim.sel).qual == .qualified
    .next (if kept && t.tim.clampHit && t.tim.state == .locked then t.setDpll .pulled else t)
  else .next s

/-- ACQUIRE has held ±10 ns and ±10 ppb for 4 s: LOCKED (R289). -/
def execDpllLockAchieved (s : State) : Host.Outcome State Fault Refusal :=
  if s.tim.state = .acquire ∧ s.elapsed s.tim.stateTick (4 * secTicks) = true then .next (s.setDpll .locked) else .next s

/-- The input has stayed within half the clamp of the model for 10 s: PULLED becomes LOCKED (R289). -/
def execPulledRecovery (s : State) : Host.Outcome State Fault Refusal :=
  match s.tim.calmTick with
  | some t => if s.tim.state = .pulled ∧ s.elapsed t (10 * secTicks) = true then .next (s.setDpll .locked) else .next s
  | none => .next s

/-- 300 s of continuous LOCKED (R291). -/
def execHistValidSet (s : State) : Host.Outcome State Fault Refusal :=
  if s.tim.state = .locked ∧ s.elapsed s.tim.stateTick (300 * secTicks) = true ∧ s.tim.oxf = false then
    .next { s with tim := { s.tim with histValid := true } }
  else .next s

/-- timing.lock_timeout in ACQUIRE: RNL disqualifies; the input waits again at once where nothing else bars it (R282, R289). -/
def execLockTimeout (s : State) : Host.Outcome State Fault Refusal :=
  let i := s.tim.sel
  if s.tim.state = .acquire ∧ i < 24 ∧ s.tim.lockFor ≠ 0 ∧ s.elapsed s.tim.stateTick (s.tim.lockFor * secTicks) = true then
    .next (((s.modRefIn i fun x => { x with rnl := true }).disqualify i).tryWait i)
  else .next s

/-- OCXO_IN fails: OXF, no history, no OASIS (R289, R294). -/
def execOcxoFailure (s : State) : Host.Outcome State Fault Refusal :=
  let s := { s with tim := { s.tim with oxf := true, oxfTick := s.clk.tick, histValid := false } }
  .next (if s.tim.state = .oasis then s.setDpll .freerun else s)

/-- OXF clears after 10 s within ±30 ppm (R294). -/
def execOxfClear (s : State) : Host.Outcome State Fault Refusal :=
  if s.tim.oxf = true ∧ s.elapsed s.tim.oxfTick (10 * secTicks) = true then
    .next { s with tim := { s.tim with oxf := false } }
  else .next s

/-- Mean of a list of integers. -/
def meanOf (xs : List Int) : Int := if xs.isEmpty then 0 else xs.foldl (· + ·) 0 / (xs.length : Int)

/-- Greatest less least of a list of temperatures. -/
def spanOf (xs : List Int) : Int :=
  match xs with
  | [] => 0
  | x :: r => r.foldl max x - r.foldl min x

/-- A second of LOCKED is recorded: the frequency of the DPLL, and with a temperature a sample of the fit. The mean is taken anew from each
full 300 s; until then the one before it stands (R291, R292; log entry 109). -/
def Timing.record (t : Timing) (freq : Int) (temp : Option Int) : Timing :=
  let h := ((freq, temp) :: t.hist).take 300
  let full := h.length == 300
  let temps := h.filterMap (·.2)
  let xs := match temp with | some k => ((k, freq) :: t.samples).take 86400 | none => t.samples
  { t with
    hist := h
    histMean := if full then meanOf (h.map (·.1)) else t.histMean
    histTemp := if full then (if temps.isEmpty then none else some (meanOf temps)) else t.histTemp
    samples := xs
    tempValid := decide (2000 ≤ spanOf (xs.map (·.1))) }

/-- The second of the oscillator: its temperature is read at timing.osens_addr, or the read fails, and while LOCKED the second is recorded
(R291, R292). -/
def execOcxoSensorRead (x : OcxoSecond) (s : State) : Host.Outcome State Fault Refusal :=
  let n := if x.milliK.isNone then s.tim.sensorFails + 1 else 0
  let t := { s.tim with
    sensorFails := n
    osns := if x.milliK.isNone then s.tim.osns || decide (5 ≤ n) else false
    temp := x.milliK <|> s.tim.temp
    osensAt := s.cur .timingOsensAddr 0 }
  .next { s with tim := if s.tim.state = .locked then t.record x.freqPpt x.milliK else t }

/-! ### PPS, TOD and steps (R295 to R299) -/

/-- Of the qualified PPS inputs the one of lower priority, then of lower index, governs (R295). -/
def State.governingPps (s : State) : Option Nat :=
  match (s.ppsIn 0).qual, (s.ppsIn 1).qual with
  | true, true => some (if s.cur .timingPpsPriority 0 ≤ s.cur .timingPpsPriority 1 then 0 else 1)
  | true, false => some 0
  | false, true => some 1
  | false, false => none

/-- One edge of a PPS input, less its cable delay, against the tolerance (R295). -/
def State.ppsStep (s : State) (i : Nat) (devPs : Int) : State :=
  let tol := s.cur .timingPpsTolerance 0
  let x := s.ppsIn i
  let delay := s.cur .timingPpsDelay i
  let dev := devPs - ((delay : Int) - (x.delay : Int))
  let ok := x.lastTick.isSome && (tol == 0 || decide (dev.natAbs ≤ 1000 * tol))
  let bad : Nat := if ok || x.lastTick.isNone then 0 else x.bad + 1
  let jump := decide (3 ≤ bad)
  s.modPpsIn i fun x => { x with
    lastTick := some s.clk.tick
    okSecs := if ok then x.okSecs + 1 else 0
    waitFor := if x.okSecs = 0 then s.cur .timingPpsWtr 0 else x.waitFor
    bad := bad
    pjmp := x.pjmp || jump
    qual := x.qual && !jump
    delay := delay }

/-- The device aligns itself: in CONFIGURE, and at the first alignment after BOOT; a follower never steps on its own (R299,
R303). -/
def State.maySelfStep (s : State) : Bool :=
  s.dev.role != .follower && (s.dev.mode == .configure || !s.tim.aligned)

/-- A row lasts 2,560,000 ps (R10). -/
def rowPs : Nat := 2560000

/-- Core cycles of 625 ps in a time in ps. -/
def cyclesOf (ps : Int) : Int := ps / 625

/-- The TAI second that an edge of the governing PPS marks: that of a good message of the second before, otherwise the nearest to the TOD
(R296, R298). -/
def State.edgeSecond (s : State) (phase : Int) : Option Nat :=
  if !s.elapsed s.tim.todTick secTicks then some s.tim.todSec
  else if s.clk.todSet then some (((s.clk.tod : Int) + cyclesOf phase + (secCycles / 2 : Nat)) / (secCycles : Nat)).toNat
  else none

/-- The row that begins at TAI second S: (S − E) × 390,625 (R206, R298). -/
def State.rowOfSecond (s : State) (sec : Nat) : Rsn :=
  BitVec.ofInt 48 (((sec : Int) - (s.cur .timingRsnEpoch 0 : Nat)) * 390625)

/-- How far the rows stand behind TAI in ps, at an edge phase ps into the row under way that marks row k (R298). -/
def State.alignError (s : State) (k : Rsn) (phase : Int) : Int := (k - s.clk.rsn).toInt * rowPs - phase

/-- The TOD becomes that of second S at an edge phase ps into the row under way. -/
def State.setTodAt (s : State) (sec : Nat) (phase : Int) : State :=
  { s with clk := { s.clk with tod := (((sec * secCycles : Nat) : Int) - cyclesOf phase).toNat, todSet := true, estimated := false } }

/-- An edge of the governing PPS with TOD qualified: the alignment error is measured; beyond timing.step_threshold it is
removed by a step at the next boundary, or TOFF is raised (R298, R299). In FREE mode the message of the second before sets the TOD,
and in TAI mode one that was never set. -/
def State.alignEdge (s : State) (phase : Int) : State :=
  if s.tim.todQual = false then s
  else if s.cur .timingRsnMode 0 = 0 then
    if s.elapsed s.tim.todTick secTicks then s else s.setTodAt s.tim.todSec phase
  else match s.edgeSecond phase with
    | none => s
    | some sec =>
      let k := s.rowOfSecond sec
      let err := s.alignError k phase
      let thr := s.cur .timingStepThreshold 0
      let s := { s with tim := { s.tim with alignErr := err, alignMark := some (sec, k) } }
      if thr = 0 ∨ err.natAbs ≤ 1000 * thr then
        let s := if s.clk.todSet then s else s.setTodAt sec phase
        { s with
          tim := { s.tim with toff := false, aligned := true }
          clk := { s.clk with estimated := s.clk.estimated && s.tim.state != .locked } }
      else if s.maySelfStep then
        if s.tim.step.any fun x => x.2.isNone then s
        else { s with tim := { s.tim with step := s.tim.step ++ [(s.clk.rsn + 1, none)] } }
      else { s with tim := { s.tim with toff := true } }

/-- An edge of a PPS input; its cable delay is taken from the time at which it came (R295, R298). -/
def execPpsEdge (pps : Fin 2) (m : PpsMeas) (s : State) : Host.Outcome State Fault Refusal :=
  let s := s.ppsStep pps.val m.devPs
  .next (if s.governingPps = some pps.val then s.alignEdge ((m.phasePs : Int) - (s.cur .timingPpsDelay pps.val : Nat)) else s)

/-- In LOCKED an alignment error within timing.step_threshold shrinks by timing.slew_rate in each second, and by no more than the clamp
lets the output move (R289, R298; log entry 109). -/
def State.slewSecond (s : State) : State :=
  let thr := s.cur .timingStepThreshold 0
  let e := s.tim.alignErr
  let lim := s.eff .timingClampPpb 0
  let rate := if s.tim.histValid ∧ lim ≠ 0 then min (s.cur .timingSlewRate 0) lim else s.cur .timingSlewRate 0
  if s.tim.state = .locked ∧ s.cur .timingRsnMode 0 = 1 ∧ (thr = 0 ∨ e.natAbs ≤ 1000 * thr) then
    let d := min e.natAbs (1000 * rate)
    { s with tim := { s.tim with alignErr := if e < 0 then e + d else e - d } }
  else s

/-- No edge within 1.1 s of the previous one (R295). -/
def execPpsLoss (pps : Fin 2) (s : State) : Host.Outcome State Fault Refusal :=
  .next (s.modPpsIn pps.val fun x => { x with qual := false, plos := true, okSecs := 0, bad := 0, lastTick := none })

/-- timing.pps_wtr seconds of edges within tolerance qualify an input (R295). -/
def execPpsQualified (pps : Fin 2) (s : State) : Host.Outcome State Fault Refusal :=
  let x := s.ppsIn pps.val
  if x.qual = false ∧ x.lastTick.isSome = true ∧ x.waitFor ≤ x.okSecs then
    .next (s.modPpsIn pps.val fun x => { x with qual := true, plos := false, pjmp := false })
  else .next s

/-- A TOD_IN message is well formed (R296). -/
def todWellFormed (bs : List Byte) : Bool :=
  decide (bs.length = 16) && decide (bs.take 3 = [0xC5, 0x3A, 0x01]) && (bs.getD 3 0).getLsbD 7 &&
    beNat (bs.drop 14) == (crc16 (bs.take 14)).toNat

/-- A TOD_IN message that ends msAfterEdge after an edge of the governing PPS (R296). The first message of a run has no
predecessor to continue. At another rate than timing.tod_baud the UART reads no good message. -/
def execTodMessage (m : TodFrame) (msAfterEdge : Nat) (s : State) : Host.Outcome State Fault Refusal :=
  let sec := beNat ((m.bytes.drop 4).take 6)
  let t := s.tim
  let good := todWellFormed m.bytes && m.baud == s.cur .timingTodBaud 0 && s.governingPps.isSome && decide (10 ≤ msAfterEdge ∧ msAfterEdge ≤ 900) &&
    (t.todGood == 0 || sec == t.todSec + 1)
  if good then
    let n := t.todGood + 1
    .next { s with tim := { t with
      todGood := n
      todSec := sec
      todTick := s.clk.tick
      todQual := t.todQual || decide (3 ≤ n)
      tode := t.tode && decide (n < 3) } }
  else .next (({ s with tim := { t with todGood := 0 } }).bump .timingPmTodBad 0 1)

/-- 2 consecutive seconds without a good message (R296). -/
def execTodError (s : State) : Host.Outcome State Fault Refusal :=
  if s.elapsed s.tim.todTick (2 * secTicks) then
    .next { s with tim := { s.tim with tode := true, todQual := false, todGood := 0 } }
  else .next s

/-- Core cycles of a row. -/
def rowCycles : Nat := 4096

/-- Nearest whole number of rows to an error in core cycles. -/
def nearestRows (c : Int) : Int := (c + 2048) / 4096

/-- The facet engine when the RSN steps to row n: superframes that the step puts ahead again are covered anew, and the first one to be
covered is again the next (R249, R275, R299; log entry 24). -/
def State.facetStep (s : State) (n : Rsn) : State :=
  let f := s.obs.facet
  let cut := fun (l : Nat) (x : FacetLane) =>
    if s.cur .laneClocking l = 1 then x else { x with rows := x.rows.filter fun r => !rsnLe n r.rsn }
  { s with obs := { s.obs with facet := { f with
    first := if f.begun then f.first else f.first.map fun _ => ((n + 1).toNat / 625 + 1) % ((2 ^ 48 + 624) / 625)
    lanes := Table.mapVals {} cut f.lanes } } }

/-- What waits for a row boundary counted from the present one keeps its distance when the RSN steps by d. An RSN that a host named stays
(R299; log entry 24). -/
def State.shiftDue (s : State) (d : Rsn) : State :=
  let mode := fun (p : ModeChange) => if p.target = .caravan then p else { p with due := p.due + d }
  let group := fun (_ : Nat) (g : Group) => ({ g with
    hold := g.hold.map fun x => (x.1, x.2 + d)
    pend := g.pend.map fun p => { p with due := p.due + d } } : Group)
  { s with
    dev := { s.dev with pend := s.dev.pend.map mode, toTransport := s.dev.toTransport.map (· + d) }
    pair := { s.pair with fwd := s.pair.fwd.map fun x => ({ x.1 with row := x.1.row + d }, x.2) }
    prot := { s.prot with
      waits := s.prot.waits.map fun w => (w.1 + d, w.2)
      groups := Table.mapVals {} group s.prot.groups
      merges := s.prot.merges.map fun m => { m with entry := m.entry + d, ending := m.ending.map (· + d) } }
    par := { s.par with buffered := s.par.buffered.map fun b => { b with due := b.due + d } }
    tim := { s.tim with
      cmdPend := s.tim.cmdPend.map fun p => (p.1 + d, p.2)
      step := s.tim.step.map fun p => (p.1 + d, p.2) } }

/-- RSN and TOD take these values at a row boundary; the last row was adjusted by adj core cycles; no alignment error is left to remove
(R299, R366). A step in CARAVAN aborts the caravan (R205). -/
def State.stepTo (s : State) (rsn : Rsn) (tod : Nat) (adj : Int) : State :=
  let s := (s.shiftDue (rsn - s.clk.rsn)).facetStep rsn
  let s := { s with
    clk := { s.clk with
      rsn := rsn
      tod := tod
      todSet := true
      estimated := false
      traced := false
      lastRowAdjust := adj }
    tim := { s.tim with
      toff := false
      aligned := true
      alignErr := 0
      alignMark := none
      step := s.tim.step.filter fun x => x.2.isSome } }
  let s := if s.dev.mode = .caravan then s.abortCaravan false else s
  s.bump .timingPmSteps 0 1

/-- The RSN and TOD that remove the measured alignment error at the boundary into a row, and the adjustment of the row before. The TOD
counts whole rows from the second of the edge, and the RSN is that of the TAI instant, ⌊(t − E) × 390,625⌋ (R206, R298, R299). Without
a measured error both stay. -/
def State.alignedAt (s : State) (row : Rsn) : Rsn × Nat × Int :=
  match s.tim.alignMark with
  | none => (row, s.clk.tod + (row - s.clk.rsn).toNat * rowCycles, 0)
  | some (sec, k) =>
    let cyc := cyclesOf s.tim.alignErr
    let rows := nearestRows cyc
    let since := (row + BitVec.ofInt 48 rows - k).toInt
    let tod := ((sec * secCycles : Nat) : Int) + since * rowCycles
    (BitVec.ofInt 48 ((tod - (s.cur .timingRsnEpoch 0 * secCycles : Nat)) / rowCycles), tod.toNat, rows * 4096 - cyc)

/-- One step takes place, journalled with both RSNs (R299, R591). -/
def State.step1 (s : State) (ref : Option CmdRef) : State :=
  let (rsn, tod, adj) := s.alignedAt s.clk.rsn
  match ref with
  | none => (s.journalAuto 0xA006 0 rsn.toNat).stepTo rsn tod adj
  | some c => ((s.unreserve.journalCmd c 1 0 1 rsn.toNat).stepTo rsn tod adj).complete c 0 0 0 false

/-- The steps that are due at this boundary take place (R299). -/
def State.doStep (s : State) : State :=
  let due := s.tim.step.filter fun x => rsnLe x.1 s.clk.rsn
  let s := { s with tim := { s.tim with step := s.tim.step.filter fun x => !rsnLe x.1 s.clk.rsn } }
  due.foldl (fun s x => s.step1 x.2) s

/-- The count of core cycles that marks seconds at the start of the present row: TOD in mode TAI, the RSN in mode FREE (R298, R302). -/
def State.secondCount (s : State) : Nat :=
  if s.cur .timingRsnMode 0 = 1 then s.clk.tod else s.clk.rsn.toNat * rowCycles

/-- The second whose edge, less the output's advance, falls into the present row (R298, R302). -/
def State.edgeDue (s : State) (o : Nat) : Option Nat :=
  let x := s.secondCount + s.cur .timingPpsOutAdvance o * 8 / 5
  let k := (x + secCycles - 1) / secCycles
  if k * secCycles < x + rowCycles then some k else none

/-- Output o pulses where the edge of a second is due that it has not pulsed for (R302). -/
def State.pulse (s : State) (o : Nat) : State :=
  let p := Table.get {} s.tim.ppsOut o
  match s.edgeDue o with
  | none => s
  | some k =>
    if p.second = some k then s
    else { s with tim := { s.tim with
      ppsEdge := some s.clk.tick
      ppsOut := Table.put s.tim.ppsOut o
        { count := p.count + 1, second := some k, width := s.cur .timingPpsOutWidth o, advance := s.cur .timingPpsOutAdvance o } } }

/-- PPS_OUT0 and PPS_OUT1 pulse once at each TAI second, each with its own width and advance; in mode FREE at the rows with RSN mod
390,625 = 0; they are held low while TQ is 0b00 (R298, R302). -/
def execPpsOutPulse (s : State) : Host.Outcome State Fault Refusal :=
  if s.tq = 0 then .next s else .next ((s.pulse 0).pulse 1)

/-- The message that TOD_OUT sends 500 ms after a PPS_OUT edge, for the next edge (R296). -/
def State.todOutBytes (s : State) : List Byte :=
  let sec := s.clk.tod / secCycles + 1
  let m : List Byte := [0xC5, 0x3A, 0x01, if s.clk.todSet then 0x80 else 0x00] ++ beBytes 6 sec ++ [0, 0, 0, 0]
  m ++ beBytes 2 (crc16 m).toNat

/-- TOD_OUT sends, 500 ms after a PPS_OUT edge and once for it (R296). -/
def execTodOutMessage (s : State) : Host.Outcome State Fault Refusal :=
  match s.tim.ppsEdge with
  | some t =>
    if s.elapsed t (500 * msTicks) then .next { s with tim := { s.tim with todOut := s.todOutBytes, ppsEdge := none } } else .next s
  | none => .next s

/-! ### Commands (R287, R299) -/

/-- NOT_HOLDER on a follower (R287, R353). -/
def State.notHolder (s : State) : List (Bool × Nat × Nat) := [(s.dev.role == .follower, 0x0201, 0)]

/-- Accept a command of R287: it acts at boundary a + 1. -/
def acceptTiming (s : State) (kind i rank : Nat) (c : CmdRef) : Reply :=
  .accept { s with tim := { s.tim with cmdPend := s.tim.cmdPend ++ [(s.clk.rsn + 1, kind, i, rank, c)] } } [(i, 1, rank)]

/-- TIMING.FORCE (R287). -/
def timingForceBody (input : Nat) (c : CmdRef) (s : State) : Reply :=
  guarded ([(decide (23 < input), 0x0004, 0)] ++ s.notHolder) <| acceptTiming s 1 input 0 c

/-- TIMING.FORCE (R287). -/
def execTimingForce (e : Entry) (input : Nat) (s : State) : Host.Outcome State Fault Refusal :=
  serve (cmdOf (.timingForce e input)) e s (timingForceBody input)

/-- TIMING.MANUAL (R287). -/
def timingManualBody (input : Nat) (c : CmdRef) (s : State) : Reply :=
  guarded ([(decide (23 < input), 0x0004, 0)] ++ s.notHolder ++ [(!s.eligible input, 0x0701, 0)]) <|
    acceptTiming s 2 input 0 c

/-- TIMING.MANUAL (R287). -/
def execTimingManual (e : Entry) (input : Nat) (s : State) : Host.Outcome State Fault Refusal :=
  serve (cmdOf (.timingManual e input)) e s (timingManualBody input)

/-- TIMING.HOLDOVER (R287). -/
def timingHoldoverBody (c : CmdRef) (s : State) : Reply :=
  guarded (s.notHolder ++ [(!s.tim.histValid, 0x0702, 0)]) <| acceptTiming s 3 31 0 c

/-- TIMING.HOLDOVER (R287). -/
def execTimingHoldover (e : Entry) (s : State) : Host.Outcome State Fault Refusal :=
  serve (cmdOf (.timingHoldover e)) e s timingHoldoverBody

/-- TIMING.CLEAR (R287). -/
def timingClearBody (c : CmdRef) (s : State) : Reply := guarded s.notHolder <| acceptTiming s 4 31 0 c

/-- TIMING.CLEAR (R287). -/
def execTimingClear (e : Entry) (s : State) : Host.Outcome State Fault Refusal :=
  serve (cmdOf (.timingClear e)) e s timingClearBody

/-- TIMING.SET_QL: the rank of a REF (R281, R287). -/
def timingSetQlBody (input rank : Nat) (c : CmdRef) (s : State) : Reply :=
  guarded ([(decide (7 < input ∨ 15 < rank), 0x0004, 0)] ++ s.notHolder) <| acceptTiming s 5 input rank c

/-- TIMING.SET_QL (R287). -/
def execTimingSetQl (e : Entry) (input rank : Nat) (s : State) : Host.Outcome State Fault Refusal :=
  serve (cmdOf (.timingSetQl e input rank)) e s (timingSetQlBody input rank)

/-- TIMING.STEP: COMMIT_PENDING, NOT_HOLDER, SARED_DOWN; the step comes at a boundary, on both units of a joined pair (R299,
R303). -/
def timingStepBody (c : CmdRef) (s : State) : Reply :=
  guarded ([(s.commitPending, 0x0305, 0)] ++ s.holderChecks) <|
    acceptReserved s fun s =>
      let due := s.clk.rsn + (if s.paired then 2 else 1)
      let s := { s with tim := { s.tim with step := s.tim.step ++ [(due, some c)] } }
      if s.paired then s.forwardCmd c due (.timingStep (s.alignedAt due).1 (s.alignedAt due).2.1) else s

/-- TIMING.STEP (R299). -/
def execTimingStep (e : Entry) (s : State) : Host.Outcome State Fault Refusal :=
  serve (cmdOf (.timingStep e)) e s timingStepBody

/-- TIMING.SET_TOD: the seconds of TOD; the second begins at a row with RSN mod 390,625 = 0 (R297, R298). -/
def timingSetTodBody (seconds : Nat) (_c : CmdRef) (s : State) : Reply :=
  guarded s.notHolder <|
    let tod := seconds * secCycles + s.clk.rsn.toNat % 390625 * rowCycles
    .done { s with clk := { s.clk with tod := tod, todSet := true, estimated := false } } 0 [(0, 1, seconds)]

/-- TIMING.SET_TOD (R298). -/
def execTimingSetTod (e : Entry) (seconds : Nat) (s : State) : Host.Outcome State Fault Refusal :=
  serve (cmdOf (.timingSetTod e seconds)) e s (timingSetTodBody seconds)

end Sys2Proof.Machine
end

