-- ==== Sys2Proof/Machine/Sared.lean ====
section
/-!
DEFINITION. Machine/Sared.lean: the Sared link: the row bit by bit, its cells and messages, the alignment of its lanes, and the link
coming up and going down (R340 to R347, R360, R369).
-/
namespace Sys2Proof.Machine

/-! ### The row (R342, R343) -/

/-- The alignment word of a Sared row (R342). -/
def saredWord : List Byte := List.replicate 8 0x5C ++ List.replicate 8 0xA3

/-- Symbols of a Sared row: 25 codewords (R342). -/
def saredSymbols : Nat := 68000

/-- The header of lane k of the row sent last (R343). -/
def State.saredHeader (s : State) (k : Nat) : List Byte :=
  let h := beBytes 6 s.pair.txRsn.toNat ++ [BitVec.ofNat 8 ((if s.dev.planeB then 128 else 0) + k % 4),
    BitVec.ofNat 8 (if s.pair.txUp then 1 else 0)] ++ beBytes 4 (Config.serial.setWidth 32).toNat
  h ++ beBytes 4 (crc32c h).toNat

/-- The level indices that leave SLk in the row sent last, before the analogue line (R48, R342). -/
def State.saredLevels (s : State) (k : Nat) : List Nat :=
  let cells := (List.range 1001).flatMap fun c => beBytes 16 (Table.get 0 s.pair.txCells (4 * c + k)).toNat
  let bits := (saredWord ++ s.saredHeader k ++ cells).flatMap bitsOfByte ++ List.replicate 116 false
  grayAll (encodeWords 25 (scramble bits))

/-- A Sared row as its receiver decodes it: codeword 0 is correctable, the symbols corrected, the codewords that are uncorrectable, and
the information bytes (R55, R342). -/
structure SaredIn where
  first : Bool
  corr : List (Nat × Nat)
  unc : List Nat
  info : List Byte

/-- Decode a stretch of the line in one polarity; there is no precoding (R341, R342). -/
def saredIn (r : RawRow) (inv : Bool) : SaredIn :=
  let d := decodeWords 25 0 (rawBits r saredSymbols false inv)
  ⟨!d.unc.contains 0, d.corr, d.unc, bytesOfBits (scramble d.bits)⟩

/-- Symbols corrected and uncorrectable codewords among codewords c to d − 1 (R118, R372). -/
def SaredIn.counts (r : SaredIn) (c d : Nat) : Nat × Nat :=
  ((r.corr.filter fun x => decide (c ≤ x.1 ∧ x.1 < d)).foldl (fun n x => n + x.2) 0,
    (r.unc.filter fun x => decide (c ≤ x ∧ x < d)).length)

/-- Bytes k to k + n − 1 of a received header. -/
def SaredIn.head (r : SaredIn) (k n : Nat) : List Byte := (r.info.drop (16 + k)).take n
/-- RSN (R343). -/
def SaredIn.rsn (r : SaredIn) : Rsn := BitVec.ofNat 48 (beNat (r.head 0 6))
/-- Sender plane (R343). -/
def SaredIn.plane (r : SaredIn) : Bool := ((r.head 6 1).getD 0 0).getLsbD 7
/-- Sender lane number; bits 6–2 are reserved and ignored (R15, R343). -/
def SaredIn.lane (r : SaredIn) : Nat := ((r.head 6 1).getD 0 0).toNat % 4
/-- LINK_UP (R343). -/
def SaredIn.linkUp (r : SaredIn) : Bool := ((r.head 7 1).getD 0 0).getLsbD 0
/-- SERIAL (R343). -/
def SaredIn.serial (r : SaredIn) : Nat := beNat (r.head 8 4)
/-- The header's CRC is correct over the bytes received (R343). -/
def SaredIn.crcOk (r : SaredIn) : Bool := beNat (r.head 12 4) == (crc32c (r.head 0 12)).toNat
/-- The cells that are not empty, by cell number (R342, R344). -/
def SaredIn.cells (r : SaredIn) : Table (BitVec 128) :=
  fieldTable 0 (fun b => BitVec.ofNat 128 (beNat b)) 16 0 1001 (r.info.drop 32)

/-! ### Cells and messages (R344, R345) -/

/-- CLASS of a message (R345). The caravan store travels with the compiled records (log entry 108). -/
def classOf (m : PeerMsg) : Nat :=
  match m with
  | .lease _ | .caravanAbort => 1
  | .propose _ | .ready _ | .refuse _ | .arm _ | .abort _ | .forward _ _ => 2
  | .aps _ _ _ => 3
  | .decision _ _ | .compare _ => 4
  | .stage _ _ | .store _ _ _ => 5
  | .live _ => 6
  | .checkpoint _ => 7

/-- Bits [119:16] of a lease frame (R349). -/
def leaseBytes (f : LeaseFrame) : List Byte :=
  let b := fun (x : Bool) => if x then 1 else 0
  beBytes 13 (f.state % 8 * 2 ^ 101 + b f.primary * 2 ^ 100 + b f.plane * 2 ^ 99 + f.lseq % 256 * 2 ^ 88 + f.ackSeq % 256 * 2 ^ 80 +
    b f.ackValid * 2 ^ 79 + f.tsel % 32 * 2 ^ 74 + f.tstate % 8 * 2 ^ 71 + b f.caravanAbort * 2 ^ 70 + b f.saredUp * 2 ^ 69 +
    f.generation % 2 ^ 32 * 2 ^ 32 + f.serial.toNat)

/-- The payload of a message: a lease frame fills bytes 2–14 of one cell, an APS message 2 cells (R345, R349). The manual gives no
layout of the others (log entry 108). -/
def payloadOf (m : PeerMsg) : List Byte :=
  match m with
  | .lease f => leaseBytes f ++ [0]
  | .aps _ _ _ => padTo 28 (Config.messageBytes m)
  | _ => Config.messageBytes m

/-- A cell (R344). -/
def cellOf (cls : Nat) (first last : Bool) (seq : Nat) (payload : List Byte) : BitVec 128 :=
  BitVec.ofNat 128 (beNat ([BitVec.ofNat 8 cls,
    BitVec.ofNat 8 ((if first then 128 else 0) + (if last then 64 else 0) + seq % 64)] ++ padTo 14 payload))

/-- The cells of a payload from sequence number seq on; a message has one at least (R344). -/
def cellsFrom (cls : Nat) (first : Bool) (seq n : Nat) (bs : List Byte) : List (BitVec 128) :=
  match n with
  | 0 => []
  | m + 1 =>
    let rest := bs.drop 14
    if rest.isEmpty then [cellOf cls first true seq bs] else cellOf cls first false seq bs :: cellsFrom cls false (seq + 1) m rest

/-- The messages queued become cells that wait (R344). -/
def Pair.encode (p : Pair) : Pair :=
  let one := fun (p : Pair) (m : PeerMsg) =>
    let c := classOf m
    let bs := payloadOf m
    let seq := Table.get 0 p.outSeq c
    let xs := cellsFrom c true seq (bs.length + 1) bs
    { p with
      outCells := Table.set [] p.outCells c (Table.get [] p.outCells c ++ xs)
      outSeq := Table.set 0 p.outSeq c ((seq + xs.length) % 64) }
  { (p.out.foldl one p) with out := [] }

/-- The class that reserves position q, 0 for none: 8 groups of 152 positions spread evenly over the 4,004 of a row, which hold 4
positions of LEASE, 28 of COMMIT, 1,024 of APS and 160 of LOCKSTEP (R345); where in its group a class stands is a choice (log
entry 108). -/
def reservedFor (q : Nat) : Nat :=
  let g := 2 * q / 1001
  let k := q - (g * 1001 + 1) / 2
  if k = 0 then (if g % 2 = 0 then 1 else 2)
  else if k < 4 then 2
  else if k < 132 then 3
  else if k < 152 then 4
  else 0

/-- The class served at position q: the reserving class, else STAGE, LIVE, CKPT in that order (R345). -/
def servedAt (qs : Table (List (BitVec 128))) (q : Nat) : Option Nat :=
  [reservedFor q, 5, 6, 7].find? fun c => !(Table.get [] qs c).isEmpty

/-- Fill the positions of a row from q on, n of them left (R344, R345). -/
def fillCells (n q : Nat) (qs : Table (List (BitVec 128))) : Table (BitVec 128) × Table (List (BitVec 128)) :=
  match n with
  | 0 => ([], qs)
  | m + 1 =>
    if qs.isEmpty then ([], qs)
    else match servedAt qs q with
      | none => fillCells m (q + 1) qs
      | some c =>
        match Table.get [] qs c with
        | [] => fillCells m (q + 1) qs
        | x :: r =>
          let (t, qs) := fillCells m (q + 1) (Table.set [] qs c r)
          ((q, x) :: t, qs)

/-- Cells by class as performance events; shared is the depth of the shared classes' queues over the row (R542). -/
def State.perfCells (s : State) (event : Nat) (cells : Table (BitVec 128)) : State :=
  (List.range 7).foldl (fun s c => s.perf event (c + 1) (cells.filter fun x => x.2.toNat / 2 ^ 120 == c + 1).length) s

/-- Cells that wait in the shared classes (R345, R542). -/
def Pair.sharedDepth (p : Pair) : Nat := ([5, 6, 7].map fun c => (Table.get [] p.outCells c).length).foldl (· + ·) 0

/-- The Sared rows of the device row that ends: what was queued in it. SL0–SL3 send while LT000 is ON; what is queued while it is not is
lost (R342 to R346, R471). -/
def State.saredSend (s : State) : State :=
  if s.domain (ltOf 0) ≠ 0 then { s with pair := { s.pair with txCells := [], outCells := [], out := [] } }
  else
    let p := s.pair.encode
    let (row, left) := fillCells 4004 0 p.outCells
    ({ s with pair := { p with
      txRsn := s.clk.rsn
      txUp := p.linkUp
      txCells := row
      outCells := left } }).perfCells 0x070 row

/-- One received cell: it begins, continues or ends the message of its class (R344). A cell that continues no message is dropped. -/
def Pair.takeCell (p : Pair) (x : BitVec 128) : Pair :=
  let bs := beBytes 16 x.toNat
  let c := (bs.getD 0 0).toNat
  let f := bs.getD 1 0
  let pay := bs.drop 2
  let old := Table.find p.rxPart c
  match if f.getLsbD 7 then some [] else old with
  | none => p
  | some part =>
    if f.getLsbD 6 then { p with rxPart := Table.drop p.rxPart c, rxMsgs := p.rxMsgs ++ [(c, part ++ pay)] }
    else { p with rxPart := Table.put p.rxPart c (part ++ pay) }

/-! ### The lanes (R92 to R97, R110, R341, R342) -/

/-- One Sared lane. -/
def State.sared (s : State) (n : Nat) : SaredLane := Table.get {} s.pair.lanes n
/-- Change one Sared lane. -/
def State.modSared (s : State) (n : Nat) (f : SaredLane → SaredLane) : State :=
  { s with pair := { s.pair with lanes := Table.set {} s.pair.lanes n (f (s.sared n)) } }

/-- The polarity form of a match in HUNT, found as under AUTO (R92, R97, R341). -/
def saredForm (r : RawRow) : Option Bool :=
  let e := wordErrs r false saredWord
  if e.1 ≤ 8 then some false else if e.2 ≤ 8 then some true else none

/-- The frame check at the expected position: the locked form within 8 bits, codeword 0 correctable, the header's CRC (R93, R343). -/
def saredFrame (raw : RawRow) (inv : Bool) (r : SaredIn) : Bool :=
  let e := wordErrs raw false saredWord
  decide ((if inv then e.2 else e.1) ≤ 8) && r.first && r.crcOk

/-- A position examined outside SYNC and FLYWHEEL: a match that passes opens a candidate, in one of 8 slots (R92, R94, R95). -/
def SaredLane.examine (x : SaredLane) (raw : RawRow) : SaredLane :=
  let cands :=
    match if x.cands.length < 8 then saredForm raw else none with
    | none => x.cands
    | some inv =>
      let r := saredIn raw inv
      if saredFrame raw inv r then x.cands ++ [(raw.offset, r.rsn, inv)] else x.cands
  { x with align := if cands.isEmpty then .hunt else .confirm, cands := cands }

/-- HUNT is entered: LOF sets (R92, R110). -/
def SaredLane.enterHunt (x : SaredLane) : SaredLane :=
  { x with align := .hunt, cands := [], jump := none, syncRun := 0, lof := true }

/-- A row at the expected position is taken into SYNC; SYNC holds for the rows after the one that brings it (R110). -/
def SaredLane.inSync (x : SaredLane) (exp : Rsn) (jump : Option Rsn) : SaredLane :=
  { x with align := .sync, expRsn := exp, jump := jump, syncRun := if x.align = .sync then x.syncRun + 1 else 0 }

/-- A row missed in SYNC (R92). -/
def SaredLane.missed (x : SaredLane) : SaredLane :=
  { x with align := .flywheel, expRsn := x.expRsn + 1, jump := none, syncRun := 0 }

/-- One stretch through the alignment state machine (R92 to R96, R342). A Sared row has no row check. Answers the lane, and the decoded
row where the position examined was the confirming or the expected one. -/
def SaredLane.step (x : SaredLane) (raw : RawRow) : SaredLane × Option SaredIn :=
  match x.align with
  | .sync =>
    if raw.offset ≠ x.offset then (x, none)
    else
      let r := saredIn raw x.inv
      if !saredFrame raw x.inv r then (x.missed, some r)
      else if r.rsn = x.expRsn ∨ x.jump = some (r.rsn - 1) then (x.inSync (r.rsn + 1) none, some r)
      else if x.jump.isSome then (x.missed, some r)
      else (x.inSync (x.expRsn + 1) (some r.rsn), some r)
  | .flywheel =>
    if raw.offset ≠ x.offset then (x, none)
    else
      let r := saredIn raw x.inv
      if saredFrame raw x.inv r ∧ r.rsn = x.expRsn then (x.inSync (r.rsn + 1) none, some r)
      else (x.enterHunt.examine raw, some r)
  | .confirm =>
    match x.cands with
    | [] => (x.examine raw, none)
    | (o, n, inv) :: rest =>
      if raw.offset ≠ o then (x.examine raw, none)
      else
        let r := saredIn raw inv
        if saredFrame raw inv r ∧ r.rsn = n + 1 then
          (({ x with offset := o, inv := inv, cands := [] } : SaredLane).inSync (r.rsn + 1) none, some r)
        else (({ x with cands := rest } : SaredLane).examine raw, some r)
  | _ => if raw.signal then (x.examine raw, none) else ({ x with align := .hunt }, none)

/-- The signal of a Sared lane in device row n: rows in a row with signal present, each counted once (R110). -/
def SaredLane.signal (x : SaredLane) (present : Bool) (n : Nat) : SaredLane :=
  if !present then { x with sigRun := 0, sigRow := some n }
  else if x.sigRow = some n then x
  else { x with sigRun := x.sigRun + 1, sigRow := some n }

/-- LOS, LOF and UNC of a Sared lane after a row. LOS holds LOF and UNC clear, LOF holds UNC clear, and the integration of a defect that
was held starts anew; where LOS clears, LOF sets unless SYNC has held for 8 rows. unc: the row received in SYNC has an uncorrectable
codeword; a row in FLYWHEEL is clean (R110, R111, R113, R342). -/
def SaredLane.defects (x : SaredLane) (signal : Bool) (unc : Bool) (n : Nat) : SaredLane :=
  let x := x.signal signal n
  if !signal ∨ x.los ∧ x.sigRun < 4 then { x with los := true, lof := false, unc := false, uncRun := 0, uncOk := 0 }
  else
    let lof := (x.los || x.lof) && decide (x.syncRun < 8)
    if x.los ∨ x.lof then { x with los := false, lof := lof, unc := false, uncRun := 0, uncOk := 0 }
    else
      let bad : Nat := if unc then x.uncRun + 1 else 0
      let good : Nat := if unc then 0 else x.uncOk + 1
      { x with
        uncRun := bad
        uncOk := good
        unc := decide (2 ≤ bad) || (x.unc && decide (good < 8)) }

/-- The polarity in which the codewords of a stretch after codeword 0 are counted, as on a lane: in SYNC, FLYWHEEL and CONFIRM at the
position that the alignment implies (R118, R372). -/
def SaredLane.countsAt (x : SaredLane) (offset : Nat) : Option Bool :=
  match x.align with
  | .sync | .flywheel => if x.offset = offset then some x.inv else none
  | .confirm => match x.cands with
    | (o, _, inv) :: _ => if o = offset then some inv else none
    | [] => none
  | _ => none

/-- sared.pm_corr_sym and sared.pm_unc_cw of a stretch: codeword 0 where the position examined was the confirming or the expected one,
the others by the state that it has left; none once LOS has set (R118, R372). -/
def saredCounts (x : SaredLane) (o : Option SaredIn) (raw : RawRow) : Nat × Nat :=
  let d := countEnd x.los raw.lost 25
  let a := match o with
    | some r => r.counts 0 (min 1 d)
    | none => (0, 0)
  let b := match x.countsAt raw.offset with
    | some inv => (saredIn raw inv).counts 1 d
    | none => (0, 0)
  (a.1 + b.1, a.2 + b.2)

/-- What the header of a decoded row tells (R343, R347). -/
def State.saredHead (s : State) (x : SaredLane) (o : Option SaredIn) : SaredLane :=
  match o with
  | none => { x with hdrOk := false, hdrBad := x.hdrBad + 1, fresh := true, cells := [] }
  | some r =>
    let want := s.cur .pairPeerSerial 0
    { x with
      hdrOk := r.crcOk
      hdrBad := if r.crcOk then 0 else x.hdrBad + 1
      laneNo := r.lane
      planeOk := r.plane != s.dev.planeB
      serialOk := want == 0 || want % 2 ^ 32 == r.serial
      peerUp := r.linkUp
      fresh := true
      cells := if r.crcOk && x.align == .sync then r.cells else [] }

/-- SARED_ROW_RECEIVED: alignment, decoding, header and cells, and what the row tells of the peer (R341 to R347, R372; log entry 9). -/
def execSaredRowReceived (n : Fin 4) (row : SaredRow) (s : State) : Host.Outcome State Fault Refusal :=
  let k := n.val
  if s.domain (lrOf 0) ≠ 0 then .next s
  else
  let (x, o) := (s.sared k).step row.raw
  let unc := match o with | some r => x.align == .sync && !r.unc.isEmpty | none => false
  let x := s.saredHead (x.defects row.raw.signal unc s.rowNow) o
  let s := s.modSared k fun _ => x
  let s := { s with pair := { s.pair with bursts := row.bursts.filter fun b => b.master == 11 } }
  let n := saredCounts x o row.raw
  let s := (s.bump .saredPmCorrSym k n.1).bump .saredPmUncCw k n.2
  if x.align == .sync && x.hdrOk && x.planeOk && x.serialOk then
    .next { s with pair := { s.pair with
      peerMode := row.peerMode
      peerJoined := row.peerJoined
      peerStage := row.peerStage
      peerStore := row.peerStore } }
  else .next s

/-! ### The link (R347, R360, R369) -/

/-- The four lanes as received since the last boundary. -/
def State.saredAll (s : State) : List SaredLane := [s.sared 0, s.sared 1, s.sared 2, s.sared 3]

/-- The conditions of R347 held in the row just ended. -/
def State.saredGood (s : State) : Bool :=
  (s.saredAll.all fun x => x.fresh && x.align == Align.sync && !x.los && !x.lof && !x.unc && x.hdrOk && x.planeOk && x.serialOk) &&
    [0, 1, 2, 3].all fun k => s.saredAll.any fun x => x.laneNo == k

/-- A header of the wrong peer arrived in the row just ended (R369). -/
def State.saredWrong (s : State) : Bool :=
  s.saredAll.any fun x => x.fresh && x.hdrOk && !(x.planeOk && x.serialOk)

/-- Every lane of the row just ended told the right peer (R369). -/
def State.saredRight (s : State) : Bool := s.saredAll.all fun x => x.fresh && x.hdrOk && x.planeOk && x.serialOk

/-- Rows in a row with a wrong peer, and correct rows in a row, up to the row under way; a row without its four headers is neither
(R369). -/
def State.speerCount (s : State) : Nat × Nat :=
  if s.saredWrong then (s.pair.speerRun.1 + 1, 0) else if s.saredRight then (0, s.pair.speerRun.2 + 1) else (0, 0)

/-- The cells of the four lanes by position: the lanes are ordered by the received lane number (R344, R347). -/
def State.saredCells (s : State) : Table (BitVec 128) :=
  s.saredAll.foldl (fun t x => x.cells.foldl (fun t c => Table.put t (4 * c.1 + x.laneNo) c.2) t) []

/-- The messages of the row just ended; the cells of a link that is down are not read (R344, R369). -/
def State.saredMessages (s : State) : State :=
  if s.pair.linkUp then
    let t := s.perfCells 0x071 s.saredCells
    { t with pair := s.saredCells.foldl (fun p x => p.takeCell x.2) { s.pair with rxMsgs := [] } }
  else { s with pair := { s.pair with rxMsgs := [], rxPart := [] } }

/-- The row boundary of the link: rows in a row that meet R347; it goes down at the boundary at which a condition fails
(R347, R360, R367, R369, R372), which resets the Sared engine: its write bursts are cut (R458 to R460). -/
def State.saredBoundary (s : State) : State :=
  let good := s.saredGood
  let run := s.speerCount
  let cut := s.pair.bursts
  let s := s.saredMessages
  let clear := fun (x : SaredLane) => ({ x with fresh := false, cells := [] } : SaredLane)
  let s := { s with pair := { s.pair with
    linkRun := if good then s.pair.linkRun + 1 else 0
    speerRun := run
    bursts := []
    lanes := Table.mapVals {} (fun _ x => clear x) s.pair.lanes } }
  if s.pair.linkUp && !good then
    let s := (s.abandonCopy.dropSems fun m => m == 11).tornWrites 17 cut
    ({ s with pair := { s.pair with linkUp := false, sld := true } }).bump .pairPmSld 0 1
  else s

/-- The holder's command states, which the follower adopts when the link returns (R229, R362). -/
def State.commandStates (s : State) : List (Nat × Nat × Bool) :=
  (s.prot.groups.filter fun x => x.2.cmd != 0).map fun x => (x.1, x.2.cmd, x.2.target)

/-- The link comes up after 64 rows; SLX tells crossed lanes; the holder's command states go to the follower (R229, R347, R362,
R369). -/
def execSaredLinkUp (s : State) : Host.Outcome State Fault Refusal :=
  if s.pair.linkUp = false ∧ 64 ≤ s.pair.linkRun then
    let crossed := !((s.sared 0).laneNo == 0 && (s.sared 1).laneNo == 1 && (s.sared 2).laneNo == 2 && (s.sared 3).laneNo == 3)
    let s := { s with pair := { s.pair with linkUp := true, wasUp := true, sld := false, slx := crossed } }
    .next (if s.paired then s.tell (.forward ⟨0, 0, 0, 0xA00F, s.clk.rsn + 2⟩ (.commandState s.commandStates none)) else s)
  else .next s

end Sys2Proof.Machine
end

