-- ==== Sys2Proof/Machine/Pair.lean ====
section
/-!
DEFINITION. Machine/Pair.lean: the heartbeat, the lease and the clasp, checkpoints, takeover, forwarded commands and live copy (R348 to
R372).
-/
namespace Sys2Proof.Machine

/-! ### Acquisition and frames (R348 to R357) -/

/-- A follower may acquire: pair.enable, a mode of R43, no FAULT announcement (R354). -/
def State.canAcquire (s : State) : Bool :=
  s.dev.role == .follower && s.cur .pairEnable 0 == 1 && s.dev.mode.mayHold && !s.pair.faultAnn

/-- The straps of a frame against the unit's own (R357, R369). -/
def State.strapCheck (s : State) (f : LeaseFrame) : State :=
  if f.primary = s.dev.primary ∨ f.plane = s.dev.planeB then
    { s with pair := { s.pair with cstrap := some s.clk.tick, strapOk := none } }
  else { s with pair := { s.pair with strapOk := s.pair.strapOk <|> some s.clk.tick, strapLast := s.clk.tick } }

/-- A holder hears an acknowledgement: its lease runs to 10 ms after the sending of the frame it names (R351). The first
frame heard ends a seizure's initial lease (R354). -/
def State.leaseAck (s : State) (f : LeaseFrame) : State :=
  let p := s.pair
  let ended := if p.seized then s.clk.tick else p.leaseEnd
  let t := match (if f.ackValid then p.sent.find? fun x => x.1 == f.ackSeq else none) with
    | some (_, t) => max ended (t + 10 * msTicks)
    | none => ended
  { s with pair := { p with seized := false, leaseEnd := t } }

/-- A HOLD frame is heard: the peer's lease, the acknowledgement, the holder's timing selection, two holders (R303, R350,
R352, R356). -/
def State.holdHeard (s : State) (f : LeaseFrame) : State :=
  let s := { s with
    pair := { s.pair with holdTick := some s.clk.tick, holdSince := true, ack := some (f.lseq, s.clk.tick), cnoh := false }
    tim := { s.tim with heard := some (f.tsel, f.tstate) } }
  let s := s.sendFrame
  if s.dev.role ≠ .holder then s
  else
    let s := { s with pair := { s.pair with cdual := true } }
    if s.dev.primary = false ∨ s.pair.cstrap.isSome then (s.releaseSoon 2 none).doRelease else s

/-- The announcement rule: RELEASE or FAULT heard, or ABSENT or STANDALONE after a HOLD since the last entry into CONFIGURE
(R354, R591). -/
def State.announceHeard (s : State) (f : LeaseFrame) : State :=
  let word := f.state == 3 || f.state == 4 || ((f.state == 0 || f.state == 5) && s.pair.holdSince)
  if word && s.canAcquire && s.pair.cstrap.isNone then
    ((s.acquire (s.clk.tick + 10 * msTicks) false).journalAuto 0xA008 0 0)
  else s

/-- A lease frame is heard (R348 to R357). -/
def State.frameHeard (s : State) (path : LeasePath) (f : LeaseFrame) : State :=
  let pins := path == .clasp
  let s := { s with pair := { s.pair with
    claspTick := if pins then s.clk.tick else s.pair.claspTick
    claspRun := if pins then s.pair.claspRun + 1 else s.pair.claspRun
    peerState := f.state
    heard := true
    cdual := s.pair.cdual && f.state == 2
    cpair := if f.state = 5 ∧ s.cur .pairEnable 0 = 1 then some s.clk.tick else s.pair.cpair } }
  let s := ((s.strapCheck f).leaseAck f).learnGen f.generation
  let s := if f.caravanAbort then s.peerAbort else s
  if f.state = 2 then s.holdHeard f else s.announceHeard f

/-- CLASP_FRAME_HEARD: a frame with a correct CRC; the unit's own raises CLOOP and is ignored (R348, R350). A LEASE cell of a link that is
down, or that is not used under SPEER, is not read (R347, R369). -/
def execClaspFrameHeard (path : LeasePath) (f : LeaseFrame) (s : State) : Host.Outcome State Fault Refusal :=
  if s.pow.removed ∨ path = .sared ∧ s.pair.linkUp = false then .next s
  else if f.serial = Config.serial.setWidth 32 ∧ f.plane = s.dev.planeB then
    .next { s with pair := { s.pair with cloop := some s.clk.tick } }
  else .next (s.frameHeard path f)

/-- The lease engine sends a frame every 1 ms, in every mode, while TIM is powered (R348). -/
def execClaspFrameSend (s : State) : Host.Outcome State Fault Refusal :=
  if s.pow.removed then .next s else .next s.sendFrame

/-- The lease of a SECONDARY holder has ended: FOLLOWER at once (R351). -/
def execHolderLeaseExpiry (s : State) : Host.Outcome State Fault Refusal :=
  if s.dev.role = .holder ∧ s.dev.primary = false ∧ s.pair.seized = false ∧ s.elapsed s.pair.leaseEnd 0 = true then
    .next (s.giveUp 3)
  else .next s

/-- Silence began at the latest of the last HOLD, the entry into the mode, and the own last release or lapse (R354). -/
def State.silentSince (s : State) : Nat :=
  max (s.pair.holdTick.getD 0) (max s.pair.modeTick (s.pair.freedTick.getD 0))

/-- The silence rule, PRIMARY only (R354, R355, R591). -/
def execSilenceAcquisition (s : State) : Host.Outcome State Fault Refusal :=
  if s.canAcquire && s.pair.cstrap.isNone && s.dev.primary && s.pair.heard && s.elapsed s.silentSince (12 * msTicks) then
    .next ((s.acquire 0 false).journalAuto 0xA008 0 1)
  else .next s

/-- The 128 bits of a frame on CLASP_O: SYNC, the frame, the CRC (R349). -/
def claspBytes (f : LeaseFrame) : List Byte :=
  let b := 0xA7 :: leaseBytes f
  b ++ beBytes 2 (crc16 b).toNat

/-- The levels of CLASP_O over a frame in half bits of 50 ns: MSB first, high then low for 1, low then high for 0 (R348). -/
def manchester (bs : List Byte) : List Bool := (bs.flatMap fun b => (bitsOfByte b).reverse).flatMap fun x => [x, !x]

/-- CLASP_O in half bit k after the sending of the last frame: low once the frame has ended, and while AON holds it low (R348). -/
def State.claspLevel (s : State) (k : Nat) : Bool :=
  !s.pow.removed && (match s.pair.frames.head? with
    | some f => (manchester (claspBytes f)).getD k false
    | none => false)

/-! ### Defects (R369) -/

/-- A lease is in force as this follower sees it (R352). -/
def State.peerLease (s : State) : Bool :=
  match s.pair.holdTick with
  | some t => !s.elapsed t (10 * msTicks)
  | none => false

/-- A defect that stands since a tick clears d ticks later. -/
def State.clearAfter (s : State) (t : Option Nat) (d : Nat) : Option Nat :=
  match t with
  | some u => if s.elapsed u d then none else some u
  | none => none

/-- A pairing defect sets or clears (R369). -/
def execPairDefectIntegration (d : PairDefect) (s : State) : Host.Outcome State Fault Refusal :=
  let p := s.pair
  let put := fun (p : Pair) => (Host.Outcome.next { s with pair := p } : Host.Outcome State Fault Refusal)
  match d with
  | .sld => put { p with sld := p.sld && !p.linkUp }
  | .slx => put p
  | .speer =>
    let (bad, ok) := s.speerCount
    put { p with speer := decide (2 ≤ bad) || (p.speer && decide (ok < 64)) }
  | .cpin =>
    if s.elapsed p.claspTick (3 * msTicks) then put { p with cpin := true, claspRun := 0 }
    else put { p with cpin := p.cpin && decide (p.claspRun < 3) }
  | .cloop => put { p with cloop := s.clearAfter p.cloop (10 * msTicks) }
  | .cnoh =>
    let since := max p.followTick (match p.holdTick with | some t => t + 10 * msTicks | none => 0)
    if s.dev.role = .follower ∧ s.peerLease = false then
      put { p with cnoh := p.cnoh || s.elapsed since (12 * msTicks) }
    else put { p with cnoh := false }
  | .cdual => put { p with cdual := p.cdual && s.dev.role == .holder && p.peerState == 2 }
  | .cstrap =>
    match p.strapOk with
    | some t => if t + 10 * msTicks ≤ p.strapLast then put { p with cstrap := none } else put p
    | none => put p
  | .cpair => put { p with cpair := s.clearAfter p.cpair (10 * msTicks) }

/-! ### Checkpoints and takeover (R363, R364, R561) -/

/-- The running image. -/
def State.runImage (s : State) : Option Image :=
  match s.sec.running with
  | some 0 => s.sec.slot0.image
  | some _ => s.sec.slot1.image
  | none => none

/-- Checkpoint format of the running image (R551). -/
def State.ckptFormat (s : State) : Nat :=
  match s.runImage with | some i => i.ckptFormat | none => 0

/-- The session table of a checkpoint (R363). -/
def State.ckptSessions (s : State) : List CkptSession :=
  (List.range 8).filterMap fun k =>
    let x := s.session k
    if x.state = .opened ∨ x.state = .suspended then some ⟨x.handle, x.role, x.path, x.opened, x.last⟩ else none

/-- Long commands in progress, CMD_ID and progress: staged tables and loads that wait for the follower, and eye scans (R363, R391). -/
def State.longRunning (s : State) : List (Nat × Nat) :=
  s.com.stageWaits.map (fun x => (x.1.cmdId, x.2)) ++ s.com.loadWaits.map (fun c => (c.cmdId, 0)) ++
    s.lanes.filterMap fun x => x.2.test.scan.map fun q => (q.2.2.2.2.2.cmdId, 0)

/-- Parameters that the firmware holds and no hardware: those of classes host to fw (R363, R420; log entry 115). -/
def State.fwParams (s : State) : List (Nat × Nat) := s.par.vals.filter fun x => decide (0xD ≤ (Pn.ofNat (x.1 / 65536)).desc.cls)

/-- The parts of a checkpoint (R363). -/
def State.ckptNow (s : State) (seq : Nat) : Ckpt :=
  let d := deliveries s.shadow.conns s.shadow.cuts
  { seq := seq
    format := s.ckptFormat
    generation := s.com.gen
    rsn := s.clk.rsn
    sessions := s.ckptSessions
    jHead := s.log.jseq - s.log.jbuf.length
    jSeq := s.log.jseq
    origins := s.log.jcoal
    placed := allDunes.map fun k => (leaving d k, entering d k)
    stageOwner := s.com.owner
    stageDigest := digestOf s.com.recs
    longs := s.longRunning
    params := s.fwParams
    paramDigest := crc32c (s.par.store.flatMap fun x => leBytes 8 x.1 ++ leBytes 64 x.2) }

/-- The controller state that two checkpoints hold is the same. -/
def sameState (a b : Ckpt) : Bool := decide ({ a with seq := 0, rsn := 0 } = { b with seq := 0, rsn := 0 })

/-- Write a checkpoint into the next of 48 slots: whole, with its length and CRC, then marked valid (R363, R446). -/
def State.storeCkpt (s : State) (x : Ckpt) : State :=
  let k := (x.seq + 47) % 48
  let s := { s with pair := { s.pair with
    ckpts := Table.set {} s.pair.ckpts k
      { valid := true, len := (Config.ckptBytes x).length, crc := crc32c (Config.ckptBytes x), ck := x }
    ckptSeq := max s.pair.ckptSeq (x.seq + 1) } }
  s.lifeAdd accWear k 1

/-- The holder writes a checkpoint to its own MRAM and to the follower (R360, R363, R372). -/
def State.writeCkpt (s : State) : State :=
  let x := s.ckptNow s.pair.ckptSeq
  let s := s.storeCkpt x
  let s := { s with pair := { s.pair with ckptTick := s.clk.tick } }
  let s := s.bump .pairPmCkpt 0 1
  if s.pair.linkUp then s.tell (.checkpoint x) else s

/-- The controller state has changed since the last checkpoint written, or there is none (R363). -/
def State.ckptChanged (s : State) : Bool :=
  match Table.find s.pair.ckpts ((s.pair.ckptSeq + 46) % 48) with
  | some x => !x.valid || !sameState (s.ckptNow 0) x.ck
  | none => true

/-- CHECKPOINT_WRITE: when the controller state has changed, at most once per pair.ckpt_interval, and every 10 s; 0 disables checkpoints
(R363, R371). -/
def execCheckpointWrite (s : State) : Host.Outcome State Fault Refusal :=
  let t := s.cur .pairCkptInterval 0
  if s.dev.role = .holder ∧ s.dev.jcc = .running ∧ t ≠ 0 ∧ s.elapsed s.pair.ckptTick (t * msTicks) = true ∧
      (s.ckptChanged = true ∨ s.elapsed s.pair.ckptTick (10 * secTicks) = true) then .next s.writeCkpt
  else .next s

/-- A checkpoint of the holder reaches the follower's MRAM (R363). -/
def execCheckpointReceived (seq format : Nat) (parts : CkptParts) (s : State) : Host.Outcome State Fault Refusal :=
  if s.dev.role = .follower ∧ s.pair.linkUp = true then .next (s.storeCkpt { parts with seq := seq, format := format }) else .next s

/-- The valid slot with the highest sequence number. -/
def State.bestCkpt (s : State) : Option CkptSlot :=
  s.pair.ckpts.foldl (fun b x =>
    if !x.2.valid then b
    else match b with
      | none => some x.2
      | some y => if y.ck.seq < x.2.ck.seq then some x.2 else some y) none

/-- A restored session is SUSPENDED (R364). A slot in use by this unit's own host stays as it is. -/
def State.restoreSession (s : State) (x : CkptSession) : State :=
  let k := x.handle % 8
  if (s.session k).state = .free ∧ x.handle ≠ 0 then
    s.setSession k { state := .suspended, handle := x.handle, role := x.role, path := x.path, opened := x.opened, last := x.last,
                     lastTick := s.clk.tick, since := s.clk.tick }
  else s

/-- What a slot that is readable gives to a new holder: its sessions, the old holder's journal position, and the owner of the staged delta
that it names (R207, R363, R364). The compiler database is that of the map banks (R195). -/
def State.loadCkpt (s : State) (x : Ckpt) : State :=
  let s := x.sessions.foldl State.restoreSession s
  let mine := s.com.hasDelta && x.stageDigest == digestOf s.com.recs
  { s with
    com := { s.com with owner := if mine then x.stageOwner else s.com.owner }
    pair := { s.pair with peerJrn := (x.jHead, x.jSeq) } }

/-- The checkpoint load of a new holder ends: a readable slot is loaded, and holder commands are accepted again (R364, R404, R561). -/
def execTakeoverLoadComplete (s : State) : Host.Outcome State Fault Refusal :=
  if s.pair.takeover ∧ s.dev.role = .holder ∧ s.dev.jcc = .running then
    let low := match s.runImage with | some i => i.ckptReadMin | none => 0
    let s := match s.bestCkpt with
      | some c =>
        if low ≤ c.ck.format ∧ c.ck.format ≤ s.ckptFormat then s.loadCkpt c.ck else s
      | none => s
    let s := { s with pair := { s.pair with takeover := false } }
    .next (s.journalRestart 0 s.clk.rsn.toNat)
  else .next s

/-! ### CLASP commands (R359) -/

/-- WATCHDOG resets within the last 10 minutes have reached pair.selfdiag_wdt; 0 disables this (R358, R371). -/
def State.wdtCause (s : State) : Bool :=
  let n := s.cur .pairSelfdiagWdt 0
  n != 0 && decide (n ≤ (s.dev.wdtResets.filter fun t => !s.elapsed t (600 * secTicks)).length)

/-- A cause of R358 is present: an open record of class 0x0D, or one of the timing subsystem or the Sared engine that asked for the release; the root lost; a FATAL reset pending; watchdog resets. -/
def State.releaseCause (s : State) : Bool :=
  (s.flt.log.any fun r => r.isOpen && (r.cls == 0xD || r.action.testBit 3)) || s.dev.rootLost || s.dev.fatalHeld.isSome || s.wdtCause

/-- CLASP.RELEASE (R359). -/
def claspReleaseBody (force : Nat) (c : CmdRef) (s : State) : Reply :=
  let busy := match s.pair.release with | some (_, some _) => true | _ => false
  let unready := !s.pair.peerJoined || s.pair.peerMode == 5 || s.pair.peerState == 4
  guarded [(decide (1 < force), 0x0004, 0), (s.dev.role != .holder, 0x0201, 0), (force == 0 && unready, 0x0206, 0),
      (busy, 0x0009, 0)] <|
    acceptReserved s fun s => s.writeCkpt.releaseSoon 0 (some c)

/-- CLASP.RELEASE (R359). -/
def execClaspRelease (e : Entry) (force : Nat) (s : State) : Host.Outcome State Fault Refusal :=
  serve (cmdOf (.claspRelease e force)) e s (claspReleaseBody force)

/-- CLASP.SEIZE (R354, R357, R359). -/
def claspSeizeBody (_c : CmdRef) (s : State) : Reply :=
  guarded [(!s.dev.mode.mayHold || s.cur .pairEnable 0 != 1 || s.pair.faultAnn, 0x000B, 0),
      (s.dev.role == .holder, 0x0205, 0), (s.pair.linkUp && s.pair.peerState == 2, 0x0203, 0)] <|
    .done (s.acquire s.clk.tick true) 0 [(0, 1, 0)]

/-- CLASP.SEIZE (R359). -/
def execClaspSeize (e : Entry) (s : State) : Host.Outcome State Fault Refusal :=
  serve (cmdOf (.claspSeize e)) e s claspSeizeBody

/-- CLASP.CLEAR (R359). -/
def claspClearBody (_c : CmdRef) (s : State) : Reply :=
  guarded [(s.releaseCause, 0x0207, 0)] <|
    let t := { s with pair := { s.pair with faultAnn := false } }
    .done (if s.pair.faultAnn then t.sendFrame else t) 0 [(0, 1, 0)]

/-- CLASP.CLEAR (R359). -/
def execClaspClear (e : Entry) (s : State) : Host.Outcome State Fault Refusal :=
  serve (cmdOf (.claspClear e)) e s claspClearBody

/-- CLASP.CHECKPOINT: outside the rate limit (R359). -/
def claspCheckpointBody (_c : CmdRef) (s : State) : Reply :=
  guarded [(s.dev.role != .holder, 0x0201, 0)] <| .done s.writeCkpt 0 [(0, 1, s.pair.ckptSeq)]

/-- CLASP.CHECKPOINT (R359). -/
def execClaspCheckpoint (e : Entry) (s : State) : Host.Outcome State Fault Refusal :=
  serve (cmdOf (.claspCheckpoint e)) e s claspCheckpointBody

/-! ### Forwarded commands (R203, R204, R229, R232, R303, R405) -/

/-- The holder's head as the follower records it: PATH 2, no completion. -/
def forwardRef (h : ForwardHead) : CmdRef := ⟨255, 2, h.session, h.role, h.cmdId, h.code⟩

/-- FORWARDED_COMMAND reaches the follower: it is recorded, and it acts at its row (R229, R405). A start and a stop of the
timetable wait for their rows and are recorded there (R45, R203, R204). -/
def State.takeForward (s : State) (h : ForwardHead) (c : Forwarded) : State :=
  let r := forwardRef h
  match c with
  | .prot kind groups target =>
    (s.journalCmd r 1 (groups.headD 0) groups.length (if target then 1 else 0)).enterProt kind target groups h.row r
  | .mergeCreate a b => (s.journalCmd r 1 (min a b) 1 (max a b)).addPair a b h.row none
  | .mergeDelete l => (s.journalCmd r 1 l 1 0).endPair l h.row none
  | .timingStep _ _ => { s with pair := { s.pair with fwd := s.pair.fwd ++ [(h, c)] } }
  | .commandState _ _ => { s with pair := { s.pair with fwd := s.pair.fwd ++ [(h, c)] } }
  | .caravanStart rsn =>
    { s with com := { s.com with car := { s.com.car with
      start := some rsn
      next := 0
      pass := 0
      stop := none
      startRef := some r
      stopRef := none } } }
  | .caravanStop rsn => { s with com := { s.com with car := { s.com.car with stop := some rsn, stopRef := some r } } }

/-- FORWARDED_COMMAND (R229). -/
def execForwardedCommand (h : ForwardHead) (c : Forwarded) (s : State) : Host.Outcome State Fault Refusal :=
  if s.dev.role = .follower ∧ s.pair.linkUp = true then .next (s.takeForward h c) else .next s

/-- The holder's command states are adopted, and with them, at the end of a live copy, its selections: each that changes is counted and
journalled with the request that governs from then on (R222, R229, R241, R366, R591). -/
def State.adoptStates (s : State) (xs : List (Nat × Nat × Bool)) (alts : Option (List Nat)) : State :=
  let old := s.prot.groups
  let clear := fun (k : Nat) (g : Group) => ({ g with
    cmd := 0
    sel := (alts.map fun l => l.contains k).getD g.sel
    next := (alts.map fun l => l.contains k).getD g.next } : Group)
  let s := { s with prot := { s.prot with groups := Table.mapVals {} clear s.prot.groups } }
  let s := (alts.getD []).foldl (fun s k => s.modGroup k fun g => { g with sel := true, next := true }) s
  let s := xs.foldl (fun s x => s.modGroup x.1 fun g => { g with cmd := x.2.1, target := x.2.2 }) s
  let changed := ((old.map (·.1) ++ alts.getD []).eraseDups).filter fun k => (s.group k).sel != (Table.get {} old k).sel
  let note := fun (s : State) (k : Nat) => s.noteSwitch k (s.evalGroup k (s.group k) false).1.req (s.group k).sel none
  (changed.foldl note s).journalAuto 0xA00F 0 s.clk.rsn.toNat

/-- A forwarded step or the adoption of the holder's command states acts at its row (R229, R299, R303, R591). -/
def State.actForward (s : State) (h : ForwardHead) (c : Forwarded) : State :=
  match c with
  | .timingStep rsn tod => (s.journalCmd (forwardRef h) 1 0 1 rsn.toNat).stepTo rsn tod 0
  | .commandState xs alts => s.adoptStates xs alts
  | _ => s

/-- Forwarded commands due at this row boundary. -/
def State.forwardBoundary (s : State) : State :=
  let due := s.pair.fwd.filter fun x => rsnLe x.1.row s.clk.rsn
  let s := { s with pair := { s.pair with fwd := s.pair.fwd.filter fun x => !rsnLe x.1.row s.clk.rsn } }
  due.foldl (fun s x => s.actForward x.1 x.2) s

/-! ### Live copy (R366, R367) -/

/-- A copy runs, as either unit sees it: the follower in CONFIGURE with JOINED = 0, the link up, the holder in one of its
modes (R366). -/
def State.copyHolds (s : State) : Bool :=
  let holderMode := fun (m : Nat) => m == 2 || m == 3 || m == 4 || m == 6
  s.pair.linkUp && match s.dev.role with
    | .follower => s.dev.mode == .configure && !s.dev.joined && holderMode s.pair.peerMode
    | .holder => s.pair.peerMode == 2 && !s.pair.peerJoined && holderMode s.dev.mode.code
    | _ => false

/-- The holder's RSN of the row that begins: the own RSN once the copy has stepped it (R366). -/
def State.copyClock (s : State) : Rsn :=
  if s.dev.role = .follower ∧ (s.pair.live = none ∨ s.pair.live = some 0) then (s.sared 0).expRsn else s.clk.rsn

/-- The shadow banks hold what the copy has brought; the records that a replay of the old banks needs follow (R192, R366). -/
def State.copyBank (s : State) (b : Bank) : State :=
  let b : Bank := { b with insts := s.descriptors b.conns }
  let s := s.setShadow b
  { s with com := { s.com with entryRecs := diffRecs s.egrB b } }

/-- A follower at a superframe boundary of a copy: the time steps at the end of j = 0, the shadow banks are emptied for the
copy, and at the start of j = 3 the commit that ends the copy is prepared (R366). -/
def State.copyFollower (s : State) (j : Nat) : State :=
  let s := { s with pair := { s.pair with live := some j } }
  if j = 1 then
    let s := match s.pair.liveTime with
      | some (rsn, tod, sel) =>
        let s := { s with
          tim := { s.tim with heard := some (sel, s.tim.state.code) }
          pair := { s.pair with liveTime := none } }
        (s.journalAuto 0xA006 0 rsn.toNat).stepTo rsn tod 0
      | none => s
    let s := s.setShadow {}
    { s with com := { s.com with
      replaying := false
      staged := []
      stagedCut := []
      hasDelta := false
      owner := 0
      recs := []
      moves := [] } }
  else if j = 3 then
    let c := nextSf s.clk.rsn
    let p : PendCommit := { c := c, accepted := s.clk.rsn, armed := false, ready := false, handshake := false, proposed := false,
                            refused := none, switched := false, ref := none, copyGen := some s.pair.liveGen }
    { s with com := { s.com with pend := some p, car := { s.com.car.seek s.clk.rsn with start := s.com.car.start } } }
  else s

/-- From the start of j = 3 the follower makes the holder's timetable entries itself: they enter the banks that the copy
commits (R366). -/
def State.copyCaravan (s : State) : State :=
  match s.com.car.nextEntry, s.com.pend with
  | some (e, c), some p =>
    if s.pair.live = some 3 ∧ s.dev.role = .follower ∧ s.pair.peerMode = 4 ∧ p.copyGen.isSome = true ∧ c = s.clk.rsn + 2 ∧
        rsnLe c (p.c + 1) = true then
      let s := s.copyBank (s.shadow.writeAll e.recs)
      { s with
        com := { s.com with car := { s.com.car.advance with start := s.com.car.start <|> some s.clk.rsn } }
        pair := { s.pair with liveGen := nextGen s.pair.liveGen } }
    else s
  | _, _ => s

/-- The tributaries as a live copy brings them: number, lane, grains, RETIMED. -/
def State.tribList (s : State) : List (Nat × Nat × List Nat × Bool) :=
  (s.tribs.filter fun x => x.2.on).map fun x => (x.1, x.2.lane, x.2.grains, x.2.retimed)

/-- The parameters that a live copy carries: those of lanes, tributaries, the caravan, selectors and merge pairs (R366, R420). -/
def copiedPn (n : Pn) : Bool :=
  let c := n.desc.cls
  (c == 1 || c == 2 || c == 5 || c == 6 || c == 7) && n.desc.acc != .ro && n.desc.acc != .cnt

/-- The values of these parameters that differ from their defaults. -/
def State.copiedVals (s : State) : Table Nat := s.par.vals.filter fun x => copiedPn (Pn.ofNat (x.1 / 65536))

/-- What the holder of a copy sends as superframe j begins: its configuration and the time at which j = 0 ends, its banks and its loaded
caravan store, the records marked dirty (R366). -/
def State.copyHolder (s : State) (j : Nat) : State :=
  let s := { s with pair := { s.pair with live := some j } }
  match j with
  | 0 =>
    let s := (s.tell (.live (.params s.copiedVals))).tell (.live (.tribs s.tribList))
    let s := s.tell (.live (.merges (s.prot.merges.map fun m => (m.laneA, m.laneB))))
    let e := nextSf s.clk.rsn
    s.tell (.live (.timing e (s.clk.tod + (e - s.clk.rsn).toNat * rowCycles) s.tim.sel))
  | 1 =>
    let s := ({ s with pair := { s.pair with dirty := [] } }).tell (.live (.records (diffRecs {} s.egrB)))
    let k := s.com.car
    if k.entries.isEmpty then s else s.tell (.live (.caravan k.entries k.loopRows k.base k.next k.pass))
  | 3 => s.tell (.live (.dirty s.pair.dirty s.com.gen))
  | _ => s

/-- Two rows before a copy ends the holder sends its pointers, selections and command states, which the follower adopts as it ends
(R149, R229, R366). -/
def State.copyEnd (s : State) : State :=
  if s.dev.role = .holder ∧ s.pair.live = some 3 ∧ s.clk.rsn + 2 = nextSf s.clk.rsn then
    let ptrs := (s.tribs.filter fun x => x.2.on && x.2.retimed).map fun x => (x.1, x.2.txPtr, x.2.startAt)
    let alts := (s.prot.groups.filter fun x => x.2.sel).map (·.1)
    (s.tell (.compare ⟨s.com.gen, ptrs, []⟩)).tell (.forward ⟨0, 0, 0, 0xA00F, s.clk.rsn + 2⟩ (.commandState s.commandStates (some alts)))
  else s

/-- The row boundary of a copy: it starts, advances and is abandoned (R366, R367). -/
def State.copyBoundary (s : State) : State :=
  let due := (s.copyClock.toNat % 625 == 0)
  if !s.copyHolds then (if s.pair.live.isSome then s.abandonCopy else s)
  else if !due then s.copyCaravan.copyEnd
  else match s.pair.live, s.dev.role with
    | none, .follower => { s with pair := { s.pair with live := some 0, liveTime := none } }
    | none, _ => s.copyHolder 0
    | some 3, .follower => s
    | some 3, _ => { s with pair := { s.pair with live := none } }
    | some j, .follower => (s.copyFollower (j + 1)).copyCaravan
    | some j, _ => s.copyHolder (j + 1)

end Sys2Proof.Machine
end

