-- ==== Sys2Proof/Machine/Reset.lean ====
section
/-!
DEFINITION. Machine/Reset.lean: the resets and what they keep, the time restored after them, the boot ROM, the trial of an
image and its confirmation (R36, R38, R39, R393, R426, R443, R489 to R493, R514, R539, R552 to R558).
-/
namespace Sys2Proof.Machine

/-! ### What a reset of TIM keeps (R490, R491, R493) -/

/-- Accumulator number of log.life_resets (R544). -/
def accResets : Nat := 4

/-- The accumulators of the newest lifetime slot that is valid (R504, R544). -/
def State.newestLife (s : State) : Table Nat :=
  ((List.range 8).findSome? fun i => if i < s.log.lifeNext then Table.find s.log.lifeSlots ((s.log.lifeNext - 1 - i) % 8) else none).getD []

/-- Everything that a POR, a PIN or FATAL reset, or the removal of the supplies loses is at its reset value; what lies in
MRAM, OTP and AON, the straps, host memory and the physical failures stay (R446, R485, R493, R539, R544). por: AON is reset
too. -/
def State.cleared (s : State) (por : Bool) : State :=
  { clk := { tick := if por then 0 else s.clk.tick, free := s.clk.free }
    dev := {
      planeB := s.dev.planeB
      primary := s.dev.primary
      protSel := s.dev.protSel
      serviceEn := s.dev.serviceEn
      addr := s.dev.addr
      resetKind := s.dev.resetKind
      resetCause := s.dev.resetCause
      resetLow := s.dev.resetLow
      fatalHeld := s.dev.fatalHeld
      pinWaiting := s.dev.pinWaiting
      supplies := s.dev.supplies
      tmr := s.dev.tmr
      rootLost := s.dev.rootLost
      scan := s.dev.scan
      jcc := .off }
    host := { linkUp := s.host.linkUp, pcie := s.host.pcie, mem := s.host.mem }
    par := { store := s.par.store, storeOk := s.par.storeOk }
    pair := { ckpts := s.pair.ckpts, ckptSeq := s.pair.ckptSeq, claspTick := s.clk.tick, frames := s.pair.frames }
    pow := if por then {} else { snap := s.pow.snap, wakeCause := s.pow.wakeCause, retLost := s.pow.retLost, todUnc := s.pow.todUnc }
    flt := { next := s.flt.next, mram := s.flt.mram, lasting := s.flt.lasting }
    log := {
      jseq := s.log.jceil
      jceil := s.log.jceil
      life := s.newestLife
      lifeSlots := s.log.lifeSlots
      lifeNext := s.log.lifeNext }
    sec := { s.sec with running := none, load := none, verified := none }
    pending := s.pending }

/-- TIM takes its time from the snapshot and the ticks since (R490). Without a snapshot RSN is 0 and no TOD is set. -/
def State.restoreTime (s : State) : State :=
  match s.pow.snap with
  | none => s
  | some (rsn, tod, _, tick) =>
    let d := (s.clk.tick + 2 ^ 56 - tick % 2 ^ 56) % 2 ^ 56
    { s with
      clk := { s.clk with rsn := rsn + BitVec.ofNat 48 (d / 64), tod := tod + d * 64, todSet := true, estimated := true }
      pow := { s.pow with todUnc := min (d / 250) (2 ^ 64 - 1) } }

/-- Effective protection: cfg.protection of the parameter store, STRAP following PROT_SEL (R433, R435). -/
def State.chosenTmr (s : State) : Bool :=
  let v := if s.par.storeOk then (Table.find s.par.store (Pn.cfgProtection.key 0)).getD 0 else 0
  if v = 1 then true else if v = 2 then false else !s.dev.protSel

/-- The reset has ended: the time is restored, the reset recorded, and the boot ROM runs, in RECOVERY after the causes that
lead there (R38, R443, R491, R538, R539, R544). -/
def State.beginBoot (s : State) (kind cause : Nat) : State :=
  let s := s.restoreTime
  let recovery := kind = 2 ∧ (cause = 2 ∨ cause = 3)
  let s := { s with dev := { s.dev with
    mode := if recovery then .recovery else .boot
    jcc := .bootRom
    resetKind := kind
    resetCause := cause
    tmr := if kind = 6 then s.dev.tmr else s.chosenTmr } }
  (s.lifeAdd accResets (kind * 16 + cause) 1).journalRestart 0 s.clk.rsn.toNat

/-- A holder that a PIN reset takes out of its mode releases the clasp before it (R43). -/
def State.leaveClasp (s : State) : State := if s.dev.role = .holder then s.giveUp 0 else s

/-- A full device reset that is not held: kind 1 POR or 2 PIN (R491). While a FATAL cause or RESET_N holds the device, the boot
waits. -/
def State.fullReset (s : State) (kind cause : Nat) : State :=
  ((if kind = 2 then s.leaveClasp else s).cleared (kind == 1)).beginBoot kind cause

/-- The straps are latched (R575). -/
def State.latch (s : State) (x : Straps) : State :=
  { s with dev := { s.dev with
    planeB := x.planeB
    primary := x.primary
    protSel := x.protSel
    serviceEn := x.serviceEn
    addr := x.addr % 8 } }

/-- POWER_ON: POR, cause POWER_ON (R491). -/
def execPowerOn (straps : Straps) (s : State) : Host.Outcome State Fault Refusal :=
  let s := { s with dev := { s.dev with fatalHeld := none, pinWaiting := false, rootLost := false, supplies := true } }
  .next ((s.latch straps).fullReset 1 0)

/-- VAON_BROWNOUT: POR, cause BROWNOUT, during a held FATAL reset as well (R578, R588). -/
def execVaonBrownout (straps : Straps) (s : State) : Host.Outcome State Fault Refusal :=
  let s := { s with dev := { s.dev with fatalHeld := none, pinWaiting := false } }
  .next ((s.latch straps).fullReset 1 1)

/-- RESET_N goes low: every domain but AON is in reset; during a held FATAL reset the PIN reset waits (R491, R588). -/
def execResetNAssert (s : State) : Host.Outcome State Fault Refusal :=
  let s := { s with dev := { s.dev with resetLow := true } }
  if s.dev.fatalHeld.isSome then .next { s with dev := { s.dev with pinWaiting := true } }
  else .next (s.leaveClasp.cleared false)

/-- RESET_N rises: the straps are latched and BOOT starts, unless a FATAL cause still holds the device (R575, R588). -/
def execResetNRelease (straps : Straps) (s : State) : Host.Outcome State Fault Refusal :=
  if !s.dev.resetLow then .next s
  else
    let s := ({ s with dev := { s.dev with resetLow := false } }).latch straps
    if s.dev.fatalHeld.isSome then .next s else .next (s.beginBoot 2 0)

/-! ### FATAL resets (R491, R514, R578, R588) -/

/-- Bit of a trip in DETAIL of its record: the manual gives the record, and neither its CLASS and REGION nor this layout (R588; log entry
110). -/
def tripBit (cause : Nat) : Nat := if cause = 1 then 1 else if cause = 2 then 2 else 0

/-- The record of a trip, cause 1 THERMAL or 2 SUPPLY; CLASS and REGION are free values (R514, R515, R578; log entry 110). -/
def State.tripRecord (s : State) (cause : Nat) : State :=
  if tripBit cause = 0 then s
  else
    let act := if s.dev.role = .holder then 0x2C else 0x24
    let r : FaultRec := ⟨s.flt.next, s.clk.rsn, s.draw % 256, s.drawn.draw % 256, 3, false, act, 0, tripBit cause, 1, 0, true,
      s.clk.tick⟩
    { s.drawn.drawn with flt := { s.flt with next := s.flt.next + 1, log := (r :: s.flt.log).take 4096 } }

/-- A FATAL reset: the fault record is in MRAM, the holder announces FAULT, and the device is held while the cause persists. A further
trip enters the record of the one that holds the device (R588). -/
def State.fatal (s : State) (cause : Nat) : State :=
  match s.dev.fatalHeld with
  | some old =>
    let both := fun (r : FaultRec) => if tripBit old ≠ 0 ∧ r.fseq + 1 = s.flt.next then { r with detail := r.detail ||| tripBit cause } else r
    { s with
      dev := { s.dev with fatalHeld := some (if cause = 1 ∨ old = 1 then 1 else old) }
      flt := { s.flt with mram := s.flt.mram.map both } }
  | none =>
    let s := s.tripRecord cause
    let s := if s.dev.role = .holder then s.giveUp 1 else s
    let s := { s with flt := { s.flt with mram := (s.flt.log ++ s.flt.mram.filter fun (r : FaultRec) => !s.flt.log.any fun x => x.fseq == r.fseq).take 64 } }
    let s := s.cleared false
    { s with dev := { s.dev with fatalHeld := some cause } }

/-- The cause of a held FATAL reset has gone after this many ticks: BOOT, recorded as PIN where RESET_N was asserted
meanwhile (R578, R588). -/
def execFatalCauseClear (ticks : Nat) (s : State) : Host.Outcome State Fault Refusal :=
  match s.dev.fatalHeld with
  | none => .next s
  | some cause =>
    let pin := s.dev.pinWaiting
    let s := { s with
      clk := { s.clk with tick := s.clk.tick + ticks }
      dev := { s.dev with fatalHeld := none, pinWaiting := false, rootLost := false } }
    if s.dev.resetLow then .next s
    else .next (if pin then s.beginBoot 2 0 else s.beginBoot 6 cause)

/-! ### Resets of the Jaray complex (R36, R39, R393, R459, R491 to R493) -/

/-- A ring pair after the restart: entries not started are discarded (R393). -/
def RingPair.discard (r : RingPair) : RingPair :=
  let n := (r.sqTail + 2 ^ r.sqLog - r.sqHead) % 2 ^ r.sqLog
  { r with sqHead := r.sqTail, expSeq := (r.expSeq + n) % 2 ^ 32, outstanding := 0 }

/-- The event that names the reset and the last command accepted on each ring pair (R393, R530). -/
def State.restartEvent (s : State) (kind cause : Nat) (obj : Nat := 0) : State :=
  let seqs := fun (k n : Nat) => (List.range n).flatMap fun i => leBytes 4 (s.ringPair (k + i)).lastSeq
  let pay := leBytes 1 kind ++ leBytes 1 cause ++ List.replicate 6 0 ++ seqs 0 4 ++ seqs 4 6 ++ seqs 10 6
  s.alarmEvent 0 false false 0x1F05 obj 0 pay

/-- A DOMAIN reset of domain q, which the event ring alone reports: the event carries q (R491, R544; log entry 114). -/
def State.domainReset (s : State) (cause q : Nat) : State :=
  (s.restartEvent 5 cause q).lifeAdd accResets (5 * 16 + cause) 1

/-- The slot of an image. -/
def State.slotOf (s : State) (k : Nat) : ImageSlot := if k = 0 then s.sec.slot0 else s.sec.slot1
/-- Write a slot; its write is counted as wear (R544). -/
def State.setSlot (s : State) (k : Nat) (x : ImageSlot) : State :=
  (if k = 0 then { s with sec := { s.sec with slot0 := x } } else { s with sec := { s.sec with slot1 := x } }).lifeAdd
    accWear (5 * 256 + k) 1
/-- The slot in a state. -/
def State.slotIn (s : State) (x : SlotState) : Option Nat :=
  if s.sec.slot0.state = x then some 0 else if s.sec.slot1.state = x then some 1 else none
/-- VERSION of a slot's image. -/
def ImageSlot.version (x : ImageSlot) : Nat := match x.image with | some i => i.version | none => 0

/-- A TRIAL image fails: its slot becomes EMPTY, and a RESTART record names its VERSION (R556). -/
def State.trialFails (s : State) : State :=
  match s.slotIn .trial with
  | none => s
  | some k => (s.setSlot k {}).journalRestart (s.slotOf k).version s.clk.rsn.toNat

/-- A restart of the Jaray complex: kind 3 WARM, 4 WATCHDOG, 5 DOMAIN. Commands under way get no completion, sessions become
SUSPENDED, the engines of TIM go on (R36, R39, R393, R456, R459, R492, R493). -/
def State.jccRestart (s : State) (kind cause : Nat) (bursts : List Burst) : State :=
  let s := s.restartEvent kind cause
  let s := s.forget fun _ => true
  let s := s.suspendSessions fun _ => true
  let s := s.dropSems fun m => decide (m < 10)
  let s := s.tornWrites kind (bursts.filter fun b => decide (b.master < 10))
  let h := s.host
  let idle := fun (m : Mailbox) => if m.state = 1 then ({ m with state := 0, taken := false } : Mailbox) else m
  let s := { s with
    host := { h with
      pairs := Table.mapVals {} (fun _ p => if p.on then p.discard else p) h.pairs
      mail := Table.mapVals {} (fun _ m => idle m) h.mail
      sb := if h.sb.state = 1 then { h.sb with state := 0, taken := false } else h.sb
      unlocked := false }
    log := { s.log with filters := [], perfDefault := true }
    pow := { s.pow with dvfsJcc := 0, dvfsFac := 0, vctl := 900, dvfs := none }
    jcc := { s.jcc with remap := false, j1 := false, batch := [], batchAddr := [], busError := [] }
    sec := { s.sec with load := none }
    dev := { s.dev with
      jcc := .bootRom
      resetKind := kind
      resetCause := cause
      cands := []
      candsSet := false
      starting := none
      imageVerified := false
      rollback := false } }
  (s.lifeAdd accResets (kind * 16 + cause) 1).journalRestart 0 s.clk.rsn.toNat

/-- What a WARM or WATCHDOG reset does to the mode: TEST leads to CONFIGURE, BOOT and RECOVERY to BOOT (R39). -/
def State.modeAfterRestart (s : State) : State :=
  match s.dev.mode with
  | .test => s.autoMode .configure
  | .recovery =>
    ({ s with dev := { s.dev with mode := .boot, prevMode := .recovery } }).journalAuto 0xA00A Mode.boot.code Mode.recovery.code
  | _ => s

/-- Restarts within the last 10 minutes. -/
def State.recent (s : State) (l : List Nat) : List Nat := l.filter fun t => !s.elapsed t (600 * secTicks)

/-- The escalations of restarts: 16 of cause LOCKSTEP or WATCHDOG hold J0 and J1 in reset; pair.selfdiag_wdt WATCHDOG resets
release the clasp (R358, R514). -/
def State.countRestart (s : State) (watchdog : Bool) : State :=
  let js := s.clk.tick :: s.recent s.dev.jccResets
  let ws := if watchdog then s.clk.tick :: s.recent s.dev.wdtResets else s.recent s.dev.wdtResets
  let s := { s with dev := { s.dev with jccResets := js, wdtResets := ws } }
  let s := if 16 ≤ js.length then
      ({ s with dev := { s.dev with jcc := .held } }).bump .cfgPmFaultEscalated 0 1
    else s
  if watchdog && s.wdtCause then (if s.dev.role = .holder then s.bump .cfgPmFaultEscalated 0 1 else s).faultRelease else s

/-! ### The boot ROM (R552 to R555) -/

/-- The first check of R552 that fails: STATUS and DETAIL. -/
def State.verifyImage (s : State) (i : Image) : Option (Nat × Nat) :=
  if i.magic ≠ 0x51584657 ∨ i.format ≠ 1 ∨ i.codeLen < 16 ∨ 3145728 < i.codeLen ∨ i.codeLen % 16 ≠ 0 ∨ i.svn < i.floor ∨
      i.reservedZero = false ∨ i.code.length ≠ i.codeLen then some (0x0901, 1)
  else if 3 < i.keyIndex ∨ Config.sha384 i.rsaN ≠ Config.rsaKeyDigest i.keyIndex ∨
      Config.sha384 i.slhPk ≠ Config.slhKeyDigest i.keyIndex then some (0x0901, 2)
  else if s.sec.revoked.testBit i.keyIndex then some (0x0901, 3)
  else if Config.rsaVerify i.rsaN i.header i.rsaSig = false then some (0x0901, 4)
  else if Config.slhVerify i.slhPk i.header i.slhSig = false then some (0x0901, 5)
  else if Config.sha384 i.code ≠ i.codeDigest then some (0x0901, 6)
  else if i.svn < s.sec.counter then some (0x0902, 0)
  else none

/-- The candidates of a start, in order (R554). -/
def State.candidates (s : State) : List Nat :=
  let opt := fun (x : SlotState) => match s.slotIn x with | some k => [k] | none => []
  if (s.slotIn .trial).isSome then opt .trial ++ opt .active else opt .active ++ opt .valid

/-- No image has started: RECOVERY from BOOT; in every other mode J0 and J1 are held in reset (R38, R555). -/
def State.noImage (s : State) : State :=
  if s.dev.mode = .boot then s.autoMode .recovery
  else { s with dev := { s.dev with jcc := .held } }

/-- A candidate fails: a TRIAL slot becomes EMPTY (R554, R556). -/
def State.candFails (s : State) (k : Nat) : State :=
  let s := if (s.slotOf k).state = .trial then s.trialFails else s
  let s := { s with dev := { s.dev with starting := none } }
  if s.dev.cands.isEmpty then s.noImage else s

/-- The boot ROM finishes verifying a candidate: its code goes to working SRAM and it starts, or the next is tried (R554). -/
def execBootVerifyDone (s : State) : Host.Outcome State Fault Refusal :=
  if s.dev.jcc ≠ .bootRom ∨ s.dev.mode = .recovery ∨ s.dev.starting.isSome = true then .next s
  else
    let s := if s.dev.candsSet then s else { s with dev := { s.dev with cands := s.candidates, candsSet := true } }
    match s.dev.cands with
    | [] => .next s.noImage
    | k :: rest =>
      let s := { s with dev := { s.dev with cands := rest } }
      match (s.slotOf k).image with
      | none => .next (s.candFails k)
      | some i =>
        match s.verifyImage i with
        | some (st, _) =>
          .next (({ s with dev := { s.dev with rollback := s.dev.rollback || st == 0x0902 } }).candFails k)
        | none =>
          .next { s with
            dev := { s.dev with jcc := .starting, starting := some k, startTick := s.clk.tick, imageVerified := true }
            jcc := { s.jcc with remap := true, sram := Table.setRun 0 s.jcc.sram 0 i.code } }

/-- A candidate has not reported started within 2 s: the boot ROM takes the next one; REMAP stays (R449, R554). -/
def execFirmwareStartTimeout (s : State) : Host.Outcome State Fault Refusal :=
  match s.dev.starting with
  | none => .next s
  | some k =>
    if s.elapsed s.dev.startTick (2 * secTicks) then
      .next (({ s with dev := { s.dev with jcc := .bootRom } }).candFails k)
    else .next s

/-! ### Confirmation (R557, R558) -/

/-- Steps 2 to 4 of a confirmation: fuses, revocation, and a VALID slot that no longer verifies (R557, R558). -/
def State.finishConfirm (s : State) : State :=
  match s.sec.confirm with
  | none => s
  | some (floor, key) =>
    let s := { s with sec := { s.sec with
      counter := max s.sec.counter floor
      revoked := s.sec.revoked ||| (2 ^ key - 1)
      confirm := none } }
    match s.slotIn .valid with
    | none => s
    | some k => match (s.slotOf k).image with
      | none => s.setSlot k {}
      | some i => if (s.verifyImage i).isSome then s.setSlot k {} else s

/-- The image in slot k is confirmed, as one journalled change (R557, R591). -/
def State.confirmImage (s : State) (k : Nat) : State :=
  match (s.slotOf k).image with
  | none => s
  | some i =>
    let s := match s.slotIn .active with
      | some a => s.setSlot a { s.slotOf a with state := .valid }
      | none => s
    let s := s.setSlot k { s.slotOf k with state := .active }
    let s := { s with sec := { s.sec with confirm := some (i.floor, i.keyIndex) } }
    (s.journalAuto 0xA00E k i.version).finishConfirm

/-- fw.trial_s seconds of running end the trial (R557). -/
def execTrialConfirmation (s : State) : Host.Outcome State Fault Refusal :=
  match s.sec.running with
  | none => .next s
  | some k =>
    if s.dev.jcc = .running ∧ (s.slotOf k).state = .trial ∧ s.sec.trialS ≠ 0 ∧
        s.elapsed s.sec.trialTick (s.sec.trialS * secTicks) = true then .next (s.confirmImage k)
    else .next s

/-! ### The parameter store and the start of the firmware (R426, R554) -/

/-- The lanes whose directions are enabled by their parameters start (R311). -/
def State.startLanes (s : State) : State :=
  let on := fun (n : Pn) => (s.par.vals.filter fun (x : Nat × Nat) => x.1 / 65536 == n.ctorIdx && x.2 != 0).map fun (x : Nat × Nat) => x.1 % 65536
  let s := (on .laneTxEnable).foldl (fun s l => if (s.lane l).txOn then s else s.laneTxOn l) s
  (on .laneRxEnable).foldl (fun s l => if (s.lane l).rxOn then s else s.laneRxOn l) s

/-- The store is applied over the defaults, except for the parameters that keep their values; a store whose CRC-32C fails is
not applied, and an event reports it (R426). -/
def State.applyStore (s : State) (keeps : Nat → Bool) : State :=
  let kept : Table Nat := s.par.vals.filter fun (x : Nat × Nat) => keeps x.1
  let new : Table Nat := if s.par.storeOk then s.par.store.filter fun (x : Nat × Nat) => !keeps x.1 else []
  let s := { s with par := { s.par with
    vals := new.foldl (fun (t : Table Nat) (x : Nat × Nat) => Table.put t x.1 x.2) kept
    late := []
    buffered := []
    enWrite := [] } }
  let s := if s.par.storeOk then s else s.info 0x2007 0 0
  s.startLanes

/-- The firmware reports started and self-test passed: the Jaray complex takes commands; from BOOT the store is applied and the
mode becomes CONFIGURE; J0 releases J1 by a register write of its own (R38, R426, R443, R540, R554, R557, R558). -/
def execFirmwareStarted (s : State) : Host.Outcome State Fault Refusal :=
  match s.dev.starting with
  | none => .next s
  | some k =>
    let fresh := s.sec.running ≠ some k ∨ s.dev.mode = .boot ∨ s.dev.resetKind ≠ 3 ∨ s.dev.resetCause = 1
    let s := s.finishConfirm
    let s := { s with
      dev := { s.dev with jcc := .running, starting := none, cands := [], candsSet := false }
      sec := { s.sec with running := some k, trialTick := if fresh then s.clk.tick else s.sec.trialTick } }
    let s := if (s.slotOf k).state = .trial ∧ s.sec.trialS = 0 then s.confirmImage k else s
    let s := if s.log.perfDefault then s.defaultPerf else s
    .next (if s.dev.mode = .boot then (s.applyStore fun _ => false).autoMode .configure else s)

/-! ### Commands and events that reset (R38, R492) -/

/-- FW.RECOVER: the change to RECOVERY at the second row boundary; a holder releases the clasp before it; outside CONFIGURE to MAINTAIN
only the sideband in BOOT (R33, R34, R38, R43, R408). -/
def fwRecoverBody (c : CmdRef) (s : State) : Reply :=
  guarded (s.modeChecks true) <| acceptMode s c .recovery true

/-- FW.RECOVER (R38). -/
def execFwRecover (e : Entry) (s : State) : Host.Outcome State Fault Refusal :=
  serve (cmdOf (.fwRecover e)) e s fwRecoverBody

/-- A mode change takes effect at its row boundary: it is journalled with its origin, and its completion is posted; an autonomous change
at the same boundary goes before it (R33, R36 to R38). The entry into QUIESCENT has been journalled and completed at its acceptance
(R482). The change into RECOVERY is a PIN reset, cause FW_RECOVER, with which the journal buffer is lost (R491, R539). Before that
boundary nothing happens. -/
def execModeChangeEffect (s : State) : Host.Outcome State Fault Refusal :=
  match s.autoDue, s.dev.pend with
  | some (m, c), _ => .next (s.autoModeBy m c)
  | none, none => .next s
  | none, some p =>
    if rsnLe p.due s.clk.rsn = false then .next s
    else
      let old := s.dev.mode
      let t := { s with dev := { s.dev with pend := none } }
      if p.target = .recovery then
        let t := match p.ref with | some c => t.unreserve.journalCmd c 1 p.target.code 1 old.code | none => t
        .next (t.fullReset 2 3)
      else
        let t := t.enterMode p.target
        match p.ref with
        | some c => .next (t.effectOf c p.target.code 1 old.code)
        | none => .next t

end Sys2Proof.Machine
end

