-- ==== Sys2Proof/Machine/Power.lean ====
section
/-!
DEFINITION. Machine/Power.lean: power domains, the sleep handshake, QUIESCENT and its wake, removed supplies, DVFS (R471 to
R498), POWER.MODE (R32, R38).
-/
namespace Sys2Proof.Machine

/-! ### Refusal conditions (R480) -/

/-- The lanes of an octet domain's code. -/
def octetLanes (q : Nat) : List Nat := (List.range 8).map fun k => (if 76 ≤ q then q - 76 else q - 12) * 8 + k

/-- The connections and cut inputs of both banks involve a lane that p (as a source) or d (as a destination) selects. -/
def State.carries (s : State) (p d : Nat → Bool) (cut : Nat → Bool) : Bool :=
  let f := fun (b : Bank) =>
    (b.conns.any fun x => d (x.1 / 4096) || p (x.2.pri / 4096) ||
      (match x.2.alt with | some (a, _) => p (a / 4096) | none => false)) ||
    b.cuts.any fun x => p (x.2 / 4096) || cut (x.1 / 8192)
  f s.sw.bank0 || f s.sw.bank1

/-- A test is in force on a lane (R480). -/
def State.testActive (s : State) (l : Nat) : Bool :=
  let t := (s.lane l).test
  t.loop != 0 || s.cur .lanePrbsTx l != 0 || s.cur .lanePrbsRx l != 0 || t.injRows != 0 || t.scan.isSome

/-- The lane's octet of a direction is named in a request. -/
def inRequest (es : List DomainEntry) (q : Nat) : Bool := es.any fun e => e.domain == q

/-- The reason for which domain q refuses to be lowered to a target, with all: the entry into QUIESCENT leaves out the conditions
that R480 does not check there; 0 none. -/
def State.refusal (s : State) (quiescent : Bool) (es : List DomainEntry) (q target : Nat) : Nat :=
  let no := fun (_ : Nat) => false
  let pairOn := s.cur .pairEnable 0 == 1
  if 76 ≤ q then
    let ls := octetLanes q
    let here := fun l => ls.contains l
    let ref := (List.range 16).any fun i => s.cur .timingRefEnable (i + 8) == 1 && here (s.cur .timingLrefLane (i + 8))
    if !quiescent && s.carries here no no then 1
    else if !quiescent && q == 76 && pairOn then 7
    else if !quiescent && ref then 8
    else if ls.any s.testActive then 0xA
    else 0
  else if 12 ≤ q then
    let ls := octetLanes q
    let here := fun l => ls.contains l
    if !quiescent && s.carries no here no then 1
    else if !quiescent && q == 12 && pairOn then 7
    else if ls.any s.testActive then 0xA
    else 0
  else if 4 ≤ q then
    let here := fun l => l / 64 == q - 4
    let cutHere := fun d => d / 8 == q - 4
    let lanes := (s.par.vals.filter fun (x : Nat × Nat) =>
      x.2 != 0 && here (x.1 % 65536) &&
        ((x.1 / 65536 == Pn.laneTxEnable.ctorIdx && !inRequest es (ltOf (x.1 % 65536))) ||
         (x.1 / 65536 == Pn.laneRxEnable.ctorIdx && !inRequest es (lrOf (x.1 % 65536)))))
    let config := (s.tribs.any fun t => t.2.on && here t.2.lane) || (s.prot.merges.any fun m => here m.low) ||
      (s.obs.cuts.any fun c => c.2.on && cutHere c.1)
    if quiescent then 0
    else if s.carries here here cutHere then 1
    else if !lanes.isEmpty then 2
    else if s.tribs.any fun t => t.2.on && t.2.retimed then 3
    else if q == 4 && target == 2 && !s.com.car.entries.isEmpty then 9
    else if target == 2 && config then 0xC
    else 0
  else if q = 3 then
    if s.cur .facetEnable 0 = 1 ∨ ((List.range 64).any fun d => s.cur .cutEnable d == 1) = true then 4 else 0
  else
    if s.com.hasDelta ∨ s.com.pend.isSome = true ∨ s.com.replaying = true then 5
    else if s.dev.role = .holder then 6
    else if s.longWaits then 0xB
    else 0

/-! ### Stopping and restarting domains (R476 to R479) -/

/-- A domain stops (R478): it is in transition. -/
def State.stopDomain (s : State) (q : Nat) : State :=
  let s := if 76 ≤ q then (octetLanes q).foldl State.laneRxOff s
    else if 12 ≤ q then (octetLanes q).foldl State.laneTxOff s
    else s
  s.setDomain q 3

/-- The lane directions of an octet that are enabled start again; with LR000 the receivers of SL0–SL3 enter HUNT (R311, R471, R476,
R479). -/
def State.restartOctet (s : State) (q : Nat) : State :=
  let s := if q = 76 then { s with pair := { s.pair with lanes := [] } } else s
  if 76 ≤ q then (octetLanes q).foldl (fun s l => if s.cur .laneRxEnable l = 1 then s.laneRxOn l else s) s
  else if 12 ≤ q then (octetLanes q).foldl (fun s l => if s.cur .laneTxEnable l = 1 then s.laneTxOn l else s) s
  else s

/-- A stopped domain returns to the state it had: q × 4 plus the state (R479). -/
def State.unstop (s : State) (x : Nat) : State :=
  let s := s.setDomain (x / 4) (x % 4)
  if x % 4 = 0 then s.restartOctet (x / 4) else s

/-- The order of the quiesce phase: LR, LT, FAC, CS7 to CS0, JCC (R477). -/
def quiesceOrder : List Nat :=
  (List.range 64).map (· + 76) ++ (List.range 64).map (· + 12) ++ [3, 11, 10, 9, 8, 7, 6, 5, 4, 2]

/-- The request ends: every domain stopped in it restarts in the reverse order; SLEEP_REFUSED names the refusing domain (R479,
R496, R498). -/
def State.rollBack (s : State) (r : SleepReq) (q reason : Nat) (posted : Bool) : State :=
  let s := r.stopped.reverse.foldl State.unstop s
  let s := { s with pow := { s.pow with sleep := none, lastSleep := (0x000F, q, reason, r.stopped.length) } }
  let s := s.bump .powerPmSleepRefused 0 1
  let idx := if r.quiescent then 0xFFFFFFFF else (r.entries.findIdx? fun e => e.domain == q).getD 0xFFFFFFFF
  match r.ref with
  | none => s
  | some c => if posted then s.unreserve.complete c 0x000F idx (q + reason * 256) false else s.unreserve

/-- Target state of a domain in the QUIESCENT set, as the parameters stand when the request begins (R41, R481, R495). -/
def State.quietTarget (s : State) (q : Nat) : Nat :=
  if 12 ≤ q then 2
  else if 4 ≤ q then s.cur .powerQStripes 0 + 1
  else if q = 3 then s.cur .powerQFac 0 + 1
  else s.cur .powerQJcc 0 + 1

/-- Target state of a domain in a request. -/
def SleepReq.targetOf (r : SleepReq) (q : Nat) : Nat :=
  match r.entries.find? fun e => e.domain == q with
  | some e => e.target
  | none => 0

/-- Every domain has accepted. A POWER.DOMAIN request goes to phase 2. The entry into QUIESCENT is accepted: it is journalled
and completed, sessions close, each with its record, and rings are deleted, and the mode changes at the second row boundary (R410, R477, R482). -/
def State.allAccept (s : State) (r : SleepReq) : State :=
  let s := { s with pow := { s.pow with sleep := some { r with accepted := true, due := s.clk.rsn + 2, ref := if r.quiescent then none else r.ref } } }
  if !r.quiescent then s
  else
    let s := match r.ref with | some c => s.effectOf c 7 1 s.dev.mode.code | none => s
    let s := { s with dev := { s.dev with pend := some ⟨.quiescent, s.clk.rsn + 2, none⟩ } }
    let s := ((List.range 8).foldl (fun s k => if (s.session k).handle = 0 then s else s.closeSession k (internalRef 0x0F01)) s).lifeSlot.forget
      fun _ => true
    let s := s.freeMail fun _ _ => true
    { s with host := { s.host with sessions := [], pairs := [], evt := {}, jrn := {}, fac := {}, authFails := [], authBar := [] } }

/-- One domain answers the sequencer: it refuses, or stops and accepts (R477, R479, R480). -/
def State.answer1 (s : State) (r : SleepReq) (timeout : Bool) : State :=
  match r.todo with
  | [] => s
  | q :: rest =>
    let reason := if timeout then 0x0D else s.refusal r.quiescent r.entries q (r.targetOf q)
    if reason ≠ 0 then s.rollBack r q reason true
    else
      let old := s.domain q
      let s := s.stopDomain q
      let r := { r with todo := rest, stopped := r.stopped ++ [q * 4 + old], tick := s.clk.tick }
      let s := { s with pow := { s.pow with sleep := some r } }
      if rest.isEmpty then s.allAccept r else s

/-- DOMAIN_QUIESCE_ANSWER (R477). -/
def execDomainQuiesceAnswer (s : State) : Host.Outcome State Fault Refusal :=
  match s.pow.sleep with
  | some r => if r.accepted then .next s else .next (s.answer1 r false)
  | none => .next s

/-- QUIESCE_TIMEOUT: no answer within 1 ms (R477). -/
def execQuiesceTimeout (s : State) : Host.Outcome State Fault Refusal :=
  match s.pow.sleep with
  | some r => if r.accepted = false ∧ s.elapsed r.tick msTicks = true then .next (s.answer1 r true) else .next s
  | none => .next s

/-- A sleep request reaches phase 1 (R475, R477, R498). -/
def State.beginSleep (s : State) (quiescent : Bool) (es : List DomainEntry) (c : CmdRef) : State :=
  let es := if quiescent then quiesceOrder.map fun q => ⟨q, s.quietTarget q⟩ else es
  let r : SleepReq := { quiescent := quiescent, entries := es, todo := [], stopped := [], accepted := false, due := s.clk.rsn,
                        tick := s.clk.tick, ref := some c }
  let lower := fun q =>
    if quiescent then decide (s.domain q < s.quietTarget q ∨ q = 2) else es.any fun e => e.domain == q && s.domain q != e.target
  let r := { r with todo := quiesceOrder.filter lower }
  ({ s with pow := { s.pow with sleep := some r, lastSleep := (0, 0, 0, 0) } }).bump .powerPmSleepRequests 0 1

/-! ### POWER.MODE (R32, R38) -/

/-- POWER.MODE with the argument QUIESCENT: the sleep handshake runs (R38, R481). -/
def quiescentBody (c : CmdRef) (s : State) : Reply :=
  guarded (s.modeChecks (modeFrom s.dev.mode .quiescent) ++ s.commitBars) <|
    acceptReserved s fun s => s.beginSleep true [] c

/-- POWER.MODE (R32). -/
def powerModeBody (mode : Nat) (c : CmdRef) (s : State) : Reply :=
  match mode with
  | 2 => configureBody c s
  | 3 => transportBody c s
  | 7 => quiescentBody c s
  | _ => .refuse 0x0004

/-- POWER.MODE (R32). -/
def execPowerMode (e : Entry) (mode : Nat) (s : State) : Host.Outcome State Fault Refusal :=
  serve (cmdOf (.powerMode e mode)) e s (powerModeBody mode)

/-! ### POWER.DOMAIN (R475, R476) -/

/-- INVALID_FIELD of a whole request (R475). -/
def State.domainBad (s : State) (es : List DomainEntry) : Bool :=
  namedTwice (es.map (·.domain)) ||
  (es.any fun e => e.domain < 2 && e.target != 0) || (es.any fun e => e.domain == 2) ||
  (es.any fun e => s.domain e.domain == 2 && e.target == 1) ||
  ((es.any fun e => e.target == 0) && es.any fun e => e.target != 0)

/-- Order of a wake: CS0–CS7, FAC, LR, LT (R476). -/
def wakeOrder : List Nat := [4, 5, 6, 7, 8, 9, 10, 11, 3] ++ (List.range 64).map (· + 76) ++ (List.range 64).map (· + 12)

/-- POWER.DOMAIN (R475). -/
def powerDomainBody (b : Buf) (count : Nat) (entries : List DomainEntry) (c : CmdRef) (s : State) : Reply :=
  let es := entries.take count
  let act := es.filter fun e => s.domain e.domain != e.target
  if count = 0 then .noop true
  else
    guarded [(b.len == 0, 0x0003, 0), (decide (140 < count ∨ b.len < 2 * count), 0x0004, 0)] <|
    checkItems es (fun e => decide (139 < e.domain ∨ 2 < e.target)) 0x0004 <|
    guarded [(s.domainBad es, 0x0005, 0), (!s.bufRead b (2 * count), 0x0007, s.readDetail b (2 * count)),
        (s.powerBusy || s.modePending, 0x0009, 0)] <|
    if act.isEmpty then .done s 0 [(0, count, 0)]
    else acceptReserved s fun u =>
      if act.all fun e => e.target == 0 then
        let s := act.foldl (fun s e => s.setDomain e.domain 3) u
        let off := (act.map (·.domain)).filter fun q => u.domain q == 2
        { s with pow := { s.pow with wake := some ⟨act.map (·.domain), s.clk.tick, some c, off⟩ } }
      else u.beginSleep false es c

/-- POWER.DOMAIN (R475). -/
def execPowerDomain (e : Entry) (b : Buf) (count : Nat) (entries : List DomainEntry) (s : State) :
    Host.Outcome State Fault Refusal :=
  serve (cmdOf (.powerDomain e b count entries)) e s (powerDomainBody b count entries)

/-- Domains reach ON; enabled lane directions restart (R476). -/
def State.wakeDomains (s : State) (p : Nat → Bool) : State :=
  (wakeOrder.filter p).foldl (fun s q => (s.setDomain q 0).restartOctet q) s

/-- DOMAIN_WAKE_DONE: the woken domains are ON, those that were OFF through a DOMAIN reset, and the request completes (R472, R476,
R491). -/
def execDomainWakeDone (s : State) : Host.Outcome State Fault Refusal :=
  match s.pow.wake with
  | none => .next s
  | some w =>
    let s := (wakeOrder.filter fun q => w.off.contains q).foldl (fun s q => s.domainReset 0 q) s
    let s := s.wakeDomains fun q => w.domains.contains q
    let s := { s with pow := { s.pow with wake := none } }
    match w.ref with
    | some c => .next (s.effectOf c 0 w.domains.length 0)
    | none => .next s

/-! ### Phase 2 and QUIESCENT (R410, R472, R477, R481 to R484, R493) -/

/-- What the stripes lose when they leave OFF or lose their markers: maps, selectors, tributaries, merge pairs, the caravan store
and the generation (R472, R484). -/
def State.mapsLost (s : State) : State :=
  { s with
    sw := {}
    tribs := []
    prot := {}
    com := {} }

/-- The class of a parameter key's domain: 0 lane, 1 stripe, 2 FAC, 3 TIM, 4 JCC. -/
def keyDomain (key : Nat) : Nat :=
  let c := key / 65536
  let inRange := fun (a b : Pn) => decide (a.ctorIdx ≤ c ∧ c ≤ b.ctorIdx)
  if c ≤ Pn.lanePmCwHist16.ctorIdx then 0
  else if inRange .tribTraceText .dunePmMoves || inRange .protRevertive .mergePmDiffer then 1
  else if inRange .facetEnable .cutPmAisRows then 2
  else if inRange .mapGeneration .mapPmLag || inRange .timingRefEnable .timingPmTodBad || inRange .pairEnable .saredPmUncCw then 3
  else 4

/-- A stripe is OFF: its retention marker is gone, and with one marker all maps (R484). -/
def State.stripeOff (s : State) : Bool := (List.range 8).any fun k => s.domain (4 + k) == 2

/-- Domain state of a parameter key's domain, as the QUIESCENT set stands. -/
def State.keyState (s : State) (key : Nat) : Nat :=
  match keyDomain key with
  | 0 => s.domain 12
  | 1 => if s.stripeOff then 2 else s.domain 4
  | 2 => s.domain 3
  | 3 => 0
  | _ => s.domain 2

/-- A count's key belongs to a domain: lanes to their LR octet, dunes and merge pairs to their stripe, facet and cut stages to FAC
(R471). -/
def keyOf (q key : Nat) : Bool :=
  let obj := key % 65536
  let inRange := fun (a b : Pn) => decide (a.ctorIdx ≤ key / 65536 ∧ key / 65536 ≤ b.ctorIdx)
  if 76 ≤ q then keyDomain key == 0 && (octetLanes q).contains obj
  else if 12 ≤ q then false
  else if 4 ≤ q then
    (inRange .dunePmMsrWords .dunePmMoves && obj / 8 == q - 4) || (inRange .mergePreferred .mergePmDiffer && obj / 64 == q - 4)
  else q == 3 && keyDomain key == 2

/-- A lane of an LR octet that is OFF: the receive side keeps nothing (R472). -/
def Lane.rxLost (x : Lane) : Lane :=
  { ({} : Lane) with
    txOn := x.txOn
    txSending := x.txSending
    txFirst := x.txFirst
    txTick := x.txTick
    rdiTx := x.rdiTx
    rdiWas := x.rdiWas
    traceTx := x.traceTx
    bipTx := x.bipTx
    bipSent := x.bipSent
    txCrc := x.txCrc
    precode := x.precode
    tx := x.tx
    mgmtTx := x.mgmtTx
    hdlcTx := x.hdlcTx
    wireTx := x.wireTx
    test := x.test.reseed
    apsQ := x.apsQ
    apsRot := x.apsRot
    apsFor := x.apsFor }

/-- A lane of an LT octet that is OFF: the transmit side keeps nothing (R472). -/
def Lane.txLost (x : Lane) : Lane :=
  { x with
    txFirst := true
    txTick := 0
    traceTx := []
    bipTx := []
    bipSent := []
    txCrc := 0
    precode := 0
    tx := {}
    mgmtTx := ([], [])
    hdlcTx := ([], [])
    wireTx := 0 }

/-- A domain that POWER.DOMAIN has put OFF keeps nothing: counts and snapshots, the state of its lanes, dunes or observation units, the
damage in its memories (R472). Parameters and maps are written by the firmware; no connection is left there (R480). -/
def State.domainLost (s : State) (q : Nat) : State :=
  let s := { s with par := { s.par with
    counts := Table.keep (fun k _ => !keyOf q k) s.par.counts
    prev := Table.keep (fun k _ => !keyOf q k) s.par.prev } }
  if 76 ≤ q then (octetLanes q).foldl (fun s l => s.modLane l Lane.rxLost) s
  else if 12 ≤ q then (octetLanes q).foldl (fun s l => s.modLane l Lane.txLost) s
  else if 4 ≤ q then
    let out := fun (x : Nat × Nat × Nat) => x.2.1 / 8 != q - 4
    { s with
      sw := { s.sw with dunes := s.sw.dunes.filter fun x => x.1 / 8 != q - 4 }
      com := { s.com with shadowBad := s.com.shadowBad.filter out, shadowSoft := s.com.shadowSoft.filter out }
      flt := { s.flt with mapNew := s.flt.mapNew.filter out, dataBad := s.flt.dataBad.filter fun x => x.1 / 64 != q - 4 } }
  else if q = 3 then { s with obs := {} }
  else s

/-- The host interface in QUIESCENT (R410, R493). -/
def HostIf.quiet (h : HostIf) : HostIf := { linkUp := h.linkUp, pcie := h.pcie, mem := h.mem, heartbeat := h.heartbeat, tjMax := h.tjMax }

/-- Counts and snapshots of domains OFF are lost (R493). -/
def State.quietCounts (s : State) : Params :=
  { s.par with
    counts := Table.keep (fun k _ => s.keyState k != 2) s.par.counts
    prev := Table.keep (fun k _ => s.keyState k != 2) s.par.prev }

/-- The domains that stopped reach their targets (R477). -/
def State.lower1 (s : State) (r : SleepReq) (q : Nat) : State :=
  let t := r.targetOf q
  if s.domain q = 3 then s.setDomain q t else s

/-- Every stopped domain at its target. -/
def State.lowerAll (s : State) (r : SleepReq) : State := quiesceOrder.foldl (fun s q => s.lower1 r q) s

/-- What the entry into QUIESCENT leaves of observation, lanes, counts and the host interface (R410, R493). -/
def State.quietData (s : State) : State :=
  { s with
    lanes := []
    par := s.quietCounts
    obs := {}
    host := s.host.quiet }

/-- Phase 2 of the entry into QUIESCENT: every domain at its target; what lies in domains OFF is lost, with JCC the fault log in working
SRAM, and outputs of observation are off (R41, R481, R482, R493, R517). -/
def State.enterQuiet (s : State) (r : SleepReq) : State :=
  let s := (s.lowerAll r).quietData
  let run : JccRun := if s.domain 2 = 1 then .retained else .off
  let s := { s with
    flt := { s.flt with log := if run = JccRun.off then [] else s.flt.log }
    log := { s.log with filters := [], perfDefault := true }
    dev := { s.dev with jcc := run }
    pow := { s.pow with sleep := none, dvfsJcc := 0, dvfsFac := 0, vctl := 900, markersLost := [] } }
  if s.stripeOff then s.mapsLost else s

/-- A wake begins: the cause is recorded and WAKING set; the Jaray complex starts from the boot ROM, or from where it stopped
(R407, R483, R484, R498). -/
def State.beginWake (s : State) (cause : Nat) : State :=
  if s.dev.mode ≠ .quiescent ∨ s.pow.waking = true then s
  else if s.pow.removed ∨ s.pow.sleep.isSome = true then { s with pow := { s.pow with wakeHeld := some cause } }
  else
    let lost := s.stripeOff = true ∨ s.pow.markersLost ≠ []
    let retained := s.domain 2 == 1
    let s := { s with pow := { s.pow with waking := true, wakeCause := cause, retLost := decide (lost), wakeHeld := none } }
    let s := s.bump .powerPmWakes 0 1
    let s := if lost then s.mapsLost.info 0x200A 0 0 else s
    let code := match s.runImage with | some i => i.codeLen | none => 0
    let digest := match s.runImage with | some i => i.codeDigest | none => 0
    let good := retained && Config.sha384 (Table.getRun 0 s.jcc.sram 0 code) == digest
    if good then { s with dev := { s.dev with jcc := .running } }
    else
      let s := { s with
        dev := { s.dev with
          jcc := .bootRom
          resetKind := 5
          resetCause := if cause = 4 then 2 else 1
          cands := []
          candsSet := false
          starting := none
          imageVerified := false
          rollback := false }
        jcc := {} }
      s.lifeAdd accResets (5 * 16 + if cause = 4 then 2 else 1) 1

/-- POWER_ACTION_DONE: phase 2 ends. A wake source seen meanwhile starts the wake (R477, R494, R496). -/
def execPowerActionDone (s : State) : Host.Outcome State Fault Refusal :=
  match s.pow.sleep with
  | none => .next s
  | some r =>
    if !r.accepted then .next s
    else if r.quiescent then
      if s.dev.mode = .quiescent then
        let s := s.enterQuiet r
        match s.pow.wakeHeld with
        | some w => .next (s.beginWake w)
        | none => .next s
      else .next s
    else
      let lost := fun (s : State) (e : DomainEntry) => if e.target = 2 ∧ s.domain e.domain ≠ 2 then s.domainLost e.domain else s
      let s := r.entries.foldl (fun s e => (lost s e).setDomain e.domain e.target) s
      let s := { s with pow := { s.pow with sleep := none } }
      match r.ref with
      | some c => .next (s.effectOf c 0 r.stopped.length 0)
      | none => .next s

/-- WAKE_COMPLETE: step 5 of R483. Domains that leave OFF do so through a DOMAIN reset; the store is applied, except in domains that were
retained; the mode becomes CONFIGURE, and a RESTART record is written (R491). -/
def execWakeComplete (s : State) : Host.Outcome State Fault Refusal :=
  if s.pow.waking = true ∧ s.dev.jcc = .running then
    let kept := fun (key : Nat) => s.keyState key == 1
    let off := wakeOrder.filter fun q => s.domain q == 2
    let s := off.foldl (fun s q => s.domainReset (if s.pow.wakeCause = 4 then 2 else 1) q) s
    let s := quiesceOrder.foldl (fun s q => s.setDomain q 0) s
    let s := s.applyStore kept
    let s := if s.log.perfDefault then s.defaultPerf else s
    let s := { s with pow := { s.pow with waking := false, markersLost := [] } }
    .next ((s.autoMode .configure).journalRestart 0 s.clk.rsn.toNat)
  else .next s

/-- I2C_ADDRESS_MATCH: in QUIESCENT it starts the wake; otherwise nothing (R409, R483). -/
def execI2cAddressMatch (s : State) : Host.Outcome State Fault Refusal := .next (s.beginWake 1)

/-- The WAKE transaction does nothing further outside QUIESCENT; there its address has started the wake (R406, R409). -/
def execI2cWake (s : State) : Host.Outcome State Fault Refusal := .next (s.beginWake 1)

/-- PERST_N is released: the endpoint leaves reset; it wakes the device from QUIESCENT (R376, R483). -/
def execPerstNDeassert (s : State) : Host.Outcome State Fault Refusal :=
  .next (({ s with host := { s.host with linkUp := true } }).linkTrains.beginWake 2)

/-- power.wake_timer has run since the entry into QUIESCENT; 0 disables it (R483). -/
def execWakeTimerExpiry (s : State) : Host.Outcome State Fault Refusal :=
  let t := s.cur .powerWakeTimer 0
  if s.dev.mode = .quiescent ∧ t ≠ 0 ∧ s.elapsed s.pow.quietTick (t * secTicks) = true then
    .next (s.beginWake 3)
  else .next s

/-! ### Removing supplies (R485, R490, R494, R578) -/

/-- SUPPLY_REMOVAL. With CS0–CS7, FAC and JCC OFF in QUIESCENT, only AON runs on. With stripes in RETENTION their markers are lost
(R494). In any other state the monitors trip: FATAL, cause SUPPLY (R578). -/
def execSupplyRemoval (s : State) : Host.Outcome State Fault Refusal :=
  if s.dev.mode = .quiescent ∧ s.pow.waking = false ∧ s.pow.sleep = none then
    .next { s with
      dev := { s.dev with supplies := false }
      pow := { s.pow with removed := true, markersLost := [0, 1, 2, 3, 4, 5, 6, 7] } }
  else .next (({ s with dev := { s.dev with supplies := false } }).fatal 2)

/-- SUPPLY_RESTORE after this many ticks: a DOMAIN reset of everything but AON and the wake of R483, with empty maps (R485, R490,
R493, R527). Elsewhere the supplies are only back. -/
def execSupplyRestore (ticks : Nat) (s : State) : Host.Outcome State Fault Refusal :=
  if s.pow.removed = false then .next { s with dev := { s.dev with supplies := true } }
  else
    let s := { s with clk := { s.clk with tick := s.clk.tick + ticks } }
    let doms := s.pow.dom
    let kind := (s.dev.resetKind, s.dev.resetCause)
    let s := (s.cleared false).restoreTime
    let s := { s with
      dev := { s.dev with supplies := true, mode := .quiescent, prevMode := .configure, resetKind := kind.1, resetCause := kind.2 }
      pow := { s.pow with
        dom := (2 :: wakeOrder).foldl (fun t q => Table.put t q 2) doms
        markersLost := [0, 1, 2, 3, 4, 5, 6, 7]
        removed := false } }
    .next ((s.domainReset 2 1).beginWake 4)

/-- SUPPLY_TRIP of a monitored rail; masked in QUIESCENT with every stripe, FAC and JCC OFF, but for VIO (R578). -/
def execSupplyTrip (rail : Rail) (s : State) : Host.Outcome State Fault Refusal :=
  let off := (List.range 8).all fun k => s.domain (4 + k) == 2
  let masked := s.dev.mode == .quiescent && off && s.domain 3 == 2 && s.domain 2 == 2 && !s.pow.waking && rail != .vio
  if masked then .next s else .next (s.fatal 2)

/-- THERMAL_TRIP (R578). -/
def execThermalTrip (s : State) : Host.Outcome State Fault Refusal := .next (s.fatal 1)

/-! ### WARM resets (R39, R479, R480, R492) -/

/-- A restart of the Jaray complex ends a sleep request in phase 1: it is rolled back with reason 0x0E, and no completion is posted
(R479, R480, R393). -/
def State.sleepReset (s : State) : State :=
  match s.pow.sleep with
  | some r => if r.accepted then s else s.rollBack r 2 0x0E false
  | none => s

/-- A WARM reset of the Jaray complex with a cause, in its order of effects. -/
def State.warm (s : State) (cause : Nat) (bursts : List Burst) : State :=
  (s.sleepReset.jccRestart 3 cause bursts).modeAfterRestart

/-- POWER.WARM (R492). -/
def execPowerWarm (e : Entry) (bursts : List Burst) (s : State) : Host.Outcome State Fault Refusal :=
  serve (cmdOf (.powerWarm e bursts)) e s fun _ _ => .restart (fun s => s.warm 0 bursts) [(0, 1, 0)]

/-! ### DVFS (R486 to R488) -/

/-- VCTL that a setpoint requires, in mV (R486). -/
def vreq (setpoint : Nat) : Nat :=
  match setpoint with
  | 0 => 900
  | 1 => 800
  | 2 => 720
  | _ => 650

/-- Setpoint in force of JCC (2) or FAC (3). -/
def State.setpointOf (s : State) (d : Nat) : Nat := if d = 2 then s.pow.dvfsJcc else s.pow.dvfsFac

/-- A divider takes its setpoint; the step is counted (R487, R498). -/
def State.setDivider (s : State) (d p : Nat) : State :=
  let k := if s.setpointOf d = p then 0 else 1
  let s := if d = 2 then { s with pow := { s.pow with dvfsJcc := p } } else { s with pow := { s.pow with dvfsFac := p } }
  s.bump .powerPmDvfsSteps 0 k

/-- R274: the FAC setpoint may not change while the facet engine or a cut stage is enabled. -/
def State.facBusy (s : State) : Bool :=
  s.cur .facetEnable 0 == 1 || (List.range 64).any fun d => s.cur .cutEnable d == 1

/-- POWER.DVFS: the divider first on the way down, the voltage first on the way up (R487). -/
def powerDvfsBody (d p : Nat) (c : CmdRef) (s : State) : Reply :=
  let old := s.setpointOf d
  let other := vreq (s.setpointOf (5 - d))
  let v := max (vreq p) other
  guarded [(decide (3 < p), 0x0004, 0), (d != 2 && d != 3, 0x0005, 0), (s.domain d != 0, 0x000D, 0),
      (d == 3 && p != 0 && s.facBusy, 0x000E, 0), (s.powerBusy || s.pow.dvfs.isSome, 0x0009, 0)] <|
    if old < p then
      let s := s.setDivider d p
      .done { s with pow := { s.pow with vctl := if v < s.pow.vctl then v else s.pow.vctl } } 0 [(d, 1, p)]
    else if v ≤ s.pow.vctl then .done (s.setDivider d p) 0 [(d, 1, p)]
    else acceptReserved s fun s =>
      { s with pow := { s.pow with vctl := v, dvfs := some ⟨d, p, s.pow.vctl, some c⟩ } }

/-- POWER.DVFS (R487). -/
def execPowerDvfs (e : Entry) (domain setpoint : Nat) (s : State) : Host.Outcome State Fault Refusal :=
  serve (cmdOf (.powerDvfs e domain setpoint)) e s (powerDvfsBody domain setpoint)

/-- AVS_REPORT: the rail has reported the voltage; the divider changes and the command completes (R487). -/
def execAvsReport (s : State) : Host.Outcome State Fault Refusal :=
  match s.pow.dvfs with
  | none => .next s
  | some r =>
    let s := ({ s with pow := { s.pow with dvfs := none } }).setDivider r.domain r.setpoint
    match r.ref with
    | some c => .next (s.effectOf c r.domain 1 r.setpoint)
    | none => .next s

/-- AVS_TIMEOUT: the request returns to the previous voltage and the command ends with DOMAIN_BUSY, DETAIL REGULATOR (R487). -/
def execAvsTimeout (s : State) : Host.Outcome State Fault Refusal :=
  match s.pow.dvfs with
  | none => .next s
  | some r => .next (({ s with pow := { s.pow with dvfs := none, vctl := r.oldMv } }).failRef r.ref 0x000E 3)

end Sys2Proof.Machine
end

