-- ==== Sys2Proof/Machine/Faults.lean ====
section
/-!
DEFINITION. Machine/Faults.lean: single internal faults, their detection, the fault records, escalation, and the commands
DIAG.FAULT_READ, DIAG.SELFTEST and DIAG.FAULT_INJECT (R499 to R522).
-/
namespace Sys2Proof.Machine

/-! ### Detection and escalation (R501, R512 to R514) -/

/-- A fault is detected: its record opens, and a compound fault in AON or TIM escalates to a FATAL reset (R513, R514). -/
def State.detect (s : State) (cls region location detail action : Nat) : State :=
  let s := s.report cls region location detail action
  if region ≤ 1 ∧ s.compoundIn region = true then s.fatal 0 else s

/-- A lasting fault of the class is in force there (R500). -/
def State.lastsAt (s : State) (cls region location : Nat) : Bool :=
  s.flt.lasting.any fun f => f.cls == cls && f.region == region && f.location == location

/-- A region is UNCOVERED, or covered again (R508, R521). -/
def State.setUncovered (s : State) (region : Nat) (on : Bool) : State :=
  let rest := s.flt.uncovered.filter fun r => r != region
  { s with flt := { s.flt with uncovered := if on then region :: rest else rest } }

/-- J0 or J1 fails: the record, the trial of its image, the reset and its escalations (R442, R491, R492, R514, R556). kind 3 is WARM
with cause LOCKSTEP, kind 4 WATCHDOG with the pair as its cause. -/
def State.jccFault (s : State) (kind j : Nat) (bursts : List Burst) : State :=
  let s := s.detect (if kind = 3 then 8 else 9) 2 j 0 0x10
  let s := (s.sleepReset).trialFails
  let s := (s.jccRestart kind (if kind = 3 then 2 else j) bursts).modeAfterRestart
  s.countRestart (kind == 4)

/-- The Jaray complex runs: its resets do not occur in QUIESCENT, nor while it is held (R39, R514). -/
def State.jccUp (s : State) : Bool :=
  match s.dev.jcc with
  | .bootRom | .starting | .running => true
  | _ => false

/-- LOCKSTEP_DIVERGENCE of a pair that runs (R442). -/
def execLockstepDivergence (j : Fin 2) (bursts : List Burst) (s : State) : Host.Outcome State Fault Refusal :=
  if s.jccUp && (j.val == 0 || s.jcc.j1) then .next (s.jccFault 3 j.val bursts) else .next s

/-- The watchdog of a pair runs: not while the boot ROM does, and that of J1 once J1 is released (R443, R492). -/
def State.watchdogOn (s : State) (j : Nat) : Bool :=
  (match s.dev.jcc with
    | .starting | .running | .halted => true
    | _ => false) && (j == 0 || s.jcc.j1)

/-- WATCHDOG_EXPIRY: a pair whose firmware has not restarted its watchdog for 100 ms (R492). -/
def execWatchdogExpiry (j : Fin 2) (bursts : List Burst) (s : State) : Host.Outcome State Fault Refusal :=
  .next (if s.watchdogOn j.val then s.jccFault 4 j.val bursts else s)

/-! ### The engines (R507) -/

/-- Engine number and detail of a record of class 0x0D (R515). -/
def engineSite (g : Engine) : Nat × Nat :=
  match g with
  | .commit => (0, 0)
  | .lease => (1, 0)
  | .pointer k => (2, k)
  | .dpll => (3, 0)

/-- The copies of the commit engine disagree: a switch not yet made is not made, an armed commit ends with INTERNAL_FAULT, an
unarmed one as a clasp transfer ends it. The entry of a caravan that it was to commit is lost, and the caravan aborts (R205,
R507; the staged delta stays staged). -/
def State.commitMismatch (s : State) : State :=
  match s.com.pend with
  | none => s
  | some p =>
    let s := if p.switched then { s with sw := { s.sw with ingBank := s.sw.egrBank } } else s
    if p.caravan then
      ({ s with com := { s.com with pend := none, entryRecs := [], entryMoves := [] } }).abortCaravan false
    else if p.armed then
      let s := if p.handshake then { s with com := { s.com with readySent := some p.c } } else s
      s.endCommit 0x0011 0
    else if s.dev.role = .holder then s.endCommit 0x0308 7
    else s.endCommit 0x0011 0

/-- What a mismatch does at once to its engine (R507). -/
def State.engineDisputed (s : State) (g : Engine) : State :=
  match g with
  | .commit => s.commitMismatch
  | .lease => ({ s with pair := { s.pair with faultAnn := true } }).sendFrame
  | .pointer _ => s
  | .dpll => s.holdOver

/-- The two copies of an engine disagree: nothing disputed is dispatched, and a holder releases the clasp (R358, R507). -/
def State.mismatch (s : State) (g : Engine) : State :=
  let (loc, det) := engineSite g
  let s := s.detect 0x0D 1 loc det (if s.dev.role = .holder then 8 else 0)
  if s.dev.fatalHeld.isSome then s
  else
    let s := s.engineDisputed g
    ({ s with flt := { s.flt with engines := g :: s.flt.engines.filter fun x => x != g } }).faultRelease

/-- ENGINE_MISMATCH (R504 class 0x0D, R507). -/
def execEngineMismatch (g : Engine) (s : State) : Host.Outcome State Fault Refusal := .next (s.mismatch g)

/-! ### The root clock (R27, R504 class 0x0E, R514) -/

/-- ROOT_CLOCK_LOSS: every TX direction is idle, the record is in MRAM, FAULT is announced, and the FATAL reset is held while the
root is absent. -/
def State.rootLoss (s : State) : State :=
  let s := { s with dev := { s.dev with rootLost := true } }
  let act := if s.dev.role = .holder then 0x2C else 0x24
  let s := s.openFault 0x0E 1 0 0 act true false
  let s := { s with lanes := Table.mapVals {} (fun _ (x : Lane) => { x with tx := {} }) s.lanes }
  s.fatal 0

/-- ROOT_CLOCK_LOSS (R27, R504, R514). -/
def execRootClockLoss (s : State) : Host.Outcome State Fault Refusal := .next s.rootLoss

/-! ### A fault strikes (R500, R502, R504) -/

/-- Region and LOCATION of the record that a fault of a site leads to (R502, R515): dune, lane, link or engine number. -/
def sitePlace (f : FaultSite) : Nat × Nat :=
  match f.cls with
  | 2 => if 2 ^ 21 ≤ f.detail then (0x10, 0) else (regionOfDune (f.detail / 32768 % 64), f.detail / 32768 % 64)
  | 3 | 4 | 5 => (regionOfDune (f.location % 64), f.location % 64)
  | 8 | 9 => (2, f.location % 2)
  | 0xA => (2, f.location)
  | 0xB => (4, f.location)
  | 0xC => (0x30 + f.location % 512 / 64, f.location % 512)
  | 0xD => (1, f.location % 4)
  | 0xE => (1, 0)
  | 0xF => (f.region, 0)
  | _ => (f.region, f.location)

/-- The engine that a site of class 0x0D names. -/
def siteEngine (f : FaultSite) : Engine :=
  match f.location % 4 with
  | 0 => .commit
  | 1 => .lease
  | 2 => .pointer f.detail
  | _ => .dpll

/-- A word crosses a die-to-die link in error: grain AIS and FQ in its row; a failing wire is replaced by a spare, or, with none
left, its lane fails quiet on every row (R504, R514). -/
def State.linkFault (s : State) (lane grain : Nat) (lasting : Bool) : State :=
  let t := lane / 64
  let used := Table.get 0 s.flt.wires t
  let bad := fun (k : Nat) (s : State) => { s with flt := { s.flt with linkBad := k :: s.flt.linkBad.filter fun x => x != k } }
  if !lasting then (bad (lane * 4096 + grain % 4096) s).detect 0xC (0x30 + t) lane grain 1
  else if used < Config.spareWires then
    let s := { s with flt := { s.flt with wires := Table.put s.flt.wires t (used + 1) } }
    ((bad (lane * 4096 + grain % 4096) s).bump .cfgPmD2dRepairs 0 1).detect 0xC (0x30 + t) lane grain 1
  else
    let s := (bad (2 ^ 22 + lane) s).bump .cfgPmFaultEscalated 0 1
    (s.setUncovered (0x30 + t) true).detect 0xC (0x30 + t) lane grain 0x82

/-- A multi-bit error in MRAM: the damaged item is not used (R504 class 0x0B). The detail is area × 256 + slot of R544; an image
that is damaged does not verify (R552). -/
def State.mramFault (s : State) (detail : Nat) : State :=
  let k := detail % 256
  let s := match detail / 256 with
    | 0 => { s with pair := { s.pair with ckpts := Table.mapVals {} (fun i (c : CkptSlot) =>
        if i = k then { c with valid := false } else c) s.pair.ckpts } }
    | 1 => { s with log := { s.log with lifeSlots := Table.drop s.log.lifeSlots k } }
    | 2 => { s with par := { s.par with storeOk := false } }
    | 3 => { s with flt := { s.flt with mram := s.flt.mram.filter fun r => r.fseq % 64 != k } }
    | 5 => if k = 0 then { s with sec := { s.sec with slot0 := { s.sec.slot0 with image := none } } }
      else { s with sec := { s.sec with slot1 := { s.sec.slot1 with image := none } } }
    | _ => s
  s.detect 0xB 4 (detail / 256) detail 0

/-- A word of the working SRAM is damaged: a word of the firmware's own code halts J0 and J1, any other is found when it is read
(R504 class 0x0A). -/
def State.jsramFault (s : State) (word : Nat) : State :=
  let code := match s.runImage with | some i => i.codeLen | none => 0
  if 16 * word < code ∧ s.dev.jcc = .running then
    let s := s.detect 0xA 2 (word / 4 % 16) (16 * word) 0
    { s with dev := { s.dev with jcc := .halted } }
  else { s with jcc := { s.jcc with sramBad := word :: s.jcc.sramBad.filter fun x => x != word } }

/-- A fault strikes (R500, R504). The site's detail says what it strikes: for class 0x01 2^20 plus map × 65,536 plus index of an entry of
the shadow bank of dune LOCATION, which the next scrub corrects (R185), and 0 any other word; for 0x02 lane × 4,096 + grain, or 2^21 plus a
timetable entry; for 0x03 and 0x04 map × 65,536 + index; for 0x05 the middle slot and, times 65,536, the difference of its tags;
for 0x0A a word; for 0x0B area × 256 + slot; for 0x0C a grain; for 0x0D a tributary. -/
def State.strike (s : State) (f : FaultSite) : State :=
  let (region, loc) := sitePlace f
  let d := f.detail
  let entry := (d / 65536 % 4, loc, d % 65536)
  let s := if f.lasting then { s with flt := { s.flt with lasting := { f with region := region, location := loc, bursts := [] } :: s.flt.lasting } } else s
  match f.cls with
  | 1 =>
    if 2 ^ 20 ≤ d then { s with com := { s.com with shadowSoft := (d / 65536 % 4, loc % 64, d % 65536) :: s.com.shadowSoft } }
    else
      let s := if regionOfDune 0 ≤ region ∧ region < regionOfDune 64 then s.perf 0x018 (f.location % 64) 1 else s
      s.maskedFault 1 region
  | 2 =>
    if 2 ^ 21 ≤ d then { s with com := { s.com with car := { s.com.car with bad := some (d - 2 ^ 21) } } }
    else { s with flt := { s.flt with dataBad := (d / 4096, d % 4096) :: s.flt.dataBad } }
  | 3 => { s with flt := { s.flt with mapNew := entry :: s.flt.mapNew } }
  | 4 => { s with com := { s.com with shadowBad := entry :: s.com.shadowBad } }
  | 5 => { s with flt := { s.flt with misroute := (loc, d % 65536, max 1 (d / 65536 % 4096), f.lasting) :: s.flt.misroute } }
  | 6 | 7 =>
    if s.dev.tmr then { s with flt := { s.flt with tmrBad := region :: s.flt.tmrBad } }
    else { s with flt := { s.flt with parityNew := (region, f.location) :: s.flt.parityNew } }
  | 8 => if s.jccUp && (loc == 0 || s.jcc.j1) then s.jccFault 3 loc f.bursts else s
  | 9 => if s.watchdogOn loc then s.jccFault 4 loc f.bursts else s
  | 0xA => s.jsramFault d
  | 0xB => s.mramFault d
  | 0xC => s.linkFault loc d f.lasting
  | 0xD => s.mismatch (siteEngine f)
  | 0xE => s.rootLoss
  | 0xF => if f.lasting then s else s.maskedFault 0xF region
  | _ => s

/-- SINGLE_INTERNAL_FAULT (R500). -/
def execSingleInternalFault (f : FaultSite) (s : State) : Host.Outcome State Fault Refusal := .next (s.strike f)

/-! ### Critical fields (R433, R434, R504 classes 0x06 and 0x07) -/

/-- TMR_SCRUB: a copy that differs is rewritten: masked, counted (R434). A copy that fails for good differs again. -/
def execTmrScrub (s : State) : Host.Outcome State Fault Refusal :=
  let bad := s.flt.tmrBad
  let again := bad.filter fun r => s.flt.lasting.any fun f => (f.cls == 6 || f.cls == 7) && f.region == r
  let s := bad.foldl (fun s r => s.maskedFault 6 r) s
  .next { s with flt := { s.flt with tmrBad := again } }

/-- The field lies in the timing subsystem, or in the part of lane tile 0 that holds the Sared lanes: locations 1,024 and up (R358,
R502, R515; log entry 117). -/
def claspSite (x : Nat × Nat) : Bool := x.1 == 1 || (x.1 == 0x20 && decide (1024 ≤ x.2))

/-- The parity of a field fails: the owning block fails quiet until the firmware rewrites the field; the holder releases the clasp where
the block is the timing subsystem or the Sared engine (R358, R434, R504, R509). -/
def State.parityFound (s : State) (x : Nat × Nat) : State :=
  let tim := claspSite x && s.dev.role == .holder
  let lane := 0x20 ≤ x.1 ∧ x.1 < 0x28
  let s := s.detect 7 x.1 (if lane then x.2 % 512 else x.2) x.2 (if tim then 8 else if lane then 2 else 1)
  if s.dev.fatalHeld.isSome then s
  else
    let s := { s with flt := { s.flt with parityBad := x :: s.flt.parityBad.filter fun y => y != x } }
    if claspSite x then s.faultRelease else s

/-- The parity of the fields that p selects is checked: a read or the scan finds every one of them that was struck (R434). -/
def State.parityCheck (s : State) (p : Nat × Nat → Bool) : State :=
  (s.flt.parityNew.filter p).foldl State.parityFound
    { s with flt := { s.flt with parityNew := s.flt.parityNew.filter fun x => !p x } }

/-- PARITY_SCAN (R434). -/
def execParityScan (s : State) : Host.Outcome State Fault Refusal := .next (s.parityCheck fun _ => true)

/-! ### Self-test of the checkers (R508) -/

/-- The checkers of a region that fail their self-test are reported; a region whose checkers pass is covered again (R508, R521). -/
def State.checked (s : State) (failing : List Nat) (region : Nat) : State :=
  if failing.contains region || s.lastsAt 0xF region 0 then
    (s.setUncovered region true).detect 0xF region 0 0 0
  else s.setUncovered region false

/-- CHECKER_SELF_TEST: the regions of the stripes whose checkers do not flag the word (R508). -/
def execCheckerSelfTest (failing : List Nat) (s : State) : Host.Outcome State Fault Refusal :=
  .next ((List.range 8).foldl (fun s k => s.checked failing (0x10 + k)) s)

/-! ### Records close (R503, R504, R516) -/

/-- Recovery time of a class in AON ticks from the start of the row of its last occurrence (R504, R516). A misroute's cause ends with its
row, and its recovery is 1 row more. -/
def recoveryTicks (cls : Nat) : Nat :=
  match cls with
  | 2 => 256
  | 3 => 128
  | 4 => msTicks
  | 5 => 128
  | 7 => msTicks
  | 8 | 9 | 0xA => secTicks
  | 0xC => 64 * 64
  | 0xD => msTicks
  | _ => 0

/-- The item of MRAM is written again (R504 class 0x0B). -/
def State.mramWhole (s : State) (detail : Nat) : Bool :=
  match detail / 256 with
  | 0 => (Table.get {} s.pair.ckpts (detail % 256)).valid
  | 1 => (Table.find s.log.lifeSlots (detail % 256)).isSome
  | 2 => s.par.storeOk
  | _ => true

/-- The state that the fault disturbed is restored (R503, R504). -/
def State.recovered (s : State) (r : FaultRec) : Bool :=
  match r.cls with
  | 2 => s.com.car.bad.isNone || decide (r.detail < 2 ^ 21)
  | 3 => !(s.flt.mapBad ++ s.flt.mapNew).any fun x => x.2.1 == r.location
  | 4 => !(s.com.shadowBad ++ s.com.shadowFound).any fun x => x.2.1 == r.location
  | 5 => !s.flt.misroute.any fun x => x.1 == r.location
  | 7 => s.dev.jcc == .running && !s.lastsAt 7 r.region r.location
  | 8 | 9 => s.dev.jcc == .running
  | 0xA => s.dev.jcc == .running && !s.jcc.sramBad.contains (r.detail / 16)
  | 0xB => s.mramWhole r.detail
  | 0xC => !s.flt.linkBad.contains (2 ^ 22 + r.location)
  | 0xF => !s.flt.uncovered.contains r.region
  | _ => true

/-- The open record with that FSEQ. -/
def State.recOpen (s : State) (fseq : Nat) : Option FaultRec := s.flt.log.find? fun r => r.isOpen && r.fseq == fseq

/-- FAULT_RECORD_CLOSE: the recovery time has passed with no further occurrence and the region is whole; fail-quiet output ends
(R510, R516). -/
def execFaultRecordClose (fseq : Nat) (s : State) : Host.Outcome State Fault Refusal :=
  match s.recOpen fseq with
  | none => .next s
  | some r =>
    if s.elapsed r.tick (recoveryTicks r.cls) && s.recovered r then
      .next { s with flt := { s.flt with
        log := s.flt.log.map fun x => if x.fseq = fseq then { x with isOpen := false } else x
        parityBad := if r.cls = 7 then s.flt.parityBad.filter (fun x => !(x.1 == r.region && x.2 == r.detail)) else s.flt.parityBad
        engines := if r.cls = 0xD then s.flt.engines.filter (fun g => engineSite g != (r.location, r.detail)) else s.flt.engines } }
    else .next s

/-! ### DIAG commands (R517 to R519) -/

/-- Every record held, newest first: the log, and of the rotation in MRAM what the log does not hold (R517). -/
def State.allRecs (s : State) : List FaultRec :=
  s.flt.log ++ s.flt.mram.filter fun r => !s.flt.log.any fun x => x.fseq == r.fseq

/-- DIAG.FAULT_READ: as many records as fit, in FSEQ order (R517). -/
def faultReadBody (b : Buf) (first : Nat) (_c : CmdRef) (s : State) : Reply :=
  let rs := ((s.allRecs.filter fun r => decide (first ≤ r.fseq)).reverse).take (b.len / 32)
  guarded [(b.len == 0, 0x0003, 0), (!s.bufWrite b (32 * rs.length), 0x0007, 0x0001)] <|
    .done (s.hostWrite b.addr (rs.flatMap FaultRec.bytes)) rs.length

/-- DIAG.FAULT_READ (R517). -/
def execDiagFaultRead (e : Entry) (b : Buf) (first : Nat) (s : State) : Host.Outcome State Fault Refusal :=
  serve (cmdOf (.diagFaultRead e b first)) e s (faultReadBody b first)

/-- The record of a failing item of a test (R519): a dune's region, an SRAM line's bank, an area and slot of MRAM, the crypto engine,
a link. -/
def State.testFails (s : State) (test item : Nat) : State :=
  match test with
  | 1 => s.detect 0xF (regionOfDune (item % 64)) (item % 64) 0 0
  | 2 => s.detect 0xA 2 (item % 16) item 0
  | 3 => s.detect 0xB 4 (item / 256) item 0
  | 4 => s.detect 0xF 2 item 0 0
  | _ => s.detect 0xC (0x30 + item % 8) (item % 8) 0 0

/-- DIAG.SELFTEST: RESULT is the number of failing items, and each opens a record (R519). -/
def selftestBody (test : Nat) (failing : List Nat) (_c : CmdRef) (s : State) : Reply :=
  let items := failing.eraseDups
  guarded [(test == 0 || decide (5 < test), 0x0004, 0)] <|
    .done (items.foldl (fun s i => s.testFails test i) s) items.length

/-- DIAG.SELFTEST (R519). -/
def execDiagSelftest (e : Entry) (test : Nat) (failing : List Nat) (s : State) : Host.Outcome State Fault Refusal :=
  serve (cmdOf (.diagSelftest e test failing)) e s (selftestBody test failing)

/-- The first location of a class that is in service (R518). none: no location of the class is in service. -/
def State.firstSite (s : State) (cls : Nat) : Option FaultSite :=
  let conns := s.egrB.conns
  match cls with
  | 1 => some ⟨1, 0x10, 0, 0, false, []⟩
  | 2 => conns.head?.map fun x => ⟨2, 0, 0, x.2.pri, false, []⟩
  | 3 | 4 => conns.head?.map fun x => ⟨cls, 0, x.1 / 32768, 2 * 65536 + x.1 % 32768, false, []⟩
  | 5 => conns.head?.map fun x => ⟨5, 0, x.1 / 32768, ((s.ingB.slotOf (x.1 / 32768) x.2.pri).getD 0) + 65536, false, []⟩
  | 6 => if s.dev.tmr then some ⟨6, 0x20, 0, 0, false, []⟩ else none
  | 7 => if s.dev.tmr then none else some ⟨7, 0x20, 0, 0, false, []⟩
  | 8 | 9 | 0xA | 0xB | 0xD => some ⟨cls, 0, 0, 0, false, []⟩
  | 0xC => some ⟨0xC, 0, 0, 0, false, []⟩
  | _ => none

/-- DIAG.FAULT_INJECT: one fault at the first location of the class that is in service; INVALID_FIELD where none is (R518). -/
def faultInjectBody (cls : Nat) (bursts : List Burst) (_c : CmdRef) (s : State) : Reply :=
  guarded [(cls == 0 || decide (15 < cls), 0x0004, 0), (decide (14 ≤ cls), 0x000B, 0)] <|
    match s.firstSite cls with
    | none => .refuse 0x0005
    | some f =>
      let f := { f with bursts := bursts }
      let (region, loc) := sitePlace f
      let mark := fun (s : State) => { s with flt := { s.flt with injected := (cls, region, loc) :: s.flt.injected } }
      let go := fun (s : State) => if cls = 1 ∨ cls = 6 then s.strike f else (mark s).strike f
      guarded [(s.flt.log.any fun r => r.isOpen && r.region == region, 0x000B, 0)] <|
        if cls = 8 ∨ cls = 9 then .restart go [(cls, 1, 0)] else .done (go s) 0 [(cls, 1, 0)]

/-- DIAG.FAULT_INJECT (R518). -/
def execDiagFaultInject (e : ResetEntry) (cls : Nat) (s : State) : Host.Outcome State Fault Refusal :=
  serve (cmdOf (.diagFaultInject e cls)) e.entry s (faultInjectBody cls e.bursts)

end Sys2Proof.Machine
end

