-- ==== Sys2Proof/Machine/Jcc.lean ====
section
/-!
DEFINITION. Machine/Jcc.lean: the address map of the bus matrix and who reaches what (R441 to R445), and the BAR0 registers (R412 to
R419).
-/
namespace Sys2Proof.Machine

/-! ### The address map (R444, R445) -/

/-- Targets of the matrix (R445). The view of the SRAM: 0 home, 1 bit-set, 2 bit-clear. -/
inductive Target where
  | boot | sram (view : Nat) | mram | reg | shadowPort | activePort | caravan | telemetry | crypto | outbound | none
  deriving DecidableEq, Repr

/-- The target of an address, and the offset in it (R445, R449). -/
def matrixTarget (remap : Bool) (a : Nat) : Target × Nat :=
  let inside := fun (lo n : Nat) => decide (lo ≤ a ∧ a < lo + n)
  if inside 0 0x800000 then
    if remap then (.sram 0, a) else if a < 0x80000 then (.boot, a) else (.none, a)
  else if inside 0x10000000 0x80000 then (.boot, a - 0x10000000)
  else if inside 0x20000000 0x800000 then (.sram 0, a - 0x20000000)
  else if inside 0x21000000 0x800000 then (.sram 1, a - 0x21000000)
  else if inside 0x22000000 0x800000 then (.sram 2, a - 0x22000000)
  else if inside 0x30000000 0x4000000 then (.mram, a - 0x30000000)
  else if inside 0x40000000 0x10000000 then (.reg, a - 0x40000000)
  else if inside 0x50000000 0x4000000 then (.shadowPort, a - 0x50000000)
  else if inside 0x54000000 0x4000000 then (.activePort, a - 0x54000000)
  else if inside 0x58000000 0x1000000 then (.caravan, a - 0x58000000)
  else if inside 0x5A000000 0x40000 then (.telemetry, a - 0x5A000000)
  else if inside 0x5C000000 0x10000 then (.crypto, a - 0x5C000000)
  else if inside 0x80000000 0x80000000 then (.outbound, a - 0x80000000)
  else (.none, a)

/-- A master reaches a target (R444). -/
def reaches (serviceEn : Bool) (m : Nat) (t : Target) : Bool :=
  let stores := match t with
    | .sram _ | .mram | .shadowPort | .activePort | .caravan => true
    | _ => false
  if t = .none then false
  else if m < 2 then true
  else if m < 10 then stores || t = .telemetry || t = .crypto || t = .outbound
  else if m = 10 then t = .reg
  else if m = 11 then stores
  else if m = 12 then t = .outbound
  else serviceEn && t != .crypto && t != .outbound

/-- Number of a target in the events of R542. -/
def Target.code (t : Target) : Nat :=
  match t with
  | .boot => 0 | .sram _ => 1 | .mram => 2 | .reg => 3 | .shadowPort | .activePort => 4 | .caravan => 5 | .telemetry => 6
  | .crypto => 7 | .outbound => 8 | .none => 9

/-- A request of master m at an address reaches its target: PCIe inbound only the BAR0 image in the register space (R444). -/
def State.reached (s : State) (m a : Nat) : Bool :=
  let (t, off) := matrixTarget s.jcc.remap a
  reaches s.dev.serviceEn m t && (m != 10 || decide (off < 0x10000))

/-- A request of master m at an address is granted by its target, or by the default target (R447, R542). -/
def State.granted (s : State) (m a : Nat) : State :=
  let t := (matrixTarget s.jcc.remap a).1
  s.perf 0x044 (if s.reached m a then t.code else 9) 1

/-- A master runs: J1 once released, the debug master with its strap, PCIe inbound while BAR0 answers; the Sared engine and the facet DMA
go on while J0 and J1 are stopped (R442 to R444). -/
def State.masterOn (s : State) (m : Nat) : Bool :=
  let jcc := match s.dev.jcc with
    | .bootRom | .starting | .running => true
    | _ => false
  if m = 1 then jcc && s.jcc.j1
  else if m = 10 then s.barUp
  else if m = 13 then s.dev.serviceEn && s.dev.jcc != .off && s.dev.jcc != .retained
  else if m = 11 ∨ m = 12 then s.dev.jcc != .off && s.dev.jcc != .retained
  else jcc

/-! ### BAR0 registers (R412 to R419) -/

/-- A Boolean as one bit at position k. -/
def bitAt (b : Bool) (k : Nat) : Nat := if b then 2 ^ k else 0

/-- READY (R31). -/
def State.readyPin (s : State) : Bool := s.dev.mode.working && s.dev.jcc == .running && !s.shutting

/-- HOST_STATUS (R415). -/
def State.hostStatus (s : State) : Nat :=
  bitAt s.readyPin 0 + bitAt s.log.alarmLow 1 + s.tim.state.code * 4 + bitAt s.log.jfull 5 +
  bitAt (s.cur .cfgApplyMode 0 == 1) 6 + bitAt s.dev.tmr 7

/-- FW_VERSION (R413). -/
def State.fwVersion (s : State) : Nat :=
  match s.dev.mode with
  | .boot | .recovery => 0
  | _ => (match s.runImage with | some i => i.version | none => 0)

/-- The pending bits of the MSI-X vectors from k on (R413). -/
def State.pendingBits (s : State) (k : Nat) : Nat :=
  (List.range 32).foldl (fun v i => v + bitAt (s.host.irqPba.contains (k + i)) i) 0

/-- What the 32-bit register at a BAR0 offset holds for a read; reserved and WO offsets read 0 (R377, R412 to R416). -/
def State.reg (s : State) (off : Nat) : Nat :=
  let v := if off % 4 ≠ 0 then 0 else match off with
    | 0x00 => 0x5120 + Config.dieRevision.toNat * 2 ^ 16 + Config.variant.toNat * 2 ^ 24
    | 0x04 => s.fwVersion
    | 0x08 => Config.serial.toNat
    | 0x0C => Config.serial.toNat / 2 ^ 32
    | 0x10 => s.dev.resetKind + s.dev.resetCause * 16 + bitAt s.dev.imageVerified 8 + bitAt s.dev.rollback 9
    | 0x14 => s.deviceState
    | 0x18 => s.hostStatus
    | 0x1C => unsignedOf 8 s.host.tjMax
    | 0x24 => bitAt s.host.unlocked 0 + s.host.badKeys * 256
    | 0x2C => s.host.heartbeat.toNat
    | 0x30 => s.alarmCount
    | 0x34 => s.com.gen
    | 0x38 => s.clk.rsn.toNat
    | 0x3C => s.host.rsnHi.toNat
    | _ =>
      if 0x400 ≤ off ∧ off < 0xC00 then
        let m := s.mailbox (off / 256 - 4)
        let o := off % 256
        if o < 0x40 then m.cmd.toNat / 2 ^ (8 * o)
        else if o < 0x50 then m.compl.toNat / 2 ^ (8 * (o - 0x40))
        else if o < 0x90 then m.resp.toNat / 2 ^ (8 * (o - 0x50))
        else if o = 0x94 then m.state
        else 0
      else if 0x1000 ≤ off ∧ off < 0x1200 then (Table.get (0 : BitVec 32) s.host.msix ((off - 0x1000) / 4)).toNat
      else if off = 0x1800 then s.pendingBits 0
      else 0
  v % 2 ^ 32

/-- A read of RSN_LO latches RSN bits [47:32] into RSN_HI (R414). -/
def State.latchRsn (s : State) : State :=
  { s with host := { s.host with rsnHi := BitVec.ofNat 16 (s.clk.rsn.toNat / 2 ^ 32) } }

/-- The host's read of n bytes of BAR0: naturally aligned 4 bytes, or 8 as two reads, the lower address first; any other read returns
0 (R412, R414). -/
def State.barRead (s : State) (off n : Nat) : Nat × State :=
  if (n = 4 ∨ n = 8) ∧ off % n = 0 then
    let t := if off = 0x38 then s.latchRsn else s
    (t.reg off + (if n = 8 then t.reg (off + 4) * 2 ^ 32 else 0), t)
  else (0, s)

/-- RSN_LO_READ (R414). -/
def execRsnLoRead (s : State) : Host.Outcome State Fault Refusal := .next (s.barRead 0x38 4).2

/-- UNLOCK: the key sets UNLOCKED; any other value clears it and counts (R417). -/
def State.unlockReg (s : State) (v : BitVec 32) : State :=
  if v = 0xC1A5 then { s with host := { s.host with unlocked := true, unlockTick := s.clk.tick } }
  else { s with host := { s.host with unlocked := false, badKeys := min 255 (s.host.badKeys + 1) } }

/-- A keyed write attempt takes the unlock (R417, R418). -/
def State.lock (s : State) : State := { s with host := { s.host with unlocked := false } }

/-- RECOVER: a keyed write; 1 resets the device into RECOVERY (R419). -/
def State.recoverReg (s : State) (v : BitVec 32) : State :=
  if !s.host.unlocked then s else if v.getLsbD 0 then s.lock.fullReset 2 2 else s.lock

/-- The next state of an outcome; s where there is none. -/
def nextOf (s : State) (o : Host.Outcome State Fault Refusal) : State :=
  match o with
  | .next t => t
  | _ => s

/-- A word of the MSI-X table is written; an unmasked vector that is pending is signalled (R413). -/
def State.msixWrite (s : State) (w : Nat) (v : BitVec 32) : State :=
  let s := { s with host := { s.host with msix := Table.set 0 s.host.msix w v } }
  let k := w / 4
  if w % 4 = 3 ∧ v.getLsbD 0 = false ∧ k ∈ s.host.irqPba then
    ({ s with host := { s.host with irqPba := s.host.irqPba.filter fun i => i != k } }).signal k
  else s

/-- A word of a mailbox's CMD is written unless the mailbox is BUSY (R377, R378). -/
def State.cmdWrite (s : State) (m o : Nat) (v : BitVec 32) : State :=
  let x := s.mailbox m
  if x.state = 1 then s
  else
    let old := x.cmd.toNat / 2 ^ (8 * o) % 2 ^ 32
    s.setMailbox m { x with cmd := BitVec.ofNat 512 (x.cmd.toNat + 2 ^ (8 * o) * v.toNat - 2 ^ (8 * o) * old) }

/-- UNLOCK_WRITE (R417). -/
def execUnlockWrite (v : BitVec 32) (s : State) : Host.Outcome State Fault Refusal :=
  .next (if s.barUp then s.unlockReg v else s)

/-- RECOVER_WRITE: served by hardware, so it works while the firmware has stopped (R419). -/
def execRecoverWrite (v : BitVec 32) (s : State) : Host.Outcome State Fault Refusal :=
  .next (if s.barUp then s.recoverReg v else s)

/-- UNLOCK_EXPIRY: UNLOCKED clears 1 s after it was set (R417). -/
def execUnlockExpiry (s : State) : Host.Outcome State Fault Refusal :=
  if s.host.unlocked && s.elapsed s.host.unlockTick secTicks then .next s.lock else .next s

end Sys2Proof.Machine
end

