-- ==== Sys2Proof/Machine/Trib.lean ====
section
/-!
DEFINITION. Machine/Trib.lean: the read side of the elastic rings: units that leave for an egress row, the pointer generator, its
lockstep between the units of a pair, and the commands TRIB.CREATE, TRIB.DELETE and TRIB.REALIGN (R121 to R153).
-/
namespace Sys2Proof.Machine

/-! ### The elastic ring, read side (R126, R137, R138) -/

/-- Data-carrying units of egress row j of a PMF (R127). -/
def unitsIn (exec j : Nat) : Nat := 16 - (if exec = 1 ∧ j = 0 then 1 else 0) - if exec ≠ 2 ∧ j = 31 then 1 else 0

/-- Units that have arrived of the lane row under way as a device row begins, for a row's units are written when it is judged: a
sixteenth of a row each 256 core cycles, by θ. The rows of a LOCKED pair are merged one in each device row (R99, R126, R137, R233; log
entry 107). -/
def State.underWay (s : State) (t : Trib) : Nat :=
  let arrived := ((-(s.lane t.lane).theta) % 4096).toNat / 256
  match s.pairOf t.lane with
  | some m => if m.active && s.cur .laneClocking m.low != 1 then 0 else arrived
  | none => arrived

/-- The unread units before egress row j with which the ring is centred: the sample at row 16 reads a fill of 24 after the rows that both
sides move until then, 16 units each less the unit U511 of their own PMFs. w: the units under way, which the sample counts; it is taken as
row 16 begins (R127, R137, R138; log entries 107 and 111). -/
def Trib.centre (t : Trib) (j w : Nat) : Nat :=
  let d := (48 - j) % 32
  let last := match t.ring.getLast? with | some u => u.idx / 16 | none => 0
  let gap := fun (k : Nat) => if k < 31 ∧ 31 ≤ k + d then 1 else 0
  40 + gap last - gap j - w + unitsIn (if j = 0 then 0 else t.txExec) j

/-- A re-centre: the read position moves, no announcement stands, and code 0x9 is due (R138). -/
def Trib.recentre (t : Trib) (f : Nat) : Trib :=
  { t with
    fill := f
    txAnn := 0
    ndf := true
    centring := 0
    centred := true }

/-- The ring, read from egress row j on, would under- or overflow its 48 units: unread units f before the row, w under way (R125,
R143). -/
def Trib.overrun (t : Trib) (f j w : Nat) : Bool :=
  let need := unitsIn t.txExec j
  decide (f + w < need + 16 ∨ need + 64 < f + w)

/-- The unread units at which the read position has the given distance to a container start, as a re-centre to the holder's byte
names it; where the ring does not hold that byte, those of its middle (R147, R149). -/
def Trib.fillFor (t : Trib) (dist j w : Nat) : Nat :=
  let f := (dist + 511 - t.rxToStart % 511) % 511
  if t.overrun f j w then t.centre j w else f

/-- A re-centre that is due takes place at the row boundary before egress row j (R138, R147, R149). -/
def State.doCentre (s : State) (k j : Nat) : State :=
  let t := s.trib k
  match t.centring with
  | 0 => s
  | 1 => s.setTrib k (t.recentre (t.centre j (s.underWay t)))
  | d + 2 => s.setTrib k (t.recentre (t.fillFor d j (s.underWay t)))

/-- A slip is counted, and TSLIP sets; the ring is re-centred (R138, R143, R144, R153). -/
def State.slip (s : State) (k j : Nat) : State :=
  let t := s.trib k
  let t : Trib := { t.recentre (t.centre j (s.underWay t)) with tslip := true, runs := { t.runs with slipOk := 0 } }
  ((s.setTrib k t).bump .tribPmSlip k 1).perf 0x033 k 1

/-- The units of an egress row that carry data are read; a unit that carries none is n bytes of 0x00 (R127). An empty ring gives
zeros, and the slip follows. -/
def Trib.readUnits (t : Trib) (u n : Nat) : Trib × List Byte :=
  match n with
  | 0 => (t, [])
  | m + 1 =>
    if carriesData t.txExec u then
      let x := if t.fill = 0 then none else t.ring[t.ring.length - t.fill]?
      let bs := match x with | some r => padTo t.n r.bytes | none => List.replicate t.n 0
      let (t', rest) := ({ t with fill := t.fill - 1 }).readUnits (u + 1) m
      (t', bs ++ rest)
    else
      let (t', rest) := t.readUnits (u + 1) m
      (t', List.replicate t.n 0 ++ rest)

/-- The bytes of a row's units cut into the words of the members (R79). -/
def memberWords (n : Nat) (bs : List Byte) : List Grain :=
  match n with
  | 0 => []
  | m + 1 => grainOf (bs.take 16) :: memberWords m (bs.drop 16)

/-! ### The pointer generator (R128, R129, R137 to R139) -/

/-- The generator's own decision for PMF m (R130, R137, R138). -/
def Trib.decide' (t : Trib) (m : Nat) : Nat :=
  if !pmfFree t.txNext m then 0 else if t.level ≤ 21 then 1 else if 27 ≤ t.level then 2 else 0

/-- A follower resolves the decision for PMF m: the holder's, where it has arrived and would not slip the ring, else its own, and
TDIV where that is anything but none (R147, R148). -/
def State.resolve (s : State) (k m : Nat) : State :=
  let t := s.trib k
  if s.dev.role ≠ .follower then s
  else
    let own : Trib := if t.txAnn = 0 then t else { t with tdiv := true }
    match t.decision with
    | some (pmf, code, dist) =>
      let slips := (code = 1 ∧ 48 ≤ t.level) ∨ (code = 2 ∧ t.level = 0)
      if pmf ≠ m ∨ slips then s.setTrib k { own with decision := none }
      else if code = 3 then s.setTrib k { t with centring := dist % 511 + 2, decision := none }
      else s.setTrib k { t with txAnn := code, decision := none }
    | none => s.setTrib k own

/-- An egress PMF m of a tributary begins: the announcement sent in the PMF before executes, the pointer word is formed, with code 0x9
where the pointer is new; after an announcement, as after a new pointer, none follows in the next 3 PMFs; a PMF more has passed since a slip
(R128 to R130, R138, R144). -/
def State.startEgress (s : State) (k m : Nat) : State :=
  let s := (s.resolve k m).doCentre k 0
  let t := s.trib k
  let ex := t.txSent
  let expect := pointerAfter t.txExec t.txPtr
  let p := t.toStart
  let ais := t.aisTx && !t.ndf
  let new := t.ndf || (!ais && p != expect)
  let ann := if new || ais || !pmfFree t.txNext m then 0 else t.txAnn
  let t : Trib := { t with
    txPtr := if ais then expect else p
    startAt := p
    txExec := if new then 0 else ex
    txSent := ann
    txAnn := 0
    txCode := if new then 9 else if ann = 1 then 6 else if ann = 2 then 3 else 0
    ndf := false
    aisTx := ais
    runs := { t.runs with slipOk := t.runs.slipOk + 1 }
    txNext := if new ∨ ann ≠ 0 then some (pmfAfter m 4) else t.txNext }
  let s := s.setTrib k t
  if new then s
  else match ex with
    | 0 => s
    | 1 => (s.bump .tribPmTxPjPos k 1).perf 0x031 k 1
    | _ => (s.bump .tribPmTxPjNeg k 1).perf 0x031 k 1

/-- Egress AIS of a tributary: it begins with a defect of R139; the first row without one re-centres the ring, and the instances leave
AIS with code 0x9 at the next PMF start (R138, R139). -/
def State.egressAis (s : State) (k : Nat) : State :=
  let t := s.trib k
  if s.tribAis k then s.setTrib k { t with aisTx := true, ndf := false }
  else if t.aisTx && !t.ndf then s.setTrib k { t with centring := 1, ndf := true }
  else s

/-- The words that leave a RETIMED tributary's ring for egress row rsn, and the fill of R137 as that row begins (R126, R137). -/
def State.tribEgress (s : State) (k : Nat) (rsn : Rsn) : State :=
  let j := rsn.toNat % 32
  let s := s.egressAis k
  let s := if j = 0 then s.startEgress k (rsn.toNat / 32) else s.doCentre k j
  let t := s.trib k
  let w := s.underWay t
  let s := if t.aisTx then s.setTrib k { t with fill := min 64 (max t.fill 16) }
    else if t.overrun t.fill j w then s.slip k j else s
  let (t, bs) := (s.trib k).readUnits (16 * j) 16
  let words := if t.aisTx then List.replicate t.n grainAis else memberWords t.n bs
  s.setTrib k { t with words := words, level := t.fill + w - 16 }

/-- Every RETIMED tributary for an egress row. -/
def State.tribsEgress (s : State) (rsn : Rsn) : State :=
  go s.tribs s
where
  /-- Over the tributaries. -/
  go (ts : List (Nat × Trib)) (s : State) : State :=
    match ts with
    | [] => s
    | (k, t) :: r =>
      go r (if t.on && t.retimed then
        let s := s.tribEgress k rsn
        s.perfOccupancy 0x032 k (s.trib k).level 4096
      else s)

/-- The generator's pair of a tributary is disputed: it takes decision none (R507). -/
def State.disputed (s : State) (k : Nat) : Bool := s.flt.engines.contains (.pointer k)

/-- Units from the read position after row 16 of a PMF to the first container start of the next PMF: where the read position will stand
as that PMF begins (R127, R147; log entry 107). -/
def Trib.startNext (t : Trib) : Nat := (t.toStart + 1022 - 239 - if t.txExec = 2 then 1 else 0) % 511

/-- The holder sends its decision for PMF m to the follower (R147). -/
def State.sendDecision (s : State) (trib m code toStart : Nat) : State := s.tell (.decision m ⟨trib, code, toStart⟩)

/-- POINTER_SAMPLE: at row 16 of a PMF the fill is sampled and the announcement for the next PMF decided; a holder sends its decision
(R137, R147). -/
def execPointerSample (trib : Nat) (s : State) : Host.Outcome State Fault Refusal :=
  let t := s.trib trib
  if t.on && t.retimed && s.clk.rsn.toNat % 32 == 16 then
    let m := (s.clk.rsn.toNat / 32 + 1) % 2 ^ 43
    let d := if s.disputed trib then 0 else t.decide' m
    let s := s.setTrib trib { t with sample := min 48 t.level, txAnn := if t.ndf then 0 else d, centred := false }
    .next (if s.paired then s.sendDecision trib m (if t.centred then 3 else if t.ndf then 0 else d) t.startNext else s)
  else .next s

/-! ### Lockstep (R147 to R149, R231) -/

/-- One decision of the holder for PMF m is held until the PMF begins. -/
def State.takeDecision (s : State) (m : Nat) (d : PtrDecision) : State :=
  let t := s.trib d.trib
  if t.on && t.retimed then s.setTrib d.trib { t with decision := some (m, d.code % 4, d.toStart) } else s

/-- LOCKSTEP_DECISION: the holder's decisions for a PMF, in time at the boundary 4 rows before it begins (R147, R148). -/
def execLockstepDecision (pmf : Nat) (ds : List PtrDecision) (s : State) : Host.Outcome State Fault Refusal :=
  let due : Rsn := BitVec.ofNat 48 (32 * pmf) - 4
  if s.dev.role = .follower ∧ s.pair.linkUp = true ∧ rsnLe s.clk.rsn due = true then
    .next (ds.foldl (fun s d => s.takeDecision pmf d) s)
  else .next s

/-- One tributary is compared: a match clears TDIV, a mismatch sets it, and AUTO re-centres to the holder's byte (R149, R591). Both
read the same number of units from then on, so that the distance between the two read positions stays. -/
def State.comparePtr (s : State) (x : Nat × Nat × Nat) : State :=
  let (k, ptr, dist) := x
  let t := s.trib k
  if !t.on || !t.retimed then s
  else if t.txPtr = ptr ∧ t.startAt = dist then s.setTrib k { t with tdiv := false, holderAt := none }
  else
    let apart := (dist + 511 - t.startAt % 511) % 511
    let t : Trib := { t with tdiv := true, holderAt := some apart }
    if s.cur .tribLockstepRealign k = 0 then
      (s.setTrib k { t with centring := (t.toStart + apart) % 511 + 2 }).journalAuto 0xA011 k 0
    else s.setTrib k t

/-- One selector group is compared: PSDIV sets after 2 comparisons in a row that differ and clears at a match (R231). -/
def State.compareSel (s : State) (x : Nat × Bool × Nat × Bool) : State :=
  let (k, sel, cmd, tgt) := x
  s.modGroup k fun g =>
    if g.sel = sel ∧ g.cmd = cmd ∧ (cmd ≠ 3 ∨ g.target = tgt) then { g with divRun := 0, psdiv := false }
    else { g with divRun := min 2 (g.divRun + 1), psdiv := g.psdiv || decide (1 ≤ g.divRun) }

/-- LOCKSTEP_COMPARISON (R149, R200, R231). -/
def execLockstepComparison (f : LockFrame) (s : State) : Host.Outcome State Fault Refusal :=
  if s.dev.role = .follower ∧ s.pair.linkUp = true then
    let s := s.learnGen f.generation
    let s := f.pointers.foldl State.comparePtr s
    .next (f.groups.foldl State.compareSel s)
  else .next s

/-! ### TRIB commands (R123, R124, R149) -/

/-- Member grains of RETIMED tributaries in the pool: trib.pool_used (R125). -/
def State.poolUsed (s : State) : Nat :=
  (s.tribs.filter fun x => x.2.on && x.2.retimed).foldl (fun n x => n + x.2.n) 0

/-- Insert a grain into an ascending list. -/
def insertGrain (g : Nat) (l : List Nat) : List Nat :=
  match l with
  | [] => [g]
  | h :: t => if g < h then g :: h :: t else if g = h then h :: t else h :: insertGrain g t

/-- Ascending order, each grain once. -/
def sortGrains (l : List Nat) : List Nat := l.foldl (fun r g => insertGrain g r) []

/-- The refusal conditions of R123 and R124; a needed stripe that is not ON first (R17). -/
def State.tribChecks (s : State) (trib lane mode : Nat) (gs : List Nat) : List (Bool × Nat × Nat) :=
  let stripes := if mode = 0 then List.range 8 else [lane / 64]
  let taken := gs.any fun g => (s.memberOf (lane * 4096 + g)).isSome
  let higher := s.prot.merges.any fun m => m.high == lane
  [(stripes.any fun k => s.domain (4 + k) != 0, 0x000D, 0), ((s.trib trib).on || taken || higher, 0x0501, 0),
   (mode == 1 && s.cur .laneClocking lane == 1, 0x0501, 0),
   (mode == 0 && decide (524288 < s.poolUsed + gs.length), 0x0503, 0)]

/-- TRIB.CREATE (R123, R124). mode 0 is RETIMED, 1 TERMINATED. -/
def tribCreateBody (b : Buf) (grains : List Nat) (trib lane count mode : Nat) (_c : CmdRef) (s : State) : Reply :=
  let raw := grains.take count
  let gs := sortGrains raw
  guarded [(count == 0 || b.len == 0, 0x0003, 0),
      (decide (4096 < count ∨ b.len < 2 * count ∨ 65535 < trib ∨ 511 < lane ∨ 1 < mode), 0x0004, 0)] <|
    checkItems raw (fun g => decide (s.grainsOf lane ≤ g)) 0x0004 <|
    guarded ([(gs.length != raw.length, 0x0005, 0), (!s.bufRead b (2 * count), 0x0007, s.readDetail b (2 * count))] ++ s.tribChecks trib lane mode gs) <|
      .done (s.makeTrib trib lane mode gs) 0 [(trib, count, mode)]

/-- TRIB.CREATE (R123). -/
def execTribCreate (e : Entry) (b : Buf) (grains : List Nat) (trib lane count mode : Nat) (s : State) :
    Host.Outcome State Fault Refusal :=
  serve (cmdOf (.tribCreate e b grains trib lane count mode)) e s (tribCreateBody b grains trib lane count mode)

/-- A bank names a member grain of the tributary (R123). -/
def Bank.namesTrib (b : Bank) (t : Trib) : Bool :=
  let mine := fun (src : Nat) => src / 4096 == t.lane && t.grains.contains (src % 4096)
  (b.conns.any fun x => mine x.2.pri || (match x.2.alt with | some (a, _) => mine a | none => false)) ||
    b.cuts.any fun x => mine x.2

/-- TRIB.DELETE (R123). -/
def tribDeleteBody (trib : Nat) (_c : CmdRef) (s : State) : Reply :=
  let t := s.trib trib
  guarded [(decide (65535 < trib), 0x0004, 0), (!t.on, 0x0005, 0),
      (s.sw.bank0.namesTrib t || s.sw.bank1.namesTrib t, 0x0502, 0)] <|
    .done (s.setTrib trib {}) 0 [(trib, 1, 0)]

/-- TRIB.DELETE (R123). -/
def execTribDelete (e : Entry) (trib : Nat) (s : State) : Host.Outcome State Fault Refusal :=
  serve (cmdOf (.tribDelete e trib)) e s (tribDeleteBody trib)

/-- TRIB.REALIGN: a follower in TDIV re-centres to the byte of the holder, as the last lockstep frame told its distance (R149); without
TDIV it has nothing to do. -/
def tribRealignBody (trib : Nat) (_c : CmdRef) (s : State) : Reply :=
  let t := s.trib trib
  guarded [(decide (65535 < trib), 0x0004, 0), (!t.on || !t.retimed, 0x0005, 0), (s.dev.role != .follower, 0x000B, 0)] <|
    if !t.tdiv then .noop true
    else
      let c := match t.holderAt with | some d => (t.toStart + d) % 511 + 2 | none => 1
      .done (s.setTrib trib { t with centring := c }) 0 [(trib, 1, 0)]

/-- TRIB.REALIGN (R149). -/
def execTribRealign (e : Entry) (trib : Nat) (s : State) : Host.Outcome State Fault Refusal :=
  serve (cmdOf (.tribRealign e trib)) e s (tribRealignBody trib)

end Sys2Proof.Machine
end

