-- ==== Sys2Proof/Machine/Obs.lean ====
section
/-!
DEFINITION. Machine/Obs.lean: observation: facet records and their output, the loupe stream, LOUPE.LIST, FACET.CONFIG, and the cut
stages with CUT.READ_SAT (R247 to R278).
-/
namespace Sys2Proof.Machine

/-! ### Facet records (R249 to R256) -/

/-- Rows of a superframe: 625, and 31 for the one that ends with the RSN's wrap (R11). -/
def sfRows (sf : Nat) : Nat := min 625 (2 ^ 48 - 625 * sf)

/-- Superframe of a row. -/
def sfOf (r : Rsn) : Nat := r.toNat / 625

/-- The row contributes to the record of grain g (R249, R251, R509). -/
def FacetRow.counts (r : FacetRow) (g : Nat) : Bool := decide (g < r.top) && !r.bad.contains g

/-- The contributing rows of a grain. -/
def contributing (rs : List FacetRow) (g : Nat) : List FacetRow := rs.filter fun r => r.counts g

/-- CRC-32C over the 16 bytes of each contributing row (R254). -/
def facetCrc (rs : List FacetRow) (g : Nat) : Nat := (crc32c (rs.flatMap fun r => grainBytes (rowGrain r.content g))).toNat

/-- The square of a two's-complement number of n bits. -/
def squareOf (n v : Nat) : Nat := (signedOf n v).natAbs * (signedOf n v).natAbs

/-- The per-row value of a grain by trib.interpretation: 0 RAW, 1 S8, 2 S4, 3 CS8 (R255). -/
def rowEnergy (code : Nat) (w : Grain) : Nat :=
  match code with
  | 0 => (grainBytes w).foldl (fun a b => a + popcount8 b) 0
  | 2 => (grainBytes w).foldl (fun a b => a + squareOf 4 (b.toNat / 16) + squareOf 4 (b.toNat % 16)) 0
  | _ => (grainBytes w).foldl (fun a b => a + squareOf 8 b.toNat) 0

/-- ENERGY of V (R256). -/
def energyCode (v : Nat) : Nat :=
  if 2 ^ 27 ≤ v then 0xFFFF
  else if v < 4096 then v
  else
    let k := v.log2
    (k - 11) * 4096 + v / 2 ^ (k - 12) % 4096

/-- Rows that differ from the contributing row of the RSN before (R254). -/
def activityOf (rs : List FacetRow) (before : Option FacetRow) (g : Nat) : Nat :=
  match rs with
  | [] => 0
  | r :: rest =>
    let hit := match before with
      | some p => decide (p.rsn + 1 = r.rsn) && rowGrain p.content g != rowGrain r.content g
      | none => false
    (if hit then 1 else 0) + activityOf rest (some r) g

/-- The eight bytes of a grain's record (R251 to R256). -/
def FacetLane.record (f : FacetLane) (g : Nat) : List Byte :=
  let rs := contributing f.cur g
  match rs.head? with
  | none => List.replicate 8 0
  | some r0 =>
    let ps := contributing f.prev g
    let crc := facetCrc rs g
    let code := Table.get 0 r0.interp g
    let v := rs.foldl (fun a r => a + rowEnergy code (rowGrain r.content g)) 0
    let every := fun (w : Grain) => rs.all fun r => rowGrain r.content g == w
    let bit := fun (b : Bool) (n : Nat) => if b then n else 0
    let changed := ps.isEmpty || facetCrc ps g != crc
    let flags := 128 + bit f.stale 64 + bit (decide (rs.length < sfRows (sfOf r0.rsn))) 32 + bit (rs.any (·.subst)) 16 +
      bit changed 8 + bit (every grainIdle) 4 + bit (every grainAis) 2 + bit (every 0) 1
    leBytes 4 crc ++ leBytes 2 (energyCode v) ++ leBytes 1 flags ++
      leBytes 1 (min 255 (activityOf rs (f.before.filter fun p => p.counts g) g))

/-! ### Entries (R258, R259) -/

/-- The header of an entry: SEQ, KIND, DUNE, BLOCK, COUNT, SF_LOW (R259). -/
def facetHeader (seq kind dune block count sf : Nat) : List Byte :=
  leBytes 8 (seq % 2 ^ 20 + kind * 2 ^ 20 + dune * 2 ^ 22 + block * 2 ^ 28 + count * 2 ^ 35 + sf % 4096 * 2 ^ 44)

/-- Records in a block (R258). -/
def blockCount (b : Nat) : Nat := if b = 64 then 64 else 511

/-- Entries of a superframe's output. -/
def FacetSrc.entries (x : FacetSrc) : Nat := 65 * x.dunes.length

/-- Entry i of a superframe's output, 4,096 bytes (R258). -/
def FacetSrc.entry (x : FacetSrc) (seq i : Nat) : List Byte :=
  let d := x.dunes.getD (i / 65) 0
  let b := i % 65
  let recs := (List.range (blockCount b)).flatMap fun k =>
    let n := 511 * b + k
    (Table.get {} x.lanes (8 * d + n / 4096)).record (n % 4096)
  padTo 4096 (facetHeader seq 1 d b (blockCount b) x.sf ++ recs)

/-- A gap marker: the first dropped superframe F, also as SF_LOW, and the number dropped (R259). -/
def gapEntry (seq first n : Nat) : List Byte :=
  padTo 4096 (facetHeader seq 2 0 0 0 first ++ leBytes 6 first ++ leBytes 2 (min 65535 n))

/-- Grain j of the loupe stream in egress row r: entries end to end from the first byte of the stream's first row, then 0x00 (R263). -/
def FacetLoupe.grain (p : FacetLoupe) (r : Rsn) (j : Nat) : Grain :=
  let off := (r - p.start).toNat * 16 * p.k + 16 * j
  let i := off / 4096
  if p.src.entries ≤ i then 0 else grainOf (((p.src.entry (p.seq + i) i).drop (off % 4096)).take 16)

/-! ### Attribution (R249, R250, R275) -/

/-- trib.interpretation by source grain, where it is not RAW (R255). -/
def State.interpNow (s : State) : Table Nat :=
  s.tribs.foldl (fun t x =>
    let v := s.cur .tribInterpretation x.1
    if x.2.on && v != 0 then x.2.grains.foldl (fun t g => Table.put t (x.2.lane * 4096 + g) v) t else t) []

/-- A device superframe begins: trib.interpretation as it stands now (R275). -/
def State.latchInterp (s : State) : State :=
  { s with obs := { s.obs with facet := { s.obs.facet with interp := (sfOf s.clk.rsn, s.interpNow) :: s.obs.facet.interp.take 1 } } }

/-- The entries of one lane, by grain. -/
def laneInterp (t : Table Nat) (l : Nat) : Table Nat := (t.filter fun x => x.1 / 4096 == l).map fun x => (x.1 % 4096, x.2)

/-- The interpretation of the superframe of row rsn of a lane: the one in force at its first row. A LOCKED lane that attributed nothing to
that row takes it as the device superframe began, a PLESIO lane as of its first row received (R255, R275). -/
def State.interpOf (s : State) (l : Nat) (rsn : Rsn) : Table Nat :=
  match (s.facetLane l).rows.find? fun r => sfOf r.rsn == sfOf rsn with
  | some r => r.interp
  | none =>
    let was := s.obs.facet.interp.find? fun x => x.1 == sfOf rsn
    laneInterp (match was with
      | some (_, t) => if rsn.toNat % 625 = 0 ∨ s.cur .laneClocking l = 1 then s.interpNow else t
      | none => s.interpNow) l

/-- A lane stands in facet.scope, the engine is enabled and not in doubt (R248, R509). -/
def State.facetScoped (s : State) (l : Nat) : Bool :=
  s.cur .facetEnable 0 == 1 && (s.cur .facetScope 0).testBit (l / 8) && !(s.flt.parityBad.any fun x => x.1 == 3)

/-- The lane is the higher-numbered lane of an active merge pair: its rows contribute nothing (R251). -/
def State.higherMerged (s : State) (l : Nat) : Bool :=
  match s.pairOf l with
  | some m => m.active && m.high == l
  | none => false

/-- Attribute a row to a lane: an RSN attributed twice contributes once (R249). -/
def State.attribute (s : State) (l : Nat) (rsn entry : Rsn) (subst : Bool) (c : RowContent) : State :=
  if s.facetScoped l && !s.higherMerged l then
    let r : FacetRow := { rsn := rsn, entry := entry, content := c, subst := subst, top := s.grainsOf l, interp := s.interpOf l rsn }
    s.modFacetLane l fun f => if f.rows.any fun x => x.rsn == rsn then f else { f with rows := f.rows ++ [r] }
  else s

/-- Grains of the newest row whose ring word the erg found damaged contribute nothing (R504 class 0x02, R509). -/
def State.facetDoubt (s : State) (l : Nat) (entry : Rsn) (gs : List Nat) : State :=
  if gs.isEmpty then s
  else s.modFacetLane l fun f => { f with rows := f.rows.map fun r => if r.entry = entry then { r with bad := r.bad ++ gs } else r }

/-- Lane superframes completed in the rows held, oldest first: their row 624 has been received, or a row of a later one (R250). -/
def completedSf (rs : List FacetRow) : List Nat :=
  let sfs := (rs.map fun r => sfOf r.rsn).eraseDups
  let last := match rs.getLast? with | some r => if sfEnd r.rsn then none else some (sfOf r.rsn) | none => none
  sfs.filter fun f => some f != last

/-- Put a row into its place in ascending RSN. -/
def insertRow (r : FacetRow) (rs : List FacetRow) : List FacetRow :=
  match rs with
  | [] => [r]
  | x :: t => if r.rsn.toNat ≤ x.rsn.toNat then r :: x :: t else x :: insertRow r t

/-- The record of superframe f is the first one after RX enable (R253). -/
def FacetLane.anew (x : FacetLane) (f : Nat) : Bool :=
  match x.fresh with
  | some q => q == 0 || rsnLe (BitVec.ofNat 48 (625 * q)) (BitVec.ofNat 48 (625 * f))
  | none => false

/-- The record of superframe f is formed from the rows held, in ascending RSN; rows and tail are kept for those after it; gap: the
comparison with the one before is not available (R253, R254). -/
def FacetLane.formFrom (x : FacetLane) (f : Nat) (gap : Bool) (rows tail : List FacetRow) : FacetLane :=
  { rows := rows
    tail := tail
    cur := (x.rows.filter fun r => sfOf r.rsn == f).foldr insertRow []
    prev := if gap || x.anew f then [] else x.cur
    before := (x.tail ++ x.rows).find? fun r => r.rsn + 1 == BitVec.ofNat 48 (625 * f)
    stale := false
    seen := some f
    fresh := if x.anew f then none else x.fresh }

/-- The record of a LOCKED lane: its rows of the superframe that has ended; its last row stays as the row before (R249, R254). -/
def FacetLane.form (x : FacetLane) (f : Nat) (gap : Bool) : FacetLane :=
  x.formFrom f gap (x.rows.filter fun r => rsnLe (BitVec.ofNat 48 (625 * f + sfRows f - 1)) r.rsn) []

/-- The lane superframes completed in the rows of a PLESIO lane since its last record. merged: the row merged last, where the lane is the
higher of an active pair, for its own rows contribute no more (R250, R251). -/
def FacetLane.newSf (x : FacetLane) (merged : List FacetRow) : List Nat :=
  (completedSf (x.rows ++ merged)).filter fun f => x.rows.any fun r => sfOf r.rsn == f

/-- The record of a PLESIO lane: what stays is the lane superframe still open, with the last row of the one reported. A superframe that the
received RSN has left by a jump back is complete (R96, R250). -/
def FacetLane.formOpen (x : FacetLane) (f : Nat) (gap : Bool) (new : List Nat) : FacetLane :=
  x.formFrom f gap (x.rows.filter fun r => !new.contains (sfOf r.rsn)) (x.rows.filter fun r => sfOf r.rsn == f && sfEnd r.rsn)

/-- The row merged last of the pair whose higher lane is l. -/
def State.mergedRow (s : State) (l : Nat) : List FacetRow :=
  match s.pairOf l with
  | some m => if m.active && m.high == l then (s.facetLane m.low).rows.getLast?.toList else []
  | none => []

/-- A PLESIO lane's record: the lane superframe completed last; none new: the record before it again, STALE. A lane that is disabled, or that
has been the higher lane of a pair for the whole lane superframe, has none (R250, R251). -/
def State.formPlesio (s : State) (l : Nat) (gap : Bool) : State :=
  let x := s.facetLane l
  let new := x.newSf (s.mergedRow l)
  let waits := !x.rows.isEmpty
  match new.getLast? with
  | some f =>
    let s := if x.seen.isSome then s.bump .facetPmPlesioSkipped 0 (new.length - 1) else s
    s.modFacetLane l fun x => x.formOpen f gap new
  | none => s.modFacetLane l fun x =>
    if (s.lane l).rxOn && (!s.higherMerged l || waits) then { x with stale := true } else { x with cur := [], stale := false }

/-- The records of superframe f are formed for every lane that holds rows. -/
def State.formRecords (s : State) (f : Nat) : State :=
  let gap := s.obs.facet.dropped
  (s.obs.facet.lanes.map (·.1)).foldl (fun s l =>
    if s.cur .laneClocking l = 1 then s.formPlesio l gap else s.modFacetLane l fun x => x.form f gap) s

/-! ### Output (R258 to R263) -/

/-- The dunes of facet.scope in ascending order. -/
def State.scopeDunes (s : State) : List Nat := allDunes.filter fun d => (s.cur .facetScope 0).testBit d

/-- Change the facet engine. -/
def State.modFacet (s : State) (f : Facet → Facet) : State := { s with obs := { s.obs with facet := f s.obs.facet } }

/-- The loupe stream of a superframe starts at this row (R263). -/
def State.startLoupe (s : State) (x : FacetSrc) : State :=
  let p : FacetLoupe := { src := x, start := s.clk.rsn, lane := s.cur .facetLoupeLane 0, first := s.cur .facetLoupeFirst 0,
                          k := s.cur .facetLoupeGrains 0, seq := s.obs.facet.loupeSeq }
  s.modFacet fun f => { f with loupe := some p, loupeSeq := (f.loupeSeq + x.entries) % 2 ^ 20 }

/-- A superframe is dropped whole (R261). -/
def State.dropFacet (s : State) (sf : Nat) : State :=
  let s := s.modFacet fun f => { f with dropped := true, dropRun := if f.dropRun.2 = 0 then (sf, 1) else (f.dropRun.1, f.dropRun.2 + 1) }
  (s.bump .facetPmSfDropped 0 1).info 0x2008 sf 0

/-- Row W of a superframe: its entries go to the facet ring, or it is dropped (R261). -/
def State.startFacet (s : State) (x : FacetSrc) : State :=
  if s.host.fac.room < x.entries + 1 || s.obs.facet.out.isSome then s.dropFacet x.sf
  else
    let run := s.obs.facet.dropRun
    let o : FacetOut := { src := x, gap := if run.2 = 0 then none else some run, done := 0 }
    s.modFacet fun f => { f with out := some o, dropped := false, dropRun := (0, 0) }

/-- FACET_WINDOW_OPEN: device row W of superframe F (R258, R261, R263). The window of the superframe of 31 rows opens 8 rows after the wrap as
every other does, and its loupe stream takes the place of the one before (log entry 116). -/
def execFacetWindowOpen (s : State) : Host.Outcome State Fault Refusal :=
  if s.clk.rsn.toNat % 625 = 8 then
    let f := sfOf (s.clk.rsn - 9)
    let s := s.modFacet fun x => { x with loupe := none }
    match s.obs.facet.first with
    | none => .next s
    | some a =>
      if (s.obs.facet.begun || rsnLe (BitVec.ofNat 48 (625 * a)) (BitVec.ofNat 48 (625 * f))) && s.cur .facetEnable 0 == 1 then
        let s := (s.modFacet fun x => { x with begun := true }).formRecords f
        let x : FacetSrc := { sf := f, dunes := s.scopeDunes, lanes := s.obs.facet.lanes }
        let dest := s.cur .facetDest 0
        let s := if dest = 0 then s else s.startLoupe x
        .next (if dest = 1 then s.modFacet fun y => { y with dropped := false } else s.startFacet x)
      else .next s
  else .next s

/-- One entry into the facet ring (R260, R382, R541). -/
def State.putFacet (s : State) (bytes : Nat → List Byte) (records : Nat) : State :=
  let r := s.host.fac
  let s := s.hostWrite (r.addr + 4096 * r.next) (bytes r.seq)
  let s := { s with host := { s.host with fac := r.advance } }
  (((s.perf 8 0 1).perf 0x060 0 records)).interrupt r.vector

/-- FACET_ENTRY_WRITE: the next entry of the output in progress: a gap marker first, then the blocks in order (R258 to R261). -/
def execFacetEntryWrite (s : State) : Host.Outcome State Fault Refusal :=
  match s.obs.facet.out with
  | none => .next s
  | some o =>
    if s.host.fac.on && s.host.linkUp && s.host.dmaOn && decide (0 < s.host.fac.room) then
      match o.gap with
      | some (f, n) =>
        let s := s.putFacet (fun q => gapEntry q f n) 0
        .next (s.modFacet fun x => { x with out := some { o with gap := none } })
      | none =>
        let s := s.putFacet (fun q => o.src.entry q o.done) (blockCount (o.done % 65))
        let n := o.done + 1
        if n < o.src.entries then .next (s.modFacet fun x => { x with out := some { o with done := n } })
        else .next ((s.modFacet fun x => { x with out := none }).bump .facetPmSfWritten 0 1)
    else .next s

/-- FACET.CONFIG (R260, R379). -/
def facetConfigBody (addr log2 vector : Nat) (_c : CmdRef) (s : State) : Reply :=
  let small := decide (4 ≤ log2 ∧ log2 ≤ 16 ∧ 2 ^ log2 < 65 * s.scopeDunes.length + 1)
  let cs := s.ringChecks log2 vector addr 4096 true
  guarded (cs.take 2 ++ [(small, 0x0004, 0)] ++ cs.drop 2 ++ [(s.cur .facetEnable 0 == 1, 0x0108, 0)]) <|
    .done { s with host := { s.host with fac := { on := true, addr := addr, log2 := log2, vector := vector }, dmaOn := true } } 0
      [(0, 1, addr)]

/-- FACET.CONFIG (R260). -/
def execFacetConfig (e : Entry) (addr log2 vector : Nat) (s : State) : Host.Outcome State Fault Refusal :=
  serve (cmdOf (.facetConfig e addr log2 vector)) e s (facetConfigBody addr log2 vector)

/-! ### Enabling (R260, R264, R273 to R275) -/

/-- The FAC domain is ON at 800 MHz, setpoint 0 (R274). -/
def State.facReady (s : State) : Bool := s.domain 3 == 0 && s.pow.dvfsFac == 0

/-- A grain is valid in the active or the staged egress map. -/
def State.mapped (s : State) (key : Nat) : Bool :=
  (Table.get 0 s.egrB.egr key).getLsbD 72 || (Table.get 0 s.afterReplay.shadow.egr key).getLsbD 72

/-- The first refusal of facet.enable = 1, none where it is accepted (R260, R264, R274). -/
def State.facetRefusal (s : State) : Option Nat :=
  let dest := s.cur .facetDest 0
  let n := s.scopeDunes.length
  let l := s.cur .facetLoupeLane 0
  let f := s.cur .facetLoupeFirst 0
  let k := s.cur .facetLoupeGrains 0
  let keys := (List.range k).map fun i => l * 4096 + f + i
  if dest != 0 && s.cur .laneLoupe l != 1 then some 0x0005
  else if dest != 0 && (decide (10000 * k < 266240 * n) || decide (s.grainsOf l < f + k)) then some 0x0004
  else if dest != 1 && s.host.fac.on && decide (2 ^ s.host.fac.log2 < 65 * n + 1) then some 0x0004
  else if dest != 0 && keys.any (fun g => s.mapped g || s.cutOwns g) then some 0x0309
  else if !s.facReady then some 0x000D
  else none

/-- facet.enable takes effect in row a: the first record covers the first superframe F with F × 625 > a + 1 (R275). -/
def State.facetOn (s : State) : State :=
  s.modFacet fun f => { f with first := some (((s.clk.rsn + 1).toNat / 625 + 1) % ((2 ^ 48 + 624) / 625)), begun := false, lanes := [] }

/-- facet.enable is cleared: no later superframe is output (R275). -/
def State.facetOff (s : State) : State := s.modFacet fun f => { f with first := none, begun := false, lanes := [] }

/-- The first refusal of cut.enable = 1 (R273, R274). -/
def State.cutRefusal (s : State) (d : Nat) : Option Nat :=
  let l := s.cur .cutLane d
  let f := s.cur .cutFirst d
  let k := s.cutGrains d
  let keys := (List.range k).map fun i => l * 4096 + f + i
  if l / 8 != d || decide (s.grainsOf l < f + k) then some 0x0004
  else if keys.any (fun g => s.mapped g || s.facetOwns g) then some 0x0309
  else if !s.facReady then some 0x000D
  else none

/-- A write of cut.enable accepted in row a takes effect from egress row a + 2 (R273). -/
def State.cutSwitch (s : State) (d : Nat) (v : Bool) : State := s.modCut d fun x => { x with pend := x.pend ++ [(s.clk.rsn + 2, v)] }

/-- The stage's output is in force in egress row r (R273). -/
def CutStage.onAt (c : CutStage) (r : Rsn) : Bool :=
  match (c.pend.filter fun x => rsnLe x.1 r).getLast? with
  | some (_, v) => v
  | none => c.on

/-- CUT_ENABLE_EFFECT: a stage that is off has no input (R273, R277). -/
def execCutEnableEffect (dune : Fin 64) (s : State) : Host.Outcome State Fault Refusal :=
  if (s.cut dune.val).pend.any fun x => rsnLe x.1 s.clk.rsn then
    .next (s.modCut dune.val fun x => { x with
      on := x.onAt s.clk.rsn
      pend := x.pend.filter fun y => !rsnLe y.1 s.clk.rsn
      aisIn := x.aisIn && x.onAt s.clk.rsn })
  else .next s

/-! ### Cut stages (R265 to R272) -/

/-- round_half_even of x × scale / 4,096 (R267). -/
def roundScaled (x : Int) (scale : Nat) : Int :=
  let p := x * (scale : Int)
  let q := p / 4096
  let r := p % 4096
  if r < 2048 then q else if 2048 < r then q + 1 else if q % 2 = 0 then q else q + 1

/-- One sample: the output number, clamped to the maximum, clamped to the minimum (R267). -/
def cutSample (lo hi : Int) (scale : Nat) (x : Int) : Int × Bool × Bool :=
  let y := roundScaled x scale
  if hi < y then (hi, true, false) else if y < lo then (lo, false, true) else (y, false, false)

/-- The samples of a word: 16 × S8, or 8 × S16 big-endian in format 2 (R266). -/
def cutSamples (fmt : Nat) (w : Grain) : List Int :=
  if fmt = 2 then (List.range 8).map fun i => signedOf 16 (beNat (((grainBytes w).drop (2 * i)).take 2))
  else (grainBytes w).map fun b => signedOf 8 b.toNat

/-- Pack output samples, the first in the highest bits: 4, 2 or 8 bits each (R255, R266). -/
def packSamples (bits n : Nat) (ys : List Int) : List Byte :=
  match n with
  | 0 => []
  | m + 1 =>
    let per := 8 / bits
    leBytes 1 ((ys.take per).foldl (fun a y => a * 2 ^ bits + unsignedOf bits y) 0) ++ packSamples bits m (ys.drop per)

/-- Least and greatest output number, and its bits (R266). -/
def cutRange (fmt : Nat) : Int × Int × Nat :=
  match fmt with
  | 0 => (-8, 7, 4)
  | 1 => (-2, 1, 2)
  | _ => (-128, 127, 8)

/-- Requantise one word: its output bytes, samples at the maximum, samples at the minimum (R266, R267). -/
def requantise (fmt scale : Nat) (w : Grain) : List Byte × Nat × Nat :=
  let (lo, hi, bits) := cutRange fmt
  let ys := (cutSamples fmt w).map (cutSample lo hi scale)
  (packSamples bits (16 / cutRatio fmt) (ys.map (·.1)), (ys.filter fun y => y.2.1).length, (ys.filter fun y => y.2.2).length)

/-- The output grains from the input bytes, r inputs to a grain (R269). -/
def cutPack (key n per : Nat) (bs : List Byte) : Table Grain :=
  match n with
  | 0 => []
  | m + 1 => (key, grainOf (padTo 16 (bs.take per))) :: cutPack (key + 1) m per (bs.drop per)

/-- The word that a cut input receives in this row, and whether it is known AIS (R271). -/
structure CutWord where
  input : Nat
  word : Grain
  ais : Bool

/-- Count an input of a dune's stage: known AIS, or its samples (R271, R272, R278, R542). -/
def State.countCut (s : State) (d : Nat) (x : CutWord) : State :=
  let fmt := s.eff .cutFormat d
  if x.ais then s.bump .cutPmAisRows d 1
  else
    let n := if fmt = 2 then 8 else 16
    let (_, pos, neg) := requantise fmt (s.eff .cutScale d) x.word
    let s := ((s.bump .cutPmSamples d n).bump .cutPmSatPos d pos).bump .cutPmSatNeg d neg
    (s.perf 0x061 0 n).perf 0x062 0 (pos + neg)

/-- The output bytes of input i (R269, R271). -/
def State.cutBytes (s : State) (d : Nat) (ws : List CutWord) (i : Nat) : List Byte :=
  let fmt := s.eff .cutFormat d
  let per := 16 / cutRatio fmt
  match ws.find? fun x => x.input == i with
  | some x => if x.ais then List.replicate per 0xFF else (requantise fmt (s.eff .cutScale d) x.word).1
  | none => List.replicate per 0

/-- Requantise a dune's input words for the next egress row; mis: the inputs whose tag mismatched (R168, R267 to R272). -/
def State.runCut (s : State) (d : Nat) (ws : List CutWord) (mis : List (Nat × Nat × Nat × Nat)) : State :=
  let n := s.cur .cutInputs d
  let ws := ws.filter fun x => decide (x.input < n)
  let fmt := s.eff .cutFormat d
  let bs := (List.range n).flatMap (s.cutBytes d ws)
  let out := cutPack (s.cur .cutLane d * 4096 + s.cur .cutFirst d) (s.cutGrains d) 16 bs
  let sat : Table Nat := ws.foldl (fun t x =>
    let (_, p, q) := requantise fmt (s.eff .cutScale d) x.word
    if x.ais then t else Table.set 0 t x.input (p + q)) []
  let s := ws.foldl (fun s x => s.countCut d x) s
  s.modCut d fun c => { c with out := out, outSat := sat, outMis := mis, outAis := ws.any (·.ais) }

/-- The stage's output goes out in an egress row in which it is on: the saturation counts of the row are its own (R270, R272). -/
def CutStage.sent (c : CutStage) : CutStage :=
  { c with satNow := c.outSat.foldl (fun t x => Table.set 0 t x.1 (Table.get 0 t x.1 + x.2)) c.satNow
           aisIn := c.outAis }

/-- The device superframe ends: the counts of every stage are replaced together (R272). -/
def State.swapSat (s : State) : State :=
  { s with obs := { s.obs with cuts := s.obs.cuts.map fun x => (x.1, { x.2 with satLast := x.2.satNow, satNow := [] }) } }

/-- CUT.READ_SAT (R272). -/
def cutReadSatBody (b : Buf) (first count dune : Nat) (_c : CmdRef) (s : State) : Reply :=
  if count = 0 then .noop false
  else
    guarded ([(b.len == 0, 0x0003, 0), (decide (63 < dune ∨ 8192 < first + count), 0x0004, 0)] ++ s.bufChecks b (2 * count) true) <|
      let t := (s.cut dune).satLast
      .done (s.hostWrite b.addr ((List.range count).flatMap fun i => leBytes 2 (Table.get 0 t (first + i)))) count

/-- CUT.READ_SAT (R272). -/
def execCutReadSat (e : Entry) (b : Buf) (first count dune : Nat) (s : State) : Host.Outcome State Fault Refusal :=
  serve (cmdOf (.cutReadSat e b first count dune)) e s (cutReadSatBody b first count dune)

/-! ### LOUPE.LIST (R247) -/

/-- The entry of grain g of a lane, where it is connected or owned (R247). -/
def State.listEntry (s : State) (l g : Nat) : Option (List Byte) :=
  let key := l * 4096 + g
  let w := Table.get 0 s.egrB.egr key
  let line := fun (pl pg al ag grp fl : Nat) =>
    leBytes 2 g ++ leBytes 2 pl ++ leBytes 2 pg ++ leBytes 2 al ++ leBytes 2 ag ++ leBytes 2 grp ++ leBytes 1 fl ++ [0, 0, 0]
  if s.facetOwns key then some (line 0 0 0 0 0 2)
  else if s.cutOwns key then some (line 0 0 0 0 0 4)
  else if w.getLsbD 72 then
    let c := s.egrB.conn key w
    let inst := if (s.retimedOf c.pri).isSome then 8 else 0
    match c.alt with
    | some (a, k) => some (line (c.pri / 4096) (c.pri % 4096) (a / 4096) (a % 4096) k (1 + inst))
    | none => some (line (c.pri / 4096) (c.pri % 4096) 0 0 0 inst)
  else none

/-- LOUPE.LIST (R247). -/
def loupeListBody (b : Buf) (lane : Nat) (_c : CmdRef) (s : State) : Reply :=
  guarded [(b.len == 0, 0x0003, 0), (b.len % 16 != 0 || decide (511 < lane), 0x0004, 0), (!s.bufWrite b b.len, 0x0007, 0x0001)] <|
    let es := (List.range (s.grainsOf lane)).filterMap (s.listEntry lane)
    .done (s.hostWrite b.addr ((es.take (b.len / 16)).flatMap id)) es.length

/-- LOUPE.LIST (R247). -/
def execLoupeList (e : Entry) (b : Buf) (lane : Nat) (s : State) : Host.Outcome State Fault Refusal :=
  serve (cmdOf (.loupeList e b lane)) e s (loupeListBody b lane)

/-! ### Status (R277) -/

/-- facet.status (R277). -/
def State.facetStatus (s : State) : Nat :=
  let f := s.obs.facet
  (if s.cur .facetEnable 0 = 1 then 1 else 0) + (if f.out.isSome then 2 else 0) + (if f.loupe.isSome then 4 else 0) +
    if f.dropped then 8 else 0

/-- cut.status (R277). -/
def State.cutStatus (s : State) (d : Nat) : Nat :=
  let c := s.cut d
  (if c.on then 1 else 0) + (if c.satLast.isEmpty then 0 else 2) + if c.aisIn then 4 else 0

end Sys2Proof.Machine
end

