-- ==== Sys2Proof/Machine/Status.lean ====
section
/-!
DEFINITION. Machine/Status.lean: what every read-only parameter reads (R116, R151, R176, R177, R208, R209, R238, R239, R277, R306,
R307, R335, R337, R370, R431, R468, R495 to R497, R521, R544, R547), and the status-change events of R530.
-/
namespace Sys2Proof.Machine

/-- Flags as bits from position k on. -/
def bitsFrom (k : Nat) (bs : List Bool) : Nat :=
  match bs with
  | [] => 0
  | b :: r => bitAt b k + bitsFrom (k + 1) r

/-! ### Lanes and tributaries -/

/-- Code of ALIGN (R116). -/
def Align.code (a : Align) : Nat :=
  match a with
  | .disabled => 0 | .hunt => 1 | .confirm => 2 | .sync => 3 | .flywheel => 4

/-- lane.rx_status (R116). -/
def Lane.rxStatus (x : Lane) : Nat :=
  x.align.code + bitAt x.pnInv 3 + x.anchor % 4 * 16 +
    bitsFrom 6 [x.los, x.lof, x.anf, x.unc, x.lais, x.sd, x.tim, x.slf, x.rrdi, x.anw] + x.timCause % 16 * 2 ^ 16

/-- lane.test_status (R337). -/
def State.testStatus (s : State) (l : Nat) : Nat :=
  let t := (s.lane l).test
  bitAt t.under 0 + s.eff .lanePrbsTx l % 4 * 2 + s.eff .lanePrbsRx l % 4 * 8 + bitAt t.rxLock 5 + t.loop % 8 * 64 +
    bitAt (t.injRows != 0) 9 + bitAt t.scan.isSome 10

/-- class.cfg_status of some blocks of an instance (R431). -/
def State.cfgStatus (s : State) (bs : List Block) (obj : Nat) : Nat :=
  let n := (s.par.buffered.filter fun b => bs.contains b.n.desc.block && b.obj == obj).length
  let ew := bs.any fun b => Table.get false s.par.enWrite (b.key obj)
  bitAt ew 0 + bitAt (n != 0) 1 + n * 4

/-- trib.status (R151). -/
def Trib.status (t : Trib) : Nat :=
  let pstate := if !t.on then 3 else if t.tais then 1 else if t.tlop then 2 else 0
  pstate + bitsFrom 2 [t.tais, t.tlop, t.tszm, t.tuneq, t.tplm, t.ttim, t.tsd, t.trdi, t.tslip, t.tdiv, t.retimed]

/-- trib.ring (R151). -/
def Trib.ringStatus (t : Trib) : Nat := t.rxPtr % 512 + t.txPtr % 512 * 2 ^ 9 + t.sample % 64 * 2 ^ 18

/-! ### Dunes and maps -/

/-- dune.status (R176). -/
def Dune.status (d : Dune) : Nat := bitsFrom 0 [d.msr, d.msa, d.misRow, d.fqRow]

/-- Deliveries of a bank (R160). -/
def Bank.deliveries (b : Bank) : Table Bool := Machine.deliveries b.conns b.cuts

/-- The shadow generation (R177, R192). -/
def State.shadowGen (s : State) : Bank := s.afterReplay.shadow

/-- Cycles of a dune with a free word among the 16 of each: slots are the middle slots in use (R157, R177). -/
def freeCycles (slots : List Nat) : Nat :=
  let t := slots.foldl (fun (t : Table Nat) k => Table.put t (k / 16) (Table.get 0 t (k / 16) + 1)) []
  4096 - (t.filter fun x => x.2 == 16).length

/-- Ingress middle slots in use at a dune. -/
def Bank.ingSlots (b : Bank) (d : Nat) : List Nat :=
  (b.ing.filter fun x => x.1 / 65536 == d && x.2.getLsbD 15).map fun x => x.1 % 65536

/-- Egress middle slots in use at a dune. -/
def Bank.midSlots (b : Bank) (d : Nat) : List Nat :=
  (b.mid.filter fun x => x.1 / 65536 == d && x.2.getLsbD 10).map fun x => x.1 % 65536

/-- Records are being written into the shadow banks: those of a timetable's armed entry, or of a live copy (R203, R208, R366; log entry
112). -/
def State.writing (s : State) : Bool :=
  !s.com.entryRecs.isEmpty || (s.dev.role == .follower && s.pair.live.isSome && s.pair.live != some 0)

/-- map.commit_status (R208). -/
def State.commitStatus (s : State) : Nat :=
  let k := s.com
  let armed := match k.pend with | some p => p.armed | none => false
  (if k.replaying then 2 else if s.writing then 3 else if k.hasDelta then 1 else 0) +
    bitsFrom 2 [k.pend.isSome, armed, k.lag.isSome, k.shadowEcc, !k.car.entries.isEmpty, k.peerRefused]

/-- caravan.next_entry; 0 where no entry is left to arm (R209; log entry 112). -/
def Caravan.nextShown (k : Caravan) : Nat := if k.next < k.entries.length then k.next else 0

/-- map.commit_rsn (R209). -/
def State.commitRsn (s : State) : Rsn :=
  match s.com.pend with
  | some p => p.c
  | none => s.com.lastC

/-! ### Protection -/

/-- prot.status (R238). -/
def State.protStatus (s : State) (k : Nat) : Nat :=
  let g := s.group k
  let (sfp, sfa, sdp, sda) := g.eff
  let fe := match g.fe with | some f => f.1 % 16 | none => 0
  bitAt g.sel 0 + g.req % 16 * 2 + bitsFrom 5 [sfp, sfa, sdp, sda, !g.hold.isEmpty, g.wtr.isSome, g.fe.isSome] + fe * 2 ^ 12 +
    bitsFrom 16 [g.psm, g.apsl, g.psdiv, (s.groupConns k).isEmpty] + g.cmd % 4 * 2 ^ 20 + bitAt (g.cmd == 3 && g.target) 22

/-- merge.status of the pair whose lower lane is l (R239). -/
def State.mergeStatus (s : State) (l : Nat) : Nat :=
  match s.prot.merges.find? fun m => m.low == l with
  | some m => bitsFrom 0 [m.prev, m.validA, m.validB, m.mdi, m.mdiff, m.mskw, m.mpln, s.flag .mergePreferred l]
  | none => bitAt (s.flag .mergePreferred l) 7

/-! ### Timing, pairing -/

/-- timing.status (R306). -/
def State.timingStatus (s : State) : Nat :=
  let t := s.tim
  t.state.code + t.sel % 32 * 8 +
    bitsFrom 8 [t.switching, t.histValid, t.tempValid, s.governingPps.isSome, s.governingPps == some 1, t.todQual] +
    s.tq * 2 ^ 14 + bitsFrom 16 [t.oxf, t.osns, t.tode, t.toff, t.tfol, t.prskw] + t.cmd % 4 * 2 ^ 22

/-- Code of a qualification (R307). -/
def Qual.code (q : Qual) : Nat :=
  match q with
  | .disqualified => 0 | .waiting => 1 | .qualified => 2

/-- LOS_CAUSE while RLOS is set (R307). -/
def RefIn.cause (x : RefIn) : Nat := if x.rlos then x.losCause % 4 else 0

/-- timing.ref_status (R307). -/
def State.refStatus (s : State) (i : Nat) : Nat :=
  let x := s.refIn i
  x.qual.code + bitAt (s.eligible i) 2 + s.rankOf i % 16 * 8 + bitsFrom 7 [x.rlos, x.rwf, x.rfh, x.rfs, x.rout, x.rnl] +
    x.cause * 2 ^ 13

/-- LEASE_OK (R351, R352, R370). -/
def State.leaseOk (s : State) : Bool :=
  match s.dev.role with
  | .holder => s.pair.seized || !s.elapsed s.pair.leaseEnd 0
  | .follower => s.peerLease
  | _ => false

/-- LIVE (R370). -/
def Pair.liveCode (p : Pair) : Nat :=
  match p.live with
  | none => 0
  | some 0 => 1
  | some 3 => 3
  | some _ => 2

/-- pair.status (R370). -/
def State.pairStatus (s : State) : Nat :=
  let p := s.pair
  p.peerState % 8 + bitsFrom 3 [p.linkUp, s.leaseOk, p.sld, p.slx, p.speer, p.cpin, p.cloop.isSome, p.cnoh, p.cdual,
    p.cstrap.isSome, p.cpair.isSome, p.faultAnn, p.seized, p.takeover] + p.liveCode * 2 ^ 17

/-! ### The control complex, power, faults, logging -/

/-- cfg.jcc_status (R468). -/
def State.jccStatus (s : State) : Nat :=
  let j := s.jcc
  let runs := match s.dev.jcc with | .bootRom | .starting | .running => true | _ => false
  bitsFrom 0 [j.remap, runs, runs && j.j1, s.dev.serviceEn, j.marchOn] + j.region % 2048 * 32 + bitAt j.spareLow 16

/-- cfg.fault_status (R521). -/
def State.faultStatus (s : State) : Nat :=
  let o := s.flt.log.filter fun (r : FaultRec) => r.isOpen
  bitsFrom 0 [!o.isEmpty, o.any fun r => r.outcome == 2, o.any fun r => r.action.testBit 7, !s.flt.uncovered.isEmpty] +
    s.flt.lastRegion % 256 * 16

/-- power.domain_states (R495). -/
def State.domainStates (s : State) : Nat := (List.range 140).foldl (fun v q => v + s.domain q % 4 * 4 ^ q) 0

/-- power.last_sleep (R496). -/
def Power.lastSleepWord (p : Power) : Nat :=
  let (st, d, r, n) := p.lastSleep
  st % 2 ^ 16 + d % 256 * 2 ^ 16 + r % 256 * 2 ^ 24 + n % 256 * 2 ^ 32

/-- log.status (R547). -/
def State.logStatus (s : State) : Nat :=
  let dropped := fun (c : Nat) => (Table.find s.log.drops c).isSome
  bitsFrom 0 [s.log.jfull, dropped 3, dropped 2, dropped 1, decide (4096 ≤ queued s.log.queue), s.host.evt.on, s.host.jrn.on] +
    s.jfree * 2 ^ 7

/-- A lifetime accumulator (R544). -/
def State.lifeGet (s : State) (acc bin : Nat) : Nat := Table.get 0 s.log.life (acc * 2 ^ 24 + bin)

/-! ### Every read-only parameter -/

/-- What a read-only parameter of the lanes, tributaries, dunes, maps and protection reads. -/
def State.statusLow (s : State) (n : Pn) (obj : Nat) : Nat :=
  match n with
  | .laneTheta => unsignedOf 16 (s.lane obj).theta
  | .laneRxStatus => (s.lane obj).rxStatus
  | .laneWiringStatus => (s.lane obj).wireTx % 16 + (s.lane obj).wireRx % 4 * 16
  | .laneTestStatus => s.testStatus obj
  | .laneTxCfgStatus => s.cfgStatus [.laneTx, .laneBoth] obj
  | .laneRxCfgStatus => s.cfgStatus [.laneRx, .laneBoth] obj
  | .tribStatus => (s.trib obj).status
  | .tribRing => (s.trib obj).ringStatus
  | .tribPoolUsed => s.poolUsed
  | .duneStatus => (s.dune obj).status
  | .duneDOut => leaving s.egrB.deliveries obj
  | .duneEIn => entering s.egrB.deliveries obj
  | .duneDOutShadow => leaving s.shadowGen.deliveries obj
  | .duneEInShadow => entering s.shadowGen.deliveries obj
  | .duneFreeCyclesIn => freeCycles (s.shadowGen.ingSlots obj)
  | .duneFreeCyclesOut => freeCycles (s.shadowGen.midSlots obj)
  | .mapGeneration => s.com.gen
  | .mapCommitRsn => s.commitRsn.toNat
  | .mapEarliestCommit => s.earliestCommit.toNat
  | .mapStageEntries => s.com.staged.length
  | .mapStageRecords => s.com.recs.length
  | .mapStageDigest => (digestOf s.com.recs).toNat
  | .mapCommitStatus => s.commitStatus
  | .caravanLoopRows => s.com.car.loopRows
  | .caravanNextEntry => s.com.car.nextShown
  | .protStatus => s.protStatus obj
  | .mergeStatus => s.mergeStatus obj
  | _ => 0

/-- What a read-only parameter reads. -/
def State.statusOf (s : State) (n : Pn) (obj : Nat) : Nat :=
  match n with
  | .timingStatus => s.timingStatus
  | .timingRefStatus => s.refStatus obj
  | .timingCfgStatus => s.cfgStatus [.refIn] obj
  | .facetStatus => s.facetStatus
  | .facetCfgStatus => s.cfgStatus [.facet] obj
  | .cutStatus => s.cutStatus obj
  | .cutCfgStatus => s.cfgStatus [.cut] obj
  | .pairStatus => s.pairStatus
  | .cfgProtectionActive => if s.dev.tmr then 0 else 1
  | .cfgJccStatus => s.jccStatus
  | .cfgFaultStatus => s.faultStatus
  | .powerDomainStates => s.domainStates
  | .powerDvfsJcc => s.pow.dvfsJcc
  | .powerDvfsFac => s.pow.dvfsFac
  | .powerTodUncertainty => s.pow.todUnc
  | .powerLastSleep => s.pow.lastSleepWord
  | .powerWakeCause => s.pow.wakeCause % 8 + bitAt s.pow.retLost 3
  | .logStatus => s.logStatus
  | .logLifeOnS => s.lifeGet 0 0
  | .logLifeTj => s.lifeGet 1 obj
  | .logLifeSupply => s.lifeGet 2 obj
  | .logLifeCycles => s.lifeGet 3 0
  | .logLifeResets => s.lifeGet 4 obj
  | .logLifeCommits => s.lifeGet 5 0
  | .logLifeClaspAcq => s.lifeGet 6 0
  | .logLifeClaspRel => s.lifeGet 7 0
  | .logLifeFec => s.lifeGet 8 obj
  | .logLifeWear => s.lifeGet 9 obj
  | m => s.statusLow m obj

/-! ### Status-change events (R437, R530) -/

/-- The bits of a status parameter that have no alarm code and are no count, position or code that a stated rule moves in ordinary
running (log entry 20): the bits whose change event 0x2001 reports. -/
def watchMask (n : Pn) : Nat :=
  match n with
  | .laneRxStatus => 0xF003F
  | .laneTestStatus => 0x7FF
  | .laneTxCfgStatus | .laneRxCfgStatus | .timingCfgStatus | .facetCfgStatus | .cutCfgStatus => 0x3
  | .tribStatus => 0x1003
  | .duneStatus => 0xC
  | .mapCommitStatus => 0xCF
  | .protStatus => 0x78FFFF
  | .mergeStatus => 0x87
  | .timingStatus => 0xC0FFFF
  | .timingRefStatus => 0x607F
  | .facetStatus => 0x7
  | .cutStatus => 0x7
  | .pairStatus => 0x7801F
  | .cfgJccStatus => 0x1001F
  | .cfgFaultStatus => 0x7
  | .logStatus => 0x70
  | .powerWakeCause => 0xF
  | _ => 0

/-- A watched status word as it stands where nothing has happened yet. -/
def watchDflt (n : Pn) : Nat :=
  match n with
  | .tribStatus => 0x3
  | .protStatus => 0x80000
  | .timingStatus => 0xF8
  | _ => 0

/-- One watched parameter: its change is reported and remembered. -/
def State.watch1 (s : State) (n : Pn) (obj : Nat) : State :=
  let now := s.statusOf n obj
  let m := watchMask n
  let d := watchDflt n
  let old := (Table.find s.log.seen (n.key obj)).getD d
  if now &&& m = old &&& m then s
  else
    let t := if now &&& m = d &&& m then Table.drop s.log.seen (n.key obj) else Table.put s.log.seen (n.key obj) (now &&& m)
    ({ s with log := { s.log with seen := t } }).info 0x2001 (PId.id (.known n obj)) now

/-- The keys of a table, and the objects at which a parameter was reported last, in ascending order. -/
def State.watched {α : Type} (s : State) (n : Pn) (t : Table α) : List Nat :=
  let old := (s.log.seen.filter fun x => x.1 / 65536 == n.ctorIdx).map fun x => x.1 % 65536
  ((t.map (·.1) ++ old).foldl (fun (t : Table Unit) k => Table.put t k ()) []).map (·.1)

/-- The parameter over a list of objects. -/
def State.watchAll (s : State) (n : Pn) (objs : List Nat) : State := objs.foldl (fun s k => s.watch1 n k) s

/-- The lanes, references and dunes whose cfg_status may differ from 0. -/
def State.cfgObjects (s : State) : Table Unit :=
  (s.par.enWrite.map fun x => x.1 % 65536).foldl (fun (t : Table Unit) k => Table.put t k ())
    (s.par.buffered.foldl (fun (t : Table Unit) b => Table.put t b.obj ()) [])

/-- Status-change events at a row boundary (R437, R530). -/
def State.watchStatus (s : State) : State :=
  let lanes := fun (n : Pn) (s : State) => s.watchAll n (s.watched n s.lanes)
  let s := lanes .laneTestStatus (lanes .laneRxStatus s)
  let cfg := fun (n : Pn) (s : State) => s.watchAll n ((s.watched n s.cfgObjects).filter fun k => n.instOk k)
  let s := cfg .laneRxCfgStatus (cfg .laneTxCfgStatus s)
  let s := s.watchAll .tribStatus (s.watched .tribStatus s.tribs)
  let s := s.watchAll .duneStatus (s.watched .duneStatus s.sw.dunes)
  let s := s.watch1 .mapCommitStatus 0
  let s := s.watchAll .protStatus (s.watched .protStatus (s.liveGroups.map fun k => (k, ())))
  let s := s.watchAll .mergeStatus (s.watched .mergeStatus (s.prot.merges.map fun m => (m.low, ())))
  let s := s.watch1 .timingStatus 0
  let s := s.watchAll .timingRefStatus (List.range 24)
  let s := cfg .timingCfgStatus s
  let s := cfg .facetCfgStatus (s.watch1 .facetStatus 0)
  let s := cfg .cutCfgStatus (s.watchAll .cutStatus (s.watched .cutStatus s.obs.cuts))
  [Pn.pairStatus, .cfgJccStatus, .cfgFaultStatus, .logStatus, .powerWakeCause].foldl (fun s n => s.watch1 n 0) s

end Sys2Proof.Machine
end

