-- ==== Sys2Proof/Machine/ParamOps.lean ====
section
/-!
DEFINITION. Machine/ParamOps.lean: PARAM.GET, PARAM.SET, PARAM.DESCRIBE and PARAM.SAVE, the single-parameter rows, writes to enabled
blocks in NATIVE and LEGACY, and what each written parameter starts or stops (R311, R315, R368, R420 to R440, R463, R465).
-/
namespace Sys2Proof

/-- The parameter and instance that an identifier names, where the device knows them (R420, R424). -/
def PId.param (p : PId) : Option (Pn × Nat) :=
  match p with
  | .known n obj => if n.instOk obj then some (n, obj) else none
  | .prev n obj => if n.desc.acc = .cnt ∧ n.instOk obj = true then some (n, obj) else none
  | .unknown _ => none

/-- Least role that writes the parameter; 0 when it cannot be written, as a _prev snapshot (R423). -/
def PId.role (p : PId) : Nat :=
  match p with
  | .known n _ => n.desc.role
  | _ => 0

/-- The length that a read of the parameter answers: texts stand padded to their greatest length (R421). -/
def PId.readLen (p : PId) : Nat :=
  match p.param with
  | some (n, _) => n.desc.len
  | none => 0

end Sys2Proof

namespace Sys2Proof.Machine

/-! ### PARAM.GET (R422, R427) -/

/-- The value that a read returns (R331, R427). -/
def State.readValue (s : State) (p : PId) : Nat :=
  match p with
  | .known n obj => match n.desc.acc with
    | .ro => s.statusOf n obj
    | .cnt => s.cnt n obj
    | _ => if n = .laneRxAdapt ∧ s.adaptHeld obj then 1 else s.cur n obj
  | .prev n obj => Table.get 0 s.par.prev (n.key obj)
  | .unknown _ => 0

/-- Free bytes from a counter on (log entry 1). -/
def freeBytes (base n : Nat) : List Byte := (List.range n).map fun i => BitVec.ofNat 8 (Config.free (base + i))

/-- What PARAM.GET writes into bytes 4 to 71 of an entry. LEN and VALUE of an entry whose STATUS is not OK are free values. -/
def State.getEntry (s : State) (base : Nat) (p : PId) : List Byte :=
  if p.param.isSome then leBytes 2 p.readLen ++ leBytes 2 0 ++ padTo 64 (leBytes p.readLen (s.readValue p))
  else freeBytes base 2 ++ leBytes 2 0x0004 ++ freeBytes (base + 2) 64

/-- A struck field lies in the block that a critical parameter configures: its lane, or the timing subsystem (R433, R502). -/
def strikes (p : PId) (x : Nat × Nat) : Bool :=
  match p with
  | .known n obj => n.crit && (if n.desc.cls = 1 then x.1 == 0x20 + obj / 64 && decide (x.2 < 1024) && x.2 % 512 == obj else x.1 == 1)
  | _ => false

/-- Write the entries in order from entry k on; the ID fields stay as they are. The parity of what is read is checked (R434). -/
def State.writeGets (s : State) (addr k : Nat) (ps : List PId) : State :=
  match ps with
  | [] => s
  | p :: r =>
    let s := s.parityCheck (strikes p)
    (s.hostWrite (addr + 72 * k + 4) (s.getEntry (s.clk.free + 66 * k) p)).writeGets addr (k + 1) r

/-- PARAM.GET: RESULT is the number of entries whose STATUS is not OK (R422). -/
def paramGetBody (b : Buf) (count : Nat) (ids : List PId) (_c : CmdRef) (s : State) : Reply :=
  if count = 0 then .noop false
  else
    let ps := ids.take count
    guarded (s.bufChecks b (72 * count) false ++ [(!s.bufWrite b (72 * count), 0x0007, 0x0001)]) <|
      let t := s.writeGets b.addr 0 ps
      .done { t with clk := { t.clk with free := t.clk.free + 66 * count } } (ps.filter fun p => p.param.isNone).length

/-- PARAM.GET (R422). -/
def execParamGet (e : Entry) (b : Buf) (count : Nat) (ids : List PId) (s : State) : Host.Outcome State Fault Refusal :=
  serve (cmdOf (.paramGet e b count ids)) e s (paramGetBody b count ids)

/-! ### PARAM.DESCRIBE (R423) -/

/-- Every parameter in enumeration order: by class, then in the manual's order (R423; log entry 22). -/
def enumeration : List PId := (List.range 19).flatMap fun c => classIds (c + 1)

/-- The identifier at the lowest instance of the same parameter. -/
def baseOf (p : PId) : PId :=
  match p with
  | .known n obj => match n with
    | .hostWinBase | .hostWinSize | .hostWinFlags => .known n obj
    | m => .known m m.instMin
  | .prev n _ => .prev n n.instMin
  | .unknown raw => .unknown raw

/-- The parameter after one in a list. -/
def nextIn (l : List PId) (p : PId) : Nat :=
  match l with
  | a :: b :: r => if a = p then b.id else nextIn (b :: r) p
  | _ => 0

/-- The first parameter of a class, for an identifier with field 0x00 (R423). -/
def resolveId (p : PId) : PId :=
  match p with
  | .unknown raw =>
    if raw % 256 = 0 then ((allPn.find? fun n => n.desc.cls == raw / 2 ^ 24 % 256).map fun n => .known n n.instMin).getD p else p
  | q => q

/-- class.field in ASCII (R423). -/
def nameOf (p : PId) : List Byte :=
  let ascii := fun (x : String) => x.toList.map fun c => BitVec.ofNat 8 c.toNat
  match p with
  | .known n obj => match n with
    | .hostWinBase => ascii ("host.win" ++ toString obj ++ "_base")
    | .hostWinSize => ascii ("host.win" ++ toString obj ++ "_size")
    | .hostWinFlags => ascii ("host.win" ++ toString obj ++ "_flags")
    | m => ascii m.desc.name
  | .prev n _ => ascii (n.desc.name ++ "_prev")
  | .unknown _ => []

/-- The descriptor of a parameter, 96 bytes (R423). -/
def descriptor (p : PId) (n : Pn) (obj : Nat) : List Byte :=
  let d := n.desc
  let snap := match p with | .prev _ _ => true | _ => false
  let acc := if snap then Access.ro else d.acc
  let blockId := match d.block.enable with | some en => PId.id (.known en obj) | none => 0
  let window := n = .hostWinBase ∨ n = .hostWinSize ∨ n = .hostWinFlags
  let flags := (if !snap && n.crit then 1 else 0) + (if !snap && n.saved then 2 else 0) + (if d.block = .laneBoth then 4 else 0)
  padTo 96 (leBytes 4 p.id ++ leBytes 4 (nextIn enumeration (baseOf p)) ++ padTo 32 (nameOf p) ++ leBytes 1 acc.ctorIdx ++
    leBytes 1 d.typ.ctorIdx ++ leBytes 2 d.len ++ leBytes 1 d.zero.ctorIdx ++ leBytes 1 d.effect.ctorIdx ++
    leBytes 1 d.block.boundary ++ leBytes 1 (if snap then 0 else d.role) ++ leBytes 8 (unsignedOf 64 d.lo) ++
    leBytes 8 (unsignedOf 64 d.hi) ++ leBytes 8 (n.dfltOf obj) ++ leBytes 4 blockId ++
    leBytes 2 (if window then 0 else d.instMax) ++ leBytes 1 flags)

/-- The descriptor written for an identifier. -/
def descBytes (p : PId) : List Byte :=
  match (resolveId p).param with
  | some (n, obj) => descriptor (resolveId p) n obj
  | none => []

/-- PARAM.DESCRIBE: identifiers stand in the first 4 bytes of the 96 of each descriptor; an unknown one is refused (R423). -/
def paramDescribeBody (b : Buf) (count : Nat) (ids : List PId) (_c : CmdRef) (s : State) : Reply :=
  if count = 0 then .noop false
  else
    let ps := ids.take count
    guarded ((s.bufChecks b (96 * count) false).take 2) <|
    checkItems ps (fun p => (resolveId p).param.isNone) 0x0004 <|
    guarded [(!s.bufRead b (96 * count), 0x0007, s.readDetail b (96 * count)), (!s.bufWrite b (96 * count), 0x0007, 0x0001)] <|
      .done (s.hostWrite b.addr (ps.flatMap descBytes))

/-- PARAM.DESCRIBE (R423). -/
def execParamDescribe (e : Entry) (b : Buf) (count : Nat) (ids : List PId) (s : State) : Host.Outcome State Fault Refusal :=
  serve (cmdOf (.paramDescribe e b count ids)) e s (paramDescribeBody b count ids)

/-! ### PARAM.SAVE (R426) -/

/-- The values that the store holds: every parameter with the SAVED flag that differs from its default. -/
def State.savedVals (s : State) : Table Nat :=
  s.par.vals.filter fun x => (Pn.ofNat (x.1 / 65536)).saved

/-- PARAM.SAVE (R426). -/
def paramSaveBody (_c : CmdRef) (s : State) : Reply :=
  .done ({ s with par := { s.par with store := s.savedVals, storeOk := true } }.lifeAdd accWear (2 * 256) 1) 0 [(0, 1, 0)]

/-- PARAM.SAVE (R426). -/
def execParamSave (e : Entry) (s : State) : Host.Outcome State Fault Refusal := serve (cmdOf (.paramSave e)) e s paramSaveBody

/-! ### What a written value does -/

/-- A lane.mode that changes ends the lane's loops, generators, checkers and a running scan (R336). -/
def State.putMode (s : State) (l v : Nat) : State :=
  if s.cur .laneMode l = v then s
  else (((s.stopTests l true).modLane l Lane.endScan).setCur .laneMode l v)

/-- A value of an RWD parameter is in force. -/
def State.putRwd (s : State) (n : Pn) (obj v : Nat) : State :=
  match n with
  | .laneMode => s.putMode obj v
  | .laneRxCoupling =>
    let s := s.setCur .laneRxCoupling obj v
    if v = 1 then s else s.modLane obj fun x => { x with wireRx := 0 }
  | m => s.setCur m obj v

/-- A block acts as if it had been disabled and enabled again (R92, R311, R430). -/
def State.restartBlock (s : State) (b : Block) (obj : Nat) : State :=
  let tx := fun (s : State) => if s.cur .laneTxEnable obj = 0 then s else (s.laneTxOff obj).laneTxOn obj
  let rx := fun (s : State) => if s.cur .laneRxEnable obj = 0 then s else (s.laneRxOff obj).laneRxOn obj
  match b with
  | .none => s
  | .laneTx => tx s
  | .laneRx => rx s
  | .laneBoth => rx (tx s)
  | .refIn => s.disqualify obj
  | .facet => if s.cur .facetEnable 0 = 0 then s else s.facetOff.facetOn
  | .cut => if s.cur .cutEnable obj = 0 then s else (s.modCut obj fun x => { x with on := false }).cutSwitch obj true

/-- A record and, with its last effect, the completion of each command that waits for a buffered write (R424, R430). -/
def State.bufferedDone (s : State) (id : Nat) (rs : List (CmdRef × Nat)) : State :=
  match rs with
  | [] => s
  | (c, v) :: r => ((s.unreserve.journalCmd c 1 id 1 v).settle c 0).bufferedDone id r

/-- A buffered write applies (R430). -/
def State.applyBuffered (s : State) (b : Buffered) : State :=
  let s := { s with par := { s.par with buffered := s.par.buffered.erase b } }
  let blk := b.n.desc.block
  let s := s.putRwd b.n b.obj b.value
  let s := if s.blockOn blk b.obj then s.restartBlock blk b.obj else s
  s.bufferedDone (PId.id (.known b.n b.obj)) b.refs

/-- The buffered writes that p selects apply, oldest first. -/
def State.flushBuffered (s : State) (p : Buffered → Bool) : State :=
  (s.par.buffered.filter p).foldl State.applyBuffered s

/-- The buffered writes of an instance whose block is disabled now apply (R430). -/
def State.flushDisabled (s : State) : State := s.flushBuffered fun b => !s.blockOn b.n.desc.block b.obj

/-- lane.tx_enable (R310, R311). -/
def State.putTx (s : State) (l v : Nat) : State :=
  if s.cur .laneTxEnable l = v then s
  else
    let s := s.setCur .laneTxEnable l v
    if v = 0 then (s.laneTxOff l).flushDisabled else s.laneTxOn l

/-- lane.rx_enable (R92, R310, R311). -/
def State.putRx (s : State) (l v : Nat) : State :=
  if s.cur .laneRxEnable l = v then s
  else
    let s := s.setCur .laneRxEnable l v
    if v = 0 then (s.laneRxOff l).flushDisabled else s.laneRxOn l

/-- facet.enable (R275). -/
def State.putFacetEnable (s : State) (v : Nat) : State :=
  if s.cur .facetEnable 0 = v then s
  else
    let s := s.setCur .facetEnable 0 v
    if v = 0 then s.facetOff.flushDisabled else s.facetOn

/-- cut.enable (R273). -/
def State.putCutEnable (s : State) (d v : Nat) : State :=
  if s.cur .cutEnable d = v then s
  else
    let s := (s.setCur .cutEnable d v).cutSwitch d (v != 0)
    if v = 0 then s.flushDisabled else s

/-- pair.enable in CONFIGURE: 0 on a holder releases the clasp first; the unit announces its new role (R42, R368). -/
def State.putPairEnable (s : State) (v : Nat) : State :=
  if s.cur .pairEnable 0 = v then s
  else
    let s := if v = 0 ∧ s.dev.role = .holder then s.giveUp 0 else s
    let s := s.setCur .pairEnable 0 v
    let s := { s with
      dev := { s.dev with role := if v = 0 then .standalone else .follower, joined := false }
      pair := { s.pair with followTick := s.clk.tick } }
    s.sendFrame

/-- The accepted lane trace message is judged again (R108, R109). -/
def State.retrace (s : State) (l : Nat) : State :=
  let s := s.evalTrace l
  if s.ingressAis l then s.laneTais l else s

/-- The value of a written parameter stands, and what hangs on the writing itself takes place. A value whose EFFECT is a boundary is
in force from there (R423, R425, R427). -/
def State.putValue (s : State) (n : Pn) (obj v : Nat) : State :=
  match n with
  | .laneTxEnable => s.putTx obj v
  | .laneRxEnable => s.putRx obj v
  | .facetEnable => s.putFacetEnable v
  | .cutEnable => s.putCutEnable obj v
  | .pairEnable => s.putPairEnable v
  | .timingRefEnable =>
    let s := s.setLate .timingRefEnable obj v
    if v = 0 then s.flushDisabled else s
  | .cfgApplyMode => (if v = 0 then s.flushBuffered fun _ => true else s).setCur .cfgApplyMode 0 v
  | .laneTraceCheck => (s.setCur .laneTraceCheck obj v).retrace obj
  | .laneTraceExpected => (s.setCur .laneTraceExpected obj (v - byteOf v 11 * 2 ^ 88)).retrace obj
  | .tribTraceCheck => (s.setCur .tribTraceCheck obj v).evalTtim obj
  | .tribTraceExpected => (s.setCur .tribTraceExpected obj v).evalTtim obj
  | .laneRxAdapt =>
    let s := s.setCur .laneRxAdapt obj v
    if v = 2 ∧ s.adaptHeld obj = false then s.modLane obj fun x => { x with eqOk := false } else s
  | .laneSdThreshold => s.setLate .laneSdThreshold obj v
  | .laneSdRcfThreshold => s.setLate .laneSdRcfThreshold obj v
  | .tribSdThreshold => s.setLate .tribSdThreshold obj v
  | m => match m.desc.acc with
    | .cnt => s.load m obj v
    | .rwd => s.putRwd m obj v
    | _ => match m.desc.effect with
      | .nextRow | .nextPmf | .nextSuperframe => s.setLate m obj v
      | _ => s.setCur m obj v

/-! ### The checks of an entry (R424) -/

/-- The pattern suits the generator or checker (R338): 4 is PRBS23. -/
def prbsFits (use pattern : Nat) : Bool :=
  match use with
  | 0 => true
  | 1 => pattern != 4
  | _ => pattern == 4

/-- lane.prbs_pattern does not match the mode of the generator or checker it serves (R338). -/
def State.prbsBad (s : State) (n : Pn) (l v : Nat) : Bool :=
  match n with
  | .lanePrbsTx => !prbsFits v (s.cur .lanePrbsPattern l)
  | .lanePrbsRx => !prbsFits v (s.cur .lanePrbsPattern l)
  | .lanePrbsPattern => !prbsFits (s.cur .lanePrbsTx l) v || !prbsFits (s.cur .lanePrbsRx l) v
  | _ => false

/-- A window that would end beyond 2^64 (R469). -/
def State.windowBad (s : State) (n : Pn) (k v : Nat) : Bool :=
  match n with
  | .hostWinBase => !windowFits v (s.cur .hostWinSize k)
  | .hostWinSize => !windowFits (s.cur .hostWinBase k) v
  | _ => false

/-- Item 3 of R424: INVALID_ZERO, OUT_OF_RANGE, INVALID_FIELD. -/
def State.valueRefusal (s : State) (p : PId) (n : Pn) (obj len v : Nat) : Option Nat :=
  match p with
  | .prev _ _ => if len = 0 then some 0x0003 else if 64 < len then some 0x0004 else some 0x0005
  | _ =>
    match n.checkValue obj len v with
      | some 0x0003 => some 0x0003
      | some st => some (if 64 < len then 0x0004 else st)
      | none => if s.windowBad n obj v then some 0x0004 else if s.prbsBad n obj v then some 0x0005 else none

/-- The BI groups whose APS lane is l by the values written. -/
def State.biMembers (s : State) (l : Nat) : List Nat :=
  ((s.par.vals.filter fun x => x.1 / 65536 == Pn.protDirection.ctorIdx && x.2 == 1).map fun x => x.1 % 65536).filter fun k =>
    s.cur .protApsLane k == l

/-- The limits of R224 are broken for the APS lane of a group. -/
def State.apsBroken (s : State) (k : Nat) : Bool :=
  let l := s.cur .protApsLane k
  let ms := s.biMembers l
  decide (l < 512) && s.cur .protDirection k == 1 &&
    (decide (256 < ms.length) || namedTwice (ms.map fun g => s.cur .protApsRemoteGroup g))

/-- Every configured ring lies in an enabled window with the permission it needs (R465). -/
def State.ringsCovered (s : State) : Bool :=
  let dev := fun (r : DevRing) (n : Nat) => !r.on || s.writeOk r.addr (n * 2 ^ r.log2)
  dev s.host.evt 32 && dev s.host.jrn 64 && dev s.host.fac 4096 &&
    s.host.pairs.all fun x => !x.2.on || (s.readOk x.2.sqAddr (64 * 2 ^ x.2.sqLog) && s.writeOk x.2.cqAddr (16 * 2 ^ x.2.cqLog))

/-- The lane carries tributaries. -/
def State.hasTribs (s : State) (l : Nat) : Bool := s.tribs.any fun t => t.2.on && t.2.lane == l

/-- Item 4 of R424: the refusals of the single parameters. -/
def State.ownRefusal (s : State) (n : Pn) (obj v : Nat) : Option Nat :=
  let when := fun (b : Bool) (st : Nat) => if b then some st else none
  match n with
  | .laneMode | .laneClocking => when (s.cur n obj != v && s.hasTribs obj) 0x0501
  | .laneTxEnable => when (v == 1 && s.cur n obj == 0 && (s.domain (ltOf obj) != 0 || s.stripeDown obj)) 0x000D
  | .laneRxEnable => when (v == 1 && s.cur n obj == 0 && (s.domain (lrOf obj) != 0 || s.stripeDown obj)) 0x000D
  | .lanePrbsTx =>
    if v = 0 then none
    else if s.dev.mode ≠ .test then some 0x000B
    else when (!(s.lane obj).test.under) 0x0801
  | .facetEnable => if v = 1 ∧ s.cur .facetEnable 0 = 0 then s.facetRefusal else none
  | .cutEnable => if v = 1 ∧ s.cur .cutEnable obj = 0 then s.cutRefusal obj else none
  | .protDirection | .protApsLane | .protApsRemoteGroup => when ((s.setCur n obj v).apsBroken obj) 0x0602
  | .hostWinBase | .hostWinSize | .hostWinFlags => when (!(s.setCur n obj v).ringsCovered) 0x0005
  | _ => none

/-- Parameters buffered in a block (R430). -/
def State.bufferedIn (s : State) (b : Block) (obj : Nat) : List Buffered :=
  s.par.buffered.filter fun x => x.n.desc.block == b && x.obj == obj

/-- A block's buffer has no room for one more parameter; a write whose boundary has come is applying (R430, R436). -/
def State.bufferFull (s : State) (n : Pn) (obj : Nat) : Bool :=
  let l := (s.bufferedIn n.desc.block obj).filter fun x => !rsnLe x.due s.clk.rsn
  decide (16 ≤ l.length) && !l.any fun x => x.n == n

/-- The next row with RSN mod m = 0, on a circle that begins anew at 0. -/
def State.nextMultiple (s : State) (m : Nat) : Rsn :=
  let k := (s.clk.rsn.toNat / m + 1) * m
  if 2 ^ 48 ≤ k then 0 else BitVec.ofNat 48 k

/-- The block's next natural boundary (R428, R430). -/
def State.naturalBoundary (s : State) (b : Block) : Rsn := if b.boundary = 3 then s.nextMultiple 625 else s.clk.rsn + 1

/-- Buffer a write; a later one to the same parameter before the boundary replaces the value, and one that comes as the boundary does
is buffered for the next (R430, R436). Its record is reserved. -/
def State.bufferWrite (s : State) (n : Pn) (obj v : Nat) (c : CmdRef) : State :=
  let mine := fun (x : Buffered) => x.n == n && x.obj == obj && !rsnLe x.due s.clk.rsn
  let l := match s.par.buffered.find? mine with
    | some _ => s.par.buffered.map fun x => if mine x then { x with value := v, refs := x.refs ++ [(c, v % 2 ^ 64)] } else x
    | none => s.par.buffered ++ [⟨n, obj, v, [(c, v % 2 ^ 64)], s.naturalBoundary n.desc.block⟩]
  { s.reserve with par := { s.par with buffered := l } }

/-! ### PARAM.SET (R424, R429, R430) -/

/-- What a PARAM.SET has done so far: the state that the entries so far leave; whether an RWK entry has been attempted; the records of
the entries applied; how many wait in a buffer; the latest boundary at which an effect comes. -/
structure SetRun where
  s : State
  keyed : Bool := false
  recs : List (Nat × Nat × Nat) := []
  waits : Nat := 0
  due : Option Rsn := none

/-- The boundary at which a value takes effect, where it is a boundary of the device (R273, R423). -/
def State.effectRow (s : State) (n : Pn) : Option Rsn :=
  match n with
  | .cutEnable => some (s.clk.rsn + 2)
  | m => match m.desc.effect with
    | .nextRow => some (s.clk.rsn + 1)
    | .nextPmf => some (s.nextMultiple 32)
    | .nextSuperframe => some (s.nextMultiple 625)
    | _ => none

/-- The later of two boundaries that may be absent. -/
def laterOf (a b : Option Rsn) : Option Rsn :=
  match a, b with
  | some x, some y => some (rsnMax x y)
  | some x, none => some x
  | none, y => y

/-- The refusal of an entry: the state with the marks it leaves, STATUS and DETAIL. -/
structure SetStop where
  s : State
  status : Nat
  detail : Nat := 0

/-- The marks of a write refused with DOMAIN_BUSY: ENABLED_WRITE and the event (R429). -/
def State.markEnabled (s : State) (n : Pn) (obj : Nat) : State :=
  ({ s with par := { s.par with enWrite := Table.put s.par.enWrite (n.desc.block.key obj) true } }).info 0x2003
    (PId.id (.known n obj)) 0

/-- An entry that has passed its form: own refusals, then it is applied or buffered. base is the state with the marks so far. -/
def SetRun.apply (r : SetRun) (base : State) (c : CmdRef) (n : Pn) (obj v : Nat) : Except SetStop SetRun :=
  let s := r.s
  let d := n.desc
  let busy := d.acc = .rwd ∧ s.blockOn d.block obj = true
  if d.effect = .configureOnly ∧ s.dev.mode ≠ .configure then .error ⟨base, 0x000B, 0⟩
  else if busy ∧ s.cur .cfgApplyMode 0 = 0 then .error ⟨base.markEnabled n obj, 0x000E, 2⟩
  else if busy ∧ s.bufferFull n obj = true then .error ⟨base, 0x0009, 0⟩
  else match s.ownRefusal n obj v with
    | some st => .error ⟨base, st, 0⟩
    | none =>
      if busy then .ok { r with s := s.bufferWrite n obj v c, waits := r.waits + 1 }
      else .ok { r with
        s := s.putValue n obj v
        recs := r.recs ++ [(PId.id (.known n obj), 1, v % 2 ^ 64)]
        due := laterOf r.due (s.effectRow n) }

/-- One entry of PARAM.SET in the order of R424 (R418). -/
def SetRun.entry (r : SetRun) (base : State) (c : CmdRef) (e : ParamEntry) : Except SetStop SetRun :=
  let b := if r.keyed then base.lock else base
  match e.id.param with
  | none => .error ⟨b, 0x0004, 0⟩
  | some (n, obj) =>
    let v := leNat (e.value.take e.len)
    if e.reservedZero = false then .error ⟨b, 0x0002, 0⟩
    else if c.role < e.id.role then .error ⟨b, 0x0103, 0⟩
    else match r.s.valueRefusal e.id n obj e.len v with
      | some st => .error ⟨b, st, 0⟩
      | none =>
        if n.desc.acc = .rwk then
          if r.keyed then .error ⟨b, 0x0005, 0⟩
          else if r.s.host.unlocked = false then .error ⟨base.lock, 0x0103, 1⟩
          else SetRun.apply { r with s := r.s.lock, keyed := true } base.lock c n obj v
        else r.apply b c n obj v

/-- The entries in buffer order; the first that fails decides, with its index (R424). -/
def SetRun.all (r : SetRun) (base : State) (c : CmdRef) (k : Nat) (es : List ParamEntry) : Except (SetStop × Nat) SetRun :=
  match es with
  | [] => .ok r
  | e :: rest => match r.entry base c e with
    | .error x => .error (x, k)
    | .ok r => r.all base c (k + 1) rest

/-- The entries of a PARAM.SET: applied whole or refused whole; an unlock that an attempt took stays taken (R389, R418, R424). The
completion waits for the last effect that comes at a boundary, and for buffered writes; while the entries are under way no effect
completes the command (R389, R430). -/
def setParams (es : List ParamEntry) (c : CmdRef) (s : State) : Reply :=
  let under := (s.clk.rsn, c, 0)
  match SetRun.all { s := { s with prot := { s.prot with waits := under :: s.prot.waits } } } s c 0 es with
  | .error (x, k) => .refuseIn x.s x.status k x.detail
  | .ok r =>
    if s.journalRoom (r.recs.length + r.waits) = false then .refuseIn (if r.keyed then s.lock else s) 0x000A
    else
      let ws := r.s.prot.waits.erase under
      let t := { r.s with prot := { r.s.prot with waits := match r.due with | some d => ws ++ [(d, c, 0)] | none => ws } }
      let waits := r.due.isSome || t.par.buffered.any fun b => b.refs.any fun x => x.1 == c
      if waits then .accept t r.recs else .done t 0 r.recs

/-- PARAM.SET (R422, R424). -/
def paramSetBody (b : Buf) (count : Nat) (entries : List ParamEntry) (c : CmdRef) (s : State) : Reply :=
  if count = 0 then .noop true
  else guarded (s.bufChecks b (72 * count) false) <| setParams (entries.take count) c s

/-- PARAM.SET (R424). Roles are checked entry by entry. -/
def execParamSet (e : Entry) (b : Buf) (count : Nat) (entries : List ParamEntry) (s : State) : Host.Outcome State Fault Refusal :=
  serve (cmdOf (.paramSet e b count entries)) e s (paramSetBody b count entries)

/-- The one entry of a PARAM.SET that writes a one-byte parameter. -/
def oneByte (n : Pn) (obj v : Nat) : List ParamEntry := [⟨.known n obj, 1, true, leBytes 1 (min v 255)⟩]

/-- LANE_TX_ENABLE: a PARAM.SET of lane.tx_enable (R311). -/
def execLaneTxEnable (e : Entry) (lane v : Nat) (s : State) : Host.Outcome State Fault Refusal :=
  serve (cmdOf (.laneTxEnable e lane v)) e s (setParams (oneByte .laneTxEnable lane v))

/-- LANE_RX_ENABLE: a PARAM.SET of lane.rx_enable (R92, R311). -/
def execLaneRxEnable (e : Entry) (lane v : Nat) (s : State) : Host.Outcome State Fault Refusal :=
  serve (cmdOf (.laneRxEnable e lane v)) e s (setParams (oneByte .laneRxEnable lane v))

/-- RX_ADAPT_RESTART: a PARAM.SET of lane.rx_adapt to RESTART (R315). -/
def execRxAdaptRestart (e : Entry) (lane : Nat) (s : State) : Host.Outcome State Fault Refusal :=
  serve (cmdOf (.rxAdaptRestart e lane)) e s (setParams (oneByte .laneRxAdapt lane 2))

/-- FACET_ENABLE: a PARAM.SET of facet.enable (R260, R264, R275). -/
def execFacetEnable (e : Entry) (v : Nat) (s : State) : Host.Outcome State Fault Refusal :=
  serve (cmdOf (.facetEnable e v)) e s (setParams (oneByte .facetEnable 0 v))

/-- CUT_ENABLE: a PARAM.SET of cut.enable (R273). -/
def execCutEnable (e : Entry) (dune v : Nat) (s : State) : Host.Outcome State Fault Refusal :=
  serve (cmdOf (.cutEnable e dune v)) e s (setParams (oneByte .cutEnable dune v))

/-- PAIR_ENABLE_WRITE: a PARAM.SET of pair.enable (R368). -/
def execPairEnableWrite (e : Entry) (v : Nat) (s : State) : Host.Outcome State Fault Refusal :=
  serve (cmdOf (.pairEnableWrite e v)) e s (setParams (oneByte .pairEnable 0 v))

/-- LEGACY_WRITE_APPLY: a buffered write reaches its block's natural boundary, or its block is disabled (R430). -/
def execLegacyWriteApply (n : Pn) (obj : Nat) (s : State) : Host.Outcome State Fault Refusal :=
  let due := fun (b : Buffered) => b.n == n && b.obj == obj && (rsnLe b.due s.clk.rsn || !s.blockOn n.desc.block obj)
  match s.par.buffered.find? due with
  | some b => .next (s.applyBuffered b)
  | none => .next s

end Sys2Proof.Machine
end

