-- ==== Sys2Proof/Machine/Copy.lean ====
section
/-!
DEFINITION. Machine/Copy.lean: what a live copy writes into the follower (R366).
-/
namespace Sys2Proof.Machine

/-- The tributaries become those of the holder; one that is the same already keeps its ring (R366). -/
def State.copyTribs (s : State) (ts : List (Nat × Nat × List Nat × Bool)) : State :=
  let s := { s with tribs := s.tribs.filter fun x => ts.any fun y => y.1 == x.1 }
  ts.foldl (fun s x =>
    let (k, lane, gs, retimed) := x
    let t := s.trib k
    if t.on = true ∧ t.lane = lane ∧ t.grains = gs ∧ t.retimed = retimed then s
    else s.makeTrib k lane (if retimed then 0 else 1) gs) s

/-- One copied parameter takes the holder's value, with what hangs on its being written (R366). -/
def State.copyParam (s : State) (vals : Table Nat) (key : Nat) : State :=
  let n := Pn.ofNat (key / 65536)
  let obj := key % 65536
  let v := (Table.find vals key).getD (n.dfltOf obj)
  if s.cur n obj = v then s else s.putValue n obj v

/-- The copied parameters become those of the holder, defaults too: blocks that end there stop first, and blocks that are enabled there
start last (R366). -/
def State.copyParams (s : State) (vals : Table Nat) : State :=
  let keys := ((s.copiedVals ++ vals).map (·.1)).eraseDups.filter fun k => copiedPn (Pn.ofNat (k / 65536))
  let enable := fun (k : Nat) => Pn.ofNat (k / 65536) == .laneTxEnable || Pn.ofNat (k / 65536) == .laneRxEnable
  let on := fun (k : Nat) => (Table.find vals k).isSome
  let order := (keys.filter fun k => enable k && !on k) ++ (keys.filter fun k => !enable k) ++ keys.filter fun k => enable k && on k
  order.foldl (fun s k => s.copyParam vals k) s

/-- LIVE_COPY_MESSAGE: configuration, time, map and dirty records are written (R366). -/
def execLiveCopyMessage (m : LiveMsg) (s : State) : Host.Outcome State Fault Refusal :=
  match s.dev.role, s.pair.live with
  | .follower, some j =>
    match m with
    | .params vals =>
      if j = 0 then
        .next (s.copyParams vals)
      else .next s
    | .tribs ts => if j = 0 then .next (s.copyTribs ts) else .next s
    | .merges ms =>
      if j = 0 then
        let s := { s with prot := { s.prot with merges := [] } }
        .next (ms.foldl (fun s x => s.addPair x.1 x.2 s.clk.rsn none) s)
      else .next s
    | .timing rsn tod sel =>
      if j = 0 then .next { s with pair := { s.pair with liveTime := some (rsn, tod, sel) } } else .next s
    | .records recs => if j = 0 then .next s else .next (s.copyBank (s.shadow.writeAll recs))
    | .dirty recs g =>
      if j = 0 then .next s
      else
        let s := { s with pair := { s.pair with liveGen := g } }
        .next (s.copyBank (s.shadow.writeAll recs))
    | .caravan blocks loopRows base next pass =>
      if j = 0 then .next s
      else
        let s := s.storeTable blocks loopRows base
        .next { s with com := { s.com with car := { s.com.car with next := next, pass := pass } } }
  | _, _ => .next s

end Sys2Proof.Machine
end

