-- ==== Sys2Proof/Machine/Sec.lean ====
section
/-!
DEFINITION. Machine/Sec.lean: firmware images, the identity record, hallmarks, role keys, and the JTAG port (R458, R550 to R571,
R586, R587).
-/
namespace Sys2Proof.Machine

/-! ### Firmware slots (R551 to R560) -/

/-- Code of a slot's state in FW.INFO (R560). -/
def SlotState.code (x : SlotState) : Nat :=
  match x with
  | .empty => 0 | .valid => 1 | .trial => 2 | .active => 3

/-- SVN of a slot's image, 0 for EMPTY. -/
def ImageSlot.svn (x : ImageSlot) : Nat := match x.image with | some i => i.svn | none => 0

/-- Seconds until confirmation, a begun second counting whole; 0 without a trial (R557, R560). -/
def State.trialLeft (s : State) : Nat :=
  match s.sec.running with
  | none => 0
  | some k =>
    if (s.slotOf k).state = .trial then (s.sec.trialTick + s.sec.trialS * secTicks - s.clk.tick + secTicks - 1) / secTicks
    else 0

/-- The record of FW.INFO (R560). -/
def State.fwInfoBytes (s : State) : List Byte :=
  let c := s.sec
  padTo 64 (leBytes 4 s.fwVersion ++ leBytes 1 (c.running.getD 0xFF) ++ leBytes 1 c.slot0.state.code ++ leBytes 1 c.slot1.state.code ++
    leBytes 1 c.counter ++ leBytes 4 c.slot0.version ++ leBytes 4 c.slot1.version ++ leBytes 2 c.slot0.svn ++
    leBytes 2 c.slot1.svn ++ leBytes 1 c.revoked ++ leBytes 1 (if c.load.isSome then 1 else 0) ++ leBytes 2 0 ++
    leBytes 4 (match c.load with | some (_, n) => n | none => 0) ++ leBytes 4 s.trialLeft)

/-- FW.INFO: into its buffer, or into the response of the sideband (R408, R560). -/
def fwInfoBody (b : Buf) (c : CmdRef) (s : State) : Reply :=
  if c.ring = 24 then .done (s.respond 24 s.fwInfoBytes)
  else guarded (s.bufChecks b 64 true) <| .done (s.hostWrite b.addr s.fwInfoBytes)

/-- FW.INFO (R559, R560). -/
def execFwInfo (e : Entry) (b : Buf) (s : State) : Host.Outcome State Fault Refusal :=
  serve (cmdOf (.fwInfo e b)) e s (fwInfoBody b)

/-- The load slot: neither ACTIVE nor TRIAL; of two such slots the EMPTY one, then the lower (R559; log entry 23). -/
def State.loadSlot (s : State) : Nat :=
  let free := fun (x : ImageSlot) => x.state == .empty || x.state == .valid
  if free s.sec.slot0 && (s.sec.slot0.state == .empty || s.sec.slot1.state != .empty) then 0
  else if free s.sec.slot1 then 1 else 0

/-- The checks of FW.LOAD that need no image (R388, R408, R559). -/
def State.loadChecks (s : State) (c : CmdRef) (b : Buf) (offset total : Nat) : List (Bool × Nat × Nat) :=
  let got := match s.sec.load with | some (_, n) => n | none => 0
  let other := match s.sec.load with | some (t, _) => t != total | none => false
  [(b.len == 0 || total == 0, 0x0003, 0),
   (decide (total < offset + b.len ∨ 3166208 < total ∨ (c.ring = 24 ∧ 39 < b.len)), 0x0004, 0),
   (offset != got || other, 0x0005, 0),
   (c.ring != 24 && !s.bufRead b b.len, 0x0007, s.readDetail b b.len),
   ((s.slotIn .trial).isSome, 0x0009, 0)]

/-- An image that the chunks of a load bring is whole only when its header and code fill the total (R551; log entry 23). -/
def State.verifyLoad (s : State) (total : Nat) (i : Image) : Option (Nat × Nat) :=
  if total ≠ 20480 + i.codeLen then some (0x0901, 1) else s.verifyImage i

/-- FW.LOAD: a chunk enters the load slot; the one that reaches the total has the image verified (R559). -/
def fwLoadBody (b : Buf) (offset total : Nat) (image : Image) (c : CmdRef) (s : State) : Reply :=
  guarded (s.loadChecks c b offset total) <|
    let k := s.loadSlot
    let s := if offset = 0 then s.setSlot k {} else s.lifeAdd accWear (5 * 256 + k) 1
    if offset + b.len < total then
      .done { s with sec := { s.sec with load := some (total, offset + b.len) } } 0 [(k, 1, offset + b.len)]
    else
      let s := { s with sec := { s.sec with load := none } }
      match s.verifyLoad total image with
      | some (st, detail) => .refuseIn s st 0xFFFFFFFF detail
      | none =>
        let s := s.setSlot k ⟨.valid, some image⟩
        let rec' := s.dev.mode == Mode.recovery
        .done { s with sec := { s.sec with verified := if rec' then some k else s.sec.verified } } 0 [(k, 1, image.version)]

/-- FW.LOAD (R559). image is what the chunks of the load have brought when the last one arrives. -/
def execFwLoad (e : Entry) (b : Buf) (offset total : Nat) (image : Image) (s : State) : Host.Outcome State Fault Refusal :=
  serve (cmdOf (.fwLoad e b offset total image)) e s (fwLoadBody b offset total image)

/-- The VALID slot becomes TRIAL, with the fw.trial_s in force (R559, R571). -/
def State.makeTrial (s : State) (k : Nat) : State :=
  let s := s.setSlot k { s.slotOf k with state := .trial }
  { s with sec := { s.sec with trialS := s.cur .fwTrialS 0 } }

/-- FW.ACTIVATE: the VALID slot is verified again and becomes TRIAL; a WARM reset with cause FW_ACTIVATE follows, and the mode
returns to PREV_MODE (R38, R559, R570). -/
def fwActivateBody (bursts : List Burst) (_c : CmdRef) (s : State) : Reply :=
  match s.slotIn .valid with
  | none => .refuse 0x0005
  | some k => match (s.slotOf k).image with
    | none => .refuse 0x0005
    | some i =>
      guarded [(s.dev.mode != .maintain, 0x000B, 0), (s.powerBusy || s.pow.dvfs.isSome, 0x0009, 0)] <|
        match s.verifyImage i with
        | some (st, detail) => .refuse st 0xFFFFFFFF detail
        | none => .restart (fun s => ((s.makeTrial k).warm 1 bursts).autoMode s.dev.prevMode) [(k, 1, i.version)]

/-- FW.ACTIVATE (R559). -/
def execFwActivate (e : ResetEntry) (s : State) : Host.Outcome State Fault Refusal :=
  serve (cmdOf (.fwActivate e)) e.entry s (fwActivateBody e.bursts)

/-- FW.RESTART: a PIN reset with cause RECOVERY_RESTART; the VALID slot loaded in RECOVERY boots as TRIAL (R559). -/
def fwRestartBody (_c : CmdRef) (s : State) : Reply :=
  match s.sec.verified with
  | none => .refuse 0x0005
  | some k =>
    if (s.slotOf k).state = .valid then
      .restart (fun s => (s.makeTrial k).fullReset 2 1) [(k, 1, (s.slotOf k).version)]
    else .refuse 0x0005

/-- FW.RESTART (R38, R559). -/
def execFwRestart (e : Entry) (s : State) : Host.Outcome State Fault Refusal :=
  serve (cmdOf (.fwRestart e)) e s fwRestartBody

/-! ### Identity and hallmarks (R563 to R569) -/

/-- IDENT (R413). -/
def identWord : Nat := 0x5120 + Config.dieRevision.toNat * 2 ^ 16 + Config.variant.toNat * 2 ^ 24

/-- A byte of the identity record from offset 12 on: MFG_KEY is 0–3, the reserved bytes are 0 (R564). -/
def identityAt (i : Nat) : Byte :=
  if i = 12 then Config.identityByte 12 % 4
  else if (13 ≤ i ∧ i < 16) ∨ (456 ≤ i ∧ i < 512) then 0
  else Config.identityByte i

/-- The identity record, 17,120 bytes (R564). -/
def identityRecord : List Byte :=
  leBytes 8 Config.serial.toNat ++ leBytes 4 identWord ++ (List.range 17108).map fun i => identityAt (i + 12)

/-- SEC.IDENTITY (R564). -/
def secIdentityBody (b : Buf) (_c : CmdRef) (s : State) : Reply :=
  guarded (s.bufChecks b 17120 true) <| .done (s.hostWrite b.addr identityRecord)

/-- SEC.IDENTITY (R564). -/
def execSecIdentity (e : Entry) (b : Buf) (s : State) : Host.Outcome State Fault Refusal :=
  serve (cmdOf (.secIdentity e b)) e s (secIdentityBody b)

/-- The parameters of CFG_DIGEST: access RW, RWK or RWD, every valid instance, in enumeration order (R568). -/
def cfgIds : List PId :=
  enumeration.flatMap fun p =>
    match p with
    | .known n obj =>
      if n.desc.acc = .rw ∨ n.desc.acc = .rwk ∨ n.desc.acc = .rwd then
        (match n with
          | .hostWinBase | .hostWinSize | .hostWinFlags => [.known n obj]
          | m => (List.range (m.desc.instMax + 1 - m.instMin)).map fun i => .known m (m.instMin + i))
      else []
    | _ => []

/-- The bytes that CFG_DIGEST covers: ID, LEN and value of each parameter (R568). -/
def State.cfgBytes (s : State) : List Byte :=
  cfgIds.flatMap fun p => leBytes 4 p.id ++ leBytes 2 p.readLen ++ leBytes p.readLen (s.readValue p)

/-- FW_DIGEST: SHA-384 of bytes 0–511 of the running image's header (R567). -/
def State.fwDigest (s : State) : BitVec 384 :=
  match s.sec.running with
  | some k => (match (s.slotOf k).image with | some i => Config.sha384 i.header | none => 0)
  | none => 0

/-- Bytes 0–255 of a hallmark, captured at the boundary passed last (R567). -/
def State.hallmarkBody (s : State) (nonce : List Byte) : List Byte :=
  padTo 256 (leBytes 4 0x5158484D ++ leBytes 2 1 ++ leBytes 2 0 ++ leBytes 8 Config.serial.toNat ++ padTo 32 nonce ++
    leBytes 8 s.clk.rsn.toNat ++ leBytes 8 s.stamp ++ beBytes 48 s.fwDigest.toNat ++
    beBytes 48 (Config.sha384 s.cfgBytes).toNat ++ leBytes 4 s.com.gen ++ leBytes 4 s.deviceState ++
    leBytes 8 (s.log.jseq - 1) ++ leBytes 8 s.log.jlink.toNat ++ leBytes 1 s.sec.counter ++ leBytes 1 s.sec.revoked)

/-- A hallmark with both signatures, 36,304 bytes (R567). -/
def State.hallmark (s : State) (nonce : List Byte) : List Byte :=
  let r := s.hallmarkBody nonce
  r ++ padTo 384 (Config.rsaSign r) ++ padTo 35664 (Config.slhSign r)

/-- SEC.HALLMARK: the record is written over the buffer that brought the nonce (R567). -/
def secHallmarkBody (b : Buf) (nonce : List Byte) (_c : CmdRef) (s : State) : Reply :=
  guarded (s.bufChecks b 36304 true ++ [(!s.bufRead b 32, 0x0007, s.readDetail b 32)]) <|
    .done (s.hostWrite b.addr (s.hallmark nonce))

/-- SEC.HALLMARK (R567). -/
def execSecHallmark (e : Entry) (b : Buf) (nonce : List Byte) (s : State) : Host.Outcome State Fault Refusal :=
  serve (cmdOf (.secHallmark e b nonce)) e s (secHallmarkBody b nonce)

/-! ### Role keys (R565, R566) -/

/-- "DRPX-K" (R566). -/
def tagMask : List Byte := [0x44, 0x52, 0x50, 0x58, 0x2D, 0x4B]
/-- "DRPX-C" (R566). -/
def tagConfirm : List Byte := [0x44, 0x52, 0x50, 0x58, 0x2D, 0x43]

/-- The new key of SEC.KEY_SET: the masked one XOR M (R566). -/
def Session.newKey (x : Session) (role : Nat) (masked : BitVec 384) : BitVec 384 :=
  masked ^^^ Config.hmac384 x.key (tagMask ++ leBytes 1 role ++ leBytes 8 Config.serial.toNat ++ x.nonceD ++ x.nonceH)

/-- Every other session of a role closes (R566). -/
def State.closeOthers (s : State) (role : Nat) (c : CmdRef) : State :=
  (List.range 8).foldl (fun (s : State) k =>
    let x := s.session k
    if x.role == role && x.handle != c.session && (x.state == .opened || x.state == .suspended) then s.closeSession k c else s) s

/-- The key of a role is replaced; an all-zero one removes it (R565, R566). -/
def State.setKey (s : State) (role : Nat) (key : BitVec 384) : State :=
  { s with sec := { s.sec with
    keys := if key = 0 then Table.drop s.sec.keys role else Table.put s.sec.keys role key
    adminInitial := s.sec.adminInitial && role != 3
    keyGen := s.sec.keyGen + 1 } }

/-- SEC.KEY_SET: an ADMIN session on its initial key sets the ADMIN key alone (R565, R566). -/
def secKeySetBody (b : Buf) (role : Nat) (masked confirm : BitVec 384) (c : CmdRef) (s : State) : Reply :=
  match s.findSession c.session with
  | none => .refuse 0x0101
  | some x =>
    let key := x.newKey role masked
    guarded [(b.len == 0, 0x0003, 0),
        (decide (b.len < 96 ∨ role < 1 ∨ 4 < role), 0x0004, 0), (!s.bufRead b 96, 0x0007, s.readDetail b 96),
        (role == 3 && key == 0, 0x0005, 0),
        (confirm != Config.hmac384 key (tagConfirm ++ leBytes 1 role ++ leBytes 8 Config.serial.toNat), 0x0104, 0)] <|
      .done ((s.setKey role key).closeOthers role c) 0 [(role, 1, s.sec.keyGen + 1)]

/-- SEC.KEY_SET (R566). -/
def execSecKeySet (e : Entry) (b : Buf) (role : Nat) (masked confirm : BitVec 384) (s : State) :
    Host.Outcome State Fault Refusal :=
  reapAfter (serve (cmdOf (.secKeySet e b role masked confirm)) e s (secKeySetBody b role masked confirm))

/-! ### The JTAG port (R458, R586, R587) -/

/-- The instructions that drive pins (R587). -/
def scanDrives (op : ScanOp) : Bool :=
  match op with
  | .extest | .extestPulse | .extestTrain | .clamp => true
  | .bypass | .idcode | .sample => false

/-- The instruction that acts: one that drives pins behaves as BYPASS while RESET_N is high (R587). -/
def State.scanActs (s : State) : Option ScanOp :=
  s.dev.scan.map fun op => if scanDrives op && !s.dev.resetLow then .bypass else op

/-- BOUNDARY_SCAN_INSTRUCTION: the instruction is loaded; which acts follows RESET_N, and traffic is untouched (R587). -/
def execBoundaryScanInstruction (op : ScanOp) (s : State) : Host.Outcome State Fault Refusal :=
  .next { s with dev := { s.dev with scan := some op } }

/-- JTAG_PORT_RESET: the debug master is reset; its write bursts are cut (R458 to R460). -/
def execJtagPortReset (bursts : List Burst) (s : State) : Host.Outcome State Fault Refusal :=
  let s := { s with dev := { s.dev with scan := none } }
  .next ((s.dropSems fun m => m == 13).tornWrites 18 (bursts.filter fun b => b.master == 13))

end Sys2Proof.Machine
end

