-- ==== Sys2Proof/Machine/Egress.lean ====
section
/-!
DEFINITION. Machine/Egress.lean: forming the egress row: the reads of the egress buffer with the path tag check, the substitutions of a
misroute and of fail-quiet, idle, loupe and cut content, the egress instances' overhead slots, test patterns, and the lane overhead
(R57 to R75, R81, R84, R87, R135 to R141, R146, R156, R165 to R174, R263, R270, R301, R317 to R324, R509).
-/
namespace Sys2Proof.Machine

/-! ### Reads of the egress buffer (R156, R165 to R171) -/

/-- The row is odd. -/
def oddRow (r : Rsn) : Bool := r.getLsbD 0

/-- Key of a middle slot in the row slot of the egress buffers that the erg fills in device row r (R156). -/
def bufKey (r : Rsn) (j slot : Nat) : Nat := (r.toNat % 2 * 64 + j) * 65536 + slot

/-- The expected tag of a map entry for a row (R167, R182). -/
def expectTag (tag : Nat) (row : Rsn) : BitVec 12 := BitVec.ofNat 12 tag ^^^ if oddRow row then 0xFFF else 0

/-- One word read for egress row n: its content, whether it has an uncorrectable ECC error, and on a tag mismatch the expected tag and
the tag seen. The tag of a damaged word is not evaluated (R171); a slot that no delivery has filled yet is grain AIS. torn: the word has left
an elastic ring with a damaged word (R509). -/
structure ReadOut where
  word : Grain := grainAis
  ecc : Bool := false
  torn : Bool := false
  mis : Option (BitVec 12 × BitVec 12) := none

/-- Read a middle slot of dune j for egress row n. -/
def State.readBuf (s : State) (n : Rsn) (j slot tag : Nat) : ReadOut :=
  match Table.find s.sw.ebuf (bufKey (n - 1) j slot) with
  | none => {}
  | some w =>
    let e := expectTag tag n
    { word := w.word, ecc := w.ecc, torn := w.torn, mis := if !w.ecc && w.tag != e then some (e, w.tag) else none }

/-- A mismatched word (R173): egress lane, grain, middle slot, expected tag, tag seen, role (0 primary, 1 alternate, 2 cut input), and
whether an output sends it. -/
structure Mismatch where
  lane : Nat
  grain : Nat
  slot : Nat
  expected : BitVec 12
  seen : BitVec 12
  role : Nat
  sent : Bool

/-- What the egress side makes of a grain: its content, its mismatches, substitution under FQ, and whether it is a re-pointed word in
doubt (R509). -/
structure GrainOut where
  word : Grain
  mis : List Mismatch := []
  fq : Bool := false
  torn : Bool := false

/-- The dune's critical fields are in doubt (R434, R509). -/
def State.duneDoubt (s : State) (j : Nat) : Bool := s.flt.parityBad.any fun p => p.1 == regionOfDune j && p.2 % 64 == j

/-- The lane tile's transmit configuration of a lane is in doubt (R509). -/
def State.txDoubt (s : State) (l : Nat) : Bool :=
  s.flt.parityBad.any fun p => decide (0x20 ≤ p.1 ∧ p.1 < 0x28) && p.2 == l

/-- The words of a lane use a wire that no spare replaces (R514). -/
def State.wireDoubt (s : State) (l : Nat) : Bool := s.flt.linkBad.contains (2 ^ 22 + l)

/-- The selector group of an entry selects the alternate. -/
def State.altSelected (s : State) (v : Nat) : Bool := fieldOf v 73 1 == 1 && (s.group (fieldOf v 56 16)).sel

/-- A mismatch of one read as it is recorded. -/
def misOf (l g slot role : Nat) (sent : Bool) (r : ReadOut) : List Mismatch :=
  match r.mis with
  | some (e, seen) => [⟨l, g, slot, e, seen, role, sent⟩]
  | none => []

/-- Egress grain key of row n from its map entry: both sources are read and checked, the selected one is sent (R167, R168, R171). -/
def State.grainOut (s : State) (n : Rsn) (key : Nat) (w : BitVec 80) : GrainOut :=
  let l := key / 4096
  let g := key % 4096
  let j := key / 32768
  let v := w.toNat
  if s.duneDoubt j || s.flt.mapBad.contains (2, j, key % 32768) then { word := grainAis, fq := true }
  else
    let pri := s.readBuf n j (fieldOf v 0 16) (fieldOf v 16 12)
    let alt := s.readBuf n j (fieldOf v 28 16) (fieldOf v 44 12)
    let hasAlt := fieldOf v 73 1 == 1
    let sel := s.altSelected v
    let c := if sel then alt else pri
    let ms := misOf l g (fieldOf v 0 16) 0 (!sel) pri ++ if hasAlt then misOf l g (fieldOf v 28 16) 1 sel alt else []
    let fq := c.ecc || s.flt.linkBad.contains key || s.wireDoubt l
    { word := if fq || c.mis.isSome then grainAis else c.word, mis := ms, fq := fq, torn := c.torn }

/-- The map entries of a lane in the active egress map, by egress grain. -/
def State.entriesOf (s : State) (l : Nat) : Table (BitVec 80) :=
  s.egrB.egr.filter fun x => x.1 / 4096 == l && x.2.getLsbD 72

/-- Every connected grain of a lane for row n. -/
def State.readLane (s : State) (n : Rsn) (l : Nat) : List (Nat × GrainOut) :=
  (s.entriesOf l).map fun x => (x.1, s.grainOut n x.1 x.2)

/-! ### Instances (R135 to R141, R146) -/

/-- Key of an instance: its lane and overhead position. -/
def Inst.key (i : Inst) : Nat := i.lane * 4096 + i.grains.headD 0

/-- The tributary that feeds an instance in this row (R141). -/
def State.instSource (s : State) (i : Inst) : Nat :=
  match i.alt with
  | some (k, g) => if (s.group g).sel then k else i.trib
  | none => i.trib

/-- What an instance sends. -/
def State.inst (s : State) (key : Nat) : InstTx := Table.get {} s.sw.instTx key

/-- Change what an instance sends. -/
def State.modInst (s : State) (key : Nat) (f : InstTx → InstTx) : State :=
  { s with sw := { s.sw with instTx := Table.put s.sw.instTx key (f (s.inst key)) } }

/-- The 64 bytes of a path trace message (R81). -/
def pathTraceMsg (text : List Byte) : List Byte :=
  let m := padTo 62 text
  m ++ beBytes 2 (crc16 m).toNat

/-- The path status byte that an instance carries as the reverse instance of a RETIMED tributary; in the lane's first row PREI is 0
(R84, R145, R146). -/
def State.reverseStatus (s : State) (key : Nat) : Nat :=
  let first := (s.lane (key / 4096)).txFirst
  match s.tribs.find? fun x => x.2.on && x.2.retimed && x.2.lane * 4096 + x.2.pos == key with
  | some (k, t) => (if s.tribPrdi k then 128 else 0) + if first then 0 else min 8 t.prei * 8
  | none => 0

/-- BIP-8 of an instance over its grains as they were sent in the egress PMF before, whichever instance they belonged to (R80, R136). -/
def State.instBip (s : State) (i : Inst) : Byte :=
  let t := (s.lane i.lane).bipSent
  i.grains.foldl (fun b g => b ^^^ Table.get 0 t g) 0

/-- The overhead slot of an instance in PMF m: pointer word, path trace, label, BIP-8, path status, SIZE (R77, R80, R136, R141). -/
def State.instSlot (s : State) (i : Inst) (k m : Nat) : BitVec 64 :=
  let t := s.trib k
  let x := s.inst i.key
  let code := if x.lastTrib = some k then t.txCode else 9
  let msg := if t.ptTx.isEmpty then pathTraceMsg (leBytes 62 (s.cur .tribTraceText k)) else t.ptTx
  BitVec.ofNat 64 ((code * 4096 + t.txPtr % 512) * 2 ^ 48 + (msg.getD (m % 64) 0).toNat * 2 ^ 40 +
    s.eff .tribSignalLabel k % 256 * 2 ^ 32 + (s.instBip i).toNat * 2 ^ 24 + s.reverseStatus i.key * 2 ^ 16 +
    (i.grains.length - 1) % 4096 * 16)

/-- Path trace messages change only where a path trace multiframe begins; a tributary without one takes the text that stands (R81,
R152). -/
def State.reloadPathTrace (s : State) (due : Bool) : State :=
  let one := fun (k : Nat) (t : Trib) =>
    if t.on && t.retimed && (due || t.ptTx.isEmpty) then { t with ptTx := pathTraceMsg (leBytes 62 (s.cur .tribTraceText k)) } else t
  { s with tribs := Table.mapVals {} one s.tribs }

/-- An egress PMF begins: every lane counts the BIP-8 of its grains anew, and an instance that waited for the PMF start begins (R80,
R140). -/
def State.startInsts (s : State) : State :=
  let one := fun (x : Nat × InstTx) => (x.1, ({ x.2 with waitPmf := false } : InstTx))
  { s with
    sw := { s.sw with instTx := s.sw.instTx.map one }
    lanes := Table.mapVals {} (fun _ (x : Lane) => { x with bipSent := x.bipTx, bipTx := [] }) s.lanes }

/-- The BIP-8 of each grain with one row more; the bytes of an idle or AIS grain cancel out (R80, R87). -/
def sumBips (t : Table Byte) (c : RowContent) : Table Byte :=
  c.grains.foldl (fun t x => Table.set 0 t x.1 (bip8 (Table.get 0 t x.1) (grainBytes x.2))) t

/-- The instances of a lane. -/
def State.instsOf (s : State) (l : Nat) : List Inst := s.egrB.insts.filter fun i => i.lane == l

/-- A slot of tributary k with code 0x9 goes out in PMF m: the PMF is counted once, and no announcement follows in it or in the 3 PMFs
after it (R138, R153). An announcement that other instances have already sent in the PMF stands (log entry 111). -/
def State.sentNew (s : State) (k m : Nat) : State :=
  let t := s.trib k
  if t.ndfPmf = some m then s
  else (s.setTrib k { t with ndfPmf := some m, txNext := some (pmfAfter m 4) }).bump .tribPmTxNdf k 1

/-- One instance in row n; quiet: the lane sends AIS for every instance; torn: the grains of the lane that
send a re-pointed word in doubt. Answers the state and the slot that falls in the row. A slot in tributary AIS names no tributary as its
source, so that code 0x9 follows it (R139 to R141, R509). -/
def State.runInst (s : State) (n : Rsn) (i : Inst) (quiet : Bool) (torn : List Nat) : State × Option (Nat × BitVec 64) :=
  let spr := s.slotsOf i.lane
  let p := i.grains.headD 0
  let k := s.instSource i
  let x := s.inst i.key
  let doubt := i.grains.any fun g => torn.contains (i.lane * 4096 + g)
  let ais := quiet || x.waitPmf || (s.trib k).aisTx || doubt
  if p / spr = n.toNat % 32 then
    let m := n.toNat / 32
    let slot := if ais then slotAis else s.instSlot i k m
    let s := if !ais && (x.lastTrib != some k || (s.trib k).txCode == 9) then s.sentNew k m else s
    (s.modInst i.key fun x => { x with lastTrib := if ais then none else some k }, some (p % spr, slot))
  else (s, none)

/-- The instances of a lane in turn. -/
def State.runInsts (s : State) (n : Rsn) (is : List Inst) (quiet : Bool) (torn : List Nat)
    (t : Table (BitVec 64)) : State × Table (BitVec 64) :=
  match is with
  | [] => (s, t)
  | i :: r =>
    let (s, o) := s.runInst n i quiet torn
    s.runInsts n r quiet torn (match o with | some (k, v) => Table.set 0 t k v | none => t)

/-! ### Content -/

/-- Grains that a loupe stream or a cut stage inserts in row n (R263, R269, R270). A stage that is switched on sends its output. -/
def State.inserted (s : State) (n : Rsn) (l : Nat) : Table Grain :=
  let stream := match s.obs.facet.loupe with
    | some p => if p.lane = l then (List.range p.k).map fun j => (l * 4096 + p.first + j, p.grain n j) else []
    | none => []
  let c := s.cut (l / 8)
  stream ++ if c.on then c.out.filter fun x => x.1 / 4096 == l else []

/-- A row of idle grains with the grains of a lane written into it (R87, R174). -/
def fillRow (gs : List (Nat × Grain)) : RowContent := gs.foldl (fun c x => rowSetGrain c (x.1 % 4096) x.2) rowIdle

/-- The grains of the lane's instances that wait for their first PMF are AIS (R140). -/
def State.waitingGrains (s : State) (l : Nat) : List (Nat × Grain) :=
  ((s.instsOf l).filter fun i => (s.inst i.key).waitPmf).flatMap fun i => i.grains.map fun g => (l * 4096 + g, grainAis)

/-- The cut inputs of row n that mismatched, as they are recorded with the output grain of the input (R168, R173). -/
def State.cutMismatches (s : State) (d : Nat) : List Mismatch :=
  let c := s.cut d
  let r := cutRatio (s.cur .cutFormat d)
  if !c.on then []
  else c.outMis.map fun x =>
    ⟨s.cur .cutLane d, s.cur .cutFirst d + x.1 / r, x.2.1, BitVec.ofNat 12 x.2.2.1, BitVec.ofNat 12 x.2.2.2, 2, true⟩

/-! ### Test patterns (R317 to R323) -/

/-- n bits of the sequence of x^23 + x^18 + 1 (R319). -/
def prbsBits (n : Nat) (st : BitVec 23) (acc : Nat) : Nat × BitVec 23 :=
  match n with
  | 0 => (acc, st)
  | m + 1 =>
    let b := st.getLsbD 22 != st.getLsbD 17
    let v := if b then 1 else 0
    prbsBits m (st <<< 1 ||| BitVec.ofNat 23 v) (acc * 2 + v)

/-- The grains of a PAYLOAD row from grain k on, and the generator after them (R319). -/
def prbsFill (n k : Nat) (st : BitVec 23) (c : RowContent) : RowContent × BitVec 23 :=
  match n with
  | 0 => (c, st)
  | m + 1 =>
    let (v, st) := prbsBits 128 st 0
    prbsFill m (k + 1) st (rowSetGrain c k (BitVec.ofNat 128 v))

/-- What a lane's transmitter sends in a row. -/
inductive TxKind where
  | traffic | aisOut | payload | line | far
  deriving DecidableEq, Repr

/-- Traffic, AIS out, or in TEST the pattern or far loop of a lane under test (R29, R317, R320, R324). -/
def State.txKind (s : State) (l : Nat) : TxKind :=
  let t := (s.lane l).test
  if s.dev.mode.traffic then .traffic
  else if s.dev.mode = .test ∧ t.under = true then
    if t.loop = 3 ∨ t.loop = 4 then .far
    else match s.eff .lanePrbsTx l with
      | 1 => .line
      | 2 => .payload
      | _ => .aisOut
  else .aisOut

/-- The injection of this row, and the programme after it: injRows counts the rows still to be corrupted plus 1 (R323). -/
def LaneTest.inject (t : LaneTest) (n : Rsn) : (Nat × Nat) × LaneTest :=
  if 2 ≤ t.injRows ∧ rsnLe t.injFrom n = true then ((t.injKind + 1, t.injAmount), { t with injRows := t.injRows - 1 }) else ((0, 0), t)

/-! ### The lane overhead (R61 to R75) -/

/-- Fixed delay of a lane's transmitter in core cycles (R584). -/
def State.pTx (s : State) (l : Nat) : Nat := if s.cur .laneMode l = 0 then 4448 else 4576

/-- Remote status (R67): the defects as they stood when the row before ended, RCE and RUNC of the rows judged and received last. -/
def Lane.remote (x : Lane) : BitVec 16 :=
  let b := fun (p : Bool) (v : Nat) => if p then v else 0
  BitVec.ofNat 16 (b x.rdiTx.1 0x8000 + b x.rceTx 0x4000 + b x.rdiTx.2.1 0x2000 + b x.rdiTx.2.2 0x1000 + x.runcTx % 256)

/-- The QL byte of a lane: rank 15 towards the lane of the selected LREF, as the row before ended (R66, R301). -/
def State.qlByte (s : State) (l : Nat) : Byte :=
  let t := s.tim
  BitVec.ofNat 8 (t.tstateTx % 8 * 16 + if t.qlLane = l then 15 else t.qlTx % 16)

/-- The lane trace message as a row begins takes it up. -/
def State.traceNow (s : State) (l : Nat) : List Byte :=
  laneTraceMsg Config.serial.toNat s.dev.planeB l (leBytes 32 (s.cur .laneTraceText l))

/-- The lane trace message to send. A lane enabled in the middle of a multiframe goes on with the message it sent last, also where
lane.trace_text was written while it was off (R64, R65; log entry 105). -/
def State.traceMsg (s : State) (l : Nat) : List Byte :=
  let x := s.lane l
  if x.traceTx.isEmpty then s.traceNow l else x.traceTx

/-- The texts that the row beginning at this boundary takes up: the lane trace of the sending lanes at a row with RSN mod 64 = 0, the path
traces at RSN mod 2,048 = 0 (R65, R81, R89, R152). -/
def State.loadTraces (s : State) : State :=
  let n := s.clk.rsn.toNat
  let ls := (s.lanes.filter fun x => x.2.txOn && x.2.txSending).map (·.1)
  let s := if n % 64 = 0 then ls.foldl (fun s l => s.modLane l fun x => { x with traceTx := s.traceNow l }) s else s
  if n % 2048 = 0 then s.reloadPathTrace true else s

/-- The APS message of a lane for row n: the one formed or forwarded, else all zeros (R70, R226, R230). -/
def Lane.apsOf (x : Lane) (n : Rsn) : List Byte :=
  match x.apsFor.find? fun a => a.1 == n with
  | some (_, bs) => padTo 14 bs
  | none => List.replicate 14 0

/-- The validity byte (R74, R75). -/
def validityByte (mis aiso fq : Bool) : Byte :=
  BitVec.ofNat 8 ((if mis then 128 else 0) + (if aiso then 64 else 0) + if fq then 32 else 0)

/-- lane.tx_polarity is INVERTED for the row (R316). -/
def State.txInverted (s : State) (l : Nat) : Bool := s.eff .laneTxPolarity l == 1

/-- Remote status and TQ as the lane's row carries them: in its first row after TX enable RCE, RTIM, RSELF and RUNC are 0 and TQ is 0b00
(R67, R73). -/
def State.firstForced (s : State) (l : Nat) : BitVec 16 × Nat :=
  let x := s.lane l
  if x.txFirst then (if x.rdiTx.1 then 0x8000 else 0, 0) else (x.remote, s.tq)

/-- Send a row with this content: the overhead is formed around it, the row check and the precoder move on (R57, R61, R68, R316). -/
def State.sendRow (s : State) (l : Nat) (n : Rsn) (validity : Byte) (slots : Table (BitVec 64)) (c : RowContent) : State :=
  let x := s.lane l
  let f221 := s.cur .laneMode l == 0
  let msg := s.traceMsg l
  let (m0, h0, q0, k0) := hdlcSend 64 x.hdlcTx.1 x.mgmtTx.1
  let (m1, h1, q1, k1) := if f221 then hdlcSend 130 x.hdlcTx.2 x.mgmtTx.2 else ([], x.hdlcTx.2, x.mgmtTx.2, 0)
  let (inj, test) := x.test.inject n
  let (remote, tq) := s.firstForced l
  let t : TxRow := {
    idle := false
    rsn := n
    trace := msg.getD (n.toNat % 64) 0
    ql := s.qlByte l
    remote := remote
    check := x.txCrc
    aps := x.apsOf n
    mgmt := m0
    ext := m1
    tod := BitVec.ofNat 64 (stampOf (s.clk.tod + s.pTx l) tq)
    validity := validity
    slots := slots
    content := c
    inj := inj
    precode := s.cur .laneTxPrecode l == 1
    start := x.precode
    inverted := s.txInverted l }
  let s := s.setLane l { x with
    tx := t
    txFirst := false
    txCrc := crc32c (infoBytes f221 t)
    precode := if t.precode then precodeAfter x.precode (t.grayValues f221) else x.precode
    traceTx := msg
    bipTx := sumBips x.bipTx c
    mgmtTx := (q0, q1)
    hdlcTx := (h0, h1)
    test := test }
  (s.perf 0x024 l 1).perf 0x027 l (k0 + k1)

/-! ### One lane in row n -/

/-- The mismatches of a lane's row, whatever the lane sends: those of its grains, and behind them those of the cut inputs whose output the lane carries (R167, R168,
R173; log entry 112). -/
def State.laneMis (s : State) (l : Nat) (gs : List (Nat × GrainOut)) : List Mismatch :=
  let d := l / 8
  (gs.flatMap fun x => x.2.mis) ++ if s.cur .cutLane d = l then s.cutMismatches d else []

/-- An egress row of content: traffic or AIS out (R74, R87, R168, R171, R509). -/
def State.contentRow (s : State) (n : Rsn) (l : Nat) (aiso : Bool) (gs : List (Nat × GrainOut)) : State :=
  let tile := s.txDoubt l
  let mis := (s.laneMis l gs).any (·.sent)
  let fq := tile || s.wireDoubt l || gs.any fun x => x.2.fq
  let quiet := aiso || tile
  let c := if quiet || s.wireDoubt l then rowAis
    else fillRow (gs.map (fun x => (x.1, x.2.word)) ++ s.inserted n l ++ s.waitingGrains l)
  let torn := (gs.filter fun x => x.2.torn).map (·.1)
  let (s, slots) := s.runInsts n (s.instsOf l) quiet torn []
  let s := (s.modLane l fun x => { x with test := { x.test with gen := 0 } }).sendRow l n (validityByte mis aiso fq) slots c
  if aiso then s.perf 0x025 l 1 else s

/-- A LINE pattern in place of the row: it goes on where the row before ended, and starts anew where that carried another (R317, R318). -/
def State.lineRow (s : State) (n : Rsn) (l : Nat) : State :=
  let p := s.eff .lanePrbsPattern l
  let inverted := s.txInverted l
  let len := rowSymbols (s.cur .laneMode l == 0)
  s.modLane l fun x =>
    let (inj, test) := x.test.inject n
    let pos := if x.test.gen = p + 2 then x.test.sentSyms else 0
    { x with
      tx := { idle := false, line := p + 1, inj := inj, inverted := inverted, pos := pos }
      test := { test with gen := p + 2, sentSyms := pos + len } }

/-- A PAYLOAD row: normal overhead with a clear validity byte, unused slots, PRBS23 in every grain from all ones on where the pattern
starts (R319). -/
def State.payloadRow (s : State) (n : Rsn) (l : Nat) : State :=
  let t := (s.lane l).test
  let (c, st) := prbsFill (s.grainsOf l) 0 (if t.gen = 1 then t.prbs else 0x7FFFFF) ⟨0, []⟩
  (s.modLane l fun x => { x with test := { x.test with prbs := st, gen := 1 } }).sendRow l n 0 [] c

/-- A far loop in place of the row: under FAR_ANALOG the symbols received, under FAR_ROW the row received with fresh parity, or electrical
idle. An injection programme runs on on the TX side of the loop (R316, R323, R324, R327, R336). -/
def State.farRow (s : State) (n : Rsn) (l : Nat) : State :=
  let x := s.lane l
  let f221 := s.cur .laneMode l == 0
  let row := x.test.loop == 4
  let precode := row && s.cur .laneTxPrecode l == 1
  let (inj, test) := x.test.inject n
  let test := { test with gen := 0 }
  match x.test.far with
  | none => s.setLane l { x with tx := {}, test := test }
  | some ys =>
    let gs := injectFar f221 row inj ys
    s.setLane l { x with
      tx := { idle := false
              far := true
              symbols := if precode then precodeFrom x.precode gs else gs
              precode := precode
              start := x.precode
              inverted := row && s.txInverted l }
      precode := if precode then precodeAfter x.precode gs else x.precode
      test := test }

/-- One sending lane in row n. -/
def State.egressLane (s : State) (n : Rsn) (l : Nat) (gs : List (Nat × GrainOut)) : State :=
  match s.txKind l with
  | .traffic => s.contentRow n l false gs
  | .aisOut => s.contentRow n l true gs
  | .payload => s.payloadRow n l
  | .line => s.lineRow n l
  | .far => s.farRow n l

/-! ### Misroutes and fail-quiet substitutions of a dune (R172, R173, R178, R514) -/

/-- The event record of one mismatched word (R173, R530). -/
def State.misEvent (s : State) (d : Nat) (m : Mismatch) : State :=
  s.alarmEvent 0 false false 0x1F03 d 0 (leBytes 2 m.lane ++ leBytes 2 m.grain ++ leBytes 2 m.slot ++ leBytes 2 m.expected.toNat ++
    leBytes 2 m.seen.toNat ++ leBytes 1 m.role)

/-- The records of a dune's mismatches in a row: the first 16 each, the rest in one summary (R173). -/
def State.misEvents (s : State) (d : Nat) (ms : List Mismatch) : State :=
  let s := (ms.take 16).foldl (fun s m => s.misEvent d m) s
  if 16 < ms.length then s.alarmEvent 0 false false 0x1F04 d (ms.length - 16) [] else s

/-- MSR of a dune has stood for 625 rows: PERSIST (R514). -/
def State.misPersist (s : State) (d : Nat) : State :=
  if (s.dune d).msrRun = 625 then
    (s.markRec 5 (regionOfDune d) d 0x80).bump .cfgPmFaultEscalated 0 1
  else s

/-- A dune's row: MSR and MSA, the row flags, counts, records and the fault record (R172, R173, R176, R178, R514, R516). misRow, fqRow:
a lane of the dune has sent MIS, or FQ, in the row. -/
def State.duneRow (s : State) (d : Nat) (ms : List Mismatch) (fqWords : Nat) (misRow fqRow : Bool) : State :=
  let sent := (ms.filter (·.sent)).length
  let other := ms.length - sent
  let hitR := sent != 0
  let hitA := other != 0
  let s := s.modDune d fun x => { x with
    msr := x.msr || hitR
    msa := x.msa || hitA
    misRow := misRow
    fqRow := fqRow
    msrClean := if hitR || !x.msr then 0 else x.msrClean + 1
    msaClean := if hitA || !x.msa then 0 else x.msaClean + 1
    msrRun := if x.msr || hitR then x.msrRun + 1 else 0 }
  let s := (s.bump .dunePmMsrWords d sent).bump .dunePmMsrRows d (if hitR then 1 else 0)
  let s := (s.bump .dunePmMsaWords d other).bump .dunePmFqWords d fqWords
  let s := ((s.perf 0x014 d ms.length).perf 0x015 d fqWords).misEvents d ms
  let slot := match ms.head? with | some m => m.slot | none => 0
  let s := if hitR then s.detect 5 (regionOfDune d) d slot 1 else s
  let s := if hitA then s.detect 5 (regionOfDune d) d slot 0 else s
  s.misPersist d

/-! ### The egress row -/

/-- The lanes whose transmitter sends rows. -/
def State.sendingLanes (s : State) : List Nat := (s.lanes.filter fun x => x.2.txOn && x.2.txSending).map (·.1)

/-- A lane that does not send: its BIP-8 starts anew (R80). -/
def State.silentInsts (s : State) (ls : List Nat) : State :=
  let one := fun (x : Nat × InstTx) => if ls.contains (x.1 / 4096) then x else (x.1, { x.2 with lastTrib := none })
  let quiet := fun (l : Nat) (x : Lane) => if ls.contains l then x else { x with bipTx := [], bipSent := [] }
  { s with sw := { s.sw with instTx := s.sw.instTx.map one }, lanes := Table.mapVals {} quiet s.lanes }

/-- Words read and tags checked on a lane (R167, R542). -/
def State.countReads (s : State) (l : Nat) : State :=
  let es := s.entriesOf l
  let k := es.length + (es.filter fun x => x.2.getLsbD 73).length
  (s.perf 0x012 (l / 8) k).perf 0x013 (l / 8) k

/-- The row of a lane carries the words of its egress grains: it sends neither a test pattern nor a far loop. -/
def State.contentLane (s : State) (l : Nat) : Bool :=
  match s.txKind l with
  | .traffic | .aisOut => true
  | _ => false

/-- The words of a lane's row that are substituted with grain AIS under FQ (R178): of a lane whose transmit configuration or wire is in
doubt every one. -/
def State.fqWords (s : State) (l : Nat) (gs : List (Nat × GrainOut)) : Nat :=
  if !s.contentLane l then 0
  else if s.txDoubt l || s.wireDoubt l then s.grainsOf l
  else (gs.filter fun x => x.2.fq).length

/-- The tributaries of which an instance sends code 0x9 as its PMF begins, for it starts or has changed its source: those of lanes that send
traffic (R138, R140, R141). -/
def State.newSources (s : State) (ls : List Nat) : List Nat :=
  (ls.filter fun l => s.txKind l = .traffic && !s.txDoubt l).flatMap fun l =>
    ((s.instsOf l).filter fun i => (s.inst i.key).lastTrib != some (s.instSource i) && !(s.trib (s.instSource i)).aisTx).map s.instSource

/-- No announcement goes out in the PMF of a 0x9 word or in the 3 PMFs after it (R138): as PMF m begins, one about to be sent falls. -/
def State.holdAnnounce (s : State) (m k : Nat) : State :=
  let t := s.trib k
  s.setTrib k { t with
    txSent := 0
    txCode := if t.txCode = 9 then 9 else 0
    txNext := some (pmfAfter m 4) }

/-- What the start of an egress PMF does to the instances of the sending lanes. -/
def State.startPmfOut (s : State) (n : Rsn) (ls : List Nat) : State :=
  if n.toNat % 32 = 0 then
    let s := s.startInsts
    (s.newSources ls).foldl (fun s k => s.holdAnnounce (n.toNat / 32) k) s
  else s

/-- A lane has sent a row whose validity byte has a bit (R74, R176). -/
def State.sentBit (s : State) (ls : List Nat) (d bit : Nat) : Bool :=
  ls.any fun l => l / 8 == d && (s.lane l).tx.validity.getLsbD bit

/-- The dunes take stock of egress row n (R172, R173, R176, R178). -/
def State.duneRows (s : State) (ls : List Nat) (mis : List Mismatch) (fq : List (Nat × Nat)) : State :=
  let words := fun (d : Nat) => ((fq.filter fun x => x.1 / 8 == d).map (·.2)).sum
  let busy := fun (d : Nat) => (mis.any fun m => m.lane / 8 == d) || words d != 0 || s.sentBit ls d 7 || s.sentBit ls d 5 || s.dune d != {}
  (allDunes.filter busy).foldl (fun t d =>
    t.duneRow d (mis.filter fun m => m.lane / 8 == d) (words d) (s.sentBit ls d 7) (s.sentBit ls d 5)) s

/-- The mismatched cut inputs of the stages whose lane does not send (R168, R172). -/
def State.silentMis (s : State) (ls : List Nat) : List Mismatch :=
  (s.obs.cuts.filter fun x => !ls.contains (s.cur .cutLane x.1)).flatMap fun x => s.cutMismatches x.1

/-- Egress row n: every sending lane forms its row from what the erg moved in row n − 1; then the dunes take stock (R156, R167, R168). -/
def State.egressRow (s : State) (n : Rsn) : State :=
  let ls := s.sendingLanes
  let s := ((s.startPmfOut n ls).silentInsts ls).reloadPathTrace false
  let reads := ls.map fun l => (l, s.readLane n l)
  let mis := (reads.flatMap fun x => s.laneMis x.1 x.2) ++ s.silentMis ls
  let fq := reads.map fun x => (x.1, s.fqWords x.1 x.2)
  let s := ls.foldl State.countReads s
  let s := reads.foldl (fun s x => s.egressLane n x.1 x.2) s
  let one := fun (x : Nat × CutStage) => (x.1, if x.2.on then x.2.sent else x.2)
  let s := { s with obs := { s.obs with cuts := s.obs.cuts.map one } }
  s.duneRows ls mis fq

/-- MISROUTE_DEFECT_CLEAR: MSR, or MSA, clears after 64 rows in a row without a mismatch (R172). -/
def execMisrouteDefectClear (dune : Fin 64) (unselected : Bool) (s : State) : Host.Outcome State Fault Refusal :=
  let x := s.dune dune.val
  if unselected then
    .next (if x.msa && decide (64 ≤ x.msaClean) then s.modDune dune.val fun x => { x with msa := false, msaClean := 0 } else s)
  else
    .next (if x.msr && decide (64 ≤ x.msrClean) then
      s.modDune dune.val fun x => { x with msr := false, msrClean := 0, msrRun := 0 } else s)

end Sys2Proof.Machine
end

