-- ==== Sys2Proof/Machine/Matrix.lean ====
section
/-!
DEFINITION. Machine/Matrix.lean: the Jaray complex: writes and reads on the bus matrix, REMAP, the working SRAM and its march test,
MRAM, semaphores, apply batches, DMA (R441 to R470), and DIAG.MEM_READ.
-/
namespace Sys2Proof.Machine

/-! ### Writes of the register space (R412, R443, R456, R457, R462) -/

/-- A register that a write may change (R412, R413, R457). -/
def regWritable (off : Nat) : Bool :=
  [0x20, 0x28, 0x50, 0x54, 0x58].contains off || decide (0x100 ≤ off ∧ off < 0x140 ∧ off % 4 = 0) ||
  decide (0x400 ≤ off ∧ off < 0xC00 ∧ (off % 256 < 0x40 ∨ off % 256 = 0x90) ∧ off % 4 = 0) ||
  decide (0x1000 ≤ off ∧ off < 0x1200 ∧ off % 4 = 0) || decide (0x10000 ≤ off ∧ off < 0x10100 ∧ off % 4 = 0) ||
  decide (0x10100 ≤ off ∧ off % 4 = 0) && (match Config.innerReg off with
    | .j1Release | .segLow _ | .segHigh _ | .segLimit _ | .record _ => true
    | .param n obj _ => n.instOk obj && n.desc.acc != .ro
    | .none | .batchAddr | .batchValue | .apply => false)

/-- v as word k of a value in the place of the old word. -/
def putWord (old k : Nat) (v : BitVec 32) : Nat := old - old / 2 ^ (32 * k) % 2 ^ 32 * 2 ^ (32 * k) + v.toNat * 2 ^ (32 * k)

/-- Word k of a parameter written through the register space, by its access code: RO and RWK ignore it, RWD while its block is enabled,
and every parameter a value that it refuses (R424, R427, R457; log entry 97). -/
def State.paramWord (s : State) (n : Pn) (obj k : Nat) (v : BitVec 32) : State :=
  let d := n.desc
  let new := putWord (if d.acc = .cnt then s.cnt n obj else s.cur n obj) k v % 256 ^ d.len
  if d.acc = .ro ∨ d.acc = .rwk ∨ n.instOk obj = false ∨ (d.acc = .rwd ∧ s.blockOn d.block obj = true) ∨ (n.checkValue obj d.len new).isSome
  then s
  else s.putValue n obj new

/-- Word k of the record port: with the last word the journal record is appended, if the buffer has room; SEQ, RSN, TOD and LINK are the
sequencer's (R403, R457, R536; log entry 97). -/
def State.portWord (s : State) (k : Nat) (v : BitVec 32) : State :=
  let w := putWord s.jcc.port.toNat (k % 16) v
  let s := { s with jcc := { s.jcc with port := BitVec.ofNat 512 w } }
  let f := fun (o n : Nat) => w / 256 ^ o % 256 ^ n
  if k % 16 = 15 ∧ 0 < s.jfree then
    s.pushRec false (f 24 1) (f 25 1) (f 26 1) (f 28 4) (f 32 4) (f 36 2) (f 38 2) (f 40 4) (f 44 4) (f 48 8)
  else s

/-- A segment is programmed, by J0 and J1 alone: its base is aligned to 4 KiB, its limit at most 8 MiB (R462). -/
def State.segWrite (s : State) (m k : Nat) (f : Segment → Segment) : State :=
  let g := f (Table.get {} s.jcc.segs (k % 256))
  if m < 2 then
    { s with jcc := { s.jcc with segs := Table.set {} s.jcc.segs (k % 256) ⟨g.base / 4096 * 4096, min g.limit 0x800000⟩ } }
  else s

/-- A register of the register space beyond the semaphores, but those of an apply batch (R443, R457, R462). -/
def State.innerWrite (s : State) (m : Nat) (r : InnerReg) (v : BitVec 32) : State :=
  match r with
  | .j1Release => if m = 0 then { s with jcc := { s.jcc with j1 := true } } else s
  | .segLow k => s.segWrite m k fun g => { g with base := putWord g.base 0 v }
  | .segHigh k => s.segWrite m k fun g => { g with base := putWord g.base 1 v }
  | .segLimit k => s.segWrite m k fun g => { g with limit := v.toNat }
  | .record k => s.portWord k v
  | .param n obj k => s.paramWord n obj k v
  | .none | .batchAddr | .batchValue | .apply => s

/-- A write of a semaphore: by its holder it releases it, by any other master it is ignored (R456). -/
def State.semWrite (s : State) (m k : Nat) : State :=
  if Table.get 0 s.jcc.sems k = m + 1 then { s with jcc := { s.jcc with sems := Table.set 0 s.jcc.sems k 0 } } else s

/-- One 32-bit write of master m to a register-space offset, by the register's own rule; RO and reserved offsets ignore it (R14,
R412). -/
def State.regWrite (s : State) (m off : Nat) (v : BitVec 32) : State :=
  if off = 0x20 then s.unlockReg v
  else if off = 0x28 then s.recoverReg v
  else if off = 0x50 then nextOf s (execEvtHeadWrite v s)
  else if off = 0x54 then nextOf s (execJrnHeadWrite v s)
  else if off = 0x58 then nextOf s (execFacHeadWrite v s)
  else if off % 4 ≠ 0 then s
  else if 0x100 ≤ off ∧ off < 0x140 then nextOf s (execDoorbellWrite (Fin.ofNat 16 ((off - 0x100) / 4)) v s)
  else if 0x400 ≤ off ∧ off < 0xC00 then
    if off % 256 < 0x40 then s.cmdWrite (off / 256 - 4) (off % 256) v
    else if off % 256 = 0x90 then nextOf s (execMailboxGo (Fin.ofNat 8 (off / 256 - 4)) v s)
    else s
  else if 0x1000 ≤ off ∧ off < 0x1200 then s.msixWrite ((off - 0x1000) / 4) v
  else if 0x10000 ≤ off ∧ off < 0x10100 then s.semWrite m ((off - 0x10000) / 4)
  else if 0x10100 ≤ off then s.innerWrite m (Config.innerReg off) v
  else s

/-- APPLY: every queued write in order with nothing between; a batch with more than 256 entries, an RO register or an unmapped
address is refused whole with an error response. The batch is empty after it (R457; log entry 97). -/
def State.applyBatch (s : State) (j : Nat) : State :=
  let ws := Table.get [] s.jcc.batch j
  let off := fun (w : RegWrite) => w.addr - 0x40000000
  let bad := fun (w : RegWrite) => decide (w.addr < 0x40000000 ∨ 0x50000000 ≤ w.addr) || !regWritable (off w)
  let s := { s with jcc := { s.jcc with batch := Table.drop s.jcc.batch j } }
  if 256 < ws.length ∨ ws.any bad = true then s.errorTo j (0x40020000 + 0x4000 * j)
  else ws.foldl (fun s w => s.regWrite j (off w) w.value) s

/-- A write to the queue of an apply batch. -/
def State.queueWrite (s : State) (j : Nat) (w : RegWrite) : State :=
  { s with jcc := { s.jcc with batch := Table.put s.jcc.batch j (Table.get [] s.jcc.batch j ++ [w]) } }

/-- One 32-bit write into the register space: in the windows of the apply batches an entry is queued or the batch applied; elsewhere the
register's own rule holds (R445, R457). -/
def State.spaceWrite (s : State) (m off : Nat) (v : BitVec 32) : State :=
  let j := (off - 0x20000) / 0x4000
  if 0x20000 ≤ off ∧ off < 0x28000 then
    match Config.innerReg off with
    | .batchAddr => { s with jcc := { s.jcc with batchAddr := Table.put s.jcc.batchAddr j v.toNat } }
    | .batchValue => s.queueWrite j ⟨Table.get 0 s.jcc.batchAddr j, v⟩
    | .apply => s.applyBatch j
    | _ => s
  else s.regWrite m off v

/-! ### Reads and writes on the matrix (R444 to R451, R462, R463) -/

/-- The bank of an SRAM offset (R450). -/
def sramBank (off : Nat) : Nat := off / 64 % 16

/-- A damaged word of the working SRAM is met: an error response, and the fault record of class 0x0A (R450, R504). -/
def State.sramError (s : State) (m off : Nat) : State :=
  (s.errorTo m off).detect 0xA 2 (sramBank off) (off / 16 * 16) 0

/-- The host address of an outbound offset; none at or beyond its segment's limit (R462). -/
def State.outboundAddr (s : State) (off : Nat) : Option Nat :=
  let g := Table.get {} s.jcc.segs (off / 0x800000)
  let o := off % 0x800000
  if o < g.limit then some (g.base + o) else none

/-- The bytes of an image slot as far as its image goes (R446, R551, R553). -/
def ImageSlot.byte (x : ImageSlot) (off : Nat) : Option Byte :=
  match x.image with
  | some i => if i.reservedZero then i.bytes[off]? else none
  | none => none

/-- A byte of the MRAM: what its area holds (R363, R426, R446, R515, R517, R539, R544, R553, R565; log entry 4). -/
def State.mramByte (s : State) (off : Nat) : Byte :=
  if off < 0x3000000 then
    let x : CkptSlot := Table.get {} s.pair.ckpts (off / 0x100000)
    let o := off % 0x100000
    if o < 64 then
      Config.mramByte 0 [x.ck.seq, x.ck.generation, x.ck.rsn.toNat, x.len, x.crc.toNat, if x.valid then 1 else 0] o
    else (Config.ckptBytes x.ck).getD (o - 64) (Config.mramByte 0 [] off)
  else if off < 0x3800000 then
    let o := off - 0x3000000
    ((if o < 0x400000 then s.sec.slot0 else s.sec.slot1).byte (o % 0x400000)).getD (Config.mramByte 1 [] off)
  else if off < 0x3880000 then
    let k := (off - 0x3800000) / 0x10000
    Config.mramByte 2 ((Table.get [] s.log.lifeSlots k).flatMap fun x => [x.1, x.2]) (off % 0x10000)
  else if off < 0x3C80000 then
    Config.mramByte 3 ((if s.par.storeOk then 1 else 0) :: s.par.store.flatMap fun x => [x.1, x.2]) (off - 0x3880000)
  else if off < 0x3C80800 then
    let k := (off - 0x3C80000) / 32
    match s.flt.mram.find? fun r => r.fseq % 64 == k with
    | some r => r.bytes.getD (off % 32) 0
    | none => Config.mramByte 4 [] off
  else if off < 0x3C81000 then Config.mramByte 5 [s.log.jceil] (off - 0x3C80800)
  else if off < 0x3C82000 then
    Config.mramByte 6 (s.sec.keyGen :: s.sec.keys.flatMap fun x => [x.1, x.2.toNat]) (off - 0x3C81000)
  else Config.mramByte 7 [] off

/-- A word of the register space as a master reads it: BAR0, the semaphores; what the rest holds is internal to the firmware (R412, R445,
R456). -/
def State.spaceWord (s : State) (off : Nat) : Nat :=
  if off < 0x10000 then s.reg off
  else if off < 0x10100 then (match Table.get 0 s.jcc.sems ((off - 0x10000) / 4) with | 0 => 0 | n + 1 => 0x80000000 + n)
  else s.draw % 2 ^ 32

/-- A read of semaphore k by master m acquires it if it is free, but not for the debug master (R456). -/
def State.semAcquire (s : State) (m k : Nat) : State :=
  if m = 13 ∨ Table.get 0 s.jcc.sems k ≠ 0 then s else { s with jcc := { s.jcc with sems := Table.set 0 s.jcc.sems k (m + 1) } }

/-- What the read of a word of the register space does beside answering (R414, R456). -/
def State.spaceRead (s : State) (m off : Nat) : State :=
  if off = 0x38 then s.latchRsn
  else if 0x10000 ≤ off ∧ off < 0x10100 then s.semAcquire m ((off - 0x10000) / 4)
  else if 0x10100 ≤ off then s.drawn
  else s

/-- One byte read from a target; none: an error response. A byte whose layout is internal to the firmware is a free value (R445; log
entry 1). -/
def State.readByte (s : State) (m a : Nat) : Option Byte × State :=
  let (t, off) := matrixTarget s.jcc.remap a
  if !s.reached m a then (none, s.defaultHit m a)
  else match t with
    | .boot => (some (Config.internalByte off), s)
    | .sram _ =>
      if s.jcc.sramBad.contains (off / 16) then (none, s.sramError m off) else (some (Table.get 0 s.jcc.sram off), s)
    | .mram => (some (s.mramByte off), s)
    | .reg => (some (BitVec.ofNat 8 (byteOf (s.spaceWord (off / 4 * 4)) (off % 4))), s)
    | .outbound => match s.outboundAddr off with
      | none => (none, s.defaultHit m a)
      | some h =>
        if s.host.dmaOn && s.readOk h 1 then (some (Table.get 0 s.host.mem h), s)
        else (none, (s.defaultHit m a).bump .cfgPmAddrFaults 0 1)
    | _ => (some (BitVec.ofNat 8 s.draw), s.drawn)

/-- The last byte of a word, or of the read, has been read: a word of the register space has then been read as one (R412, R456). -/
def State.endWord (s : State) (m a n : Nat) : State :=
  match matrixTarget s.jcc.remap a with
  | (.reg, off) => if n = 0 ∨ a % 4 = 3 then s.spaceRead m (off / 4 * 4) else s
  | _ => s

/-- n bytes read from an address on; none from the first error response on. -/
def State.readBytes (s : State) (m a n : Nat) : Option (List Byte) × State :=
  match n with
  | 0 => (some [], s)
  | k + 1 => match s.readByte m a with
    | (none, s) => (none, s)
    | (some b, s) => match (s.endWord m a k).readBytes m (a + 1) k with
      | (none, s) => (none, s)
      | (some bs, s) => (some (b :: bs), s)

/-- The byte that a write through a view of the SRAM leaves: home, bit-set OR, bit-clear AND NOT (R451). -/
def aliased (k : Nat) (old b : Byte) : Byte :=
  match k with
  | 0 => b
  | 1 => old ||| b
  | _ => old &&& ~~~b

/-- A beat written to the working SRAM. Through a bit-set or bit-clear view it is checked first, and a damaged word stops it; a whole word written home
is whole again (R450, R451, R504). -/
def State.sramWrite (s : State) (m al off : Nat) (bs : List Byte) : Bool × State :=
  let words := (List.range ((off % 16 + bs.length + 15) / 16)).map fun k => off / 16 + k
  let bad := words.filter fun w => s.jcc.sramBad.contains w
  if al ≠ 0 ∧ bad ≠ [] then (false, s.sramError m off)
  else
    let old := Table.getRun 0 s.jcc.sram off bs.length
    let new := List.zipWith (aliased al) old bs
    let whole := fun w => decide (off ≤ 16 * w ∧ 16 * w + 16 ≤ off + bs.length)
    (true, { s with jcc := { s.jcc with
      sram := Table.setRun 0 s.jcc.sram off new
      sramBad := s.jcc.sramBad.filter fun w => !whole w } })

/-- The 32-bit words of aligned bytes written to the register space, lowest first (R412). -/
def State.regWords (s : State) (m off : Nat) (bs : List Byte) : State :=
  match bs with
  | a :: b :: c :: d :: r => (s.spaceWrite m off (BitVec.ofNat 32 (leNat [a, b, c, d]))).regWords m (off + 4) r
  | _ => s

/-- A beat of bytes written at an address; false: an error response (R444 to R451, R462, R463). Staging port, caravan store, telemetry
store and crypto engine have layouts internal to the firmware, and what they hold is State's own. The areas of the MRAM are written only
as their rules state (R446), so a beat leaves them as they are. -/
def State.writeBeat (s : State) (m a : Nat) (bs : List Byte) : Bool × State :=
  let (t, off) := matrixTarget s.jcc.remap a
  if !s.reached m a then (false, s.defaultHit m a)
  else match t with
    | .none | .boot | .activePort => (false, s.defaultHit m a)
    | .sram k => s.sramWrite m k off bs
    | .reg =>
      if bs.length % 4 = 0 ∧ off % 4 = 0 then (true, s.regWords m off bs) else (true, s)
    | .outbound => match s.outboundAddr off with
      | none => (false, s.defaultHit m a)
      | some h =>
        if s.host.dmaOn && s.writeOk h bs.length then (true, s.hostWrite h bs)
        else (false, (s.defaultHit m a).bump .cfgPmAddrFaults 0 1)
    | _ => (true, s)

/-- The matrix takes a new request. -/
def State.request (s : State) : State := { s with jcc := { s.jcc with error := false } }

/-- REGISTER_WRITE: a master's write of one beat, of 16 bytes at most, and 32 for the facet DMA. PCIe inbound writes naturally aligned 4
or 8 bytes in BAR0, where anything else is ignored (R412, R444). -/
def execRegisterWrite (master : Fin 14) (addr : Nat) (bytes : List Byte) (s : State) : Host.Outcome State Fault Refusal :=
  let m := master.val
  let n := bytes.length
  let width := if m = 12 then 32 else 16
  let fits := if m = 10 then decide ((n = 4 ∨ n = 8) ∧ addr % n = 0) || !s.reached m addr else decide (0 < n ∧ addr % width + n ≤ width)
  if s.masterOn m && fits then .next ((s.granted m addr).request.writeBeat m addr bytes).2 else .next s

/-! ### Semaphores, apply batches, REMAP (R449, R456, R457) -/

/-- SEMAPHORE_READ: a free semaphore is acquired, but not by the debug master; a held one names its holder (R456). -/
def execSemaphoreRead (master : Fin 14) (sem : Fin 64) (s : State) : Host.Outcome State Fault Refusal :=
  let m := master.val
  let k := sem.val
  let s := if s.masterOn m then s.granted m (0x40010000 + 4 * k) else s
  if !s.masterOn m then .next s
  else if !s.reached m (0x40010000 + 4 * k) then .next (s.request.defaultHit m (0x40010000 + 4 * k))
  else
    let s := s.request
    let data := match Table.get 0 s.jcc.sems k with | 0 => 0 | h + 1 => 0x80000000 ||| BitVec.ofNat 32 h
    let t := s.semAcquire m k
    .next { t with jcc := { t.jcc with readData := data } }

/-- SEMAPHORE_WRITE (R456). -/
def execSemaphoreWrite (master : Fin 14) (sem : Fin 64) (s : State) : Host.Outcome State Fault Refusal :=
  let m := master.val
  let s := if s.masterOn m then s.granted m (0x40010000 + 4 * sem.val) else s
  if !s.masterOn m then .next s
  else if !s.reached m (0x40010000 + 4 * sem.val) then .next (s.request.defaultHit m (0x40010000 + 4 * sem.val))
  else .next (s.request.semWrite m sem.val)

/-- APPLY_BATCH: these writes are queued after those that wait, and the pair writes its APPLY register (R457). -/
def execApplyBatch (j : Fin 2) (writes : List RegWrite) (s : State) : Host.Outcome State Fault Refusal :=
  if s.masterOn j.val then
    .next ((writes.foldl (fun s w => s.queueWrite j.val w) (s.granted j.val (0x40020000 + 0x4000 * j.val)).request).applyBatch j.val)
  else .next s

/-- REMAP_WRITE: J0 writes it while fetching from the boot ROM; nothing else writes it (R449). -/
def execRemapWrite (j : Fin 2) (fromRom : Bool) (s : State) : Host.Outcome State Fault Refusal :=
  if j.val = 0 ∧ fromRom = true ∧ s.masterOn 0 = true then .next { s with jcc := { s.jcc with remap := true } } else .next s

/-! ### DMA (R461) -/

/-- The n beats of 16 bytes of a transfer from beat i on; false: an error response has ended it, and earlier beats stay written. Each
burst of 16 beats is granted at both its targets, and the bytes moved are counted for the channel (R447, R448, R461, R542). -/
def State.dmaBeats (s : State) (m src dst i n : Nat) : Bool × State :=
  match n with
  | 0 => (true, s)
  | k + 1 =>
    let s := if i % 16 = 0 then (s.granted m src).granted m dst else s
    match s.readBytes m src 16 with
    | (none, s) => (false, s)
    | (some bs, s) => match s.writeBeat m dst bs with
      | (false, s) => (false, s)
      | (true, s) => (s.perf 0x046 (m - 2) 16).dmaBeats m (src + 16) (dst + 16) (i + 1) k

/-- The write burst of a transfer of n beats to dst that the channel's reset after k beats cuts short; none between two bursts. Host
addresses stand after translation (R459, R460). -/
def State.cutBurst (s : State) (m dst k n : Nat) : List Burst :=
  let (t, _) := matrixTarget s.jcc.remap dst
  let at' := fun (i : Nat) =>
    let a := dst + i
    if t = .outbound then (s.outboundAddr (a - 0x80000000)).getD a else a
  if k % 16 = 0 then []
  else [⟨m, t.code, at' (k / 16 * 256), at' (16 * k - 1), at' (16 * k), at' (16 * min n (k / 16 * 16 + 16) - 1)⟩]

/-- DMA_TRANSFER: 16 bytes to 16 MiB in multiples of 16. With abort the firmware resets the channel after that many beats: the rest is
suppressed, and a burst cut short makes a torn-write record (R458 to R461). -/
def execDmaTransfer (ch : Fin 8) (src dst : Nat) (run : DmaRun) (s : State) : Host.Outcome State Fault Refusal :=
  let m := ch.val + 2
  let n := run.len / 16
  if s.masterOn m && decide (16 ≤ run.len ∧ run.len ≤ 16777216 ∧ run.len % 16 = 0) then
    match run.abort with
    | none => .next (s.request.dmaBeats m src dst 0 n).2
    | some k =>
      let (whole, t) := s.request.dmaBeats m src dst 0 (min k n)
      if whole && decide (k < n) then .next ((t.dropSems fun x => x == m).tornWrites 19 (t.cutBurst m dst k n)) else .next t
  else .next s

/-! ### The march test (R453 to R455) -/

/-- A cell of the line at an offset fails: the line is repaired to a spare of its bank, or reported (R455, R521). -/
def State.badLine (s : State) (off : Nat) : State :=
  let b := sramBank off
  let used := Table.get 0 s.jcc.spares b
  if used < 4 then
    let s := { s with jcc := { s.jcc with
      spares := Table.put s.jcc.spares b (used + 1)
      spareLow := s.jcc.spareLow || used == 3
      sramBad := s.jcc.sramBad.filter fun w => w / 4 != off / 64 } }
    let s := s.bump .cfgPmMarchRepairs 0 1
    if used = 3 then s.setUncovered 2 true else s
  else s.detect 0xA 2 b off 0

/-- MARCH_TEST_SLICE: the next slice of the region under test, with the lines of its four that fail; a region begins every 5 ms of TIM
time (R453, R455). -/
def execMarchTestSlice (failing : BitVec 4) (s : State) : Host.Outcome State Fault Refusal :=
  let j := s.jcc
  if s.domain 2 ≠ 0 ∨ s.dev.jcc = .off ∨ s.dev.jcc = .retained then .next s
  else if j.slice = 0 ∧ j.marchTick ≠ 0 ∧ s.elapsed (j.marchTick - 1) (5 * msTicks) = false then .next s
  else
    let region := if j.slice = 0 then j.nextRegion else j.region
    let bad := (List.range 4).filter fun k => failing.getLsbD k
    let s := bad.foldl (fun s k => s.badLine (region * 4096 + j.slice * 256 + 64 * k)) s
    let done := j.slice = 15
    let s := { s with jcc := { s.jcc with
      region := region
      marchTick := if j.slice = 0 then s.clk.tick + 1 else j.marchTick
      slice := if done then 0 else j.slice + 1
      marchOn := !done
      nextRegion := if done then (region + 1) % 2048 else j.nextRegion } }
    .next (if done then s.bump .cfgPmMarchRegions 0 1 else s)

/-! ### DIAG.MEM_READ (R401) -/

/-- DIAG.MEM_READ: J0 reads the buffer's length from a matrix address; an address that no target answers is OUT_OF_RANGE, a damaged
word INTERNAL_FAULT (R448, R504). -/
def memReadBody (b : Buf) (address : Nat) (_c : CmdRef) (s : State) : Reply :=
  let last := address + b.len - 1
  let gone := fun (a : Nat) => (matrixTarget s.jcc.remap a).1 = .none
  guarded [(b.len == 0, 0x0003, 0), (decide (gone address ∨ gone last), 0x0004, 0), (!s.bufWrite b b.len, 0x0007, 0x0001)] <|
    match s.readBytes 0 address b.len with
    | (none, t) => .refuseIn t 0x0011
    | (some bs, t) => .done (t.hostWrite b.addr bs)

/-- DIAG.MEM_READ (R401). -/
def execDiagMemRead (e : Entry) (b : Buf) (address : Nat) (s : State) : Host.Outcome State Fault Refusal :=
  serve (cmdOf (.diagMemRead e b address)) e s (memReadBody b address)

end Sys2Proof.Machine
end

