-- ==== Sys2Proof/Machine/Erg.lean ====
section
/-!
DEFINITION. Machine/Erg.lean: the ingress ring with the plane merge, the facet attribution of entry rows, and the move of the words
through the erg into the egress buffers and cut stages (R105, R106, R126, R154 to R157, R165, R171, R232 to R236, R249 to R251, R270,
R271, R504, R509).
-/
namespace Sys2Proof.Machine

/-! ### The ingress ring (R154, R155) -/

/-- Key of a lane's block in the row slot of entry row e. -/
def ringKey (e : Rsn) (l : Nat) : Nat := e.toNat % 4 * 512 + l

/-- The row slot of entry row e is written anew: where nothing is written, grain AIS (R106, R174). -/
def State.openSlot (s : State) (e : Rsn) : State :=
  { s with sw := { s.sw with ring := s.sw.ring.filter fun x => x.1 / 512 != e.toNat % 4 } }

/-- Write a lane's block of entry row e. -/
def State.writeRing (s : State) (e : Rsn) (l : Nat) (c : RowContent) : State :=
  { s with sw := { s.sw with ring := Table.put s.sw.ring (ringKey e l) c } }

/-- The member grains of TERMINATED tributaries whose defects call for egress AIS are written as grain AIS (R144). -/
def State.terminatedAis (s : State) (l : Nat) (c : RowContent) : RowContent :=
  s.tribs.foldl (fun c x =>
    if x.2.on && !x.2.retimed && x.2.lane == l && s.tribAis x.1 then x.2.grains.foldl (fun c g => rowSetGrain c g grainAis) c else c) c

/-- The row of RSN k of a lane goes into entry row e: as received, or as ingress AIS; the facet engine attributes it where attr holds (R105,
R106, R249, R250). -/
def State.storeRow (s : State) (e : Rsn) (l : Nat) (k : Rsn) (ais attr : Bool) (c : RowContent) : State :=
  let w := if ais then rowAis else s.terminatedAis l c
  let s := if ais then s else s.writeRing e l w
  (if attr then s.attribute l k e ais w else s).perf 0x011 (l / 8) (s.grainsOf l)

/-- The row of a LOCKED lane for entry row e under its anchor, where it was judged in time and θ lies in the window (R100, R155). -/
def State.entryRow (s : State) (e : Rsn) (l : Nat) : Option Judged :=
  let x := s.lane l
  if x.rxOn && x.anchor != 0 && inWindow x.anchor x.theta 0 then
    x.rows.find? fun r => r.rsn == e - BitVec.ofNat 48 x.anchor
  else none

/-- A LOCKED lane in no pair: its row, or ingress AIS for the entry row; without an anchor nothing is attributed (R249). -/
def State.lockedRow (s : State) (e : Rsn) (l : Nat) : State :=
  let x := s.lane l
  let k := e - BitVec.ofNat 48 x.anchor
  if !x.rxOn then s
  else match s.entryRow e l with
    | some r => s.storeRow e l k r.ais true r.content
    | none => s.storeRow e l k true (x.anchor != 0) rowAis

/-- A PLESIO lane in no pair: the rows judged since the last boundary are attributed by their received RSN (R104, R250). -/
def State.plesioRows (s : State) (e : Rsn) (l : Nat) : State :=
  let rows := (s.lane l).rows
  let s := s.modLane l fun x => { x with rows := [] }
  rows.foldl (fun s r => if r.got then s.attribute l r.rsn e r.ais (if r.ais then rowAis else r.content) else s) s

/-! ### The plane merge (R232 to R236) -/

/-- A copy is valid: it arrived and was judged so (R105, R234). -/
def copyValid (r : Option Judged) : Bool :=
  match r with
  | some r => r.valid
  | none => false

/-- The choice of R234; true is plane B. -/
def chooseCopy (prev preferred va vb : Bool) : Bool :=
  if va && !vb then false else if vb && !va then true else if va && vb then prev else preferred

/-- CRC-32C skewed the tributary overhead area and the grains of a copy (R235). -/
def State.copyCrc (s : State) (l : Nat) (r : Option Judged) : BitVec 32 :=
  match r with
  | some r => crc32c (slotBytes r.slots 0 (s.slotsOf l) ++ contentBytes r.content 0 (s.grainsOf l))
  | none => 0

/-- Difference of the lanes' θ above merge.skew_warn (R235). -/
def State.skewed (s : State) (m : Merge) : Bool :=
  let w := s.eff .mergeSkewWarn m.low
  w != 0 && decide (w < ((s.lane m.laneA).theta - (s.lane m.laneB).theta).natAbs)

/-- The pair's state after an RSN: what was taken, VALID_A and VALID_B, and the runs of its defects (R234, R235, R239). -/
def Merge.after (m : Merge) (take va vb differ skew : Bool) (k : Rsn) : Merge :=
  let (bad, good, same, skewed, within) := m.runs
  let both := !va && !vb
  { m with
    prev := take
    validA := va
    validB := vb
    last := some k
    runs := (if both then bad + 1 else 0, if both then 0 else good + 1, if differ then 1 else if same = 0 then 0 else same + 1,
      if skew then skewed + 1 else 0, if skew then 0 else within + 1) }

/-- The APS records of the copy taken: of a row that was received, with a correct CRC (R70, R227, R233). -/
def State.mergeAps (s : State) (l : Nat) (r : Judged) : State := if r.got && apsCrcOk r.aps then s.apsRecords l r.aps else s

/-- The copies of RSN k are merged into entry row e of the lower lane (R232 to R236, R241). attr: what the facet engine attributes to
RSN k (R249, R250). -/
def State.mergeRow (s : State) (m : Merge) (e k : Rsn) (a b : Option Judged) (attr : Option Judged → Bool) : State :=
  let va := copyValid a
  let vb := copyValid b
  let take := chooseCopy m.prev (s.flag .mergePreferred m.low) va vb
  let differ := va && vb && s.copyCrc m.low a != s.copyCrc m.low b
  let s := s.modPair m.low fun x => x.after take va vb differ (s.skewed m) k
  let one := fun (b : Bool) => if b then 1 else 0
  let s := (s.bump .mergePmRowsA m.low (one !take)).bump .mergePmRowsB m.low (one take)
  let s := (s.bump .mergePmPlaneChanges m.low (one (take != m.prev))).bump .mergePmDoubleInvalid m.low (one (!va && !vb))
  let s := s.bump .mergePmDiffer m.low (one differ)
  let taken := if take then b else a
  match taken with
  | some r =>
    let s := (s.mergeAps m.low r).tribRows m.low k r.valid r.ais r.slots r.content
    s.storeRow e m.low k r.ais (attr taken) r.content
  | none =>
    let s := s.tribRows m.low k false true [] rowAis
    s.storeRow e m.low k true (attr taken) rowAis

/-- The anchor in use of a LOCKED pair: that of its lower lane, or of the higher where only that one has been in SYNC since its RX enable
(R233, R249). -/
def State.pairAnchor (s : State) (m : Merge) : Nat :=
  let a := (s.lane m.low).anchor
  if a = 0 then (s.lane m.high).anchor else a

/-- A LOCKED pair: one RSN each row, as the anchor gives it; without an anchor in use nothing is attributed (R233, R234, R249). -/
def State.mergeLocked (s : State) (m : Merge) (e : Rsn) : State :=
  let g := s.pairAnchor m
  s.mergeRow m e (e - BitVec.ofNat 48 g) (s.entryRow e m.laneA) (s.entryRow e m.laneB) fun _ => g != 0

/-- A row of a PLESIO pair is attributed where its copy was received in SYNC (R250). -/
def gotCopy (r : Option Judged) : Bool :=
  match r with
  | some r => r.got
  | none => false

/-- Copies of an RSN merged already have come too late (R233, R234). -/
def lateDropped (last : Option Rsn) (rs : List Judged) : List Judged :=
  match last with
  | some q => rs.filter fun r => decide (8 ≤ (q - r.rsn).toNat)
  | none => rs

/-- The next RSN of a PLESIO pair with its copies and what is left: a copy waits one row for its twin (R233). -/
def nextCopies (as bs : List Judged) : Option (Rsn × Option Judged × Option Judged × List Judged × List Judged) :=
  match as, bs with
  | a :: ar, b :: br =>
    if a.rsn = b.rsn then some (a.rsn, some a, some b, ar, br)
    else if rsnLe a.rsn b.rsn then some (a.rsn, some a, none, ar, b :: br)
    else some (b.rsn, none, some b, a :: ar, br)
  | a :: c :: ar, [] => some (a.rsn, some a, none, c :: ar, [])
  | [], b :: c :: br => some (b.rsn, none, some b, [], c :: br)
  | _, _ => none

/-- A PLESIO pair: the RSNs that are due, at most n. -/
def State.mergePlesio (s : State) (low : Nat) (e : Rsn) (n : Nat) : State :=
  match n with
  | 0 => s
  | k + 1 => match s.prot.merges.find? fun m => m.low == low with
    | none => s
    | some m =>
      match nextCopies (lateDropped m.last (s.lane m.laneA).rows) (lateDropped m.last (s.lane m.laneB).rows) with
      | none => s
      | some (q, a, b, ar, br) =>
        let s := (s.modLane m.laneA fun x => { x with rows := ar }).modLane m.laneB fun x => { x with rows := br }
        (s.mergeRow m e q a b gotCopy).mergePlesio low e k

/-- An active pair at entry row e. -/
def State.mergePair (s : State) (m : Merge) (e : Rsn) : State :=
  if s.cur .laneClocking m.low = 1 then s.mergePlesio m.low e 8 else s.mergeLocked m e

/-- One lane at entry row e. -/
def State.ingressLane (s : State) (e : Rsn) (l : Nat) : State :=
  match (s.pairOf l).filter (·.active) with
  | some m => if m.low = l then s.mergePair m e else s
  | none => if s.cur .laneClocking l = 1 then s.plesioRows e l else s.lockedRow e l

/-- The lower lane of an active pair that has no state of its own still merges. -/
def State.ingressLanes (s : State) : List Nat :=
  ((s.lanes.map (·.1) ++ (s.prot.merges.filter (·.active)).map (·.low)).foldl (fun (t : Table Unit) k => Table.put t k ()) []).map (·.1)

/-- Lanes whose receive block is in doubt have their tributaries in TAIS (R106, R509). -/
def State.doubtTais (s : State) : State :=
  (s.lanes.filter fun x => x.2.rxOn && s.rxDoubt x.1).foldl (fun s x => s.laneTais x.1) s

/-- Device row e writes its row slot of the ingress ring (R154, R155). -/
def State.ingressRow (s : State) (e : Rsn) : State :=
  let s := (s.doubtTais).openSlot e
  s.ingressLanes.foldl (fun s l => s.ingressLane e l) s

/-! ### The move through the erg (R126, R156, R157, R165, R171) -/

/-- The word of a source as it leaves for the erg in device row n: its content, known AIS (R271), damage (R504, R509). A damaged word of
a RETIMED tributary puts all its words in doubt. -/
def State.sourceWord (s : State) (n : Rsn) (src : Nat) : BufWord :=
  let l := src / 4096
  let g := src % 4096
  match s.retimedOf src with
  | some (_, t) =>
    { word := t.words.getD (t.grains.idxOf g) grainAis
      tag := 0
      ecc := s.flt.dataBad.any fun x => x.1 == l && t.grains.contains x.2
      known := t.tais || t.tlop
      torn := s.flt.dataBad.any fun x => x.1 == l && t.grains.contains x.2 }
  | none =>
    let down := match s.memberOf src with | some (_, t) => t.tais || t.tlop | none => false
    let ecc := s.flt.dataBad.contains (l, g)
    match Table.find s.sw.ring (ringKey (n - 1) l) with
    | some c => { word := rowGrain c g, tag := 0, ecc := ecc, known := down }
    | none => { word := grainAis, tag := 0, ecc := ecc, known := true }

/-- The difference that a misroute makes to the tag in an egress middle slot; 0 for none (R504 class 0x05). -/
def State.tagFault (s : State) (j slot : Nat) : BitVec 12 :=
  match s.flt.misroute.find? fun x => x.1 == j && x.2.1 == slot with
  | some (_, _, d, _) => BitVec.ofNat 12 d
  | none => 0

/-- The word that the erg brings to egress middle slot (j, slot) in device row n, for egress row n + 1 (R157, R165). -/
def State.moveWord (s : State) (n : Rsn) (j slot : Nat) (w : BitVec 12) : Option BufWord :=
  let i := w.toNat % 64
  let from' := slot / 16 * 16 + w.toNat / 64 % 16
  let a := Table.get 0 s.ingB.ing (i * 65536 + from')
  if a.getLsbD 15 then
    let src := i * 32768 + a.toNat % 32768
    let x := s.sourceWord n src
    some { x with
      tag := pathTag (src / 4096) (src % 4096) (oddRow (n + 1)) ^^^ s.tagFault j slot
      ecc := x.ecc || s.flt.mapBad.contains (0, i, from') || s.flt.mapBad.contains (1, j, slot) }
  else none

/-- The filled egress middle slots of the middle maps in force. -/
def State.filledSlots (s : State) : Table (BitVec 12) := s.ingB.mid.filter fun x => x.2.getLsbD 10

/-- The erg moves the words of device row n: row slot n mod 2 of the egress buffers is written anew (R156). -/
def State.moveRow (s : State) (n : Rsn) : State :=
  let half := n.toNat % 2
  let new : Table BufWord := s.filledSlots.filterMap fun x =>
    (s.moveWord n (x.1 / 65536) (x.1 % 65536) x.2).map fun w => (half * 64 * 65536 + x.1, w)
  let old := s.sw.ebuf.filter fun x => x.1 / (64 * 65536) != half
  { s with sw := { s.sw with ebuf := if half = 0 then new ++ old else old ++ new } }

/-- The words moved are counted at their destination dune (R542). -/
def State.countMoved (s : State) : State :=
  let slots := s.filledSlots
  allDunes.foldl (fun s d => s.perf 0x010 d (slots.filter fun x => x.1 / 65536 == d).length) s

/-! ### Cut stages (R168, R265 to R272) -/

/-- A cut input in device row n: its word, or known AIS, and its mismatch: input, slot, expected tag, tag seen (R168, R271). -/
def State.cutInput (s : State) (n : Rsn) (d i : Nat) (w : BitVec 32) : CutWord × List (Nat × Nat × Nat × Nat) :=
  let slot := w.toNat % 65536
  match Table.find s.sw.ebuf (bufKey n d slot) with
  | none => (⟨i, grainAis, true⟩, [])
  | some x =>
    let e := expectTag (w.toNat / 65536 % 4096) (n + 1)
    let bad := s.flt.mapBad.contains (3, d, i)
    let mis := !bad && !x.ecc && x.tag != e
    (⟨i, x.word, bad || x.ecc || x.known || mis⟩, if mis then [(i, slot, e.toNat, x.tag.toNat)] else [])

/-- A stage works in device row n: it is on, or goes on with egress row n + 1 (R270, R273). -/
def CutStage.works (c : CutStage) (n : Rsn) : Bool := c.onAt (n + 1)

/-- The cut stages requantise the words that crossed in device row n (R270). -/
def State.cutRow (s : State) (n : Rsn) : State :=
  (s.obs.cuts.filter fun x => x.2.works n).foldl (fun s x =>
    let d := x.1
    let ins := (s.ingB.cut.filter fun y => y.1 / 8192 == d && y.2.getLsbD 28 && decide (y.1 % 8192 < s.cur .cutInputs d)).map fun y =>
      s.cutInput n d (y.1 % 8192) y.2
    s.runCut d (ins.map (·.1)) (ins.flatMap (·.2))) s

/-! ### Damaged words and map entries (R504, R509) -/

/-- Every damaged active entry is found at the read of every row, and the grains that use it fail quiet from this row on (R185, R504
class 0x03). -/
def State.readMaps (s : State) : State :=
  let new := s.flt.mapNew
  let s := { s with flt := { s.flt with mapNew := [], mapBad := s.flt.mapBad ++ new } }
  new.foldl (fun s x => s.detect 3 (regionOfDune x.2.1) x.2.1 (x.1 * 65536 + x.2.2) 1) s

/-- The erg or the facet engine reads the word of a grain in device row n. -/
def State.wordRead (s : State) (l g : Nat) : Bool :=
  s.facetScoped l || s.filledSlots.any fun x =>
    let i := x.2.toNat % 64
    let from' := x.1 % 65536 / 16 * 16 + x.2.toNat / 64 % 16
    i * 32768 + (Table.get 0 s.ingB.ing (i * 65536 + from')).toNat % 32768 == l * 4096 + g

/-- Damaged words that are read are reported, and contribute no row to a facet record (R504 class 0x02, R509). -/
def State.readWords (s : State) (n : Rsn) : State :=
  let bad := s.flt.dataBad.filter fun x => s.wordRead x.1 x.2
  let s := bad.foldl (fun s x => s.detect 2 (regionOfDune (x.1 / 8)) (x.1 / 8) (x.1 * 4096 + x.2) 1) s
  bad.foldl (fun s x => s.facetDoubt x.1 (n - 1) [x.2]) s

/-- Faults of one row end with the row; lasting ones stay (R500, R504). -/
def State.endRowFaults (s : State) : State :=
  let lasts := fun (l g : Nat) => s.flt.lasting.any fun f => f.cls == 2 && f.detail == l * 4096 + g
  { s with flt := { s.flt with
    dataBad := s.flt.dataBad.filter fun x => lasts x.1 x.2
    misroute := s.flt.misroute.filter fun x => x.2.2.2
    linkBad := s.flt.linkBad.filter fun k => decide (2 ^ 22 ≤ k) } }

/-- The data path of device row n: the egress row, the ingress row slot, the elastic rings, the erg and the cut stages. -/
def State.dataRow (s : State) (n : Rsn) : State :=
  let s := (s.readMaps).egressRow n
  let s := (s.ingressRow n).readWords n
  let s := ((s.tribsEgress (n + 1)).moveRow n).countMoved
  (s.cutRow n).endRowFaults

end Sys2Proof.Machine
end

