-- ==== Sys2Proof/Machine/Row.lean ====
section
/-!
DEFINITION. Machine/Row.lean: the device row boundary, the superframe boundary and the second boundary (R10, R119, R120, R272, R423,
R428, R429, R489), which drive everything that the manual counts in device rows.
-/
namespace Sys2Proof.Machine

/-- TIM runs: reset is not held, the supplies and the root clock are there (R27, R485, R491). -/
def State.timRuns (s : State) : Bool := !s.dev.resetLow && s.dev.fatalHeld.isNone && s.dev.supplies && !s.dev.rootLost

/-! ### The end of a device row -/

/-- What egress row n + 1 carries of remote status and QL is fixed at the end of device row n (R114, R301). -/
def State.latchRow (s : State) : State :=
  let latch := fun (s : State) (l : Nat) =>
    s.setLane l { s.lane l with rdiTx := (s.lane l).rdiWas.getD (s.rdiNow l), rdiWas := none }
  ((s.lanes.map (·.1)).foldl latch s).qlLatch

/-- The clock moves on by one nominal row: 64 AON ticks, 4,096 core cycles. The TOD counter runs also before it is set (R10, R297,
R489). -/
def Clock.nextRow (c : Clock) : Clock :=
  { c with
    rsn := c.rsn + 1
    tick := c.tick + 64
    tod := c.tod + rowCycles
    lastRowAdjust := 0 }

/-- The performance events of a row: cycles, rows, and the occupancies of event queue, journal buffer, shared Sared queues and submission
queues, each sampled once per row (R542; log entry 21). -/
def State.perfRow (s : State) : State :=
  let s := (s.perf 1 0 rowCycles).perf 2 0 1
  let s := (s.perfOccupancy 0x063 0 (queued s.log.queue) rowCycles).perfOccupancy 0x064 0 s.log.jbuf.length rowCycles
  let s := s.perfOccupancy 0x072 0 s.pair.sharedDepth rowCycles
  s.host.pairs.foldl (fun s x =>
    s.perfOccupancy 0x048 x.1 ((x.2.sqTail + 2 ^ x.2.sqLog - x.2.sqHead) % 2 ^ x.2.sqLog) rowCycles) s

/-- The rows that the data path held are gone. -/
def State.dropRows (s : State) : State := { s with sw := { s.sw with ring := [], ebuf := [] } }

/-- Device row n ends: its APS messages are formed, its data path and its Sared rows have run; the clock moves to the next boundary. -/
def State.endRow (s : State) : State :=
  let s := if s.dev.mode.working then (s.apsSend).dataRow s.clk.rsn else s.dropRows
  let s := (s.latchRow).saredSend
  ({ s with clk := s.clk.nextRow }).perfRow

/-! ### The boundary -/

/-- A value whose EFFECT is a boundary is in force from this one (R423). -/
def State.effectDue (s : State) (n : Pn) : Bool :=
  match n.desc.effect with
  | .nextRow => true
  | .nextPmf => s.clk.rsn.toNat % 32 == 0
  | .nextSuperframe => s.clk.rsn.toNat % 625 == 0
  | _ => false

/-- A released value of lane.tim_action or lane.self_allowed is judged; another checker or pattern makes the lane's checker seed again, and
a LINE checker that begins holds its lane in HUNT. old: the state before the release (R108, R109, R321, R322). -/
def State.released (s old : State) (n : Pn) (obj : Nat) : State :=
  match n with
  | .laneTimAction | .laneSelfAllowed => s.retrace obj
  | .lanePrbsRx | .lanePrbsPattern =>
    let s := if s.eff n obj = old.eff n obj then s else s.modLane obj fun x => { x with test := x.test.reseed }
    s.checkerFrom old obj
  | _ => s

/-- One written value comes into force (R423). -/
def State.release1 (s : State) (n : Pn) (obj : Nat) : State := (s.release n obj).released s n obj

/-- The written values whose boundary this is come into force (R423). -/
def State.releaseDue (s : State) : State :=
  (s.par.late.filter fun x => s.effectDue (Pn.ofNat (x.1 / 65536))).foldl (fun s x =>
    s.release1 (Pn.ofNat (x.1 / 65536)) (x.1 % 65536)) s

/-- The block with a given place in R428. -/
def blockAt (i : Nat) : Block :=
  match i with
  | 1 => .laneTx | 2 => .laneRx | 3 => .laneBoth | 4 => .refIn | 5 => .facet | 6 => .cut
  | _ => .none

/-- ENABLED_WRITE clears at the first row boundary at which the block is disabled (R429). -/
def State.clearEnabledWrite (s : State) : State :=
  { s with par := { s.par with enWrite := s.par.enWrite.filter fun x => s.blockOn (blockAt (x.1 / 65536)) (x.1 % 65536) } }

/-- The time is traceable: TQ 0b01 has held since the last step (R297). -/
def State.noteTraced (s : State) : State :=
  if s.tq = 1 then { s with clk := { s.clk with traced := true } } else s

/-- A step at this boundary: the rows of the old numbering are not read under the new one (R299; log entry 24). -/
def State.stepRow (s : State) : State :=
  let t := s.doStep
  if t.clk.rsn = s.clk.rsn then t else t.dropRows

/-- The tributaries that a lockstep frame of PMF m compares: 512 numbers in rotation, each once in 128 PMFs, with pointer and read position
(R149; log entry 107). -/
def State.framePointers (s : State) (m : Nat) : List (Nat × Nat × Nat) :=
  (s.tribs.filter fun x => x.2.on && x.2.retimed && x.1 / 512 == m % 128).map fun x => (x.1, x.2.txPtr, x.2.startAt)

/-- The groups that a lockstep frame of PMF m compares: 1,024 in rotation, each once in 64 PMFs (R231). -/
def State.frameGroups (s : State) (m : Nat) : List (Nat × Bool × Nat × Bool) :=
  (List.range 1024).map fun i =>
    let k := m % 64 * 1024 + i
    (k, (s.group k).sel, (s.group k).cmd, (s.group k).target)

/-- The lockstep frame that a holder sends as a PMF begins (R149, R200, R231). -/
def State.lockstep (s : State) : State :=
  let m := s.clk.rsn.toNat / 32
  if s.paired && s.pair.linkUp && s.clk.rsn.toNat % 32 == 0 then s.tell (.compare ⟨s.com.gen, s.framePointers m, s.frameGroups m⟩) else s

/-- What takes place at a row boundary. -/
def State.startRow (s : State) (m : RowMeas) : State :=
  let s := (s.releaseDue).clearEnabledWrite
  let s := ((((s.doRelease).saredBoundary).copyBoundary).forwardBoundary).protBoundary
  let s := (((s.timingBoundary m).stepRow).commitRow).lockstep
  let s := if s.clk.rsn.toNat % 625 = 0 then s.latchInterp else s
  (((s.applyPerf).noteTraced).loadTraces).updateAlarms.watchStatus

/-- A device row boundary: device row RSN ends and row RSN + 1 begins, and every critical field is read. While TIM does not run only AON
counts its ticks (R27, R434, R490, R491; log entry 119). -/
def execRowBoundary (m : RowMeas) (s : State) : Host.Outcome State Fault Refusal :=
  let s := if s.timRuns then s.parityCheck fun _ => true else s
  if s.timRuns then .next ((s.endRow).startRow m)
  else .next { s with clk := { s.clk with tick := s.clk.tick + 64 } }

/-- A superframe boundary: the time snapshot of AON, the saturation counts, and the journal's summaries (R204, R272, R489, R538). -/
def execSuperframeBoundary (s : State) : Host.Outcome State Fault Refusal :=
  if s.timRuns && s.clk.rsn.toNat % 625 == 0 then
    let s := { s with pow := { s.pow with snap := some (s.clk.rsn, s.clk.tod, s.tq, s.clk.tick) } }
    .next ((s.swapSat).flushCaravan).flushCoalesced
  else .next s

/-! ### The second boundary (R119, R120) -/

/-- The second just ended on a lane was errored, and severely errored (R119). -/
def Lane.second (x : Lane) : Bool × Bool :=
  let sev := x.secSev || decide (117188 ≤ x.secRows)
  (sev || x.secErr || decide (0 < x.secRows), sev)

/-- A new second begins: a defect that is set counts in its first row (R119). -/
def Lane.newSecond (x : Lane) : Lane :=
  let sev := x.los || x.lof || x.anf
  { x with
    secRows := 0
    secSev := sev
    secErr := sev || x.unc || x.slf }

/-- Take k from a count. -/
def State.unbump (s : State) (n : Pn) (obj k : Nat) : State :=
  if k = 0 then s else s.load n obj (s.cnt n obj + (2 ^ 48 - k))

/-- The seconds of a run that has decided a change of availability with this one (R119). -/
def Lane.secDecided (x : Lane) (sev : Bool) : Bool := sev != x.unavail && x.secRun.length == 9

/-- The counts of the second just ended on a lane (R118, R119). -/
def State.countSecond (s : State) (l : Nat) : State :=
  let x := s.lane l
  let (e, sev) := x.second
  let uas := if x.secDecided sev then !x.unavail else x.unavail
  if uas then s.bump .lanePmUas l 1
  else
    let s := if e then s.bump .lanePmEs l 1 else s
    if sev then s.bump .lanePmSes l 1 else s

/-- The corrections for the 9 seconds before a change of availability, and the start of the new second (R119). -/
def State.closeSecond (s : State) (l : Nat) : State :=
  let x := s.lane l
  let (e, sev) := x.second
  let es := (x.secRun.filter fun r => r.1).length
  let run := if sev = x.unavail then [] else x.secRun ++ [(e, sev)]
  if x.secDecided sev then
    let s :=
      if x.unavail then (s.unbump .lanePmUas l 9).bump .lanePmEs l es
      else ((s.unbump .lanePmEs l es).unbump .lanePmSes l 9).bump .lanePmUas l 9
    s.setLane l { x.newSecond with unavail := !x.unavail, secRun := [] }
  else s.setLane l { x.newSecond with secRun := run }

/-- The seconds of the DPLL states (R309). -/
def State.timingSecond (s : State) : State :=
  match s.tim.state with
  | .oasis | .pulled => s.bump .timingPmOasisS 0 1
  | .freerun => s.bump .timingPmFreerunS 0 1
  | _ => s

/-- A second boundary: the counts of the second just ended, the _prev snapshots, the corrections, and the event with the number of
lanes that had an errored second (R119, R120, R298, R309, R530). -/
def execSecondBoundary (s : State) : Host.Outcome State Fault Refusal :=
  if s.timRuns && s.clk.rsn.toNat % 390625 == 0 then
    let ls := (s.lanes.filter fun x => x.2.rxOn).map (·.1)
    let bad := (ls.filter fun l => (s.lane l).second.1).length
    let s := ((ls.foldl State.countSecond s).timingSecond).slewSecond
    let s := { s with par := { s.par with prev := s.par.counts } }
    .next ((ls.foldl State.closeSecond s).softEvent 2 0x3002 0 bad)
  else .next s

end Sys2Proof.Machine
end

