-- ==== Sys2Proof/Machine/Dispatch.lean ====
section
/-!
DEFINITION. Machine/Dispatch.lean: one arm per command, each a direct call of its meaning.
-/
namespace Sys2Proof.Machine

/-- The effect of a command on everything but the queue. -/
def exec (i : Instr) (s : State) : Host.Outcome State Fault Refusal :=
  match i with
  | .sessionHello e role resume handle nonce respAddr => Sys2Proof.Machine.execSessionHello e role resume handle nonce respAddr s
  | .sessionProve e tag => Sys2Proof.Machine.execSessionProve e tag s
  | .sessionClose e handle => Sys2Proof.Machine.execSessionClose e handle s
  | .sessionRingCreate e pair sqLog2 cqLog2 vector sqAddr cqAddr => Sys2Proof.Machine.execSessionRingCreate e pair sqLog2 cqLog2 vector sqAddr cqAddr s
  | .sessionRingDelete e pair => Sys2Proof.Machine.execSessionRingDelete e pair s
  | .sessionList e b => Sys2Proof.Machine.execSessionList e b s
  | .paramGet e b count ids => Sys2Proof.Machine.execParamGet e b count ids s
  | .paramSet e b count entries => Sys2Proof.Machine.execParamSet e b count entries s
  | .paramDescribe e b count ids => Sys2Proof.Machine.execParamDescribe e b count ids s
  | .paramSave e => Sys2Proof.Machine.execParamSave e s
  | .laneEyeScan e b lane eyes d vstep freeze => Sys2Proof.Machine.execLaneEyeScan e b lane eyes d vstep freeze s
  | .laneMgmtSend e b lane channel frame => Sys2Proof.Machine.execLaneMgmtSend e b lane channel frame s
  | .laneMgmtRecv e b lane channel => Sys2Proof.Machine.execLaneMgmtRecv e b lane channel s
  | .tribCreate e b grains trib lane count mode => Sys2Proof.Machine.execTribCreate e b grains trib lane count mode s
  | .tribDelete e trib => Sys2Proof.Machine.execTribDelete e trib s
  | .tribRealign e trib => Sys2Proof.Machine.execTribRealign e trib s
  | .mapStage e b entries table => Sys2Proof.Machine.execMapStage e b entries table s
  | .mapProbe e b entries table out => Sys2Proof.Machine.execMapProbe e b entries table out s
  | .mapDiscard e => Sys2Proof.Machine.execMapDiscard e s
  | .mapRead e b first count bank map dune => Sys2Proof.Machine.execMapRead e b first count bank map dune s
  | .commitNow e => Sys2Proof.Machine.execCommitNow e s
  | .commitAt e rsn => Sys2Proof.Machine.execCommitAt e rsn s
  | .commitCancel e => Sys2Proof.Machine.execCommitCancel e s
  | .caravanLoad e tt blk entries blocks loopRows table deltas => Sys2Proof.Machine.execCaravanLoad e tt blk entries blocks loopRows table deltas s
  | .caravanStart e rsn => Sys2Proof.Machine.execCaravanStart e rsn s
  | .caravanStop e => Sys2Proof.Machine.execCaravanStop e s
  | .protLockout e b count groups => Sys2Proof.Machine.execProtLockout e b count groups s
  | .protForce e b count groups => Sys2Proof.Machine.execProtForce e b count groups s
  | .protManual e b count target groups => Sys2Proof.Machine.execProtManual e b count target groups s
  | .protClear e b count groups => Sys2Proof.Machine.execProtClear e b count groups s
  | .mergeCreate e laneA laneB => Sys2Proof.Machine.execMergeCreate e laneA laneB s
  | .mergeDelete e lane => Sys2Proof.Machine.execMergeDelete e lane s
  | .timingForce e input => Sys2Proof.Machine.execTimingForce e input s
  | .timingManual e input => Sys2Proof.Machine.execTimingManual e input s
  | .timingHoldover e => Sys2Proof.Machine.execTimingHoldover e s
  | .timingClear e => Sys2Proof.Machine.execTimingClear e s
  | .timingSetQl e input rank => Sys2Proof.Machine.execTimingSetQl e input rank s
  | .timingStep e => Sys2Proof.Machine.execTimingStep e s
  | .timingSetTod e seconds => Sys2Proof.Machine.execTimingSetTod e seconds s
  | .loupeMirror e obsLane obsGrain loupeLane loupeGrain => Sys2Proof.Machine.execLoupeMirror e obsLane obsGrain loupeLane loupeGrain s
  | .loupeList e b lane => Sys2Proof.Machine.execLoupeList e b lane s
  | .facetConfig e addr log2 vector => Sys2Proof.Machine.execFacetConfig e addr log2 vector s
  | .cutStage e b count dune table => Sys2Proof.Machine.execCutStage e b count dune table s
  | .cutReadSat e b first count dune => Sys2Proof.Machine.execCutReadSat e b first count dune s
  | .testEnter e => Sys2Proof.Machine.execTestEnter e s
  | .testExit e => Sys2Proof.Machine.execTestExit e s
  | .testLane e lane add => Sys2Proof.Machine.execTestLane e lane add s
  | .testInject e rows lane amount kind => Sys2Proof.Machine.execTestInject e rows lane amount kind s
  | .testLoop e lane loop => Sys2Proof.Machine.execTestLoop e lane loop s
  | .powerMode e mode => Sys2Proof.Machine.execPowerMode e mode s
  | .powerDomain e b count entries => Sys2Proof.Machine.execPowerDomain e b count entries s
  | .powerDvfs e domain setpoint => Sys2Proof.Machine.execPowerDvfs e domain setpoint s
  | .powerWarm e bursts => Sys2Proof.Machine.execPowerWarm e bursts s
  | .logEventRing e addr log2 vector => Sys2Proof.Machine.execLogEventRing e addr log2 vector s
  | .logJournalRing e addr log2 vector => Sys2Proof.Machine.execLogJournalRing e addr log2 vector s
  | .logFilter e b count entries => Sys2Proof.Machine.execLogFilter e b count entries s
  | .logAlarms e b => Sys2Proof.Machine.execLogAlarms e b s
  | .perfProgram e b count entries => Sys2Proof.Machine.execPerfProgram e b count entries s
  | .perfRead e b first count => Sys2Proof.Machine.execPerfRead e b first count s
  | .fwInfo e b => Sys2Proof.Machine.execFwInfo e b s
  | .fwLoad e b offset total image => Sys2Proof.Machine.execFwLoad e b offset total image s
  | .fwActivate e => Sys2Proof.Machine.execFwActivate e s
  | .fwMaintain e => Sys2Proof.Machine.execFwMaintain e s
  | .fwResume e => Sys2Proof.Machine.execFwResume e s
  | .fwRecover e => Sys2Proof.Machine.execFwRecover e s
  | .fwRestart e => Sys2Proof.Machine.execFwRestart e s
  | .secIdentity e b => Sys2Proof.Machine.execSecIdentity e b s
  | .secHallmark e b nonce => Sys2Proof.Machine.execSecHallmark e b nonce s
  | .secKeySet e b role masked confirm => Sys2Proof.Machine.execSecKeySet e b role masked confirm s
  | .claspRelease e force => Sys2Proof.Machine.execClaspRelease e force s
  | .claspSeize e => Sys2Proof.Machine.execClaspSeize e s
  | .claspClear e => Sys2Proof.Machine.execClaspClear e s
  | .claspCheckpoint e => Sys2Proof.Machine.execClaspCheckpoint e s
  | .diagFaultRead e b first => Sys2Proof.Machine.execDiagFaultRead e b first s
  | .diagSelftest e test failing => Sys2Proof.Machine.execDiagSelftest e test failing s
  | .diagMemRead e b address => Sys2Proof.Machine.execDiagMemRead e b address s
  | .diagFaultInject e cls => Sys2Proof.Machine.execDiagFaultInject e cls s
  | .laneTxEnable e lane v => Sys2Proof.Machine.execLaneTxEnable e lane v s
  | .laneRxEnable e lane v => Sys2Proof.Machine.execLaneRxEnable e lane v s
  | .rxAdaptRestart e lane => Sys2Proof.Machine.execRxAdaptRestart e lane s
  | .facetEnable e v => Sys2Proof.Machine.execFacetEnable e v s
  | .cutEnable e dune v => Sys2Proof.Machine.execCutEnable e dune v s
  | .pairEnableWrite e v => Sys2Proof.Machine.execPairEnableWrite e v s
  | .legacyWriteApply n obj => Sys2Proof.Machine.execLegacyWriteApply n obj s
  | .unlockWrite v => Sys2Proof.Machine.execUnlockWrite v s
  | .recoverWrite v => Sys2Proof.Machine.execRecoverWrite v s
  | .doorbellWrite pair v => Sys2Proof.Machine.execDoorbellWrite pair v s
  | .evtHeadWrite v => Sys2Proof.Machine.execEvtHeadWrite v s
  | .jrnHeadWrite v => Sys2Proof.Machine.execJrnHeadWrite v s
  | .facHeadWrite v => Sys2Proof.Machine.execFacHeadWrite v s
  | .mailboxGo mb v => Sys2Proof.Machine.execMailboxGo mb v s
  | .rsnLoRead => Sys2Proof.Machine.execRsnLoRead s
  | .semaphoreRead master sem => Sys2Proof.Machine.execSemaphoreRead master sem s
  | .semaphoreWrite master sem => Sys2Proof.Machine.execSemaphoreWrite master sem s
  | .applyBatch j writes => Sys2Proof.Machine.execApplyBatch j writes s
  | .remapWrite j fromRom => Sys2Proof.Machine.execRemapWrite j fromRom s
  | .registerWrite master addr bytes => Sys2Proof.Machine.execRegisterWrite master addr bytes s
  | .dmaTransfer ch src dst run => Sys2Proof.Machine.execDmaTransfer ch src dst run s
  | .i2cStatus => Sys2Proof.Machine.execI2cStatus s
  | .i2cWake => Sys2Proof.Machine.execI2cWake s
  | .i2cSubmit head args pec => Sys2Proof.Machine.execI2cSubmit head args pec s
  | .i2cResult => Sys2Proof.Machine.execI2cResult s
  | .i2cAddressMatch => Sys2Proof.Machine.execI2cAddressMatch s
  | .powerOn straps => Sys2Proof.Machine.execPowerOn straps s
  | .vaonBrownout straps => Sys2Proof.Machine.execVaonBrownout straps s
  | .resetNAssert => Sys2Proof.Machine.execResetNAssert s
  | .resetNRelease straps => Sys2Proof.Machine.execResetNRelease straps s
  | .perstNAssert bursts => Sys2Proof.Machine.execPerstNAssert bursts s
  | .perstNDeassert => Sys2Proof.Machine.execPerstNDeassert s
  | .functionLevelReset bursts => Sys2Proof.Machine.execFunctionLevelReset bursts s
  | .supplyRemoval => Sys2Proof.Machine.execSupplyRemoval s
  | .supplyRestore ticks => Sys2Proof.Machine.execSupplyRestore ticks s
  | .supplyTrip rail => Sys2Proof.Machine.execSupplyTrip rail s
  | .thermalTrip => Sys2Proof.Machine.execThermalTrip s
  | .fatalCauseClear ticks => Sys2Proof.Machine.execFatalCauseClear ticks s
  | .rootClockLoss => Sys2Proof.Machine.execRootClockLoss s
  | .ocxoFailure => Sys2Proof.Machine.execOcxoFailure s
  | .oxfClear => Sys2Proof.Machine.execOxfClear s
  | .refSignalLoss ref cause => Sys2Proof.Machine.execRefSignalLoss ref cause s
  | .ppsEdge pps m => Sys2Proof.Machine.execPpsEdge pps m s
  | .ppsLoss pps => Sys2Proof.Machine.execPpsLoss pps s
  | .todMessage m msAfterEdge => Sys2Proof.Machine.execTodMessage m msAfterEdge s
  | .todError => Sys2Proof.Machine.execTodError s
  | .laneSignalLoss lane => Sys2Proof.Machine.execLaneSignalLoss lane s
  | .wiringFault lane txBits rxCause => Sys2Proof.Machine.execWiringFault lane txBits rxCause s
  | .laneRowReceived lane row => Sys2Proof.Machine.execLaneRowReceived lane row s
  | .saredRowReceived n row => Sys2Proof.Machine.execSaredRowReceived n row s
  | .claspFrameHeard path f => Sys2Proof.Machine.execClaspFrameHeard path f s
  | .propose m => Sys2Proof.Machine.execPropose m s
  | .ready => Sys2Proof.Machine.execReady s
  | .refuse reason => Sys2Proof.Machine.execRefuse reason s
  | .arm => Sys2Proof.Machine.execArm s
  | .abort => Sys2Proof.Machine.execAbort s
  | .lockstepDecision pmf ds => Sys2Proof.Machine.execLockstepDecision pmf ds s
  | .lockstepComparison f => Sys2Proof.Machine.execLockstepComparison f s
  | .forwardedCommand h c => Sys2Proof.Machine.execForwardedCommand h c s
  | .stageRecords m discard => Sys2Proof.Machine.execStageRecords m discard s
  | .apsForward lane row bytes => Sys2Proof.Machine.execApsForward lane row bytes s
  | .caravanAbort => Sys2Proof.Machine.execCaravanAbort s
  | .checkpointReceived seq format parts => Sys2Proof.Machine.execCheckpointReceived seq format parts s
  | .rowBoundary m => Sys2Proof.Machine.execRowBoundary m s
  | .superframeBoundary => Sys2Proof.Machine.execSuperframeBoundary s
  | .secondBoundary => Sys2Proof.Machine.execSecondBoundary s
  | .pointerSample trib => Sys2Proof.Machine.execPointerSample trib s
  | .facetWindowOpen => Sys2Proof.Machine.execFacetWindowOpen s
  | .facetEntryWrite => Sys2Proof.Machine.execFacetEntryWrite s
  | .laneDefectIntegration lane d => Sys2Proof.Machine.execLaneDefectIntegration lane d s
  | .tribDefectIntegration trib d => Sys2Proof.Machine.execTribDefectIntegration trib d s
  | .mergeDefectIntegration lane d => Sys2Proof.Machine.execMergeDefectIntegration lane d s
  | .apsDefectIntegration group psm => Sys2Proof.Machine.execApsDefectIntegration group psm s
  | .misrouteDefectClear dune unselected => Sys2Proof.Machine.execMisrouteDefectClear dune unselected s
  | .pairDefectIntegration d => Sys2Proof.Machine.execPairDefectIntegration d s
  | .anchorRechoose lane => Sys2Proof.Machine.execAnchorRechoose lane s
  | .offsetBarExpiry lane offset => Sys2Proof.Machine.execOffsetBarExpiry lane offset s
  | .holdoffExpiry group cond => Sys2Proof.Machine.execHoldoffExpiry group cond s
  | .wtrExpiry group => Sys2Proof.Machine.execWtrExpiry group s
  | .switchComplete => Sys2Proof.Machine.execSwitchComplete s
  | .dpllLockAchieved => Sys2Proof.Machine.execDpllLockAchieved s
  | .pulledRecovery => Sys2Proof.Machine.execPulledRecovery s
  | .histValidSet => Sys2Proof.Machine.execHistValidSet s
  | .ocxoSensorRead x => Sys2Proof.Machine.execOcxoSensorRead x s
  | .refMeanUpdate input mean10 mean100 => Sys2Proof.Machine.execRefMeanUpdate input mean10 mean100 s
  | .refVote => Sys2Proof.Machine.execRefVote s
  | .refWaitExpiry input => Sys2Proof.Machine.execRefWaitExpiry input s
  | .lockTimeout => Sys2Proof.Machine.execLockTimeout s
  | .ppsQualified pps => Sys2Proof.Machine.execPpsQualified pps s
  | .commitArming => Sys2Proof.Machine.execCommitArming s
  | .commitIngressSwitch => Sys2Proof.Machine.execCommitIngressSwitch s
  | .commitEgressSwitch => Sys2Proof.Machine.execCommitEgressSwitch s
  | .commitReplayDone => Sys2Proof.Machine.execCommitReplayDone s
  | .catchUpCommit => Sys2Proof.Machine.execCatchUpCommit s
  | .caravanEntryCommit => Sys2Proof.Machine.execCaravanEntryCommit s
  | .modeChangeEffect => Sys2Proof.Machine.execModeChangeEffect s
  | .mergeEntryEffect lane => Sys2Proof.Machine.execMergeEntryEffect lane s
  | .cutEnableEffect dune => Sys2Proof.Machine.execCutEnableEffect dune s
  | .shadowScrub => Sys2Proof.Machine.execShadowScrub s
  | .shadowRewrite => Sys2Proof.Machine.execShadowRewrite s
  | .mapShadowRepair map dune index => Sys2Proof.Machine.execMapShadowRepair map dune index s
  | .mapDatabaseRepair map dune index => Sys2Proof.Machine.execMapDatabaseRepair map dune index s
  | .checkerSelfTest failing => Sys2Proof.Machine.execCheckerSelfTest failing s
  | .tmrScrub => Sys2Proof.Machine.execTmrScrub s
  | .parityScan => Sys2Proof.Machine.execParityScan s
  | .marchTestSlice failing => Sys2Proof.Machine.execMarchTestSlice failing s
  | .lockstepDivergence j bursts => Sys2Proof.Machine.execLockstepDivergence j bursts s
  | .watchdogExpiry j bursts => Sys2Proof.Machine.execWatchdogExpiry j bursts s
  | .engineMismatch g => Sys2Proof.Machine.execEngineMismatch g s
  | .faultRecordClose fseq => Sys2Proof.Machine.execFaultRecordClose fseq s
  | .claspFrameSend => Sys2Proof.Machine.execClaspFrameSend s
  | .holderLeaseExpiry => Sys2Proof.Machine.execHolderLeaseExpiry s
  | .silenceAcquisition => Sys2Proof.Machine.execSilenceAcquisition s
  | .saredLinkUp => Sys2Proof.Machine.execSaredLinkUp s
  | .checkpointWrite => Sys2Proof.Machine.execCheckpointWrite s
  | .takeoverLoadComplete => Sys2Proof.Machine.execTakeoverLoadComplete s
  | .provisionalHandleExpiry slot => Sys2Proof.Machine.execProvisionalHandleExpiry slot s
  | .sessionIdleTimeout slot => Sys2Proof.Machine.execSessionIdleTimeout slot s
  | .resumeWindowExpiry slot => Sys2Proof.Machine.execResumeWindowExpiry slot s
  | .authLockExpiry path => Sys2Proof.Machine.execAuthLockExpiry path s
  | .unlockExpiry => Sys2Proof.Machine.execUnlockExpiry s
  | .irqHoldoffEnd => Sys2Proof.Machine.execIrqHoldoffEnd s
  | .longCommandYield => Sys2Proof.Machine.execLongCommandYield s
  | .eventRingWrite => Sys2Proof.Machine.execEventRingWrite s
  | .journalRingWrite => Sys2Proof.Machine.execJournalRingWrite s
  | .heartbeat => Sys2Proof.Machine.execHeartbeat s
  | .tjUpdate temp => Sys2Proof.Machine.execTjUpdate temp s
  | .lifetimeSample temps supplyBins => Sys2Proof.Machine.execLifetimeSample temps supplyBins s
  | .lifetimeSlotWrite => Sys2Proof.Machine.execLifetimeSlotWrite s
  | .laneTxStart lane => Sys2Proof.Machine.execLaneTxStart lane s
  | .equaliserConverged lane => Sys2Proof.Machine.execEqualiserConverged lane s
  | .loopEffect lane => Sys2Proof.Machine.execLoopEffect lane s
  | .injectionEnd lane => Sys2Proof.Machine.execInjectionEnd lane s
  | .eyeScanDone lane counts => Sys2Proof.Machine.execEyeScanDone lane counts s
  | .bootVerifyDone => Sys2Proof.Machine.execBootVerifyDone s
  | .firmwareStarted => Sys2Proof.Machine.execFirmwareStarted s
  | .firmwareStartTimeout => Sys2Proof.Machine.execFirmwareStartTimeout s
  | .trialConfirmation => Sys2Proof.Machine.execTrialConfirmation s
  | .domainQuiesceAnswer => Sys2Proof.Machine.execDomainQuiesceAnswer s
  | .quiesceTimeout => Sys2Proof.Machine.execQuiesceTimeout s
  | .powerActionDone => Sys2Proof.Machine.execPowerActionDone s
  | .domainWakeDone => Sys2Proof.Machine.execDomainWakeDone s
  | .wakeTimerExpiry => Sys2Proof.Machine.execWakeTimerExpiry s
  | .wakeComplete => Sys2Proof.Machine.execWakeComplete s
  | .avsReport => Sys2Proof.Machine.execAvsReport s
  | .avsTimeout => Sys2Proof.Machine.execAvsTimeout s
  | .singleInternalFault f => Sys2Proof.Machine.execSingleInternalFault f s
  | .refFrequencyGate input offsetPpb active => Sys2Proof.Machine.execRefFrequencyGate input offsetPpb active s
  | .ppsOutPulse => Sys2Proof.Machine.execPpsOutPulse s
  | .todOutMessage => Sys2Proof.Machine.execTodOutMessage s
  | .liveCopyMessage m => Sys2Proof.Machine.execLiveCopyMessage m s
  | .caravanStoreCopy timetable blocks loopRows base => Sys2Proof.Machine.execCaravanStoreCopy timetable blocks loopRows base s
  | .boundaryScanInstruction op => Sys2Proof.Machine.execBoundaryScanInstruction op s
  | .jtagPortReset bursts => Sys2Proof.Machine.execJtagPortReset bursts s

end Sys2Proof.Machine
end

