-- ==== Sys2Proof/WellFormed.lean ====
section
/-!
DEFINITION. WellFormed.lean: the operands of a command fit the fields that carry them (R383, R384) and the numbers of an
event name objects that exist (R12, R420). exec gives every command a meaning, well-formed or not; the statements that
need a bound say so through Instr.wf.
-/
namespace Sys2Proof

/-- RING of an entry is a ring pair, a mailbox or the sideband (R385). -/
def Entry.wf (e : Entry) : Bool := decide (e.ring ≤ 24)

/-- BUF: a 64-bit address and a 32-bit length (R384); the errors of R464. -/
def Buf.wf (b : Buf) : Bool := decide (b.addr < 2 ^ 64 ∧ b.len < 2 ^ 32 ∧ b.readErr ≤ 4)

/-- Every number of a list fits n bits. -/
def allFit (n : Nat) (l : List Nat) : Bool := l.all fun x => decide (x < 2 ^ n)

/-- Level indices are those of PAM4 (R56). -/
def RawRow.wf (r : RawRow) : Bool := decide (r.prev < 4) && r.levels.all fun x => decide (x < 4)

/-- The operands of every command fit their fields. -/
def Instr.wf (i : Instr) : Bool :=
  match i with
  | .sessionHello e role resume handle nonce respAddr =>
    e.wf && allFit 8 [role, resume] && allFit 32 [handle] && allFit 64 [respAddr] && decide (nonce.length = 32)
  | .sessionProve e _ => e.wf
  | .sessionClose e handle => e.wf && allFit 32 [handle]
  | .sessionRingCreate e pair sq cq v sa ca => e.wf && allFit 8 [pair, sq, cq, v] && allFit 64 [sa, ca]
  | .sessionRingDelete e pair => e.wf && allFit 8 [pair]
  | .sessionList e b | .logAlarms e b | .fwInfo e b | .secIdentity e b => e.wf && b.wf
  | .paramGet e b count ids | .paramDescribe e b count ids => e.wf && b.wf && allFit 16 [count] && decide (ids.length = count)
  | .paramSet e b count entries =>
    e.wf && b.wf && allFit 16 [count] && decide (entries.length = count) &&
      entries.all fun x => decide (x.len < 2 ^ 16 ∧ x.value.length ≤ 64)
  | .laneEyeScan e b lane eyes d v f => e.wf && b.wf && allFit 16 [lane] && allFit 8 [eyes, d, v, f]
  | .laneMgmtSend e b lane ch _ => e.wf && b.wf && allFit 16 [lane] && allFit 8 [ch]
  | .laneMgmtRecv e b lane ch => e.wf && b.wf && allFit 16 [lane] && allFit 8 [ch]
  | .tribCreate e b grains t l c m =>
    e.wf && b.wf && allFit 16 grains && allFit 16 [t, l, c] && allFit 8 [m] && decide (grains.length = c)
  | .tribDelete e t | .tribRealign e t => e.wf && allFit 16 [t]
  | .mapStage e b n t => e.wf && b.wf && allFit 32 [n] && decide (t.length = n)
  | .mapProbe e b n t o => e.wf && b.wf && o.wf && allFit 32 [n] && decide (t.length = n)
  | .mapRead e b first count bank map dune => e.wf && b.wf && allFit 32 [first, count] && allFit 8 [bank, map, dune]
  | .commitAt e rsn | .caravanStart e rsn => e.wf && allFit 64 [rsn]
  | .caravanLoad e tt bl n m loop t ds =>
    e.wf && tt.wf && bl.wf && allFit 32 [n, m, loop] && decide (t.length = n) && decide (ds.length = m)
  | .protLockout e b c gs | .protForce e b c gs | .protClear e b c gs =>
    e.wf && b.wf && allFit 16 [c] && allFit 16 gs && decide (gs.length = c)
  | .protManual e b c t gs => e.wf && b.wf && allFit 16 [c] && allFit 8 [t] && allFit 16 gs && decide (gs.length = c)
  | .mergeCreate e a b => e.wf && allFit 16 [a, b]
  | .mergeDelete e l => e.wf && allFit 16 [l]
  | .timingForce e i | .timingManual e i => e.wf && allFit 8 [i]
  | .timingSetQl e i r => e.wf && allFit 8 [i, r]
  | .timingSetTod e t => e.wf && allFit 64 [t]
  | .loupeMirror e a b c d => e.wf && allFit 16 [a, b, c, d]
  | .loupeList e b l => e.wf && b.wf && allFit 16 [l]
  | .facetConfig e a l v | .logEventRing e a l v | .logJournalRing e a l v => e.wf && allFit 64 [a] && allFit 8 [l, v]
  | .cutStage e b c d t => e.wf && b.wf && allFit 16 [c] && allFit 8 [d] && decide (t.length = c)
  | .cutReadSat e b f c d => e.wf && b.wf && allFit 16 [f, c] && allFit 8 [d]
  | .testLane e l a => e.wf && allFit 16 [l] && allFit 8 [a]
  | .testInject e r l a k => e.wf && allFit 32 [r] && allFit 16 [l, a] && allFit 8 [k]
  | .testLoop e l k => e.wf && allFit 16 [l] && allFit 8 [k]
  | .powerMode e m => e.wf && allFit 8 [m]
  | .powerDomain e b c t => e.wf && b.wf && allFit 16 [c] && decide (t.length = c)
  | .powerDvfs e d p => e.wf && allFit 8 [d, p]
  | .logFilter e b c t => e.wf && b.wf && allFit 16 [c] && decide (t.length = c)
  | .perfProgram e b c t => e.wf && b.wf && allFit 16 [c] && decide (t.length = c)
  | .perfRead e b f c => e.wf && b.wf && allFit 16 [f, c]
  | .fwLoad e b o t _ => e.wf && b.wf && allFit 32 [o, t]
  | .secHallmark e b n => e.wf && b.wf && decide (n.length = 32)
  | .secKeySet e b r _ _ => e.wf && b.wf && allFit 8 [r]
  | .claspRelease e f => e.wf && allFit 8 [f]
  | .diagFaultRead e b f => e.wf && b.wf && allFit 32 [f]
  | .diagSelftest e t _ => e.wf && allFit 8 [t]
  | .diagMemRead e b a => e.wf && b.wf && allFit 64 [a]
  | .diagFaultInject e c => e.entry.wf && allFit 8 [c]
  | .laneTxEnable e l v | .laneRxEnable e l v => e.wf && allFit 16 [l] && allFit 8 [v]
  | .rxAdaptRestart e l => e.wf && allFit 16 [l]
  | .facetEnable e v | .pairEnableWrite e v => e.wf && allFit 8 [v]
  | .cutEnable e d v => e.wf && allFit 16 [d] && allFit 8 [v]
  | .paramSave e | .mapDiscard e | .commitNow e | .commitCancel e | .caravanStop e | .timingHoldover e | .timingClear e
  | .timingStep e | .testEnter e | .testExit e | .powerWarm e _ | .fwActivate ⟨e, _⟩ | .fwMaintain e | .fwResume e
  | .fwRecover e | .fwRestart e | .claspSeize e | .claspClear e | .claspCheckpoint e => e.wf
  | .legacyWriteApply _ obj => allFit 16 [obj]
  | .pointerSample t | .tribDefectIntegration t _ => allFit 16 [t]
  | .apsDefectIntegration g _ | .holdoffExpiry g _ | .wtrExpiry g => allFit 16 [g]
  | .registerWrite m a bs => decide (m < 14) && allFit 32 [a] && decide (bs.length ≤ 16)
  | .dmaTransfer _ a b r => allFit 32 [a, b, r.len]
  | .lockstepDecision _ ds => ds.all fun d => allFit 16 [d.trib] && allFit 8 [d.code, d.toStart]
  | .laneRowReceived _ r => r.wf
  | .saredRowReceived _ r => r.raw.wf
  | .mapShadowRepair _ _ i | .mapDatabaseRepair _ _ i => decide (i < 65536)
  | _ => true

end Sys2Proof
end

