-- ==== Sys2Proof/Safety.lean ====
section
/-!
DEFINITION. Safety.lean: the terms in which the statements speak: a command that is admitted and what is handed to its own
checks, the completion that stands where R385 puts it, what a quiet command may touch, and what every step keeps.
-/
namespace Sys2Proof.Machine

/-! ### A Drepex command up to its own checks -/

/-- The state in which a command meets its own checks: taken from its ring, mailbox or sideband, its session marked as
active, the commands taken counted (R396, R543). -/
def State.served (s : State) (d : CmdDesc) (e : Entry) : State :=
  let t := ((s.take e.ring).touch e.session).perf 0x047 e.ring 1
  if d.urgent then t.perf 0x049 0 1 else t

/-- The reference of a command as it is served. -/
def State.servedRef (s : State) (d : CmdDesc) (e : Entry) : CmdRef := (s.take e.ring).refOf d e

/-- The entry spells the command, stands at the head of its ring, mailbox or sideband, may start, is taken, and passes the refusals 1
to 7 of R388. -/
def State.admits (s : State) (d : CmdDesc) (e : Entry) : Bool :=
  s.starts d e && e.spells d && (decide (16 ≤ e.ring) || (s.ringPair e.ring).expSeq == e.submitSeq) &&
    ((s.served d e).headRefusal d e).isNone

/-- The completion of entry e with STATUS 0 and a RESULT stands in t where R385 and R389 put it: the next entry of the
pair's CQ, the mailbox in DONE, or the sideband. -/
def State.posted (s t : State) (e : Entry) (result : Nat) : Prop :=
  if e.ring < 16 then
    let p := s.ringPair e.ring
    Table.getRun 0 t.host.mem (p.cqAddr + 16 * p.cqNext) 16 =
        complBytes e.cmdId 0 (if p.sqHead + 1 = 2 ^ p.sqLog then 0 else p.sqHead + 1) result 0 e.ring (if p.phase then 128 else 0)
      ∧ ((t.ringPair e.ring).on = true → (t.ringPair e.ring).cqNext = if p.cqNext + 1 = 2 ^ p.cqLog then 0 else p.cqNext + 1)
  else if e.ring < 24 then
    (t.mailbox (e.ring - 16)).state = 2
      ∧ (t.mailbox (e.ring - 16)).compl = BitVec.ofNat 128 (leNat (complBytes e.cmdId 0 0 result 0 e.ring 0))
  else t.host.sb.state = 2 ∧ t.host.sb.compl = ⟨e.cmdId, 0, 0, result, 0, 24, false⟩

/-- The role of the session that an entry names. -/
def State.callerRole (s : State) (e : Entry) : Nat :=
  match s.findSession e.session with
  | some x => x.role
  | none => 0

/-- The mode, the pending commands and the clasp let a delta be staged (R187). -/
def State.stagingOpen (s : State) : Bool :=
  decide (s.dev.mode ≠ .caravan) && !s.maintained && !s.caravanStarting && !s.commitPending && decide (s.dev.role ≠ .follower) &&
    (!s.paired || s.pair.linkUp)

/-- What the four PROT commands ask for beside their own refusal (R219). -/
def State.protOpen (s : State) (b : Buf) (gs : List Nat) : Prop :=
  gs ≠ [] ∧ gs.length ≤ 1024 ∧ 2 * gs.length ≤ b.len ∧ s.bufRead b (2 * gs.length) = true ∧ (∀ k ∈ gs, k ≤ 65535) ∧
    s.dev.role ≠ .follower

/-- A PROT command of reference c stands in each of the groups for the boundary at which it is present, and its completion for the
boundary after that (R219, R229); nothing else of the groups changes. -/
def State.protEntered (s t : State) (c : CmdRef) (kind : Nat) (target : Bool) (gs : List Nat) : Prop :=
  let due := s.clk.rsn + (if s.paired && s.pair.linkUp then 2 else 1)
  (∀ k, t.group k = { s.group k with pend := (s.group k).pend ++ List.replicate (gs.count k) ⟨due, kind, target, c⟩ }) ∧
    t.prot.waits = s.prot.waits ++ [(due + 1, c, gs.length)] ∧ t.prot.merges = s.prot.merges

/-- What POWER.DOMAIN asks for (R475). -/
def State.domainsOpen (s : State) (b : Buf) (es : List DomainEntry) : Prop :=
  es ≠ [] ∧ es.length ≤ 140 ∧ 2 * es.length ≤ b.len ∧ (∀ x ∈ es, x.domain ≤ 139 ∧ x.target ≤ 2) ∧ s.domainBad es = false ∧
    s.bufRead b (2 * es.length) = true ∧ s.powerBusy = false ∧ s.modePending = false

/-- What POWER.DVFS asks for (R274, R487). -/
def State.dvfsOpen (s : State) (d p : Nat) : Prop :=
  p ≤ 3 ∧ (d = 2 ∨ d = 3) ∧ s.domain d = 0 ∧ (d = 3 → p ≠ 0 → s.facBusy = false) ∧ s.powerBusy = false ∧ s.pow.dvfs = none

/-- What FW.LOAD asks for before the image itself is read (R559). -/
def State.loadOpen (s : State) (e : Entry) (b : Buf) (offset total : Nat) : Prop :=
  b.len ≠ 0 ∧ offset + b.len ≤ total ∧ total ≤ 3166208 ∧ (e.ring = 24 → b.len ≤ 39) ∧ (e.ring ≠ 24 → s.bufRead b b.len = true) ∧
    s.slotIn .trial = none ∧ (match s.sec.load with
      | some (n, got) => n = total ∧ offset = got
      | none => offset = 0)

/-- Every lane but l is as it was. -/
def State.otherLanes (s t : State) (l : Nat) : Prop := ∀ k, k ≠ l → t.lane k = s.lane k

/-- Every tributary but k is as it was. -/
def State.otherTribs (s t : State) (k : Nat) : Prop := ∀ j, j ≠ k → t.trib j = s.trib j

/-- On every state that admits entry e of command i, has room for n journal records and meets pre, i answers a next state in
which the completion of STATUS 0 and RESULT res stands and post holds. pre, res and post speak of the state as the command's own
checks find it; post speaks of the next state too. -/
def completes (i : Instr) (e : Entry) (d : CmdDesc) (n : Nat) (pre : State → Prop) (res : State → Nat)
    (post : State → State → Prop) : Prop :=
  ∀ s : State, s.admits (d.of i) e = true → (s.served d e).journalRoom n = true → pre (s.served d e) →
    ∃ t, exec i s = .next t ∧ s.posted t e (res (s.served d e)) ∧ post (s.served d e) t

/-- The same for a command of which nothing is said about the place of its completion, such as one whose completion comes with its
effect, later: what is accepted stands in the next state; c is the reference of the command. -/
def accepts (i : Instr) (e : Entry) (d : CmdDesc) (n : Nat) (pre : State → Prop) (post : CmdRef → State → State → Prop) : Prop :=
  ∀ s : State, s.admits (d.of i) e = true → (s.served d e).journalRoom n = true → pre (s.served d e) →
    ∃ t, exec i s = .next t ∧ post (s.servedRef d e) (s.served d e) t

/-- A staging command: alone it completes at once; in a pair its completion waits until the follower's shadow banks hold the delta as
well (R188). -/
def stages (i : Instr) (e : Entry) (d : CmdDesc) (n : Nat) (pre : State → Prop) (res : State → Nat)
    (post : State → State → Prop) : Prop :=
  completes i e d n (fun s => pre s ∧ s.paired = false) res post ∧
  accepts i e d n (fun s => pre s ∧ s.paired = true) (fun c s t => post s t ∧
    t.com.stageWaits = s.com.stageWaits ++ [(c, res s)])

/-- What CARAVAN.LOAD makes of a timetable and its blocks: the entries with their compiled records, and the bank that the last one
leaves (R202). -/
def State.compiled (s : State) (loopRows : Nat) (table : List (BitVec 128)) (ds : List (List (BitVec 128))) :
    Option (List CaravanBlock × Bank) :=
  match s.compileTable s.egrB s.egrB (loopRows != 0) (ds.map fun t => t.map DeltaEntry.ofWord) (table.map TimetableEntry.ofWord) 0 with
  | .ok r => some r
  | .error _ => none

/-- The compiled timetable keeps the spacing of R196, fits the store and, where it loops, ends where it began (R202). -/
def State.tableFits (s : State) (loopRows : Nat) (table : List (BitVec 128)) (ds : List (List (BitVec 128))) : Bool :=
  match s.compiled loopRows table ds with
  | some (xs, z) => decide (tableRecs xs ≤ 1044480) && (badStep xs 0).isNone &&
      (loopRows == 0 || (z.same s.egrB && !loopBad xs loopRows))
  | none => false

/-- What CARAVAN.LOAD asks for (R201, R202). -/
def State.loadable (s : State) (tt blk : Buf) (loopRows : Nat) (table : List (BitVec 128)) (ds : List (List (BitVec 128))) : Prop :=
  table ≠ [] ∧ ds ≠ [] ∧ table.length ≤ 4096 ∧ ds.length ≤ 4096 ∧ 16 * table.length ≤ tt.len ∧ blk.len ≠ 0 ∧
    (∀ x ∈ table, (TimetableEntry.ofWord x).block < ds.length) ∧ s.bufRead tt (16 * table.length) = true ∧
    s.bufRead blk blk.len = true ∧ s.tableFits loopRows table ds = true ∧ (s.dev.mode = .transport ∨ s.dev.mode = .configure) ∧
    s.maintained = false ∧ s.commitPending = false ∧ s.dev.role ≠ .follower ∧ (s.paired = true → s.pair.linkUp = true)

/-- The timetable stands in the caravan store; it has not started, and no map has changed (R202). -/
def State.loaded (s t : State) (loopRows : Nat) (table : List (BitVec 128)) (ds : List (List (BitVec 128))) : Prop :=
  (some t.com.car.entries = (s.compiled loopRows table ds).map (·.1)) ∧ t.com.car.loopRows = loopRows ∧
    t.com.car.base = s.com.gen ∧ t.com.car.next = 0 ∧ t.com.car.pass = 0 ∧ t.com.gen = s.com.gen ∧ t.sw = s.sw

/-! ### After an endpoint reset -/

/-- What an endpoint reset leaves of the endpoint: no ring pair, no other ring, no mailbox in use, MSI-X and BAR0 at reset, no DMA
(R376). -/
def State.endpointClear (t : State) : Prop :=
  t.host.pairs = [] ∧ t.host.mail = [] ∧ t.host.msix = [] ∧ t.host.evt = {} ∧ t.host.jrn = {} ∧ t.host.fac = {} ∧
    t.host.dmaOn = false ∧ t.host.unlocked = false

/-- What it leaves of a session slot: an open session of PCIe is SUSPENDED from now on, a provisional handle of PCIe is gone, any other
slot is as it was (R376). -/
def Session.afterEndpointReset (x : Session) (now : Nat) : Session :=
  if x.path ≠ 0 then x
  else match x.state with
    | .provisional => {}
    | .opened => { x with
        state := .suspended
        since := now
        resume := false }
    | _ => x

/-! ### What a command may touch -/

/-- t differs from s at most in the host interface, the telemetry and the counts: no command that only answers, and none of
the shared operations that serve, journal, count and complete, reaches further. -/
def State.quiet (s t : State) : Prop :=
  t = { s with
    host := t.host
    log := t.log
    par := { s.par with counts := t.par.counts } }

/-! ### Commands that are refused, and valid no-ops -/

/-- The completion of entry e stands in t where R385 puts it, with a STATUS, a RESULT, DETAIL 0, and NOOP. -/
def State.ended (s t : State) (e : Entry) (status result : Nat) (noop : Bool) : Prop :=
  let flag := if noop then 1 else 0
  if e.ring < 16 then
    let p := s.ringPair e.ring
    Table.getRun 0 t.host.mem (p.cqAddr + 16 * p.cqNext) 16 =
      complBytes e.cmdId status (if p.sqHead + 1 = 2 ^ p.sqLog then 0 else p.sqHead + 1) result 0 e.ring
        (flag + if p.phase then 128 else 0)
  else if e.ring < 24 then
    (t.mailbox (e.ring - 16)).state = 2
      ∧ (t.mailbox (e.ring - 16)).compl = BitVec.ofNat 128 (leNat (complBytes e.cmdId status 0 result 0 e.ring flag))
  else t.host.sb.state = 2 ∧ t.host.sb.compl = ⟨e.cmdId, status, 0, result, 0, 24, noop⟩

/-- Under pre, command i of entry e is a valid no-op: STATUS 0 with NOOP, and nothing beside the host interface, the telemetry and
the counts differs. -/
def passesOver (i : Instr) (e : Entry) (d : CmdDesc) (n : Nat) (pre : State → Prop) : Prop :=
  ∀ s : State, s.admits (d.of i) e = true → (s.served d e).journalRoom n = true → pre (s.served d e) →
    ∃ t, exec i s = .next t ∧ s.quiet t ∧ s.ended t e 0 0 true

/-! ### What every step keeps -/

/-- The memories that unlisted bytes read as 0 are in canonical form. -/
def State.memOk (s : State) : Prop := Memory.wf s.host.mem ∧ Memory.wf s.jcc.sram

/-- OTP goes one way (R550): the anti-rollback counter of t is no lower than that of s, and no revoked key index comes back. -/
def State.otpLe (s t : State) : Prop :=
  s.sec.counter ≤ t.sec.counter ∧ ∀ k, s.sec.revoked.testBit k = true → t.sec.revoked.testBit k = true

end Sys2Proof.Machine
end

