-- ==== Sys2Proof/Certificates/Slice0/Obligations.lean ====
section
/-!
DEFINITION. Certificates/Slice0/Obligations.lean: the statements about the QX5120 block.
-/
open Sys2Proof Sys2Proof.Machine

/-! ### Sessions and rings (chapter 12 of the Drepex interface) -/

/-- SESSION.HELLO without and with RESUME, SESSION.PROVE: a provisional handle or a mark of resumption with both nonces; a
session that is open, with the key of its role. The handle and the device's nonce are free values (log entry 1). -/
def Obligations.SessionOpens : Prop :=
  (∀ (e : Entry) (role respAddr k : Nat) (nonce : List Byte),
    completes (.sessionHello e role 0 0 nonce respAddr) e ⟨0x0101, 0, false, false, []⟩ 0
      (fun s => 1 ≤ role ∧ role ≤ 4 ∧ (respAddr = 0 ∨ s.bufWrite ⟨respAddr, 44, 0⟩ 44 = true) ∧
        s.helloBarred (pathOf e.ring) = false ∧ (role = 4 → s.dev.serviceEn = true) ∧ (s.roleKey role).isSome = true ∧
        s.freeSlot = some k)
      (fun s => k + 8 * (1 + s.drawn.draw % (2 ^ 29 - 1)))
      (fun s t => t.session k = {
          state := .provisional,
          handle := k + 8 * (1 + s.drawn.draw % (2 ^ 29 - 1)),
          role := role,
          path := pathOf e.ring,
          nonceD := leBytes 32 s.draw,
          nonceH := nonce,
          respAddr := respAddr,
          hello := s.clk.tick } ∧
        ∀ j, j ≠ k → t.session j = s.session j)) ∧
  (∀ (e : Entry) (role handle respAddr : Nat) (nonce : List Byte),
    completes (.sessionHello e role 1 handle nonce respAddr) e ⟨0x0101, 0, false, false, []⟩ 0
      (fun s => 1 ≤ role ∧ role ≤ 4 ∧ (respAddr = 0 ∨ s.bufWrite ⟨respAddr, 44, 0⟩ 44 = true) ∧
        s.helloBarred (pathOf e.ring) = false ∧ (role = 4 → s.dev.serviceEn = true) ∧ (s.roleKey role).isSome = true ∧
        s.resumable handle role = true)
      (fun _ => handle)
      (fun s t => t.session (handle % 8) = { s.session (handle % 8) with
          resume := true
          nonceD := leBytes 32 s.draw
          nonceH := nonce
          respAddr := respAddr
          hello := s.clk.tick } ∧
        ∀ j, j ≠ handle % 8 → t.session j = s.session j)) ∧
  (∀ (e : Entry) (tag : BitVec 384) (x : Session) (key : BitVec 384),
    completes (.sessionProve e tag) e ⟨0x0102, 0, false, false, []⟩ 0
      (fun s => s.proving e.session = some x ∧ s.roleKey x.role = some key ∧
        (x.respAddr = 0 ∨ s.bufWrite ⟨x.respAddr, 48, 0⟩ 48 = true) ∧
        tag = Config.hmac384 key (proofMsg tagHost x.role (pathOf e.ring) x.nonceD x.nonceH))
      (fun _ => 0)
      (fun s t => t.session (e.session % 8) = { x with
          state := .opened
          path := pathOf e.ring
          opened := s.clk.rsn
          last := if x.state = .suspended then x.last else 0
          lastTick := s.clk.tick
          resume := false
          initial := x.role == 3 && s.sec.adminInitial
          key := key } ∧
        ∀ j, j ≠ e.session % 8 → t.session j = s.session j))

/-- SESSION.CLOSE, SESSION.LIST: a closed session's slot is free, its handle unknown, and no pair belongs to it; the list brings
the 32 bytes of each slot. -/
def Obligations.SessionClosesAndLists : Prop :=
  (∀ (e : Entry) (handle h : Nat),
    completes (.sessionClose e handle) e ⟨0x0103, 1, false, false, []⟩ 0
      (fun s => h = (if handle = 0 then e.session else handle) ∧ (s.findSession h).isSome = true ∧
        (h = e.session ∨ ∃ x, s.findSession e.session = some x ∧ 3 ≤ x.role))
      (fun _ => 0)
      (fun s t => t.session (h % 8) = {} ∧ t.findSession h = none ∧ (∀ j, j ≠ h % 8 → t.session j = s.session j) ∧
        (∀ p, (t.ringPair p).on = true → (t.ringPair p).owner ≠ h) ∧ (s.com.owner = h → t.com.owner = 0))) ∧
  (∀ (e : Entry) (b : Buf),
    completes (.sessionList e b) e ⟨0x0106, 1, false, false, []⟩ 0
      (fun s => 256 ≤ b.len ∧ s.bufWrite b 256 = true)
      (fun s => ((List.range 8).filter fun k => (s.session k).state != .free).length)
      (fun s t => s.quiet t ∧ (∀ j, t.session j = s.session j) ∧ (16 ≤ e.ring →
        ∃ all, Table.getRun 0 t.host.mem b.addr 256 = (List.range 8).flatMap (s.slotEntry e.session all) ∧
          (all = true ↔ ∃ x, s.findSession e.session = some x ∧ 3 ≤ x.role))))

/-- SESSION.RING_CREATE and SESSION.RING_DELETE: a pair of the calling session; no pair. A pair that is deleted through itself
gets no completion. -/
def Obligations.RingPairsMadeAndDeleted : Prop :=
  (∀ (e : Entry) (pair sq cq vector sqAddr cqAddr : Nat),
    completes (.sessionRingCreate e pair sq cq vector sqAddr cqAddr) e ⟨0x0104, 1, false, false, []⟩ 1
      (fun s => pair ≤ 15 ∧ 4 ≤ sq ∧ sq ≤ 16 ∧ 4 ≤ cq ∧ cq ≤ 16 ∧ vector ≤ 31 ∧ sqAddr % 4096 = 0 ∧ cqAddr % 4096 = 0 ∧
        s.readOk sqAddr (64 * 2 ^ sq) = true ∧ s.writeOk cqAddr (16 * 2 ^ cq) = true ∧ (s.ringPair pair).on = false)
      (fun _ => 0)
      (fun s t => t.ringPair pair = {
          on := true,
          owner := e.session,
          sqAddr := sqAddr,
          cqAddr := cqAddr,
          sqLog := sq,
          cqLog := cq,
          vector := vector } ∧
        t.host.dmaOn = true ∧ (∀ p, p ≠ pair → p ≠ e.ring → t.ringPair p = s.ringPair p) ∧ s.quiet t)) ∧
  (∀ (e : Entry) (pair : Nat),
    completes (.sessionRingDelete e pair) e ⟨0x0105, 1, false, false, []⟩ 1
      (fun s => pair ≤ 15 ∧ pair ≠ e.ring ∧ (s.ringPair pair).on = true ∧ (s.ringPair pair).owner = e.session)
      (fun _ => 0)
      (fun s t => t.ringPair pair = {} ∧ ∀ p, p ≠ pair → p ≠ e.ring → t.ringPair p = s.ringPair p)) ∧
  (∀ (e : Entry) (s : State), s.admits (CmdDesc.of ⟨0x0105, 1, false, false, []⟩ (.sessionRingDelete e e.ring)) e = true → e.ring ≤ 15 →
    (s.served ⟨0x0105, 1, false, false, []⟩ e).journalRoom 1 = true → (s.ringPair e.ring).owner = e.session →
    ∃ t, exec (.sessionRingDelete e e.ring) s = .next t ∧ (t.ringPair e.ring).on = false ∧ t.host.mem = s.host.mem)

/-! ### Parameters (chapters 12 and 13 of the Drepex interface) -/

/-- PARAM.GET, PARAM.DESCRIBE, PARAM.SAVE: values and descriptors in the buffer, the SAVED values in the store; no value in force
changes. -/
def Obligations.ParametersRead : Prop :=
  (∀ (e : Entry) (b : Buf) (ids : List PId),
    completes (.paramGet e b ids.length ids) e ⟨0x0201, 1, false, false, []⟩ 0
      (fun s => ids ≠ [] ∧ 72 * ids.length ≤ b.len ∧ s.bufRead b (72 * ids.length) = true ∧ s.bufWrite b (72 * ids.length) = true ∧
        s.flt.parityNew = [])
      (fun _ => (ids.filter fun p => p.param.isNone).length)
      (fun s t => s.quiet { t with clk := s.clk } ∧ t.clk.rsn = s.clk.rsn ∧ t.clk.tod = s.clk.tod ∧
        (16 ≤ e.ring → ∀ k p, ids[k]? = some p → p.param.isSome = true →
          Table.getRun 0 t.host.mem (b.addr + 72 * k + 4) 68 =
            leBytes 2 p.readLen ++ leBytes 2 0 ++ padTo 64 (leBytes p.readLen (s.readValue p))))) ∧
  (∀ (e : Entry) (b : Buf) (ids : List PId),
    completes (.paramDescribe e b ids.length ids) e ⟨0x0203, 1, false, false, []⟩ 0
      (fun s => ids ≠ [] ∧ 96 * ids.length ≤ b.len ∧ s.bufRead b (96 * ids.length) = true ∧
        s.bufWrite b (96 * ids.length) = true ∧ ∀ p ∈ ids, (resolveId p).param.isSome = true)
      (fun _ => 0)
      (fun s t => s.quiet t ∧ (16 ≤ e.ring →
        Table.getRun 0 t.host.mem b.addr (ids.flatMap descBytes).length = ids.flatMap descBytes))) ∧
  (∀ e : Entry,
    completes (.paramSave e) e ⟨0x0204, 3, true, false, []⟩ 1 (fun _ => True) (fun _ => 0)
      (fun s t => t.par.store = s.savedVals ∧ t.par.storeOk = true ∧ t.par.vals = s.par.vals ∧ t.par.late = s.par.late ∧
        t.par.buffered = s.par.buffered))

/-- PARAM.SET of one parameter: in force at once; in force from the next row, the completion waiting for it; a disabled-only
parameter of a disabled block, and lane.rx_coupling, which for AC clears the receive wiring cause; cfg.protection under an unlock, which
the write takes. Every other parameter keeps its value. -/
def Obligations.ParameterWritten : Prop :=
  (∀ (e : Entry) (b : Buf) (n : Pn) (obj len : Nat) (bs : List Byte), n.desc.acc = .rw → n.desc.effect = .atOnce →
    n ∉ [.laneTraceCheck, .laneTraceExpected, .tribTraceCheck, .tribTraceExpected, .laneRxAdapt] →
    completes (.paramSet e b 1 [⟨.known n obj, len, true, bs⟩]) e ⟨0x0202, 0, false, false, []⟩ 1
      (fun s => 72 ≤ b.len ∧ s.bufRead b 72 = true ∧ n.instOk obj = true ∧ n.desc.role ≤ s.callerRole e ∧ len ≤ 64 ∧
        n.checkValue obj len (leNat (bs.take len)) = none)
      (fun _ => 0)
      (fun s t => t.cur n obj = leNat (bs.take len) ∧ (∀ m o, m.key o ≠ n.key obj → t.cur m o = s.cur m o) ∧
        s.quiet { t with par := { t.par with vals := s.par.vals } })) ∧
  (∀ (e : Entry) (b : Buf) (n : Pn) (obj len : Nat) (bs : List Byte), n.desc.acc = .rw → n.desc.effect = .nextRow →
    n ∉ [.lanePrbsTx, .lanePrbsRx, .lanePrbsPattern, .protDirection, .protApsLane, .protApsRemoteGroup] →
    accepts (.paramSet e b 1 [⟨.known n obj, len, true, bs⟩]) e ⟨0x0202, 0, false, false, []⟩ 1
      (fun s => 72 ≤ b.len ∧ s.bufRead b 72 = true ∧ n.instOk obj = true ∧ n.desc.role ≤ s.callerRole e ∧ len ≤ 64 ∧
        n.checkValue obj len (leNat (bs.take len)) = none ∧
        (n = .timingRefEnable → ∀ x ∈ s.par.buffered, x.n.desc.block ≠ .refIn))
      (fun c s t => t.cur n obj = leNat (bs.take len) ∧ t.eff n obj = s.eff n obj ∧
        (∀ m o, m.key o ≠ n.key obj → t.cur m o = s.cur m o ∧ t.eff m o = s.eff m o) ∧
        t.prot.waits = s.prot.waits ++ [(s.clk.rsn + 1, c, 0)])) ∧
  (∀ (e : Entry) (b : Buf) (n : Pn) (obj len : Nat) (bs : List Byte), n.desc.acc = .rwd → n ≠ .laneMode →
    n ≠ .laneClocking → n ≠ .laneRxCoupling →
    completes (.paramSet e b 1 [⟨.known n obj, len, true, bs⟩]) e ⟨0x0202, 0, false, false, []⟩ 1
      (fun s => 72 ≤ b.len ∧ s.bufRead b 72 = true ∧ n.instOk obj = true ∧ n.desc.role ≤ s.callerRole e ∧ len ≤ 64 ∧
        n.checkValue obj len (leNat (bs.take len)) = none ∧ s.blockOn n.desc.block obj = false)
      (fun _ => 0)
      (fun s t => t.cur n obj = leNat (bs.take len) ∧ (∀ m o, m.key o ≠ n.key obj → t.cur m o = s.cur m o) ∧
        s.quiet { t with par := { t.par with vals := s.par.vals } })) ∧
  (∀ (e : Entry) (b : Buf) (l : Fin 512) (v : Fin 2),
    completes (.paramSet e b 1 [⟨.known .laneRxCoupling l, 1, true, leBytes 1 v.val⟩]) e ⟨0x0202, 0, false, false, []⟩ 1
      (fun s => 72 ≤ b.len ∧ s.bufRead b 72 = true ∧ 2 ≤ s.callerRole e ∧ s.blockOn .laneRx l = false)
      (fun _ => 0)
      (fun s t => t.cur .laneRxCoupling l = v.val ∧ s.otherLanes t l ∧
        t.lane l = { s.lane l with wireRx := if v.val = 1 then (s.lane l).wireRx else 0 })) ∧
  (∀ (e : Entry) (b : Buf) (v : Fin 3),
    completes (.paramSet e b 1 [⟨.known .cfgProtection 0, 1, true, leBytes 1 v.val⟩]) e ⟨0x0202, 0, false, false, []⟩ 1
      (fun s => 72 ≤ b.len ∧ s.bufRead b 72 = true ∧ 3 ≤ s.callerRole e ∧ s.host.unlocked = true)
      (fun _ => 0)
      (fun s t => t.cur .cfgProtection 0 = v.val ∧ t.host.unlocked = false ∧ t.dev = s.dev))

/-- The LEGACY apply mode: a write to an enabled block waits, the value in force unchanged; LEGACY_WRITE_APPLY puts the value and
restarts the block. In NATIVE the write is refused with DOMAIN_BUSY and the block marked. A PARAM.SET that carries an entry the
device does not know applies no entry at all, whatever stands before and after it. -/
def Obligations.WritesToEnabledBlocks : Prop :=
  (∀ (n : Pn) (obj : Nat) (b : Buffered) (s : State), s.par.buffered.find? (fun x => x.n == n && x.obj == obj) = some b →
    rsnLe b.due s.clk.rsn = true ∨ s.blockOn n.desc.block obj = false →
    ∃ t, exec (.legacyWriteApply n obj) s = .next t ∧ t.cur n obj = b.value ∧ t.par.buffered = s.par.buffered.erase b) ∧
  (∀ (e : Entry) (b : Buf) (n : Pn) (obj len : Nat) (bs : List Byte), n.desc.acc = .rwd →
    accepts (.paramSet e b 1 [⟨.known n obj, len, true, bs⟩]) e ⟨0x0202, 0, false, false, []⟩ 1
      (fun s => 72 ≤ b.len ∧ s.bufRead b 72 = true ∧ n.instOk obj = true ∧ n.desc.role ≤ s.callerRole e ∧ len ≤ 64 ∧
        n.checkValue obj len (leNat (bs.take len)) = none ∧ s.blockOn n.desc.block obj = true ∧ s.cur .cfgApplyMode 0 = 1 ∧
        s.bufferFull n obj = false ∧ s.ownRefusal n obj (leNat (bs.take len)) = none ∧
        s.par.buffered.find? (fun x => x.n == n && x.obj == obj) = none)
      (fun c s t => t.par.vals = s.par.vals ∧ t.par.buffered = s.par.buffered ++
        [⟨n, obj, leNat (bs.take len), [(c, leNat (bs.take len) % 2 ^ 64)], s.naturalBoundary n.desc.block⟩])) ∧
  (∀ (e : Entry) (b : Buf) (n : Pn) (obj len : Nat) (bs : List Byte) (s : State), n.desc.acc = .rwd →
    s.admits (CmdDesc.of ⟨0x0202, 0, false, false, []⟩ (.paramSet e b 1 [⟨.known n obj, len, true, bs⟩])) e = true →
    72 ≤ b.len → s.bufRead b 72 = true → n.instOk obj = true →
    n.desc.role ≤ (s.served ⟨0x0202, 0, false, false, []⟩ e).callerRole e → len ≤ 64 →
    n.checkValue obj len (leNat (bs.take len)) = none → s.blockOn n.desc.block obj = true → s.cur .cfgApplyMode 0 = 0 →
    ∃ t, exec (.paramSet e b 1 [⟨.known n obj, len, true, bs⟩]) s = .next t ∧ t.par.vals = s.par.vals ∧
      t.par.buffered = s.par.buffered ∧ Table.get false t.par.enWrite (n.desc.block.key obj) = true) ∧
  (∀ (e : Entry) (b : Buf) (count : Nat) (before after : List ParamEntry) (bad : ParamEntry) (s : State),
    bad.id.param = none → before.length < count →
    ∃ t, exec (.paramSet e b count (before ++ bad :: after)) s = .next t ∧
      s.quiet { t with par := { t.par with enWrite := s.par.enWrite } })

/-! ### Lanes -/

/-- The rows that enable and disable the two directions of a lane, and the steps that follow: the first row of a transmitter, the
equaliser. -/
def Obligations.LaneDirections : Prop :=
  (∀ (e : Entry) (l : Nat),
    completes (.laneTxEnable e l 1) e ⟨0x0202, 0, false, false, []⟩ 1
      (fun s => l ≤ 511 ∧ 2 ≤ s.callerRole e ∧ s.cur .laneTxEnable l = 0 ∧ s.domain (ltOf l) = 0 ∧ s.stripeDown l = false)
      (fun _ => 0)
      (fun s t => t.lane l = { s.lane l with
          txOn := true
          txSending := false
          txFirst := true
          txTick := s.clk.tick
          txCrc := 0
          precode := 0
          rdiTx := (false, false, false)
          tx := {}
          test := { (s.lane l).test with
            gen := 0
            sentSyms := 0 } } ∧
        t.cur .laneTxEnable l = 1 ∧ s.otherLanes t l)) ∧
  (∀ (e : Entry) (l : Nat),
    completes (.laneTxEnable e l 0) e ⟨0x0202, 0, false, false, []⟩ 1
      (fun s => l ≤ 511 ∧ 2 ≤ s.callerRole e ∧ s.cur .laneTxEnable l = 1 ∧ s.par.buffered = [] ∧
        (s.lane l).test.loopNext = none)
      (fun _ => 0)
      (fun s t => (t.lane l).txOn = false ∧ (t.lane l).txSending = false ∧ (t.lane l).tx = {} ∧ (t.lane l).test.injRows = 0 ∧
        (t.lane l).test.loop = 0 ∧ (t.lane l).rxOn = (s.lane l).rxOn ∧ t.cur .laneTxEnable l = 0 ∧ s.otherLanes t l)) ∧
  (∀ (e : Entry) (l : Nat),
    completes (.laneRxEnable e l 1) e ⟨0x0202, 0, false, false, []⟩ 1
      (fun s => l ≤ 511 ∧ 2 ≤ s.callerRole e ∧ s.cur .laneRxEnable l = 0 ∧ s.domain (lrOf l) = 0 ∧ s.stripeDown l = false)
      (fun _ => 0)
      (fun s t => (t.lane l).rxOn = true ∧ (t.lane l).align = .hunt ∧ (t.lane l).lof = true ∧ (t.lane l).los = false ∧
        (t.lane l).eqOk = false ∧ (t.lane l).txOn = (s.lane l).txOn ∧ t.cur .laneRxEnable l = 1 ∧ s.otherLanes t l)) ∧
  (∀ (e : Entry) (l : Nat),
    completes (.laneRxEnable e l 0) e ⟨0x0202, 0, false, false, []⟩ 1
      (fun s => l ≤ 511 ∧ 2 ≤ s.callerRole e ∧ s.cur .laneRxEnable l = 1 ∧ s.par.buffered = [] ∧
        (s.lane l).test.loopNext = none)
      (fun _ => 0)
      (fun s t => (t.lane l).rxOn = false ∧ (t.lane l).align = .disabled ∧ (t.lane l).los = false ∧ (t.lane l).lof = false ∧
        (t.lane l).anf = false ∧ (t.lane l).unc = false ∧ (t.lane l).sd = false ∧ (t.lane l).tim = false ∧
        (t.lane l).slf = false ∧ (t.lane l).txOn = (s.lane l).txOn ∧ t.cur .laneRxEnable l = 0 ∧ s.otherLanes t l)) ∧
  (∀ (e : Entry) (l : Nat),
    completes (.rxAdaptRestart e l) e ⟨0x0202, 0, false, false, []⟩ 1
      (fun s => l ≤ 511 ∧ 2 ≤ s.callerRole e)
      (fun _ => 0)
      (fun s t => t.cur .laneRxAdapt l = 2 ∧ t.lane l = { s.lane l with eqOk := (s.lane l).eqOk && s.adaptHeld l } ∧
        s.otherLanes t l)) ∧
  (∀ (l : Fin 512) (s : State), (s.lane l).rxOn = true →
    ∃ t, exec (.equaliserConverged l) s = .next t ∧ (t.lane l).eqOk = true ∧ (t.lane l).test.scanWait = false ∧
      t.cur .laneRxAdapt l = (if s.cur .laneRxAdapt l = 2 ∧ s.adaptHeld l = false then 0 else s.cur .laneRxAdapt l) ∧
      s.otherLanes t l) ∧
  (∀ (l : Fin 512) (s : State), (s.lane l).txOn = true → (s.lane l).txSending = false → s.domain (ltOf l) = 0 →
    exec (.laneTxStart l) s = .next (s.setLane l { s.lane l with txSending := true }))

/-- The alignment state machine over LANE_ROW_RECEIVED: HUNT to CONFIRM, CONFIRM to SYNC, SYNC to FLYWHEEL, FLYWHEEL back to SYNC or
to HUNT with LOF. LOS, and the defects that integrate over rows: when each sets and clears, and that LOS and LOF hold the others
clear. -/
def Obligations.LaneReceivers : Prop :=
  (∀ (l : Fin 512) (raw w : RawRow) (s : State), (s.lane l).rxOn = true → s.domain (lrOf l) = 0 → s.lineChecker l = false →
    w = s.looped l raw →
    ∃ t, exec (.laneRowReceived l raw) s = .next t ∧ (s.pairOf l = none → s.otherLanes t l) ∧
      (∀ rev r, (s.lane l).align = .hunt → w.signal = true → s.huntForm l w = some rev → r = s.rxRow l rev w →
        (s.lane l).barred = [] → (s.lane l).cands = [] → frameCheck rev r = true →
        (t.lane l).align = .confirm ∧ (t.lane l).cands = [⟨w.offset, r.rsn, rev, lineCrc r, !r.unc.isEmpty⟩]) ∧
      (∀ c rest r, (s.lane l).align = .confirm → (s.lane l).cands = c :: rest → w.offset = c.offset →
        r = s.rxRow l c.rev w → frameCheck c.rev r = true → r.rsn = c.rsn + 1 → r.check = c.crc →
        (t.lane l).align = .sync ∧ (t.lane l).expRsn = r.rsn + 1 ∧ (t.lane l).offset = c.offset ∧ (t.lane l).pnInv = c.rev) ∧
      (∀ r, r = s.rxRow l (s.lane l).pnInv w → w.offset = (s.lane l).offset →
        ((s.lane l).align = .sync → frameCheck (s.lane l).pnInv r = false →
          (t.lane l).align = .flywheel ∧ (t.lane l).expRsn = (s.lane l).expRsn + 1) ∧
        ((s.lane l).align = .flywheel → frameCheck (s.lane l).pnInv r = true → r.rsn = (s.lane l).expRsn →
          (t.lane l).align = .sync ∧ (t.lane l).expRsn = r.rsn + 1) ∧
        ((s.lane l).align = .flywheel → ¬(frameCheck (s.lane l).pnInv r = true ∧ r.rsn = (s.lane l).expRsn) →
          ((t.lane l).align = .hunt ∨ (t.lane l).align = .confirm) ∧
          (s.huntForm l w = none → (t.lane l).align = .hunt) ∧ ((s.lane l).los = false → (t.lane l).lof = true)))) ∧
  (∀ (l : Fin 512) (s : State), (s.lane l).rxOn = true → (s.lane l).los = false →
    (s.lane l).near = false ∨ (s.lane l).tx.idle = true →
    ∃ t, exec (.laneSignalLoss l) s = .next t ∧ (t.lane l).los = true ∧ (t.lane l).lof = false ∧ (t.lane l).anf = false ∧
      (t.lane l).unc = false ∧ (t.lane l).lais = false ∧ (t.lane l).sd = false ∧ (t.lane l).tim = false ∧
      (t.lane l).slf = false ∧ (t.lane l).rrdi = false ∧ (t.lane l).anw = false ∧ s.otherLanes t l ∧
      (s.pairOf l = none → ∀ k, (s.trib k).on = true → (s.trib k).lane = l → (t.trib k).tais = true)) ∧
  (∀ (l : Fin 512) (d : LaneDefect) (s : State), (s.lane l).rxOn = true →
    ∃ t, exec (.laneDefectIntegration l d) s = .next t ∧ s.otherLanes t l ∧
      (d = .los → (s.lane l).los = true → 4 ≤ (s.lane l).runs.losOk → (t.lane l).los = false ∧
        ((s.lane l).runs.sync < 8 → (t.lane l).lof = true)) ∧
      (d = .lof → (s.lane l).lof = true → (s.lane l).los = false → 8 ≤ (s.lane l).runs.sync → (t.lane l).lof = false) ∧
      ((s.lane l).los = false → (s.lane l).lof = false →
        (d = .anf → (s.lane l).anf = false → 2 ≤ (s.lane l).runs.anfBad → (t.lane l).anf = true) ∧
        (d = .unc → (s.lane l).unc = false → 2 ≤ (s.lane l).runs.uncBad → (t.lane l).unc = true) ∧
        (d = .unc → (s.lane l).unc = true → 8 ≤ (s.lane l).runs.uncOk → (t.lane l).unc = false) ∧
        (d = .lais → (s.lane l).lais = false → 2 ≤ (s.lane l).runs.laisOn → (t.lane l).lais = true) ∧
        (d = .sd → (s.lane l).sd = false → (s.lane l).runs.sdBad = true → (t.lane l).sd = true) ∧
        (d = .sd → (s.lane l).sd = true → 4 ≤ (s.lane l).runs.sdOk → (t.lane l).sd = false) ∧
        (d = .rrdi → (s.lane l).rrdi = false → 3 ≤ (s.lane l).runs.rdiOn → (t.lane l).rrdi = true) ∧
        (d = .anw → (s.lane l).anw = false → 64 ≤ (s.lane l).runs.anwOn → (t.lane l).anw = true)))

/-- The anchor under AUTO after 64 rows of ANF, the end of an offset's bar, and the wiring detectors. -/
def Obligations.LaneHousekeeping : Prop :=
  (∀ (l : Fin 512) (s : State), (s.lane l).anf = true → 64 ≤ (s.lane l).runs.anfSet →
    s.cur .laneAnchor (s.anchorLane l) = 255 → s.cur .laneClocking l = 0 →
    ∃ t, exec (.anchorRechoose l) s = .next t ∧ (t.lane l).runs.anfSet = 0 ∧
      (∀ k ∈ s.anchorLanes l, (t.lane k).anchor =
        chooseAnchor (s.lane l).anchor ((s.anchorLanes l).map fun k => (s.lane k).theta)) ∧ l.val ∈ s.anchorLanes l ∧
      (s.pairOf l = none → s.otherLanes t l) ∧
      ∀ m, s.pairOf l = some m → ∀ k, k ≠ m.low → k ≠ m.high → t.lane k = s.lane k) ∧
  (∀ (l : Fin 512) (o k : Nat) (s : State), (o, k) ∈ (s.lane l).barred → s.elapsed k 4096 = true →
    ∃ t, exec (.offsetBarExpiry l o) s = .next t ∧ (o, k) ∉ (t.lane l).barred ∧ s.otherLanes t l ∧
      ∀ x ∈ (s.lane l).barred, x.1 ≠ o → x ∈ (t.lane l).barred) ∧
  (∀ (l : Fin 512) (a : Fin 16) (b : Fin 4) (s : State), s.domain (ltOf l) = 0 → s.domain (lrOf l) = 0 →
    s.cur .laneRxCoupling l = 1 → s.cnt .laneWiringEvents l < 2 ^ 48 →
    ∃ t, exec (.wiringFault l a b) s = .next t ∧ t.lane l = { s.lane l with
        wireTx := a.val
        wireRx := b.val } ∧ s.otherLanes t l ∧
      t.cnt .laneWiringEvents l =
        (s.cnt .laneWiringEvents l + bitsSet ((s.lane l).wireTx + 16 * (s.lane l).wireRx) (a.val + 16 * b.val)) % 2 ^ 48)

/-- The test set, injection programmes and loops: TEST.LANE, TEST.INJECT, TEST.LOOP, and the events that end them. -/
def Obligations.LaneTests : Prop :=
  (∀ (e : Entry) (l : Nat),
    completes (.testLane e l 1) e ⟨0x0E03, 3, false, false, []⟩ 1
      (fun s => l ≤ 511 ∧ s.dev.mode = .test ∧ (s.eff .lanePrbsRx l = 1 → (s.lane l).rxOn = true → (s.lane l).test.under = true))
      (fun _ => 0)
      (fun s t => t.lane l = { s.lane l with test := { (s.lane l).test with under := true } } ∧ s.otherLanes t l)) ∧
  (∀ (e : Entry) (l : Nat),
    completes (.testLane e l 1) e ⟨0x0E03, 3, false, false, []⟩ 1
      (fun s => l ≤ 511 ∧ s.dev.mode = .test ∧ s.eff .lanePrbsRx l = 1 ∧ s.eff .lanePrbsPattern l ≤ 1 ∧ (s.lane l).rxOn = true ∧
        (s.lane l).test.under = false)
      (fun _ => 0)
      (fun s t => (t.lane l).test.under = true ∧ (t.lane l).align = .hunt ∧ ((s.lane l).los = false → (t.lane l).lof = true) ∧
        t.lineChecker l = true ∧ s.otherLanes t l)) ∧
  (∀ (e : Entry) (l : Nat),
    completes (.testLane e l 0) e ⟨0x0E03, 3, false, false, []⟩ 1
      (fun s => l ≤ 511 ∧ s.dev.mode = .test ∧ (s.lane l).test.loopNext = none)
      (fun _ => 0)
      (fun s t => (t.lane l).test.under = false ∧ (t.lane l).test.loop = 0 ∧ (t.lane l).test.injRows = 0 ∧
        t.cur .lanePrbsTx l = 0 ∧ (s.cur .lanePrbsRx l = 1 → t.cur .lanePrbsRx l = 0) ∧ s.otherLanes t l)) ∧
  (∀ (e : Entry) (rows l amount kind : Nat),
    completes (.testInject e rows l amount kind) e ⟨0x0E04, 3, false, false, []⟩ 1
      (fun s => l ≤ 511 ∧ kind ≤ 5 ∧ s.dev.mode = .test ∧ (s.lane l).test.under = true ∧ (s.lane l).txOn = true ∧
        1 ≤ amount ∧ amount ≤ injectMax kind ∧ rows ≠ 0)
      (fun _ => 0)
      (fun s t => t.lane l = { s.lane l with test := { (s.lane l).test with
          injKind := kind
          injAmount := amount
          injRows := rows + 1
          injFrom := s.clk.rsn + 1 } } ∧ s.otherLanes t l)) ∧
  (∀ (e : Entry) (l loop : Nat),
    accepts (.testLoop e l loop) e ⟨0x0E05, 3, false, false, []⟩ 1
      (fun s => l ≤ 511 ∧ loop ≤ 4 ∧ (s.lane l).rxOn = true ∧ (s.lane l).txOn = true ∧ s.dev.mode = .test ∧
        (s.lane l).test.under = true)
      (fun c s t => t.lane l = { s.lane l with test := { (s.lane l).test with loopNext := some (loop, s.clk.tick, c) } } ∧
        s.otherLanes t l)) ∧
  (∀ (l : Fin 512) (k tick : Nat) (c : CmdRef) (s : State), (s.lane l).test.loopNext = some (k, tick, c) →
    ∃ t, exec (.loopEffect l) s = .next t ∧ (t.lane l).test.loop = k ∧ (t.lane l).test.loopNext = none ∧ s.otherLanes t l) ∧
  (∀ (l : Fin 512) (s : State), (s.lane l).test.injRows = 1 →
    exec (.injectionEnd l) s = .next (s.setLane l { s.lane l with test := { (s.lane l).test with injRows := 0 } }))

/-- Eye scans and management frames of a lane. -/
def Obligations.EyeScansAndFrames : Prop :=
  (∀ (e : Entry) (b : Buf) (l eyes d vstep freeze : Nat),
    accepts (.laneEyeScan e b l eyes d vstep freeze) e ⟨0x0301, 2, false, false, []⟩ 0
      (fun s => l ≤ 511 ∧ eyes ≤ 3 ∧ 16 ≤ d ∧ d ≤ 32 ∧ 1 ≤ vstep ∧ vstep ≤ 4 ∧ freeze ≤ 1 ∧ 4 * eyePoints eyes ≤ b.len ∧
        s.bufWrite b (4 * eyePoints eyes) = true ∧ (s.lane l).rxOn = true ∧ (s.lane l).test.scan = none ∧ s.scans < 64)
      (fun c s t => t.lane l = { s.lane l with test := { (s.lane l).test with
          scan := some (b, eyes, d, vstep, freeze, c)
          scanWait := s.cur .laneRxAdapt l == 2
          scanEnd := false } } ∧ s.otherLanes t l)) ∧
  (∀ (l : Fin 512) (b : Buf) (eyes d v f : Nat) (c : CmdRef) (counts : List Nat) (s : State),
    (s.lane l).test.scan = some (b, eyes, d, v, f, c) → (s.lane l).test.scanWait = false → (s.lane l).test.scanEnd = false →
    counts.length = eyePoints eyes → s.host.linkUp = true → s.bufWrite b (4 * eyePoints eyes) = true → 16 ≤ c.ring →
    ∃ t, exec (.eyeScanDone l counts) s = .next t ∧ (t.lane l).test.scan = none ∧ s.otherLanes t l ∧
      Table.getRun 0 t.host.mem b.addr (4 * eyePoints eyes) = counts.flatMap eyeEntry) ∧
  (∀ (e : Entry) (b : Buf) (l ch : Nat) (frame : List Byte),
    completes (.laneMgmtSend e b l ch frame) e ⟨0x0302, 2, false, false, []⟩ 1
      (fun s => 1 ≤ b.len ∧ b.len ≤ 4096 ∧ l ≤ 511 ∧ ch ≤ 1 ∧ (ch = 1 → s.cur .laneMode l = 0) ∧ s.bufRead b b.len = true ∧
        (if ch = 0 then (s.lane l).mgmtTx.1 else (s.lane l).mgmtTx.2).length < 16)
      (fun _ => 0)
      (fun s t => (ch = 0 → (t.lane l).mgmtTx = ((s.lane l).mgmtTx.1 ++ [frame.take b.len], (s.lane l).mgmtTx.2)) ∧
        (ch = 1 → (t.lane l).mgmtTx = ((s.lane l).mgmtTx.1, (s.lane l).mgmtTx.2 ++ [frame.take b.len])) ∧ s.otherLanes t l)) ∧
  (∀ (e : Entry) (b : Buf) (l ch : Nat) (f : List Byte) (r : List (List Byte)),
    completes (.laneMgmtRecv e b l ch) e ⟨0x0303, 2, false, false, []⟩ 0
      (fun s => l ≤ 511 ∧ ch ≤ 1 ∧ (ch = 1 → s.cur .laneMode l = 0) ∧ 1 ≤ b.len ∧ f.length ≤ b.len ∧
        (if ch = 0 then (s.lane l).mgmtRx.1 else (s.lane l).mgmtRx.2) = f :: r ∧ s.bufWrite b f.length = true)
      (fun _ => f.length)
      (fun s t => (if ch = 0 then (t.lane l).mgmtRx.1 else (t.lane l).mgmtRx.2) = r ∧ s.otherLanes t l ∧
        (16 ≤ e.ring → Table.getRun 0 t.host.mem b.addr f.length = f))) ∧
  (∀ (e : Entry) (b : Buf) (l ch : Nat),
    completes (.laneMgmtRecv e b l ch) e ⟨0x0303, 2, false, false, []⟩ 0
      (fun s => l ≤ 511 ∧ ch ≤ 1 ∧ (ch = 1 → s.cur .laneMode l = 0) ∧ 1 ≤ b.len ∧
        (if ch = 0 then (s.lane l).mgmtRx.1 else (s.lane l).mgmtRx.2) = [])
      (fun _ => 0)
      (fun s t => s.quiet t))

/-! ### Tributaries -/

/-- TRIB.CREATE, TRIB.DELETE, TRIB.REALIGN. -/
def Obligations.TributaryCommands : Prop :=
  (∀ (e : Entry) (b : Buf) (grains : List Nat) (k l mode : Nat),
    completes (.tribCreate e b grains k l grains.length mode) e ⟨0x0401, 2, false, false, []⟩ 1
      (fun s => grains ≠ [] ∧ grains.length ≤ 4096 ∧ 2 * grains.length ≤ b.len ∧ k ≤ 65535 ∧ l ≤ 511 ∧ mode ≤ 1 ∧
        (∀ g ∈ grains, g < s.grainsOf l) ∧ (sortGrains grains).length = grains.length ∧
        s.bufRead b (2 * grains.length) = true ∧
        (∀ d ∈ (if mode = 0 then List.range 8 else [l / 64]), s.domain (4 + d) = 0) ∧ (s.trib k).on = false ∧
        (∀ g ∈ sortGrains grains, s.memberOf (l * 4096 + g) = none) ∧ (∀ m ∈ s.prot.merges, m.high ≠ l) ∧
        (mode = 1 → s.cur .laneClocking l ≠ 1) ∧ (mode = 0 → s.poolUsed + grains.length ≤ 524288))
      (fun _ => 0)
      (fun s t => (t.trib k).on = true ∧ (t.trib k).lane = l ∧ (t.trib k).grains = sortGrains grains ∧
        ((t.trib k).retimed = true ↔ mode = 0) ∧ (mode = 0 → (t.trib k).level = 24 ∧ (t.trib k).centring = 1 ∧ (t.trib k).ndf = true) ∧
        (s.tribsDown l = true → (t.trib k).tais = true) ∧
        ∀ j, j ≠ k → (s.trib j).lane ≠ l → t.trib j = s.trib j)) ∧
  (∀ (e : Entry) (k : Nat),
    completes (.tribDelete e k) e ⟨0x0402, 2, false, false, []⟩ 1
      (fun s => k ≤ 65535 ∧ (s.trib k).on = true ∧ s.sw.bank0.namesTrib (s.trib k) = false ∧
        s.sw.bank1.namesTrib (s.trib k) = false)
      (fun _ => 0)
      (fun s t => t.trib k = {} ∧ s.otherTribs t k)) ∧
  (∀ (e : Entry) (k : Nat),
    completes (.tribRealign e k) e ⟨0x0403, 2, false, true, []⟩ 1
      (fun s => k ≤ 65535 ∧ (s.trib k).on = true ∧ (s.trib k).retimed = true ∧ s.dev.role = .follower ∧ (s.trib k).tdiv = true)
      (fun _ => 0)
      (fun s t => t.trib k = { s.trib k with centring := match (s.trib k).holderAt with
          | some d => ((s.trib k).toStart + d) % 511 + 2
          | none => 1 } ∧ s.otherTribs t k))

/-- The pointer generator samples at row 16 of a PMF: below 22 units it announces a positive justification, above 26 a negative
one. The holder's decisions and lockstep frames act on a follower. -/
def Obligations.PointersAndLockstep : Prop :=
  (∀ (k : Nat) (s : State), (s.trib k).on = true → (s.trib k).retimed = true → s.clk.rsn.toNat % 32 = 16 →
    s.disputed k = false → (s.trib k).ndf = false →
    pmfFree (s.trib k).txNext ((s.clk.rsn.toNat / 32 + 1) % 2 ^ 43) = true →
    ∃ t, exec (.pointerSample k) s = .next t ∧ s.otherTribs t k ∧ t.trib k = { s.trib k with
      sample := min 48 (s.trib k).level
      txAnn := if (s.trib k).level < 22 then 1 else if 26 < (s.trib k).level then 2 else 0
      centred := false }) ∧
  (∀ (pmf : Nat) (d : PtrDecision) (s : State), s.dev.role = .follower → s.pair.linkUp = true →
    rsnLe s.clk.rsn (BitVec.ofNat 48 (32 * pmf) - 4) = true → (s.trib d.trib).on = true → (s.trib d.trib).retimed = true →
    exec (.lockstepDecision pmf [d]) s =
      .next (s.setTrib d.trib { s.trib d.trib with decision := some (pmf, d.code % 4, d.toStart) })) ∧
  (∀ (gen k cmd : Nat) (sel tgt : Bool) (s : State), s.dev.role = .follower → s.pair.linkUp = true →
    ∃ t, exec (.lockstepComparison ⟨gen, [], [(k, sel, cmd, tgt)]⟩) s = .next t ∧
      ((s.group k).sel = sel → (s.group k).cmd = cmd → (cmd = 3 → (s.group k).target = tgt) →
        (t.group k).psdiv = false ∧ (t.group k).divRun = 0) ∧
      ((s.group k).sel ≠ sel → (s.group k).divRun = 0 → (t.group k).psdiv = (s.group k).psdiv ∧ (t.group k).divRun = 1) ∧
      ((s.group k).sel ≠ sel → 1 ≤ (s.group k).divRun → (t.group k).psdiv = true)) ∧
  (∀ (gen k ptr dist : Nat) (s : State), s.dev.role = .follower → s.pair.linkUp = true → (s.trib k).on = true →
    (s.trib k).retimed = true →
    ∃ t, exec (.lockstepComparison ⟨gen, [(k, ptr, dist)], []⟩) s = .next t ∧ s.otherTribs t k ∧
      ((s.trib k).txPtr = ptr → (s.trib k).startAt = dist → (t.trib k).tdiv = false) ∧
      (∀ apart, (s.trib k).txPtr ≠ ptr ∨ (s.trib k).startAt ≠ dist → apart = (dist + 511 - (s.trib k).startAt % 511) % 511 →
        (t.trib k).tdiv = true ∧ (t.trib k).holderAt = some apart ∧
        (s.cur .tribLockstepRealign k = 0 → (t.trib k).centring = ((s.trib k).toStart + apart) % 511 + 2)))

/-- When each integrated defect of a tributary sets and clears, and that TAIS and TLOP hold the others clear. -/
def Obligations.TributaryDefects : Prop :=
  ∀ (k : Nat) (d : TribDefect) (s : State), (s.trib k).on = true →
    ∃ t, exec (.tribDefectIntegration k d) s = .next t ∧ s.otherTribs t k ∧
      (d = .tais → (s.trib k).tais = false → 2 ≤ (s.trib k).runs.ais → t.trib k = (s.trib k).enterTais) ∧
      (d = .tais → (s.trib k).tais = true → (s.trib k).runs.leave = true → s.tribsDown (s.trib k).lane = false →
        (t.trib k).tais = false) ∧
      ((s.trib k).tais = false → (s.trib k).tlop = false →
        (d = .tlop → 8 ≤ (s.trib k).runs.inv → (t.trib k).tlop = true ∧ (t.trib k).tszm = false ∧ (t.trib k).tuneq = false ∧
          (t.trib k).tplm = false ∧ (t.trib k).ttim = false ∧ (t.trib k).tsd = false ∧ (t.trib k).trdi = false) ∧
        (d = .tszm → (s.trib k).tszm = false → 3 ≤ (s.trib k).runs.szBad → (t.trib k).tszm = true) ∧
        (d = .tuneq → (s.trib k).tuneq = false → 5 ≤ (s.trib k).runs.uneq → (t.trib k).tuneq = true) ∧
        (d = .tplm → (s.trib k).tplm = false → 5 ≤ (s.trib k).runs.plmBad → (t.trib k).tplm = true) ∧
        (d = .tsd → (s.trib k).tsd = false → (s.trib k).runs.sdBad = true → (t.trib k).tsd = true) ∧
        (d = .trdi → (s.trib k).trdi = false → 3 ≤ (s.trib k).runs.rdiOn → (t.trib k).trdi = true)) ∧
      (d = .tslip → (s.trib k).tslip = true → 64 ≤ (s.trib k).runs.slipOk → (t.trib k).tslip = false)

/-! ### Observation -/

/-- FACET.CONFIG, FACET_ENABLE, the window of a superframe, and the entries of its output. -/
def Obligations.FacetOutput : Prop :=
  (∀ (e : Entry) (addr log2 vector : Nat),
    completes (.facetConfig e addr log2 vector) e ⟨0x0C01, 2, false, false, []⟩ 1
      (fun s => 4 ≤ log2 ∧ log2 ≤ 16 ∧ vector ≤ 31 ∧ 65 * s.scopeDunes.length + 1 ≤ 2 ^ log2 ∧ addr % 4096 = 0 ∧
        s.writeOk addr (4096 * 2 ^ log2) = true ∧ s.cur .facetEnable 0 ≠ 1)
      (fun _ => 0)
      (fun s t => t.host.fac = { on := true, addr := addr, log2 := log2, vector := vector } ∧ t.host.dmaOn = true ∧
        t.obs = s.obs)) ∧
  (∀ e : Entry,
    completes (.facetEnable e 1) e ⟨0x0202, 0, false, false, []⟩ 1
      (fun s => 2 ≤ s.callerRole e ∧ s.cur .facetEnable 0 = 0 ∧ s.facetRefusal = none)
      (fun _ => 0)
      (fun s t => t.cur .facetEnable 0 = 1 ∧ t.obs.facet = { s.obs.facet with
          first := some (((s.clk.rsn + 1).toNat / 625 + 1) % ((2 ^ 48 + 624) / 625))
          begun := false
          lanes := [] })) ∧
  (∀ e : Entry,
    completes (.facetEnable e 0) e ⟨0x0202, 0, false, false, []⟩ 1
      (fun s => 2 ≤ s.callerRole e ∧ s.cur .facetEnable 0 = 1 ∧ s.par.buffered = [])
      (fun _ => 0)
      (fun s t => t.cur .facetEnable 0 = 0 ∧ t.obs.facet.first = none ∧ t.obs.facet.lanes = [] ∧
        t.obs.facet.out = s.obs.facet.out)) ∧
  (∀ (a : Nat) (s : State), s.clk.rsn.toNat % 625 = 8 → s.obs.facet.first = some a →
    s.obs.facet.begun = true ∨ rsnLe (BitVec.ofNat 48 (625 * a)) (BitVec.ofNat 48 (625 * sfOf (s.clk.rsn - 9))) = true →
    s.cur .facetEnable 0 = 1 →
    s.cur .facetDest 0 = 0 → s.obs.facet.out = none →
    ∃ t, exec .facetWindowOpen s = .next t ∧
      (65 * s.scopeDunes.length + 1 ≤ s.host.fac.room →
        (t.obs.facet.out.map fun o => (o.src.sf, o.src.dunes, o.done)) = some (sfOf (s.clk.rsn - 9), s.scopeDunes, 0) ∧
        t.obs.facet.dropped = false) ∧
      (s.host.fac.room < 65 * s.scopeDunes.length + 1 → t.obs.facet.out = none ∧ t.obs.facet.dropped = true ∧
        t.cnt .facetPmSfDropped 0 = (s.cnt .facetPmSfDropped 0 + 1) % 2 ^ 48)) ∧
  (∀ (o : FacetOut) (s : State), s.obs.facet.out = some o → o.gap = none → s.host.fac.on = true → s.host.linkUp = true →
    s.host.dmaOn = true → 0 < s.host.fac.room → o.done + 1 < o.src.entries →
    ∃ t, exec .facetEntryWrite s = .next t ∧ t.obs.facet.out = some { o with done := o.done + 1 } ∧
      t.host.fac = s.host.fac.advance ∧
      Table.getRun 0 t.host.mem (s.host.fac.addr + 4096 * s.host.fac.next) 4096 = o.src.entry s.host.fac.seq o.done)

/-- CUT_ENABLE and the row from which it takes effect, CUT.READ_SAT, LOUPE.LIST. -/
def Obligations.CutStagesAndLists : Prop :=
  (∀ (e : Entry) (d : Nat),
    accepts (.cutEnable e d 1) e ⟨0x0202, 0, false, false, []⟩ 1
      (fun s => d ≤ 63 ∧ 2 ≤ s.callerRole e ∧ s.cur .cutEnable d = 0 ∧ s.cutRefusal d = none)
      (fun c s t => t.cur .cutEnable d = 1 ∧ t.cut d = { s.cut d with pend := (s.cut d).pend ++ [(s.clk.rsn + 2, true)] } ∧
        t.prot.waits = s.prot.waits ++ [(s.clk.rsn + 2, c, 0)])) ∧
  (∀ (e : Entry) (d : Nat),
    accepts (.cutEnable e d 0) e ⟨0x0202, 0, false, false, []⟩ 1
      (fun s => d ≤ 63 ∧ 2 ≤ s.callerRole e ∧ s.cur .cutEnable d = 1 ∧ s.par.buffered = [])
      (fun c s t => t.cur .cutEnable d = 0 ∧ t.cut d = { s.cut d with pend := (s.cut d).pend ++ [(s.clk.rsn + 2, false)] } ∧
        t.prot.waits = s.prot.waits ++ [(s.clk.rsn + 2, c, 0)])) ∧
  (∀ (d : Fin 64) (r : Rsn) (v : Bool) (rest : List (Rsn × Bool)) (s : State), (s.cut d).pend = (r, v) :: rest →
    rsnLe r s.clk.rsn = true → (∀ x ∈ rest, rsnLe x.1 s.clk.rsn = false) →
    ∃ t, exec (.cutEnableEffect d) s = .next t ∧ t.cut d = { s.cut d with
      on := v
      pend := rest } ∧ ∀ k, k ≠ d.val → t.cut k = s.cut k) ∧
  (∀ (e : Entry) (b : Buf) (first count d : Nat),
    completes (.cutReadSat e b first count d) e ⟨0x0D02, 1, false, false, []⟩ 0
      (fun s => 1 ≤ count ∧ d ≤ 63 ∧ first + count ≤ 8192 ∧ 2 * count ≤ b.len ∧ s.bufWrite b (2 * count) = true)
      (fun _ => count)
      (fun s t => s.quiet t ∧ (16 ≤ e.ring → Table.getRun 0 t.host.mem b.addr (2 * count) =
        (List.range count).flatMap fun i => leBytes 2 (Table.get 0 (s.cut d).satLast (first + i))))) ∧
  (∀ (e : Entry) (b : Buf) (l : Nat),
    completes (.loupeList e b l) e ⟨0x0B02, 1, false, false, []⟩ 0
      (fun s => 1 ≤ b.len ∧ b.len % 16 = 0 ∧ l ≤ 511 ∧ s.bufWrite b b.len = true)
      (fun s => ((List.range (s.grainsOf l)).filterMap (s.listEntry l)).length)
      (fun s t => s.quiet t ∧ (16 ≤ e.ring → ∀ k x, ((List.range (s.grainsOf l)).filterMap (s.listEntry l))[k]? = some x →
        16 * k < b.len → Table.getRun 0 t.host.mem (b.addr + 16 * k) 16 = x)))

/-! ### The map -/

/-- MAP.STAGE, CUT.STAGE and LOUPE.MIRROR of a delta that passes the checks of its command, alone and in a pair: it stands staged in
full, owned by its session; the active maps stay. -/
def Obligations.DeltaStaged : Prop :=
  (∀ (e : Entry) (b : Buf) (table : List (BitVec 128)),
    stages (.mapStage e b table.length table) e ⟨0x0501, 2, true, false, []⟩ 1
      (fun s => table ≠ [] ∧ table.length ≤ 65536 ∧ 16 * table.length ≤ b.len ∧ s.bufRead b (16 * table.length) = true ∧
        (s.com.hasDelta = true → s.com.owner = 0 ∨ s.com.owner = e.session) ∧
        s.deltaChecks s.afterReplay.shadow.conns s.afterReplay.shadow.cuts (table.map DeltaEntry.ofWord) [] (.noop true) =
          .noop true ∧
        s.stagingOpen = true)
      (fun s => (s.stageDelta e.session (table.map DeltaEntry.ofWord) []).2)
      (fun s t => t.com.hasDelta = true ∧ t.com.owner = (if s.com.owner = 0 then e.session else s.com.owner) ∧
        t.com.staged = (s.com.staged.filter fun x => !(table.map fun w => (DeltaEntry.ofWord w).key).contains x.key) ++
          table.map DeltaEntry.ofWord ∧
        t.com.stagedCut = s.com.stagedCut ∧ t.com.gen = s.com.gen ∧ t.egrB = s.egrB ∧
        t.shadow = (s.stageDelta e.session (table.map DeltaEntry.ofWord) []).1.shadow)) ∧
  (∀ (e : Entry) (b : Buf) (dune : Nat) (table : List (BitVec 64)),
    stages (.cutStage e b table.length dune table) e ⟨0x0D01, 2, true, false, []⟩ 1
      (fun s => table ≠ [] ∧ table.length ≤ 65536 ∧ 8 * table.length ≤ b.len ∧ s.bufRead b (8 * table.length) = true ∧ dune ≤ 63 ∧
        (∀ x ∈ table.map CutDelta.ofWord, s.cutRange x = false ∧ CutDelta.fieldBad x = false ∧ s.domain (4 + dune / 8) = 0 ∧
          (x.op = 1 → s.sourceBad x.src = false ∧ s.stripeDown (x.src / 4096) = false)) ∧
        (table.map fun x => (CutDelta.ofWord x).input).Nodup ∧
        routeFull (deliveries s.afterReplay.shadow.conns
          ((table.map fun x => (dune, CutDelta.ofWord x)).foldl applyCut s.afterReplay.shadow.cuts)) = false ∧
        (s.com.hasDelta = true → s.com.owner = 0 ∨ s.com.owner = e.session) ∧ s.stagingOpen = true)
      (fun s => (s.stageDelta e.session [] (table.map fun x => (dune, CutDelta.ofWord x))).2)
      (fun s t => t.com.hasDelta = true ∧ t.com.owner = (if s.com.owner = 0 then e.session else s.com.owner) ∧
        t.com.stagedCut = (s.com.stagedCut.filter fun x =>
          !(table.map fun y => (dune, (CutDelta.ofWord y).input)).contains (x.1, x.2.input)) ++
            table.map (fun x => (dune, CutDelta.ofWord x)) ∧
        t.com.staged = s.com.staged ∧ t.com.gen = s.com.gen ∧ t.egrB = s.egrB)) ∧
  (∀ (e : Entry) (obsLane obsGrain lane grain : Nat) (x : Conn),
    stages (.loupeMirror e obsLane obsGrain lane grain) e ⟨0x0B01, 2, true, false, []⟩ 1
      (fun s => obsLane ≤ 511 ∧ lane ≤ 511 ∧ obsGrain < s.grainsOf obsLane ∧ grain < s.grainsOf lane ∧
        s.cur .laneLoupe lane ≠ 0 ∧ s.observedConn (obsLane * 4096 + obsGrain) = some x ∧
        s.deltaChecks s.afterReplay.shadow.conns s.afterReplay.shadow.cuts [connectOf (lane * 4096 + grain) x] [] (.noop true) =
          .noop true ∧
        (s.com.hasDelta = true → s.com.owner = 0 ∨ s.com.owner = e.session) ∧ s.stagingOpen = true)
      (fun s => entering (deliveries (s.stageDelta e.session [connectOf (lane * 4096 + grain) x] []).1.shadow.conns
        (s.stageDelta e.session [connectOf (lane * 4096 + grain) x] []).1.shadow.cuts) (lane / 8))
      (fun s t => t.com.hasDelta = true ∧ connectOf (lane * 4096 + grain) x ∈ t.com.staged ∧ t.com.gen = s.com.gen ∧
        t.egrB = s.egrB))

/-- MAP.PROBE, MAP.READ, MAP.DISCARD: the counts in the buffer, map entries in the buffer; nothing staged, the shadow bank as
the active one. -/
def Obligations.MapProbedReadDiscarded : Prop :=
  (∀ (e : Entry) (b out : Buf) (table : List (BitVec 128)) (es : List DeltaEntry), es = table.map DeltaEntry.ofWord →
    completes (.mapProbe e b table.length table out) e ⟨0x0502, 1, true, false, []⟩ 0
      (fun s => table ≠ [] ∧ table.length ≤ 65536 ∧ 16 * table.length ≤ b.len ∧ s.bufRead b (16 * table.length) = true ∧
        512 ≤ out.len ∧ s.bufWrite out 512 = true ∧ s.journalRoom 1 = true ∧
        s.deltaChecks s.afterReplay.shadow.conns s.afterReplay.shadow.cuts es [] (.noop true) = .noop true ∧
        s.stagingOpen = true)
      (fun s => dunesChanged (deliveries s.afterReplay.shadow.conns s.afterReplay.shadow.cuts)
        (deliveries (es.foldl applyEntry s.afterReplay.shadow.conns) s.afterReplay.shadow.cuts))
      (fun s t => s.quiet t ∧ (16 ≤ e.ring → Table.getRun 0 t.host.mem out.addr 512 = probeBytes
        (deliveries (es.foldl applyEntry s.afterReplay.shadow.conns) s.afterReplay.shadow.cuts)))) ∧
  (∀ (e : Entry) (b : Buf) (first count bank map dune : Nat),
    completes (.mapRead e b first count bank map dune) e ⟨0x0504, 1, false, false, []⟩ 0
      (fun s => count ≠ 0 ∧ bank ≤ 1 ∧ map ≤ 3 ∧ dune ≤ 63 ∧ first + count ≤ mapEntries map ∧
        mapEntryBytes map * count ≤ b.len ∧ s.bufWrite b (mapEntryBytes map * count) = true)
      (fun _ => 0)
      (fun s t => s.quiet t ∧ (16 ≤ e.ring → ∀ k, k < count →
        Table.getRun 0 t.host.mem (b.addr + mapEntryBytes map * k) (mapEntryBytes map) =
          leBytes (mapEntryBytes map) ((if bank = 0 then s.egrB else s.shadow).entry map dune (first + k)).toNat))) ∧
  (∀ e : Entry,
    completes (.mapDiscard e) e ⟨0x0503, 2, false, false, []⟩ 1
      (fun s => s.com.hasDelta = true ∧ (s.com.owner = 0 ∨ s.com.owner = e.session) ∧ s.dev.role ≠ .follower ∧
        s.commitPending = false)
      (fun _ => 0)
      (fun s t => t.com.hasDelta = false ∧ t.com.staged = [] ∧ t.com.stagedCut = [] ∧ t.com.owner = 0 ∧ t.shadow = s.egrB ∧
        t.egrB = s.egrB ∧ t.com.gen = s.com.gen))

/-- The follower's staging port, the scrub of the shadow bank, and the repairs of map entries. -/
def Obligations.MapEntriesRepaired : Prop :=
  (∀ (m : StageMsg) (s : State), s.dev.role = .follower → s.pair.linkUp = true →
    ∃ t, exec (.stageRecords m false) s = .next t ∧ t.com.recs = m.recs ∧ t.com.hasDelta = true ∧
      t.com.staged = (s.com.staged.filter fun x => !(m.entries.map DeltaEntry.key).contains x.key) ++ m.entries ∧
      t.com.moves = s.com.moves ++ m.moves ∧ t.egrB = s.egrB ∧ t.com.gen = s.com.gen) ∧
  (∀ (m : StageMsg) (s : State), s.dev.role = .follower → s.pair.linkUp = true →
    ∃ t, exec (.stageRecords m true) s = .next t ∧ t.com.recs = [] ∧ t.com.hasDelta = false ∧ t.com.staged = [] ∧
      t.com.stagedCut = [] ∧ t.shadow = s.egrB ∧ t.egrB = s.egrB ∧ t.com.gen = s.com.gen) ∧
  (∀ (new : List (Nat × Nat × Nat)) (s : State), s.elapsed s.com.scrubTick (64 * 64) = true →
    new = s.com.shadowBad.filter (fun x => !s.com.shadowFound.contains x) →
    ∃ t, exec .shadowScrub s = .next t ∧ t.com = { s.com with
        shadowSoft := []
        scrubTick := s.clk.tick
        shadowEcc := s.com.shadowEcc || !new.isEmpty
        shadowFound := s.com.shadowFound ++ new } ∧
      t.cnt .mapPmShadowEcc 0 = (s.cnt .mapPmShadowEcc 0 + new.length) % 2 ^ 48) ∧
  (∀ s : State, s.com.shadowEcc = true → s.dev.jcc = .running →
    exec .shadowRewrite s = .next { s with com := { s.com with
      shadowEcc := false
      shadowBad := s.com.shadowBad.filter fun x => !s.com.shadowFound.contains x
      shadowFound := [] } }) ∧
  (∀ (map : Fin 4) (dune : Fin 64) (index : Nat) (s : State), s.shadowClean map.val dune.val index = true →
    ∃ t, exec (.mapShadowRepair map dune index) s = .next t ∧
      t.flt.mapBad = s.flt.mapBad.filter (fun x => x != (map.val, dune.val, index)) ∧ t.sw = s.sw ∧ t.com = s.com) ∧
  (∀ (map : Fin 4) (dune : Fin 64) (index : Nat) (s : State), s.dev.jcc = .running →
    ∃ t, exec (.mapDatabaseRepair map dune index) s = .next t ∧
      t.flt.mapBad = s.flt.mapBad.filter (fun x => x != (map.val, dune.val, index)) ∧ t.sw = s.sw ∧ t.com = s.com)

/-! ### Commits -/

/-- COMMIT.NOW, COMMIT.AT, COMMIT.CANCEL: a commit waits for its row, with its generation unchanged; none waits, the delta
still staged. -/
def Obligations.CommitsAccepted : Prop :=
  (∀ e : Entry,
    accepts (.commitNow e) e ⟨0x0601, 2, false, false, []⟩ 1
      (fun s => (s.com.hasDelta = true → s.com.owner = 0 ∨ s.com.owner = e.session) ∧
        s.instBroken s.afterReplay.shadow.conns = false ∧ s.instIncomplete s.afterReplay.shadow.conns = false ∧
        s.commitModeBad = false ∧ s.commitPending = false ∧ s.dev.role ≠ .follower ∧ (s.paired = true → s.pair.linkUp = true))
      (fun c s t => t.com = { s.com with pend := some {
          c := s.earliestCommit
          accepted := s.clk.rsn
          armed := false
          ready := false
          handshake := s.paired
          proposed := false
          refused := none
          switched := false
          ref := some c } } ∧ t.sw = s.sw)) ∧
  (∀ (e : Entry) (r : Rsn),
    accepts (.commitAt e r.toNat) e ⟨0x0602, 2, false, false, []⟩ 1
      (fun s => ((r - s.clk.rsn).toNat < 2 ^ 31 ∨ 2 ^ 47 ≤ (r - s.clk.rsn).toNat) ∧ rsnLe s.earliestCommit r = true ∧
        (s.com.hasDelta = true → s.com.owner = 0 ∨ s.com.owner = e.session) ∧
        s.instBroken s.afterReplay.shadow.conns = false ∧ s.instIncomplete s.afterReplay.shadow.conns = false ∧
        s.commitModeBad = false ∧ s.commitPending = false ∧ s.dev.role ≠ .follower ∧ (s.paired = true → s.pair.linkUp = true))
      (fun c s t => t.com = { s.com with pend := some {
          c := r
          accepted := if s.paired then r - 6 else s.clk.rsn
          armed := false
          ready := false
          handshake := s.paired
          proposed := false
          refused := none
          switched := false
          ref := some c } } ∧ t.sw = s.sw)) ∧
  (∀ (e : Entry) (p : PendCommit),
    accepts (.commitCancel e) e ⟨0x0603, 2, false, true, []⟩ 1
      (fun s => s.com.pend = some p ∧ p.armed = false ∧ s.dev.role ≠ .follower ∧
        (s.com.hasDelta = true → s.com.owner = 0 ∨ s.com.owner = e.session))
      (fun _ s t => t.com.pend = none ∧ t.com.staged = s.com.staged ∧ t.com.hasDelta = s.com.hasDelta ∧ t.com.gen = s.com.gen ∧
        t.sw = s.sw))

/-- A commit at row c arms at the boundary of c − 2, switches the ingress side at c − 1 and the egress side at c, where the
generation steps; the replay brings the shadow bank to the active one. One that finds SHADOW_ECC, or writes that would be late, at its
arming aborts. -/
def Obligations.CommitSwitchesBanks : Prop :=
  (∀ (p : PendCommit) (s : State), s.com.pend = some p → p.armed = false → p.c = s.clk.rsn + 2 → p.handshake = false →
    p.catchUp = false → p.copyGen = none → p.caravan = false →
    ∃ t, exec .commitArming s = .next t ∧ t.sw = s.sw ∧
      (s.com.shadowEcc = false → s.writesLate s.com.recs p.c = false → t.com = { s.com with pend := some { p with armed := true } }) ∧
      (s.com.shadowEcc = true ∨ s.writesLate s.com.recs p.c = true →
        t.com.pend = none ∧ t.com.staged = s.com.staged ∧ t.com.gen = s.com.gen)) ∧
  (∀ (p : PendCommit) (s : State), s.com.pend = some p → p.armed = true → p.switched = false → p.c = s.clk.rsn + 1 →
    ∃ t, exec .commitIngressSwitch s = .next t ∧ t.sw.ingBank = (!s.sw.ingBank) ∧ t.sw.egrBank = s.sw.egrBank ∧ t.egrB = s.egrB ∧
      t.com.pend = some { p with switched := true } ∧ t.com.gen = s.com.gen ∧ t.com.replaying = false ∧
      (s.com.replaying = false → t.shadow = s.shadow)) ∧
  (∀ (p : PendCommit) (s : State), s.com.pend = some p → p.armed = true → p.switched = true → p.c = s.clk.rsn →
    p.caravan = false → p.catchUp = false → p.copyGen = none →
    ∃ t, exec .commitEgressSwitch s = .next t ∧ t.com.gen = (if s.com.gen = 2 ^ 32 - 1 then 1 else s.com.gen + 1) ∧
      t.com.pend = none ∧ t.com.staged = [] ∧ t.com.hasDelta = false ∧ t.com.lastC = p.c ∧ t.com.replaying = true ∧
      t.egrB = s.shadow ∧ t.shadow = s.egrB ∧ t.sw.ingBank = s.sw.ingBank) ∧
  (∀ s : State, s.com.replaying = true →
    ∃ t, exec .commitReplayDone s = .next t ∧ t.com = { s.com with replaying := false } ∧ t.egrB = s.egrB ∧ t.shadow = s.egrB) ∧
  (∀ (p : PendCommit) (s : State), s.com.pend = some p → p.armed = true → p.switched = true → p.c = s.clk.rsn →
    p.catchUp = true →
    ∃ t, exec .catchUpCommit s = .next t ∧ t.com.gen = (if s.com.gen = 2 ^ 32 - 1 then 1 else s.com.gen + 1) ∧
      t.com.lag = none ∧ t.com.pend = none ∧ t.egrB = s.shadow)

/-- The handshake of a pair: PROPOSE is answered with READY or with the reason of a REFUSE; READY and REFUSE reach the pending
commit; ARM arms the follower, ABORT takes its READY back. -/
def Obligations.CommitHandshake : Prop :=
  (∀ (m : ProposeMsg) (s : State), s.dev.role = .follower → s.pair.linkUp = true →
    (s.proposeAnswer m = none → exec (.propose m) s = .next { s with
      com := { s.com with
        readySent := some m.rsn
        readyRef := some ⟨255, 2, m.session, m.role, m.cmdId, m.code⟩ }
      pair := { s.pair with out := s.pair.out ++ [.ready m.generation] } }) ∧
    (∀ d, s.proposeAnswer m = some d → exec (.propose m) s = .next { s with
      pair := { s.pair with out := s.pair.out ++ [.refuse d] } })) ∧
  (∀ (p : PendCommit) (s : State), s.com.pend = some p → p.handshake = true → p.proposed = true → p.armed = false →
    exec .ready s = .next { s with com := { s.com with pend := some { p with ready := true } } }) ∧
  (∀ (p : PendCommit) (reason : Nat) (s : State), s.com.pend = some p → p.handshake = true → p.proposed = true → p.armed = false →
    exec (.refuse reason) s = .next { s with com := { s.com with pend := some { p with
      refused := some reason
      ready := false } } }) ∧
  (∀ (c : Rsn) (s : State), s.com.readySent = some c → s.dev.role = .follower → rsnLe s.clk.rsn (c - 2) = true →
    s.com.pend = none →
    exec .arm s = .next { s with com := { s.com with
      readySent := none
      pend := some {
        c := c
        accepted := s.clk.rsn
        armed := true
        ready := false
        handshake := false
        proposed := false
        refused := none
        switched := false
        ref := s.com.readyRef } } }) ∧
  (∀ s : State, exec .abort s = .next { s with com := { s.com with readySent := none } })

/-- CARAVAN.LOAD, alone and with a joined follower, for whose store its completion waits; the follower's store; CARAVAN.START and STOP;
an entry's commit, and the end of a timetable that runs once; the peer's abort. -/
def Obligations.CaravanTimetable : Prop :=
  (∀ (e : Entry) (tt blk : Buf) (loopRows : Nat) (table : List (BitVec 128)) (ds : List (List (BitVec 128))),
    completes (.caravanLoad e tt blk table.length ds.length loopRows table ds) e ⟨0x0701, 2, true, false, []⟩ 1
      (fun s => s.loadable tt blk loopRows table ds ∧ s.paired = false)
      (fun _ => 0)
      (fun s t => s.loaded t loopRows table ds)) ∧
  (∀ (e : Entry) (tt blk : Buf) (loopRows : Nat) (table : List (BitVec 128)) (ds : List (List (BitVec 128))),
    accepts (.caravanLoad e tt blk table.length ds.length loopRows table ds) e ⟨0x0701, 2, true, false, []⟩ 1
      (fun s => s.loadable tt blk loopRows table ds ∧ s.paired = true)
      (fun c s t => s.loaded t loopRows table ds ∧ t.com.loadWaits = s.com.loadWaits ++ [c] ∧
        t.pair.out = s.pair.out ++ [.store t.com.car.entries loopRows s.com.gen])) ∧
  (∀ (loopRows base : Nat) (table : List TimetableEntry) (blocks : List BlockRecs) (s : State),
    s.dev.role = .follower → s.pair.linkUp = true →
    ∃ t, exec (.caravanStoreCopy table blocks loopRows base) s = .next t ∧ t.com.car.base = base ∧ t.com.car.loopRows = loopRows ∧
      t.com.car.entries = List.zipWith (fun x y => ⟨x.rsn, x.block, y.recs, y.moves⟩) table blocks ∧ t.com.car.next = 0 ∧
      t.com.car.pass = 0 ∧ t.sw = s.sw) ∧
  (∀ (e : Entry) (r : Rsn),
    accepts (.caravanStart e r.toNat) e ⟨0x0702, 2, false, false, []⟩ 1
      (fun s => s.dev.role ≠ .follower ∧ s.modePending = false ∧ s.powerBusy = false ∧ s.dev.mode = .transport ∧
        s.startBad r = false)
      (fun c s t => t.dev = { s.dev with pend := some ⟨.caravan, r, some c⟩ } ∧
        t.com.car = { s.com.car with
          start := some r
          next := 0
          pass := 0
          stop := none
          startRef := none
          stopRef := none } ∧
        (s.paired = true → t.pair.out = s.pair.out ++
          [.forward ⟨c.session, c.role, c.cmdId, c.code, r⟩ (.caravanStart r)]))) ∧
  (∀ e : Entry,
    accepts (.caravanStop e) e ⟨0x0703, 2, false, true, []⟩ 1
      (fun s => s.dev.role ≠ .follower ∧ s.modePending = false ∧ s.powerBusy = false ∧ s.dev.mode = .caravan)
      (fun c s t => (t.dev.pend.map fun p => (p.target, p.due, p.ref)) = some (.transport, s.clk.rsn + 2, some c) ∧
        t.com.car = { s.com.car with stop := some (s.clk.rsn + 2) } ∧
        (s.paired = true → t.pair.out = s.pair.out ++
          [.forward ⟨c.session, c.role, c.cmdId, c.code, s.clk.rsn + 2⟩ (.caravanStop (s.clk.rsn + 2))]))) ∧
  (∀ (p : PendCommit) (s : State), s.com.pend = some p → p.armed = true → p.switched = true → p.c = s.clk.rsn →
    p.caravan = true →
    ∃ t, exec .caravanEntryCommit s = .next t ∧ t.com.gen = (if s.com.gen = 2 ^ 32 - 1 then 1 else s.com.gen + 1) ∧
      t.com.pend = none ∧ t.egrB = s.shadow ∧
      (s.com.car.start.isSome = true → s.com.car.loopRows = 0 → s.com.car.entries.length ≤ s.com.car.next →
        s.dev.mode = .caravan → t.dev.mode = .transport ∧ t.com.car.start = none) ∧
      (s.com.car.loopRows ≠ 0 → t.dev = s.dev)) ∧
  (∀ (a : Rsn) (s : State), s.dev.mode = .caravan → s.com.car.start = some a →
    ∃ t, exec .caravanAbort s = .next t ∧ t.dev.toTransport = some (s.clk.rsn + 1) ∧ t.dev.mode = .caravan ∧
      t.com.car.start = none ∧ t.com.car.entries = s.com.car.entries ∧ t.sw = s.sw)

/-! ### Protection -/

/-- The four PROT commands: each named group holds the command for the next boundary, or the one after on both units of a pair;
the completion waits one row more, and RESULT is the number of groups. -/
def Obligations.ProtectionCommands : Prop :=
  (∀ (e : Entry) (b : Buf) (gs : List Nat),
    accepts (.protLockout e b gs.length gs) e ⟨0x0801, 2, false, true, []⟩ 1
      (fun s => s.protOpen b gs)
      (fun c s t => s.protEntered t c 1 false gs)) ∧
  (∀ (e : Entry) (b : Buf) (gs : List Nat),
    accepts (.protForce e b gs.length gs) e ⟨0x0802, 2, false, true, []⟩ 1
      (fun s => s.protOpen b gs ∧ ∀ k ∈ gs, (s.group k).cmd ≠ 1)
      (fun c s t => s.protEntered t c 2 false gs)) ∧
  (∀ (e : Entry) (b : Buf) (gs : List Nat) (target : Fin 2),
    accepts (.protManual e b gs.length target.val gs) e ⟨0x0803, 2, false, true, []⟩ 1
      (fun s => s.protOpen b gs ∧ ∀ k ∈ gs, (s.group k).req ≤ 7)
      (fun c s t => s.protEntered t c 3 (target.val == 1) gs)) ∧
  (∀ (e : Entry) (b : Buf) (gs : List Nat),
    accepts (.protClear e b gs.length gs) e ⟨0x0804, 2, false, true, []⟩ 1
      (fun s => s.protOpen b gs)
      (fun c s t => s.protEntered t c 4 false gs))

/-- The timers and defects of a selector group, and the APS message that a holder forwards. A group without a connection has no
WTR timer to expire. -/
def Obligations.ProtectionTimers : Prop :=
  (∀ (k : Nat) (i : Fin 4) (b : Rsn) (s : State), (s.group k).hold.find? (fun x => x.1 == i.val) = some (i.val, b) →
    condAt (s.group k).cond i = true → rsnLe (b + BitVec.ofNat 48 (s.eff .protHoldoff k)) s.clk.rsn = true →
    ∃ t, exec (.holdoffExpiry k i) s = .next t ∧ condAt (t.group k).eff i = true ∧ (t.group k).sel = (s.group k).sel ∧
      (∀ x ∈ (t.group k).hold, x.1 ≠ i.val) ∧ ∀ j, j ≠ k → t.group j = s.group j) ∧
  (∀ (k n : Nat) (s : State), (s.group k).wtr = some n → s.elapsed n (s.eff .protWtr k * secTicks) = true →
    s.groupConns k ≠ [] →
    ∃ t, exec (.wtrExpiry k) s = .next t ∧ (t.group k).wtr = none ∧ (t.group k).sel = (s.group k).sel ∧
      t.cnt .protPmWtrExpired k = (s.cnt .protPmWtrExpired k + 1) % 2 ^ 48 ∧
      (s.dev.mode.working = true → (s.group k).highReq = 0 → s.flag .protRevertive k = true → s.flag .protDirection k = false →
        (t.group k).loc = 0 ∧ (t.group k).next = false) ∧
      ∀ j, j ≠ k → t.group j = s.group j) ∧
  (∀ (k : Nat) (s : State), s.groupConns k = [] → exec (.wtrExpiry k) s = .next s) ∧
  (∀ (k : Nat) (s : State), ∃ t, exec (.apsDefectIntegration k true) s = .next t ∧
    ((s.group k).psm = false → 16384 ≤ (s.group k).psmRun.1 → t.group k = { s.group k with psm := true }) ∧
    ((s.group k).psm = true → 625 ≤ (s.group k).psmRun.2 ∨ s.flag .protDirection k = false → t.group k = { s.group k with psm := false }) ∧
    ∀ j, j ≠ k → t.group j = s.group j) ∧
  (∀ (k : Nat) (s : State), ∃ t, exec (.apsDefectIntegration k false) s = .next t ∧
    (s.flag .protDirection k = true → (s.group k).apsl = false →
      64 ≤ (s.group k).feAge → 3 * (((s.apsMembers (s.eff .protApsLane k)).length + 1) / 2) ≤ (s.group k).feAge →
      (t.group k).apsl = true ∧ (t.group k).fe = none ∧ (t.group k).sel = (s.group k).sel) ∧
    ((s.group k).apsl = true → (s.group k).feAge = 0 → t.group k = { s.group k with apsl := false }) ∧
    ∀ j, j ≠ k → t.group j = s.group j) ∧
  (∀ (l : Fin 512) (row : Rsn) (bytes : List Byte) (s : State), s.dev.role = .follower → rsnLe (s.clk.rsn + 2) row = true →
    exec (.apsForward l row bytes) s = .next (s.setLane l { s.lane l with
      apsFor := (s.lane l).apsFor.filter (fun a => a.1 != row) ++ [(row, bytes.take 14)] }))

/-- MERGE.CREATE and MERGE.DELETE with the entry rows from which they hold, and the defects of a merge pair. -/
def Obligations.MergePairs : Prop :=
  (∀ (e : Entry) (a b : Nat),
    accepts (.mergeCreate e a b) e ⟨0x0901, 2, false, false, []⟩ 1
      (fun s => a ≤ 511 ∧ b ≤ 511 ∧ a ≠ b ∧ a / 8 = b / 8 ∧ (s.prot.merges.filter fun m => m.low / 8 == a / 8).length < 4 ∧
        s.prot.merges.length < 256 ∧ s.pairOf a = none ∧ s.pairOf b = none ∧ s.cur .laneMode a = s.cur .laneMode b ∧
        s.cur .laneClocking a = s.cur .laneClocking b ∧ s.egrB.sourceLane (max a b) = false ∧
        s.shadow.sourceLane (max a b) = false ∧ (∀ x ∈ s.tribs, x.2.on = true → x.2.lane ≠ max a b) ∧
        s.dev.role ≠ .follower ∧ (s.paired = true → s.pair.linkUp = true))
      (fun c s t =>
        let m : Merge := {
          laneA := a
          laneB := b
          entry := s.clk.rsn + 2
          prev := s.flag .mergePreferred (min a b)
          ref := some c }
        t.prot = { s.prot with merges := insertPair m s.prot.merges })) ∧
  (∀ (e : Entry) (l : Nat) (m : Merge),
    accepts (.mergeDelete e l) e ⟨0x0902, 2, false, false, []⟩ 1
      (fun s => l ≤ 511 ∧ s.pairOf l = some m ∧ m.ending = none ∧ s.dev.role ≠ .follower ∧
        (s.paired = true → s.pair.linkUp = true))
      (fun c s t => t.prot = { s.prot with merges := s.prot.merges.map fun x =>
        if x.low = m.low then { x with
          ending := some (s.clk.rsn + 2)
          refEnd := some c } else x })) ∧
  (∀ (l : Fin 512) (m : Merge) (s : State), s.pairOf l = some m →
    ∃ t, exec (.mergeEntryEffect l) s = .next t ∧
      (m.active = false → rsnLe m.entry s.clk.rsn = true →
        t.prot = { s.prot with merges := s.prot.merges.map fun x => if x.low = m.low then { x with
          active := true
          ref := none } else x }) ∧
      (∀ r, m.active = true → m.ending = some r → rsnLe r s.clk.rsn = true →
        t.prot = { s.prot with merges := s.prot.merges.filter fun x => x.low != m.low })) ∧
  (∀ (l : Fin 512) (m : Merge) (s : State), s.pairOf l = some m →
    (m.mdi = false → 2 ≤ m.runs.1 → exec (.mergeDefectIntegration l .mdi) s =
      .next (s.modPair m.low fun x => { x with mdi := true })) ∧
    (m.mdi = true → 8 ≤ m.runs.2.1 → exec (.mergeDefectIntegration l .mdi) s =
      .next (s.modPair m.low fun x => { x with mdi := false })) ∧
    (m.mdiff = false → m.runs.2.2.1 = 1 → exec (.mergeDefectIntegration l .mdiff) s =
      .next (s.modPair m.low fun x => { x with mdiff := true })) ∧
    (m.mdiff = true → 626 ≤ m.runs.2.2.1 → exec (.mergeDefectIntegration l .mdiff) s =
      .next (s.modPair m.low fun x => { x with mdiff := false })) ∧
    (m.mskw = false → 64 ≤ m.runs.2.2.2.1 → exec (.mergeDefectIntegration l .mskw) s =
      .next (s.modPair m.low fun x => { x with mskw := true })) ∧
    (m.mskw = true → 64 ≤ m.runs.2.2.2.2 → exec (.mergeDefectIntegration l .mskw) s =
      .next (s.modPair m.low fun x => { x with mskw := false })) ∧
    (s.planeWrong m.laneA 0 = true ∨ s.planeWrong m.laneB 1 = true → exec (.mergeDefectIntegration l .mpln) s =
      .next (s.modPair m.low fun x => { x with mpln := true })) ∧
    (m.mpln = true → s.planeWrong m.laneA 0 = false → s.planeWrong m.laneB 1 = false →
      s.planeRight m.laneA 0 = true ∨ s.planeRight m.laneB 1 = true → exec (.mergeDefectIntegration l .mpln) s =
      .next (s.modPair m.low fun x => { x with mpln := false })))

/-! ### Timing -/

/-- The commands of the timing subsystem: those of R287 act at the next boundary; TIMING.STEP is due at a boundary; the seconds of
TIMING.SET_TOD stand at once. -/
def Obligations.TimingCommands : Prop :=
  (∀ (e : Entry) (i : Nat),
    accepts (.timingForce e i) e ⟨0x0A01, 2, false, true, []⟩ 1
      (fun s => i ≤ 23 ∧ s.dev.role ≠ .follower)
      (fun c s t => t.tim = { s.tim with cmdPend := s.tim.cmdPend ++ [(s.clk.rsn + 1, 1, i, 0, c)] })) ∧
  (∀ (e : Entry) (i : Nat),
    accepts (.timingManual e i) e ⟨0x0A02, 2, false, true, []⟩ 1
      (fun s => i ≤ 23 ∧ s.dev.role ≠ .follower ∧ s.eligible i = true)
      (fun c s t => t.tim = { s.tim with cmdPend := s.tim.cmdPend ++ [(s.clk.rsn + 1, 2, i, 0, c)] })) ∧
  (∀ e : Entry,
    accepts (.timingHoldover e) e ⟨0x0A03, 2, false, true, []⟩ 1
      (fun s => s.dev.role ≠ .follower ∧ s.tim.histValid = true)
      (fun c s t => t.tim = { s.tim with cmdPend := s.tim.cmdPend ++ [(s.clk.rsn + 1, 3, 31, 0, c)] })) ∧
  (∀ e : Entry,
    accepts (.timingClear e) e ⟨0x0A04, 2, false, true, []⟩ 1
      (fun s => s.dev.role ≠ .follower)
      (fun c s t => t.tim = { s.tim with cmdPend := s.tim.cmdPend ++ [(s.clk.rsn + 1, 4, 31, 0, c)] })) ∧
  (∀ (e : Entry) (i rank : Nat),
    accepts (.timingSetQl e i rank) e ⟨0x0A05, 2, false, false, []⟩ 1
      (fun s => i ≤ 7 ∧ rank ≤ 15 ∧ s.dev.role ≠ .follower)
      (fun c s t => t.tim = { s.tim with cmdPend := s.tim.cmdPend ++ [(s.clk.rsn + 1, 5, i, rank, c)] })) ∧
  (∀ e : Entry,
    accepts (.timingStep e) e ⟨0x0A06, 3, false, false, []⟩ 1
      (fun s => s.commitPending = false ∧ s.dev.role ≠ .follower ∧ (s.paired = true → s.pair.linkUp = true))
      (fun c s t => t.tim = { s.tim with step := s.tim.step ++ [(s.clk.rsn + (if s.paired then 2 else 1), some c)] } ∧ t.clk = s.clk)) ∧
  (∀ (e : Entry) (seconds : Nat),
    completes (.timingSetTod e seconds) e ⟨0x0A07, 3, false, false, []⟩ 1
      (fun s => s.dev.role ≠ .follower)
      (fun _ => 0)
      (fun s t => t.clk = { s.clk with
          tod := seconds * 1600000000 + s.clk.rsn.toNat % 390625 * 4096
          todSet := true
          estimated := false } ∧ t.tim = s.tim))

/-- What qualifies and disqualifies a frequency input. -/
def Obligations.ReferenceQualification : Prop :=
  (∀ (i : Fin 8) (cause : Fin 3) (s : State),
    ∃ t, exec (.refSignalLoss i cause) s = .next t ∧ (t.refIn i).rlos = true ∧ (t.refIn i).losCause = cause.val ∧
      (t.refIn i).qual = .disqualified ∧ ∀ j, j ≠ i.val → t.refIn j = s.refIn j) ∧
  (∀ (i : Fin 24) (off : Int) (s : State),
    ∃ t, exec (.refFrequencyGate i off true) s = .next t ∧ (∀ j, j ≠ i.val → t.refIn j = s.refIn j) ∧
      (100000 < off.natAbs → 99 ≤ (s.refIn i).gatesBad → (s.refIn i).rwf = false →
        (t.refIn i).rwf = true ∧ (t.refIn i).qual = .disqualified) ∧
      (off.natAbs ≤ 50000 → 99 ≤ (s.refIn i).gatesOk → (t.refIn i).rwf = false) ∧
      (i.val < 8 → 9 ≤ (s.refIn i).active → (t.refIn i).rlos = false)) ∧
  (∀ (i : Fin 24) (m10 m100 : Int) (s : State),
    ∃ t, exec (.refMeanUpdate i m10 m100) s = .next t ∧ (t.refIn i).mean10 = m10 ∧ (t.refIn i).mean100 = m100 ∧
      (∀ j, j ≠ i.val → t.refIn j = s.refIn j) ∧
      (9 ≤ (s.refIn i).meanSecs → s.tim.oxf = false → s.cur .timingRefHardPpb 0 ≠ 0 →
        s.cur .timingRefHardPpb 0 < m10.natAbs → (t.refIn i).rfh = true ∧ (t.refIn i).qual = .disqualified) ∧
      (9 ≤ (s.refIn i).meanSecs → s.tim.oxf = false → s.cur .timingRefSoftPpb 0 ≠ 0 →
        s.cur .timingRefSoftPpb 0 < m10.natAbs → (t.refIn i).rfs = true)) ∧
  (∀ s : State, ∃ t, exec .refVote s = .next t ∧
    (s.outvoted = true → (t.refIn s.tim.sel).rout = true ∧ (t.refIn s.tim.sel).qual = .disqualified) ∧
    (s.outvoted = false → ∀ i, i < 24 → (s.refIn i).rout = true → (t.refIn i).rout = decide ((s.refIn i).voteOk + 1 < 10))) ∧
  (∀ (i : Fin 24) (s : State), (s.refIn i).qual = .waiting →
    s.elapsed (s.refIn i).waitTick ((s.refIn i).waitFor * secTicks) = true →
    ∃ t, exec (.refWaitExpiry i) s = .next t ∧ t.refIn i = { s.refIn i with qual := .qualified } ∧
      ∀ j, j ≠ i.val → t.refIn j = s.refIn j)

/-- The states of the DPLL: a switch that ends, LOCKED from ACQUIRE and from PULLED, the history and its record of each second, the lock
timeout, the OCXO and its sensor. -/
def Obligations.DpllStates : Prop :=
  (∀ s : State, s.tim.switching = true →
    ∃ t, exec .switchComplete s = .next t ∧
      (s.tim.cmd = 3 → t.tim.switching = false ∧ t.tim.sel = 31 ∧
        t.tim.state = if s.tim.histValid = true ∧ s.tim.oxf = false then .oasis else .freerun) ∧
      (s.tim.cmd ≠ 3 → s.tim.cmd ≠ 2 ∨ s.eligible s.tim.cmdInput = true → s.wanted = some s.tim.sel →
        t.tim.switching = false ∧ t.tim.sel = s.tim.sel ∧
        t.tim.state = (if s.tim.clampHit = true ∧ s.tim.state = .locked ∧ (s.refIn s.tim.sel).qual = .qualified then .pulled
          else s.tim.state))) ∧
  (∀ s : State, s.tim.state = .acquire → s.elapsed s.tim.stateTick (4 * secTicks) = true →
    ∃ t, exec .dpllLockAchieved s = .next t ∧ t.tim.state = .locked ∧ t.tim.stateTick = s.clk.tick ∧ t.tim.sel = s.tim.sel) ∧
  (∀ (n : Nat) (s : State), s.tim.calmTick = some n → s.tim.state = .pulled → s.elapsed n (10 * secTicks) = true →
    ∃ t, exec .pulledRecovery s = .next t ∧ t.tim.state = .locked ∧ t.tim.sel = s.tim.sel) ∧
  (∀ s : State, s.tim.state = .locked → s.elapsed s.tim.stateTick (300 * secTicks) = true → s.tim.oxf = false →
    exec .histValidSet s = .next { s with tim := { s.tim with histValid := true } }) ∧
  (∀ s : State, s.tim.state = .acquire → s.tim.sel < 24 → s.tim.lockFor ≠ 0 →
    s.elapsed s.tim.stateTick (s.tim.lockFor * secTicks) = true →
    ∃ t, exec .lockTimeout s = .next t ∧
      ((s.refIn s.tim.sel).barred = true → (t.refIn s.tim.sel).rnl = true ∧ (t.refIn s.tim.sel).qual = .disqualified) ∧
      ((s.refIn s.tim.sel).barred = false →
        (t.refIn s.tim.sel).qual = if s.cur .timingRefWtr 0 = 0 then .qualified else .waiting)) ∧
  (∀ s : State, ∃ t, exec .ocxoFailure s = .next t ∧ t.tim.oxf = true ∧ t.tim.histValid = false ∧
    t.tim.state = if s.tim.state = .oasis then .freerun else s.tim.state) ∧
  (∀ s : State, s.tim.oxf = true → s.elapsed s.tim.oxfTick (10 * secTicks) = true →
    exec .oxfClear s = .next { s with tim := { s.tim with oxf := false } }) ∧
  (∀ (x : OcxoSecond) (h : List (Int × Option Int)) (s : State), h = ((x.freqPpt, x.milliK) :: s.tim.hist).take 300 →
    ∃ t, exec (.ocxoSensorRead x) s = .next t ∧ t.tim.osensAt = s.cur .timingOsensAddr 0 ∧ t.tim.sel = s.tim.sel ∧
      (x.milliK = none → t.tim.sensorFails = s.tim.sensorFails + 1 ∧ (4 ≤ s.tim.sensorFails → t.tim.osns = true) ∧
        t.tim.temp = s.tim.temp ∧ t.tim.samples = s.tim.samples) ∧
      (∀ k, x.milliK = some k → t.tim.osns = false ∧ t.tim.sensorFails = 0 ∧ t.tim.temp = some k ∧
        (s.tim.state = .locked → t.tim.samples = ((k, x.freqPpt) :: s.tim.samples).take 86400)) ∧
      (s.tim.state = .locked → t.tim.hist = h ∧
        t.tim.histMean = (if h.length = 300 then meanOf (h.map (·.1)) else s.tim.histMean) ∧
        (t.tim.tempValid = true ↔ 2000 ≤ spanOf (t.tim.samples.map (·.1)))) ∧
      (s.tim.state ≠ .locked → t.tim.hist = s.tim.hist ∧ t.tim.histMean = s.tim.histMean ∧ t.tim.samples = s.tim.samples))

/-- PPS edges and TOD messages that the part takes in; the pulse of PPS_OUT in the row of a second, once a second and never at TQ
0b00, and the TOD message 500 ms after an edge of PPS_OUT. -/
def Obligations.PulsesAndTimeOfDay : Prop :=
  (∀ (i : Fin 2) (m : PpsMeas) (dev : Int) (s : State), (s.ppsIn i).lastTick.isSome = true →
    dev = m.devPs - ((s.cur .timingPpsDelay i : Int) - ((s.ppsIn i).delay : Int)) →
    s.cur .timingPpsTolerance 0 = 0 ∨ dev.natAbs ≤ 1000 * s.cur .timingPpsTolerance 0 →
    ∃ t, exec (.ppsEdge i m) s = .next t ∧ (t.ppsIn i).okSecs = (s.ppsIn i).okSecs + 1 ∧ (t.ppsIn i).bad = 0 ∧
      (t.ppsIn i).qual = (s.ppsIn i).qual ∧ (t.ppsIn i).lastTick = some s.clk.tick ∧
      (t.ppsIn i).delay = s.cur .timingPpsDelay i ∧
      (∀ ph sec err, ph = (m.phasePs : Int) - (s.cur .timingPpsDelay i : Int) → s.governingPps = some i.val →
        s.tim.todQual = true → s.cur .timingRsnMode 0 ≠ 0 → s.edgeSecond ph = some sec →
        err = s.alignError (s.rowOfSecond sec) ph →
        t.tim.alignErr = err ∧ t.tim.alignMark = some (sec, s.rowOfSecond sec) ∧
        (s.cur .timingStepThreshold 0 ≠ 0 → 1000 * s.cur .timingStepThreshold 0 < err.natAbs → s.maySelfStep = true →
          (∀ x ∈ s.tim.step, x.2 ≠ none) → t.tim.step = s.tim.step ++ [(s.clk.rsn + 1, none)]) ∧
        (s.cur .timingStepThreshold 0 ≠ 0 → 1000 * s.cur .timingStepThreshold 0 < err.natAbs → s.maySelfStep = false →
          t.tim.toff = true ∧ t.tim.step = s.tim.step))) ∧
  (∀ (i : Fin 2) (m : PpsMeas) (dev : Int) (s : State), (s.ppsIn i).lastTick.isSome = true → 2 ≤ (s.ppsIn i).bad →
    dev = m.devPs - ((s.cur .timingPpsDelay i : Int) - ((s.ppsIn i).delay : Int)) →
    s.cur .timingPpsTolerance 0 ≠ 0 → 1000 * s.cur .timingPpsTolerance 0 < dev.natAbs →
    ∃ t, exec (.ppsEdge i m) s = .next t ∧ (t.ppsIn i).qual = false ∧ (t.ppsIn i).pjmp = true) ∧
  (∀ (i : Fin 2) (s : State), ∃ t, exec (.ppsLoss i) s = .next t ∧ (t.ppsIn i).qual = false ∧ (t.ppsIn i).plos = true ∧
    ∀ j, j ≠ i.val → t.ppsIn j = s.ppsIn j) ∧
  (∀ (i : Fin 2) (s : State), (s.ppsIn i).qual = false → (s.ppsIn i).lastTick.isSome = true →
    (s.ppsIn i).waitFor ≤ (s.ppsIn i).okSecs →
    ∃ t, exec (.ppsQualified i) s = .next t ∧ (t.ppsIn i).qual = true ∧ (t.ppsIn i).plos = false ∧
      (t.ppsIn i).pjmp = false ∧ ∀ j, j ≠ i.val → t.ppsIn j = s.ppsIn j) ∧
  (∀ (m : TodFrame) (ms sec : Nat) (s : State), todWellFormed m.bytes = true → m.baud = s.cur .timingTodBaud 0 →
    s.governingPps.isSome = true → 10 ≤ ms → ms ≤ 900 → sec = beNat ((m.bytes.drop 4).take 6) →
    s.tim.todGood = 0 ∨ sec = s.tim.todSec + 1 →
    ∃ t, exec (.todMessage m ms) s = .next t ∧ t.tim.todSec = sec ∧ t.tim.todGood = s.tim.todGood + 1 ∧
      t.tim.todTick = s.clk.tick ∧ (2 ≤ s.tim.todGood → t.tim.todQual = true ∧ t.tim.tode = false)) ∧
  (∀ (m : TodFrame) (ms : Nat) (s : State),
    todWellFormed m.bytes = false ∨ m.baud ≠ s.cur .timingTodBaud 0 ∨ s.governingPps = none ∨ ms < 10 ∨ 900 < ms →
    ∃ t, exec (.todMessage m ms) s = .next t ∧ t.tim = { s.tim with todGood := 0 } ∧
      t.cnt .timingPmTodBad 0 = (s.cnt .timingPmTodBad 0 + 1) % 2 ^ 48) ∧
  (∀ s : State, s.elapsed s.tim.todTick (2 * secTicks) = true →
    exec .todError s = .next { s with tim := { s.tim with
      tode := true
      todQual := false
      todGood := 0 } }) ∧
  (∀ (k : Nat) (s : State), s.tq ≠ 0 → s.edgeDue 0 = some k → s.edgeDue 1 = some k →
    (∀ o, o < 2 → (Table.get {} s.tim.ppsOut o).second ≠ some k) →
    ∃ t, exec .ppsOutPulse s = .next t ∧ t.clk = s.clk ∧ t.tim.ppsEdge = some s.clk.tick ∧
      ∀ o, o < 2 → Table.get {} t.tim.ppsOut o = {
        count := (Table.get {} s.tim.ppsOut o).count + 1
        second := some k
        width := s.cur .timingPpsOutWidth o
        advance := s.cur .timingPpsOutAdvance o }) ∧
  (∀ s : State, s.tq = 0 ∨ (s.edgeDue 0 = none ∧ s.edgeDue 1 = none) → exec .ppsOutPulse s = .next s) ∧
  (∀ (n : Nat) (s : State), s.tim.ppsEdge = some n → s.elapsed n (500 * msTicks) = true →
    exec .todOutMessage s = .next { s with tim := { s.tim with
      todOut := s.todOutBytes
      ppsEdge := none } }) ∧
  (∀ s : State, s.tim.ppsEdge = none → exec .todOutMessage s = .next s)

/-! ### Modes -/

/-- POWER.MODE, TEST.ENTER, TEST.EXIT, FW.MAINTAIN, FW.RESUME: PENDING with the mode that follows at the second row boundary, the mode
itself unchanged; for QUIESCENT the sleep handshake begins. A mode change at its row boundary: the mode, PREV_MODE, nothing pending,
JOINED and the role as the new mode has them; into RECOVERY it is the reset of FW.RECOVER. An autonomous change goes before a pending one
of a command; a joined follower enters CARAVAN at the start RSN. Where nothing is due, nothing changes. -/
def Obligations.ModesChange : Prop :=
  ((∀ e : Entry,
    accepts (.powerMode e 2) e ⟨0x0F01, 3, false, false, []⟩ 1
      (fun s => s.modePending = false ∧ s.powerBusy = false ∧ s.dev.mode = .transport ∧ s.commitPending = false)
      (fun c s t => t.dev = { s.dev with pend := some ⟨.configure, s.clk.rsn + 2, some c⟩ } ∧
        (s.dev.role = .holder → s.peerCarries = true → s.pair.release = none → t.pair.release = some (0, none)))) ∧
  (∀ e : Entry,
    accepts (.powerMode e 3) e ⟨0x0F01, 3, false, false, []⟩ 1
      (fun s => s.modePending = false ∧ s.powerBusy = false ∧ s.dev.mode = .configure ∧ s.com.gen ≠ 0 ∧ s.dpllReady = true ∧
        (s.dev.role = .follower → s.dev.joined = true))
      (fun c s t => t.dev = { s.dev with pend := some ⟨s.transportTarget, s.clk.rsn + 2, some c⟩ })) ∧
  (∀ e : Entry,
    accepts (.powerMode e 7) e ⟨0x0F01, 3, false, false, []⟩ 1
      (fun s => s.modePending = false ∧ s.powerBusy = false ∧ s.dev.mode = .configure ∧ s.commitPending = false)
      (fun c s t => t.dev = s.dev ∧ t.pow.dom = s.pow.dom ∧
        (t.pow.sleep.map fun r => (r.quiescent, r.accepted, r.stopped, r.ref)) = some (true, false, [], some c))) ∧
  (∀ e : Entry,
    accepts (.testEnter e) e ⟨0x0E01, 3, false, false, []⟩ 1
      (fun s => s.modePending = false ∧ s.powerBusy = false ∧ (s.dev.mode = .configure ∨ s.dev.mode = .transport) ∧
        s.commitPending = false)
      (fun c s t => t.dev = { s.dev with pend := some ⟨.test, s.clk.rsn + 2, some c⟩ } ∧
        (s.dev.role = .holder → s.pair.release = none → t.pair.release = some (0, none)))) ∧
  (∀ e : Entry,
    accepts (.testExit e) e ⟨0x0E02, 3, false, false, []⟩ 1
      (fun s => s.modePending = false ∧ s.powerBusy = false ∧ s.dev.mode = .test ∧ s.commitPending = false)
      (fun c s t => t.dev = { s.dev with pend := some ⟨.configure, s.clk.rsn + 2, some c⟩ })) ∧
  (∀ e : Entry,
    accepts (.fwMaintain e) e ⟨0x1204, 3, false, false, []⟩ 1
      (fun s => s.modePending = false ∧ s.powerBusy = false ∧ (s.dev.mode = .configure ∨ s.dev.mode = .transport) ∧
        s.commitPending = false ∧ (s.dev.role = .follower → s.dev.joined = true))
      (fun c s t => t.dev = { s.dev with pend := some ⟨.maintain, s.clk.rsn + 2, some c⟩ })) ∧
  (∀ e : Entry,
    accepts (.fwResume e) e ⟨0x1205, 3, false, false, []⟩ 1
      (fun s => s.modePending = false ∧ s.powerBusy = false ∧ s.dev.mode = .maintain)
      (fun c s t => t.dev = { s.dev with pend := some ⟨s.dev.prevMode, s.clk.rsn + 2, some c⟩ }))) ∧
  (∀ (p : ModeChange) (s : State), s.autoDue = none → s.dev.pend = some p → rsnLe p.due s.clk.rsn = true → p.target ≠ .recovery →
    ∃ t, exec .modeChangeEffect s = .next t ∧ t.dev.mode = p.target ∧ t.dev.prevMode = s.dev.mode ∧ t.dev.pend = none ∧
      (p.target = .configure ∨ p.target = .test → t.dev.joined = false) ∧
      (p.target = .boot ∨ p.target = .quiescent → t.dev.role = .none) ∧
      (p.target = .test → s.dev.role = .holder → t.dev.role = .follower) ∧
      (p.target.mayHold = true → s.dev.role ≠ .none → t.dev.role = s.dev.role) ∧
      (s.dev.mode ≠ .test → t.lanes = s.lanes ∧ t.egrB = s.egrB ∧ (s.pair.live = none → t.sw = s.sw)) ∧ t.clk = s.clk) ∧
  (∀ (p : ModeChange) (s : State), s.autoDue = none → s.dev.pend = some p → rsnLe p.due s.clk.rsn = true → p.target = .recovery →
    ∃ t, exec .modeChangeEffect s = .next t ∧ t.dev.mode = .recovery ∧ t.dev.role = .none ∧ t.dev.jcc = .bootRom ∧
      t.dev.resetKind = 2 ∧ t.dev.resetCause = 3 ∧ t.dev.pend = none ∧ t.lanes = [] ∧ t.sec.counter = s.sec.counter) ∧
  (∀ (m : Mode) (c : Option CmdRef) (s : State), s.autoDue = some (m, c) →
    ∃ t, exec .modeChangeEffect s = .next t ∧ t.dev.mode = m ∧ t.dev.prevMode = s.dev.mode ∧ t.dev.toTransport = none ∧
      (∀ p, s.dev.pend = some p → p.target ≠ .recovery → t.dev.pend = none) ∧ t.clk = s.clk) ∧
  (∀ (r : Rsn) (s : State), s.dev.toTransport = none → s.dev.role = .follower → s.dev.mode = .transport → s.dev.joined = true →
    s.com.car.start = some r → s.com.car.stop = none → rsnLe r s.clk.rsn = true →
    ∃ t, exec .modeChangeEffect s = .next t ∧ t.dev.mode = .caravan ∧ t.com.car.start = some r) ∧
  (∀ s : State, s.autoDue = none → (∀ p, s.dev.pend = some p → rsnLe p.due s.clk.rsn = false) → exec .modeChangeEffect s = .next s)

/-! ### The pair -/

/-- CLASP.RELEASE, SEIZE, CLEAR, CHECKPOINT, and a write of pair.enable. -/
def Obligations.ClaspCommands : Prop :=
  (∀ (e : Entry) (force : Fin 2),
    accepts (.claspRelease e force.val) e ⟨0x1401, 3, true, false, []⟩ 1
      (fun s => s.dev.role = .holder ∧ (∀ k r, s.pair.release ≠ some (k, some r)) ∧
        (force.val = 0 → s.pair.peerJoined = true ∧ s.pair.peerMode ≠ 5 ∧ s.pair.peerState ≠ 4))
      (fun c s t => t.pair.release = some (if s.pair.release = some (1, none) then 1 else 0, some c) ∧ t.dev = s.dev ∧
        t.pair.ckptSeq = s.pair.ckptSeq + 1)) ∧
  (∀ e : Entry,
    completes (.claspSeize e) e ⟨0x1402, 3, false, true, []⟩ 1
      (fun s => s.dev.mode.mayHold = true ∧ s.cur .pairEnable 0 = 1 ∧ s.pair.faultAnn = false ∧ s.dev.role ≠ .holder ∧
        ¬(s.pair.linkUp = true ∧ s.pair.peerState = 2))
      (fun _ => 0)
      (fun s t => t.dev = { s.dev with role := .holder } ∧ t.pair.seized = true ∧ t.pair.leaseEnd = s.clk.tick ∧
        t.pair.takeover = true ∧ t.pair.cnoh = false ∧ t.pair.lseq = (s.pair.lseq + 1) % 256)) ∧
  (∀ e : Entry,
    completes (.claspClear e) e ⟨0x1403, 3, false, false, []⟩ 1
      (fun s => s.releaseCause = false)
      (fun _ => 0)
      (fun s t => t.pair.faultAnn = false ∧ t.dev = s.dev ∧ t.pair.leaseEnd = s.pair.leaseEnd)) ∧
  (∀ e : Entry,
    completes (.claspCheckpoint e) e ⟨0x1404, 3, true, false, []⟩ 1
      (fun s => s.dev.role = .holder)
      (fun _ => 0)
      (fun s t => t.pair.ckptSeq = s.pair.ckptSeq + 1 ∧ t.pair.ckptTick = s.clk.tick ∧
        Table.get {} t.pair.ckpts ((s.pair.ckptSeq + 47) % 48) = {
          valid := true
          len := (Config.ckptBytes (s.ckptNow s.pair.ckptSeq)).length
          crc := crc32c (Config.ckptBytes (s.ckptNow s.pair.ckptSeq))
          ck := s.ckptNow s.pair.ckptSeq })) ∧
  (∀ (e : Entry) (v : Fin 2),
    completes (.pairEnableWrite e v.val) e ⟨0x0202, 0, false, false, []⟩ 1
      (fun s => 2 ≤ s.callerRole e ∧ s.dev.mode = .configure ∧ s.cur .pairEnable 0 ≠ v.val ∧
        ∀ p c, s.com.pend = some p → p.ref = some c → c.ring ≠ e.ring)
      (fun _ => 0)
      (fun s t => t.cur .pairEnable 0 = v.val ∧ t.dev = { s.dev with
        role := if v.val = 1 then .follower else .standalone
        joined := false }))

/-- What the lease engine and the link of the Sared pair do at their events: frames, the ends of leases, acquisitions, checkpoints, the
link, its defects. -/
def Obligations.LeaseAndLink : Prop :=
  (∀ s : State, s.pow.removed = false →
    ∃ t, exec .claspFrameSend s = .next t ∧ (t.pair.frames.head?.map fun f => (f.state, f.lseq)) = some (s.leaseState, s.pair.lseq) ∧
      t.pair.lseq = (s.pair.lseq + 1) % 256 ∧ t.dev = s.dev) ∧
  (∀ (path : LeasePath) (f : LeaseFrame) (s : State), s.pow.removed = false → (path = .sared → s.pair.linkUp = true) →
    f.serial = Config.serial.setWidth 32 →
    f.plane = s.dev.planeB →
    exec (.claspFrameHeard path f) s = .next { s with pair := { s.pair with cloop := some s.clk.tick } }) ∧
  (∀ (f : LeaseFrame) (s : State), s.pair.linkUp = false → exec (.claspFrameHeard .sared f) s = .next s) ∧
  (∀ (path : LeasePath) (f : LeaseFrame) (s : State), s.pow.removed = false → (path = .sared → s.pair.linkUp = true) →
    ¬(f.serial = Config.serial.setWidth 32 ∧ f.plane = s.dev.planeB) → s.dev.role = .follower → f.state = 2 →
    ∃ t, exec (.claspFrameHeard path f) s = .next t ∧ t.dev.role = .follower ∧ t.pair.holdTick = some s.clk.tick ∧
      t.pair.ack = some (f.lseq, s.clk.tick) ∧ t.pair.peerGen = f.generation ∧ t.tim.heard = some (f.tsel, f.tstate) ∧
      t.pair.cnoh = false) ∧
  (∀ (path : LeasePath) (f : LeaseFrame) (s : State), s.pow.removed = false → (path = .sared → s.pair.linkUp = true) →
    f.plane ≠ s.dev.planeB →
    f.primary ≠ s.dev.primary → s.canAcquire = true → s.pair.cstrap = none → f.state = 3 ∨ f.state = 4 →
    ∃ t, exec (.claspFrameHeard path f) s = .next t ∧ t.dev.role = .holder ∧ t.pair.leaseEnd = s.clk.tick + 250000 ∧
      t.pair.takeover = true) ∧
  (∀ s : State, s.dev.role = .holder → s.dev.primary = false → s.pair.seized = false → s.pair.leaseEnd ≤ s.clk.tick →
    ∃ t, exec .holderLeaseExpiry s = .next t ∧ t.dev.role = .follower ∧ t.com.staged = s.com.staged ∧
      t.cnt .pairPmLapse 0 = (s.cnt .pairPmLapse 0 + 1) % 2 ^ 48) ∧
  (∀ s : State, s.canAcquire = true → s.pair.cstrap = none → s.dev.primary = true → s.pair.heard = true →
    s.silentSince + 300000 ≤ s.clk.tick →
    ∃ t, exec .silenceAcquisition s = .next t ∧ t.dev.role = .holder ∧ t.pair.takeover = true) ∧
  (∀ s : State, s.pair.linkUp = false → 64 ≤ s.pair.linkRun →
    ∃ t, exec .saredLinkUp s = .next t ∧ t.pair.linkUp = true ∧ t.pair.sld = false ∧
      (t.pair.slx = false ↔ (s.sared 0).laneNo = 0 ∧ (s.sared 1).laneNo = 1 ∧ (s.sared 2).laneNo = 2 ∧ (s.sared 3).laneNo = 3)) ∧
  (∀ (n : Fin 4) (row : SaredRow) (s : State), s.domain (lrOf 0) ≠ 0 → exec (.saredRowReceived n row) s = .next s) ∧
  (∀ (n : Fin 4) (row : SaredRow) (s : State), s.domain (lrOf 0) = 0 → ∃ t, exec (.saredRowReceived n row) s = .next t ∧
    (row.raw.signal = false → (t.sared n).los = true) ∧ (∀ k, k ≠ n.val → t.sared k = s.sared k) ∧
    (∀ o m inv rest, (s.sared n).align = .confirm → (s.sared n).cands = (o, m, inv) :: rest → row.raw.offset = o →
      saredFrame row.raw inv (saredIn row.raw inv) = true → (saredIn row.raw inv).rsn = m + 1 →
      (t.sared n).align = .sync ∧ (t.sared n).expRsn = m + 2 ∧ (t.sared n).offset = o ∧ (t.sared n).inv = inv) ∧
    ((s.sared n).align = .sync → row.raw.offset = (s.sared n).offset →
      saredFrame row.raw (s.sared n).inv (saredIn row.raw (s.sared n).inv) = false → (t.sared n).align = .flywheel) ∧
    ((s.sared n).align = .sync → row.raw.offset = (s.sared n).offset →
      saredFrame row.raw (s.sared n).inv (saredIn row.raw (s.sared n).inv) = true →
      (saredIn row.raw (s.sared n).inv).rsn = (s.sared n).expRsn →
      (saredIn row.raw (s.sared n).inv).plane ≠ s.dev.planeB → s.cur .pairPeerSerial 0 = 0 →
      (t.sared n).align = .sync ∧ (t.sared n).expRsn = (s.sared n).expRsn + 1 ∧ t.pair.peerMode = row.peerMode ∧
        t.pair.peerJoined = row.peerJoined)) ∧
  (∀ (d : PairDefect) (s : State), ∃ t, exec (.pairDefectIntegration d) s = .next t ∧ t = { s with pair := t.pair } ∧
    (d = .sld → s.pair.linkUp = true → t.pair.sld = false) ∧
    (d = .speer → 2 ≤ s.speerCount.1 → t.pair.speer = true) ∧
    (d = .speer → s.speerCount.1 < 2 → 64 ≤ s.speerCount.2 → t.pair.speer = false) ∧
    (d = .cpin → s.pair.claspTick + 75000 ≤ s.clk.tick → t.pair.cpin = true) ∧
    (d = .cpin → s.clk.tick < s.pair.claspTick + 75000 → 3 ≤ s.pair.claspRun → t.pair.cpin = false) ∧
    (d = .cdual → s.dev.role ≠ .holder ∨ s.pair.peerState ≠ 2 → t.pair.cdual = false))

/-- Checkpoints, the takeover, what the holder forwards, and the live copy, as each unit takes them in. A copied parameter takes the
holder's value, its default where the holder lists none. -/
def Obligations.CheckpointsAndCopies : Prop :=
  (∀ s : State, s.dev.role = .holder → s.dev.jcc = .running → s.cur .pairCkptInterval 0 ≠ 0 →
    s.elapsed s.pair.ckptTick (s.cur .pairCkptInterval 0 * msTicks) = true →
    s.ckptChanged = true ∨ s.elapsed s.pair.ckptTick (10 * secTicks) = true →
    ∃ t, exec .checkpointWrite s = .next t ∧ t.pair.ckptSeq = s.pair.ckptSeq + 1 ∧ t.pair.ckptTick = s.clk.tick) ∧
  (∀ (x : Ckpt) (s : State), s.dev.role = .follower → s.pair.linkUp = true →
    ∃ t, exec (.checkpointReceived x.seq x.format x.toCkptParts) s = .next t ∧ Table.get {} t.pair.ckpts ((x.seq + 47) % 48) = {
        valid := true
        len := (Config.ckptBytes x).length
        crc := crc32c (Config.ckptBytes x)
        ck := x } ∧
      (∀ j, j ≠ (x.seq + 47) % 48 → Table.get {} t.pair.ckpts j = Table.get {} s.pair.ckpts j) ∧ x.seq < t.pair.ckptSeq) ∧
  (∀ s : State, s.pair.takeover = true → s.dev.role = .holder → s.dev.jcc = .running →
    ∃ t, exec .takeoverLoadComplete s = .next t ∧ t.pair.takeover = false ∧ t.pair.ckpts = s.pair.ckpts ∧ t.com.gen = s.com.gen ∧
      t.sw = s.sw ∧ ∀ k, (s.session k).state ≠ .free → t.session k = s.session k) ∧
  (∀ (h : ForwardHead) (kind : Nat) (gs : List Nat) (target : Bool) (s : State), s.dev.role = .follower →
    s.pair.linkUp = true →
    ∃ t, exec (.forwardedCommand h (.prot kind gs target)) s = .next t ∧ ∀ k, t.group k = { s.group k with
      pend := (s.group k).pend ++
        List.replicate (gs.count k) ⟨h.row, kind, target, ⟨255, 2, h.session, h.role, h.cmdId, h.code⟩⟩ }) ∧
  (∀ (h : ForwardHead) (r : Rsn) (tod : Nat) (s : State), s.dev.role = .follower → s.pair.linkUp = true →
    exec (.forwardedCommand h (.timingStep r tod)) s =
      .next { s with pair := { s.pair with fwd := s.pair.fwd ++ [(h, .timingStep r tod)] } }) ∧
  (∀ (h : ForwardHead) (r : Rsn) (s : State), s.dev.role = .follower → s.pair.linkUp = true →
    exec (.forwardedCommand h (.caravanStart r)) s = .next { s with com := { s.com with car := { s.com.car with
      start := some r
      next := 0
      pass := 0
      stop := none
      startRef := some ⟨255, 2, h.session, h.role, h.cmdId, h.code⟩
      stopRef := none } } } ∧
    exec (.forwardedCommand h (.caravanStop r)) s = .next { s with com := { s.com with car := { s.com.car with
      stop := some r
      stopRef := some ⟨255, 2, h.session, h.role, h.cmdId, h.code⟩ } } }) ∧
  (∀ (n : Pn) (obj v : Nat) (s : State), copiedPn n = true → n.desc.acc = .rw → obj < 65536 →
    n ∉ [.laneTxEnable, .laneRxEnable, .laneTraceExpected] → s.dev.role = .follower → s.pair.live = some 0 → s.cur n obj ≠ v →
    (s.copiedVals = [] → ∃ t, exec (.liveCopyMessage (.params [(n.key obj, v)])) s = .next t ∧ t.cur n obj = v ∧
      ∀ m o, m.key o ≠ n.key obj → t.cur m o = s.cur m o) ∧
    (s.copiedVals.map (·.1) = [n.key obj] → v = n.dfltOf obj → ∃ t, exec (.liveCopyMessage (.params [])) s = .next t ∧
      t.cur n obj = v ∧ ∀ m o, m.key o ≠ n.key obj → t.cur m o = s.cur m o)) ∧
  (∀ (r : Rsn) (tod sel : Nat) (s : State), s.dev.role = .follower → s.pair.live = some 0 →
    exec (.liveCopyMessage (.timing r tod sel)) s =
      .next { s with pair := { s.pair with liveTime := some (r, tod, sel) } }) ∧
  (∀ (recs : List MapRec) (g j : Nat) (s : State), s.dev.role = .follower → s.pair.live = some (j + 1) →
    ∃ t, exec (.liveCopyMessage (.dirty recs g)) s = .next t ∧ t.pair.liveGen = g ∧ t.egrB = s.egrB ∧
      t.shadow.egr = (s.shadow.writeAll recs).egr ∧ t.shadow.ing = (s.shadow.writeAll recs).ing ∧
      t.shadow.mid = (s.shadow.writeAll recs).mid ∧ t.shadow.cut = (s.shadow.writeAll recs).cut)

/-! ### Power -/

/-- POWER.DOMAIN: nothing to do; a wake; a sleep request. -/
def Obligations.DomainRequests : Prop :=
  (∀ (e : Entry) (b : Buf) (es : List DomainEntry),
    completes (.powerDomain e b es.length es) e ⟨0x0F02, 3, false, false, []⟩ 1
      (fun s => s.domainsOpen b es ∧ ∀ x ∈ es, s.domain x.domain = x.target)
      (fun _ => 0)
      (fun s t => s.quiet t)) ∧
  (∀ (e : Entry) (b : Buf) (es : List DomainEntry),
    accepts (.powerDomain e b es.length es) e ⟨0x0F02, 3, false, false, []⟩ 1
      (fun s => s.domainsOpen b es ∧ (∃ x ∈ es, s.domain x.domain ≠ x.target) ∧ ∀ x ∈ es, x.target = 0)
      (fun c s t => t.pow.wake = some ⟨(es.filter fun x => s.domain x.domain != x.target).map (·.domain), s.clk.tick, some c,
          ((es.filter fun x => s.domain x.domain != x.target).map (·.domain)).filter fun q => s.domain q == 2⟩ ∧
        ∀ x ∈ es, s.domain x.domain ≠ 0 → t.domain x.domain = 3)) ∧
  (∀ (e : Entry) (b : Buf) (es : List DomainEntry),
    accepts (.powerDomain e b es.length es) e ⟨0x0F02, 3, false, false, []⟩ 1
      (fun s => s.domainsOpen b es ∧ (∃ x ∈ es, s.domain x.domain ≠ x.target) ∧ ∀ x ∈ es, x.target ≠ 0)
      (fun c s t => t.pow.dom = s.pow.dom ∧ (t.pow.sleep.map fun r => (r.quiescent, r.entries, r.stopped, r.accepted, r.ref)) =
        some (false, es, [], false, some c) ∧
        t.pow.sleep.map (·.todo) = some (quiesceOrder.filter fun q => es.any fun x => x.domain == q && s.domain q != x.target)))

/-- The sleep handshake: one domain refuses and the request ends; one domain stops; a domain does not answer; the domains reach their
targets; woken domains are ON. -/
def Obligations.SleepHandshake : Prop :=
  (∀ (r : SleepReq) (q : Nat) (rest : List Nat) (s : State), s.pow.sleep = some r → r.accepted = false → r.todo = q :: rest →
    ∃ t, exec .domainQuiesceAnswer s = .next t ∧
      (s.refusal r.quiescent r.entries q (r.targetOf q) ≠ 0 → t.pow.sleep = none ∧
        t.pow.lastSleep = (0x000F, q, s.refusal r.quiescent r.entries q (r.targetOf q), r.stopped.length)) ∧
      (s.refusal r.quiescent r.entries q (r.targetOf q) = 0 → rest ≠ [] → t.domain q = 3 ∧
        t.pow.sleep = some { r with
          todo := rest
          stopped := r.stopped ++ [q * 4 + s.domain q]
          tick := s.clk.tick }) ∧
      (s.refusal r.quiescent r.entries q (r.targetOf q) = 0 → rest = [] → t.domain q = 3 ∧
        (t.pow.sleep.map fun x => (x.accepted, x.due)) = some (true, s.clk.rsn + 2) ∧
        (r.quiescent = true → (t.dev.pend.map fun p => (p.target, p.due)) = some (.quiescent, s.clk.rsn + 2)))) ∧
  (∀ (r : SleepReq) (q : Nat) (rest : List Nat) (s : State), s.pow.sleep = some r → r.accepted = false → r.todo = q :: rest →
    s.elapsed r.tick msTicks = true →
    ∃ t, exec .quiesceTimeout s = .next t ∧ t.pow.sleep = none ∧ t.pow.lastSleep = (0x000F, q, 0x0D, r.stopped.length)) ∧
  (∀ (r : SleepReq) (s : State), s.pow.sleep = some r → r.accepted = true → r.quiescent = false →
    (r.entries.map (·.domain)).Nodup →
    ∃ t, exec .powerActionDone s = .next t ∧ t.pow.sleep = none ∧ ∀ x ∈ r.entries, t.domain x.domain = x.target) ∧
  (∀ (r : SleepReq) (s : State), s.pow.sleep = some r → r.accepted = true → r.quiescent = true → s.dev.mode = .quiescent →
    s.pow.wakeHeld = none →
    ∃ t, exec .powerActionDone s = .next t ∧ t.pow.sleep = none ∧ t.lanes = [] ∧ t.host.pairs = [] ∧ t.host.sessions = [] ∧
      (t.dev.jcc = .retained ∨ t.dev.jcc = .off) ∧ t.dev.mode = .quiescent ∧ t.host.mem = s.host.mem) ∧
  (∀ (w : WakeReq) (s : State), s.pow.wake = some w →
    ∃ t, exec .domainWakeDone s = .next t ∧ t.pow.wake = none ∧ ∀ q ∈ w.domains, 3 ≤ q → q ≤ 139 → t.domain q = 0)

/-- The four ways by which a wake from QUIESCENT begins, its end, and the supplies. -/
def Obligations.WakeAndSupplies : Prop :=
  (∀ s : State, s.dev.mode = .quiescent → s.pow.waking = false → s.pow.removed = false → s.pow.sleep = none →
    (∃ t, exec .i2cAddressMatch s = .next t ∧ t.pow.waking = true ∧ t.pow.wakeCause = 1) ∧
    (∃ t, exec .i2cWake s = .next t ∧ t.pow.waking = true ∧ t.pow.wakeCause = 1) ∧
    (∃ t, exec .perstNDeassert s = .next t ∧ t.pow.waking = true ∧ t.pow.wakeCause = 2 ∧ t.host.linkUp = true) ∧
    (s.cur .powerWakeTimer 0 ≠ 0 → s.elapsed s.pow.quietTick (s.cur .powerWakeTimer 0 * secTicks) = true →
      ∃ t, exec .wakeTimerExpiry s = .next t ∧ t.pow.waking = true ∧ t.pow.wakeCause = 3) ∧
    exec .supplyRemoval s = .next { s with
      dev := { s.dev with supplies := false }
      pow := { s.pow with
        removed := true
        markersLost := [0, 1, 2, 3, 4, 5, 6, 7] } }) ∧
  (∀ s : State, s.pow.waking = true → s.dev.jcc = .running →
    ∃ t, exec .wakeComplete s = .next t ∧ t.dev.mode = .configure ∧ t.pow.waking = false ∧ ∀ q ∈ quiesceOrder, t.domain q = 0) ∧
  (∀ (n : Nat) (s : State), s.pow.removed = true →
    ∃ t, exec (.supplyRestore n) s = .next t ∧ t.pow.waking = true ∧ t.pow.wakeCause = 4 ∧ t.dev.mode = .quiescent ∧
      t.dev.supplies = true ∧ t.dev.resetKind = 5 ∧ t.dev.resetCause = 2 ∧ t.lanes = [] ∧ t.clk.tick = s.clk.tick + n) ∧
  (∀ s : State, s.dev.mode ≠ .quiescent → s.dev.fatalHeld = none →
    ∃ t, exec .supplyRemoval s = .next t ∧ t.dev.fatalHeld = some 2 ∧ t.dev.supplies = false ∧ t.dev.jcc = .off)

/-- POWER.DVFS: down at once; up at once where the rail suffices; up after the regulator's report, or back at its timeout. -/
def Obligations.VoltageAndFrequency : Prop :=
  (∀ (e : Entry) (d p : Nat),
    completes (.powerDvfs e d p) e ⟨0x0F03, 3, false, false, []⟩ 1
      (fun s => s.dvfsOpen d p ∧ s.setpointOf d ≤ p)
      (fun _ => 0)
      (fun s t => t.setpointOf d = p ∧ t.setpointOf (5 - d) = s.setpointOf (5 - d) ∧
        t.pow.vctl = min (max (vreq p) (vreq (s.setpointOf (5 - d)))) s.pow.vctl)) ∧
  (∀ (e : Entry) (d p : Nat),
    completes (.powerDvfs e d p) e ⟨0x0F03, 3, false, false, []⟩ 1
      (fun s => s.dvfsOpen d p ∧ p < s.setpointOf d ∧ max (vreq p) (vreq (s.setpointOf (5 - d))) ≤ s.pow.vctl)
      (fun _ => 0)
      (fun s t => t.setpointOf d = p ∧ t.setpointOf (5 - d) = s.setpointOf (5 - d) ∧ t.pow.vctl = s.pow.vctl)) ∧
  (∀ (e : Entry) (d p : Nat),
    accepts (.powerDvfs e d p) e ⟨0x0F03, 3, false, false, []⟩ 1
      (fun s => s.dvfsOpen d p ∧ p < s.setpointOf d ∧ s.pow.vctl < max (vreq p) (vreq (s.setpointOf (5 - d))))
      (fun c s t => t.pow = { s.pow with
        vctl := max (vreq p) (vreq (s.setpointOf (5 - d)))
        dvfs := some ⟨d, p, s.pow.vctl, some c⟩ })) ∧
  (∀ (r : DvfsReq) (s : State), s.pow.dvfs = some r → r.domain = 2 ∨ r.domain = 3 →
    (∃ t, exec .avsReport s = .next t ∧ t.setpointOf r.domain = r.setpoint ∧ t.pow.dvfs = none ∧ t.pow.vctl = s.pow.vctl) ∧
    (∃ t, exec .avsTimeout s = .next t ∧ t.pow = { s.pow with
      dvfs := none
      vctl := r.oldMv }))

/-! ### Faults -/

/-- DIAG.FAULT_READ, DIAG.SELFTEST, DIAG.MEM_READ, and DIAG.FAULT_INJECT of a masked fault, a map entry, a critical field and a pair
of the Jaray complex. -/
def Obligations.DiagnosticCommands : Prop :=
  (∀ (e : Entry) (b : Buf) (first : Nat) (rs : List FaultRec),
    completes (.diagFaultRead e b first) e ⟨0x1501, 1, false, false, []⟩ 0
      (fun s => b.len ≠ 0 ∧ rs = ((s.allRecs.filter fun r => decide (first ≤ r.fseq)).reverse).take (b.len / 32) ∧
        s.bufWrite b (32 * rs.length) = true)
      (fun _ => rs.length)
      (fun s t => s.quiet t ∧ (16 ≤ e.ring → ∀ k r, rs[k]? = some r → Table.getRun 0 t.host.mem (b.addr + 32 * k) 32 = r.bytes))) ∧
  (∀ (e : Entry) (test : Nat) (failing : List Nat),
    completes (.diagSelftest e test failing) e ⟨0x1502, 3, true, false, []⟩ 0
      (fun _ => 1 ≤ test ∧ test ≤ 5)
      (fun _ => failing.eraseDups.length)
      (fun s t => t.com = s.com ∧ t.sw = s.sw ∧ t.lanes = s.lanes ∧ t.dev = s.dev ∧ (failing = [] → t.flt = s.flt))) ∧
  (∀ (e : Entry) (b : Buf) (off : Nat),
    completes (.diagMemRead e b (0x20000000 + off)) e ⟨0x1503, 4, false, false, []⟩ 0
      (fun s => b.len ≠ 0 ∧ off + b.len ≤ 0x800000 ∧ s.bufWrite b b.len = true ∧ s.jcc.sramBad = [])
      (fun _ => 0)
      (fun s t => s.quiet t ∧ (16 ≤ e.ring → Table.getRun 0 t.host.mem b.addr b.len = Table.getRun 0 s.jcc.sram off b.len))) ∧
  (∀ (e : Entry) (bursts : List Burst),
    accepts (.diagFaultInject ⟨e, bursts⟩ 1) e ⟨0x1504, 4, false, false, []⟩ 1
      (fun s => ∀ r ∈ s.flt.log, r.isOpen = false)
      (fun _ s t => t.cnt .cfgPmFaultMasked 0 = (s.cnt .cfgPmFaultMasked 0 + 1) % 2 ^ 48 ∧ t.flt.log = s.flt.log ∧
        t.sw = s.sw ∧ t.dev = s.dev)) ∧
  (∀ (e : Entry) (bursts : List Burst) (key : Nat) (x : Conn) (rest : Table Conn),
    accepts (.diagFaultInject ⟨e, bursts⟩ 3) e ⟨0x1504, 4, false, false, []⟩ 1
      (fun s => (∀ r ∈ s.flt.log, r.isOpen = false) ∧ s.egrB.conns = (key, x) :: rest ∧ key < 512 * 4096)
      (fun _ s t => t.flt.mapNew = (2, key / 32768, key % 32768) :: s.flt.mapNew ∧ t.sw = s.sw ∧
        (3, 0x10 + key / 32768 / 8, key / 32768) ∈ t.flt.injected)) ∧
  (∀ (e : Entry) (bursts : List Burst),
    accepts (.diagFaultInject ⟨e, bursts⟩ 6) e ⟨0x1504, 4, false, false, []⟩ 1
      (fun s => (∀ r ∈ s.flt.log, r.isOpen = false) ∧ s.dev.tmr = true)
      (fun _ s t => t.flt.tmrBad = 0x20 :: s.flt.tmrBad ∧ t.sw = s.sw)) ∧
  (∀ (e : Entry) (bursts : List Burst),
    accepts (.diagFaultInject ⟨e, bursts⟩ 8) e ⟨0x1504, 4, false, false, []⟩ 1
      (fun s => ∀ r ∈ s.flt.log, r.isOpen = false)
      (fun _ s t => t.dev.resetKind = 3 ∧ t.dev.resetCause = 2 ∧ t.com.gen = s.com.gen))

/-- A single internal fault strikes; a divergence and an expired watchdog of the pair that runs the firmware; engines that disagree;
what the scans and the self-test of the checkers find. -/
def Obligations.FaultsDetected : Prop :=
  (∀ (f : FaultSite) (s : State), f.lasting = false →
    ∃ t, exec (.singleInternalFault f) s = .next t ∧
      (f.cls = 1 → f.detail < 2 ^ 20 → t.cnt .cfgPmFaultMasked 0 = (s.cnt .cfgPmFaultMasked 0 + 1) % 2 ^ 48 ∧
        t.flt.log = s.flt.log) ∧
      (f.cls = 1 → 2 ^ 20 ≤ f.detail → t.sw = s.sw ∧
        t.com.shadowSoft = (f.detail / 65536 % 4, f.location % 64, f.detail % 65536) :: s.com.shadowSoft) ∧
      (f.cls = 3 → t.flt.mapNew = (f.detail / 65536 % 4, f.location % 64, f.detail % 65536) :: s.flt.mapNew ∧ t.sw = s.sw) ∧
      (f.cls = 4 → t.com.shadowBad = (f.detail / 65536 % 4, f.location % 64, f.detail % 65536) :: s.com.shadowBad ∧ t.sw = s.sw) ∧
      (f.cls = 7 → s.dev.tmr = true → t.flt.tmrBad = f.region :: s.flt.tmrBad) ∧
      (f.cls = 7 → s.dev.tmr = false → t.flt.parityNew = (f.region, f.location) :: s.flt.parityNew)) ∧
  (∀ (bursts : List Burst) (s : State), s.dev.jcc = .running →
    ∃ t, exec (.lockstepDivergence 0 bursts) s = .next t ∧ t.dev.resetKind = 3 ∧ t.dev.resetCause = 2 ∧
      t.dev.jcc = (if (s.recent s.dev.jccResets).length < 15 then .bootRom else .held) ∧ t.com.gen = s.com.gen) ∧
  (∀ (j : Fin 2) (bursts : List Burst) (s : State), s.dev.jcc = .running → j.val = 0 ∨ s.jcc.j1 = true →
    ∃ t, exec (.watchdogExpiry j bursts) s = .next t ∧ t.dev.resetKind = 4 ∧ t.dev.resetCause = j.val ∧
      t.dev.jcc = (if (s.recent s.dev.jccResets).length < 15 then .bootRom else .held) ∧
      t.dev.wdtResets = s.clk.tick :: s.recent s.dev.wdtResets) ∧
  (∀ (g : Engine) (s : State), (∀ r ∈ s.flt.log, r.isOpen = false) → s.dev.fatalHeld = none →
    ∃ t, exec (.engineMismatch g) s = .next t ∧ g ∈ t.flt.engines ∧ t.dev.role = s.dev.role ∧
      (s.dev.role = .holder → ∃ c, t.pair.release = some (1, c)) ∧ (g = .lease → t.pair.faultAnn = true) ∧
      (g = .dpll → t.tim.sel = 31)) ∧
  (∀ s : State, s.flt.lasting = [] →
    ∃ t, exec .tmrScrub s = .next t ∧ t.flt.tmrBad = [] ∧
      t.cnt .cfgPmFaultMasked 0 % 2 ^ 48 = (s.cnt .cfgPmFaultMasked 0 + s.flt.tmrBad.length) % 2 ^ 48) ∧
  (∀ s : State, (∀ x ∈ s.flt.parityNew, 2 ≤ x.1) → s.dev.fatalHeld = none →
    ∃ t, exec .parityScan s = .next t ∧ t.flt.parityNew = [] ∧ ∀ x ∈ s.flt.parityNew, x ∈ t.flt.parityBad) ∧
  (∀ (failing : List Nat) (s : State), s.flt.lasting = [] →
    ∃ t, exec (.checkerSelfTest failing) s = .next t ∧
      ∀ k, k < 8 → (0x10 + k ∈ t.flt.uncovered ↔ 0x10 + k ∈ failing)) ∧
  (∀ (d : Fin 64) (s : State), ∃ t, exec (.misrouteDefectClear d false) s = .next t ∧
    (64 ≤ (s.dune d).msrClean → (t.dune d).msr = false) ∧ (t.dune d).msa = (s.dune d).msa ∧
    ∀ k, k ≠ d.val → t.dune k = s.dune k) ∧
  (∀ (fseq : Nat) (r : FaultRec) (s : State), s.recOpen fseq = some r → s.elapsed r.tick (recoveryTicks r.cls) = true →
    s.recovered r = true →
    ∃ t, exec (.faultRecordClose fseq) s = .next t ∧ (∀ x ∈ t.flt.log, x.fseq = fseq → x.isOpen = false) ∧
      t.flt.log.length = s.flt.log.length ∧ t.sw = s.sw)

/-- A monitored rail, the temperature and the root clock lead to a FATAL reset that is held; its end starts the boot ROM. -/
def Obligations.FatalResets : Prop :=
  (∀ (rail : Rail) (s : State), s.dev.fatalHeld = none → (s.dev.mode ≠ .quiescent ∨ rail = .vio ∨ s.pow.waking = true ∨
      s.domain 3 ≠ 2 ∨ s.domain 2 ≠ 2 ∨ ∃ k, k < 8 ∧ s.domain (4 + k) ≠ 2) →
    ∃ t, exec (.supplyTrip rail) s = .next t ∧ t.dev.fatalHeld = some 2 ∧ t.dev.jcc = .off ∧ t.lanes = [] ∧ t.par.vals = [] ∧
      t.sec.counter = s.sec.counter ∧ (s.dev.role ≠ .holder → t.host.mem = s.host.mem)) ∧
  (∀ s : State, s.dev.fatalHeld = none →
    ∃ t, exec .thermalTrip s = .next t ∧ t.dev.fatalHeld = some 1 ∧ t.dev.jcc = .off ∧ t.lanes = []) ∧
  (∀ s : State, s.dev.fatalHeld = none →
    ∃ t, exec .rootClockLoss s = .next t ∧ t.dev.fatalHeld = some 0 ∧ t.dev.rootLost = true ∧ t.dev.jcc = .off ∧ t.lanes = []) ∧
  (∀ (n cause : Nat) (s : State), s.dev.fatalHeld = some cause → s.dev.resetLow = false →
    ∃ t, exec (.fatalCauseClear n) s = .next t ∧ t.dev.fatalHeld = none ∧ t.dev.mode = .boot ∧ t.dev.jcc = .bootRom ∧
      t.dev.resetKind = (if s.dev.pinWaiting then 2 else 6) ∧ t.dev.resetCause = (if s.dev.pinWaiting then 0 else cause) ∧
      t.clk.tick = s.clk.tick + n)

/-! ### Resets, boot and firmware -/

/-- POR, the PIN reset by RESET_N, POWER.WARM, FW.ACTIVATE and FW.RESTART: the recorded cause, the mode, and what starts. FW.RECOVER:
RECOVERY is pending for the second row boundary, and a holder releases. -/
def Obligations.ResetsRecorded : Prop :=
  (∀ (x : Straps) (s : State), ∃ t, exec (.powerOn x) s = .next t ∧ t.dev.mode = .boot ∧ t.dev.jcc = .bootRom ∧
    t.dev.resetKind = 1 ∧ t.dev.resetCause = 0 ∧ t.dev.planeB = x.planeB ∧ t.dev.primary = x.primary ∧
    t.dev.serviceEn = x.serviceEn ∧ t.clk.rsn = 0 ∧ t.clk.tick = 0 ∧ t.clk.todSet = false ∧ t.lanes = [] ∧ t.par.vals = [] ∧
    t.sec.counter = s.sec.counter ∧ t.sec.slot0 = s.sec.slot0 ∧ t.sec.slot1 = s.sec.slot1) ∧
  (∀ (x : Straps) (s : State), ∃ t, exec (.vaonBrownout x) s = .next t ∧ t.dev.mode = .boot ∧ t.dev.jcc = .bootRom ∧
    t.dev.resetKind = 1 ∧ t.dev.resetCause = 1 ∧ t.dev.planeB = x.planeB ∧ t.clk.rsn = 0 ∧ t.clk.tick = 0) ∧
  (∀ s : State, s.dev.fatalHeld = none → ∃ t, exec .resetNAssert s = .next t ∧ t.dev.resetLow = true ∧ t.dev.jcc = .off ∧
    t.lanes = [] ∧ t.par.store = s.par.store ∧ t.clk.tick = s.clk.tick) ∧
  (∀ (x : Straps) (s : State), s.dev.resetLow = true → s.dev.fatalHeld = none →
    ∃ t, exec (.resetNRelease x) s = .next t ∧ t.dev.resetLow = false ∧ t.dev.mode = .boot ∧ t.dev.jcc = .bootRom ∧
      t.dev.resetKind = 2 ∧ t.dev.resetCause = 0 ∧ t.dev.primary = x.primary) ∧
  (∀ (e : Entry) (bursts : List Burst),
    accepts (.powerWarm e bursts) e ⟨0x0F04, 3, false, false, []⟩ 1 (fun _ => True)
      (fun _ s t => t.dev.jcc = .bootRom ∧ t.dev.resetKind = 3 ∧ t.dev.resetCause = 0 ∧ t.com.gen = s.com.gen ∧
        (s.dev.mode = .test → t.dev.mode = .configure) ∧ (s.dev.mode.traffic = true ∨ s.dev.mode = .configure → t.dev.mode = s.dev.mode) ∧
        t.host.unlocked = false ∧ ∀ k, (t.session k).state = .free ∨ (t.session k).state = .suspended)) ∧
  (∀ e : Entry,
    accepts (.fwRecover e) e ⟨0x1206, 3, false, false, []⟩ 1 (fun s => s.modePending = false ∧ s.powerBusy = false)
      (fun c s t => t.dev = { s.dev with pend := some ⟨.recovery, s.clk.rsn + 2, some c⟩ } ∧
        (s.dev.role = .holder → s.pair.release = none → t.pair.release = some (0, none)))) ∧
  (∀ (e : Entry) (bursts : List Burst) (k : Nat) (i : Image),
    accepts (.fwActivate ⟨e, bursts⟩) e ⟨0x1203, 3, true, false, []⟩ 1
      (fun s => s.slotIn .valid = some k ∧ (s.slotOf k).image = some i ∧ s.dev.mode = .maintain ∧ s.powerBusy = false ∧
        s.pow.dvfs = none)
      (fun _ s t => (s.verifyImage i = none → t.dev.mode = s.dev.prevMode ∧ t.dev.jcc = .bootRom ∧ t.dev.resetKind = 3 ∧
        t.dev.resetCause = 1 ∧ t.slotOf k = ⟨.trial, some i⟩) ∧ (s.verifyImage i ≠ none → s.quiet t))) ∧
  (∀ (e : Entry) (k : Nat),
    accepts (.fwRestart e) e ⟨0x1207, 0, false, false, []⟩ 1
      (fun s => k < 2 ∧ s.sec.verified = some k ∧ (s.slotOf k).state = .valid)
      (fun _ s t => t.dev.mode = .boot ∧ t.dev.jcc = .bootRom ∧ t.dev.resetKind = 2 ∧ t.dev.resetCause = 1 ∧
        t.slotOf k = { s.slotOf k with state := .trial }))

/-- The boot ROM takes an image that verifies; the firmware reports started, or does not; a trial is confirmed. -/
def Obligations.BootAndTrial : Prop :=
  (∀ (k : Nat) (rest : List Nat) (i : Image) (s : State), s.dev.jcc = .bootRom → s.dev.mode ≠ .recovery → s.dev.starting = none →
    s.dev.candsSet = true → s.dev.cands = k :: rest → (s.slotOf k).image = some i →
    ∃ t, exec .bootVerifyDone s = .next t ∧
      (s.verifyImage i = none → t.dev.jcc = .starting ∧ t.dev.starting = some k ∧ t.dev.cands = rest ∧
        t.dev.imageVerified = true ∧ t.jcc.remap = true ∧ Table.getRun 0 t.jcc.sram 0 i.code.length = i.code) ∧
      (s.verifyImage i ≠ none → t.dev.starting = none ∧ (rest ≠ [] → t.dev.cands = rest ∧ t.dev.jcc = .bootRom))) ∧
  (∀ (k : Nat) (s : State), s.dev.starting = some k → s.dev.mode = .boot →
    ∃ t, exec .firmwareStarted s = .next t ∧ t.dev.mode = .configure ∧ t.dev.jcc = .running ∧ t.dev.starting = none ∧
      t.sec.running = some k) ∧
  (∀ (k : Nat) (s : State), s.dev.starting = some k → s.dev.startTick + 50000000 ≤ s.clk.tick →
    ∃ t, exec .firmwareStartTimeout s = .next t ∧ t.dev.starting = none ∧ t.jcc.remap = s.jcc.remap ∧
      (s.dev.cands = [] → s.dev.mode = .boot → t.dev.mode = .recovery) ∧
      (s.dev.cands = [] → s.dev.mode ≠ .boot → t.dev.jcc = .held)) ∧
  (∀ (k : Nat) (i : Image) (s : State), s.sec.running = some k → s.dev.jcc = .running → k < 2 → s.slotOf k = ⟨.trial, some i⟩ →
    s.sec.trialS ≠ 0 → s.elapsed s.sec.trialTick (s.sec.trialS * secTicks) = true →
    ∃ t, exec .trialConfirmation s = .next t ∧ (t.slotOf k).state = .active ∧ (t.slotOf k).image = some i ∧
      t.sec.counter = max s.sec.counter i.floor ∧ t.sec.revoked = s.sec.revoked ||| (2 ^ i.keyIndex - 1) ∧ t.sec.confirm = none)

/-- FW.INFO, FW.LOAD: the record; a chunk that is not the last; the last chunk, of an image that verifies and of one that
does not. -/
def Obligations.FirmwareLoaded : Prop :=
  (∀ (e : Entry) (b : Buf),
    completes (.fwInfo e b) e ⟨0x1201, 1, false, false, []⟩ 0
      (fun s => e.ring ≠ 24 → 64 ≤ b.len ∧ s.bufWrite b 64 = true)
      (fun _ => 0)
      (fun s t => s.quiet t ∧ (e.ring = 24 → t.host.sb.resp = s.fwInfoBytes) ∧
        (16 ≤ e.ring → e.ring ≠ 24 → Table.getRun 0 t.host.mem b.addr s.fwInfoBytes.length = s.fwInfoBytes))) ∧
  (∀ (e : Entry) (b : Buf) (offset total : Nat) (i : Image),
    completes (.fwLoad e b offset total i) e ⟨0x1202, 3, true, false, []⟩ 1
      (fun s => s.loadOpen e b offset total ∧ offset + b.len < total)
      (fun _ => 0)
      (fun s t => t.sec.load = some (total, offset + b.len) ∧ t.sec.running = s.sec.running ∧
        (offset = 0 → t.slotOf s.loadSlot = {}) ∧ t.slotOf (1 - s.loadSlot) = s.slotOf (1 - s.loadSlot))) ∧
  (∀ (e : Entry) (b : Buf) (offset total : Nat) (i : Image) (s : State),
    s.admits (CmdDesc.of ⟨0x1202, 3, true, false, []⟩ (.fwLoad e b offset total i)) e = true →
    (s.served ⟨0x1202, 3, true, false, []⟩ e).journalRoom 1 = true →
    (s.served ⟨0x1202, 3, true, false, []⟩ e).loadOpen e b offset total → offset + b.len = total → total = 20480 + i.codeLen →
    ∃ t, exec (.fwLoad e b offset total i) s = .next t ∧ t.sec.load = none ∧
      t.slotOf (1 - s.loadSlot) = s.slotOf (1 - s.loadSlot) ∧
      (s.verifyImage i = none → s.posted t e 0 ∧ t.slotOf s.loadSlot = ⟨.valid, some i⟩ ∧
        (s.dev.mode = .recovery → t.sec.verified = some s.loadSlot)) ∧
      (s.verifyImage i ≠ none → (t.slotOf s.loadSlot).state ≠ .valid ∨ t.slotOf s.loadSlot = s.slotOf s.loadSlot))

/-- SEC.IDENTITY, SEC.HALLMARK, SEC.KEY_SET and the JTAG port. -/
def Obligations.SecurityCommands : Prop :=
  (∀ (e : Entry) (b : Buf),
    completes (.secIdentity e b) e ⟨0x1301, 1, false, false, []⟩ 0
      (fun s => 17120 ≤ b.len ∧ s.bufWrite b 17120 = true)
      (fun _ => 0)
      (fun s t => s.quiet t ∧ (16 ≤ e.ring → Table.getRun 0 t.host.mem b.addr identityRecord.length = identityRecord))) ∧
  (∀ (e : Entry) (b : Buf) (nonce : List Byte),
    completes (.secHallmark e b nonce) e ⟨0x1302, 1, true, false, []⟩ 0
      (fun s => 36304 ≤ b.len ∧ s.bufWrite b 36304 = true ∧ s.bufRead b 32 = true)
      (fun _ => 0)
      (fun s t => s.quiet t ∧
        (16 ≤ e.ring → Table.getRun 0 t.host.mem b.addr (s.hallmark nonce).length = s.hallmark nonce))) ∧
  (∀ (e : Entry) (b : Buf) (role : Nat) (masked confirm key : BitVec 384) (x : Session),
    completes (.secKeySet e b role masked confirm) e ⟨0x1303, 3, false, false, []⟩ 1
      (fun s => s.findSession e.session = some x ∧ key = x.newKey role masked ∧ 1 ≤ role ∧ role ≤ 4 ∧ 96 ≤ b.len ∧
        s.bufRead b 96 = true ∧ (s.onInitial x = true → role = 3) ∧ (role = 3 → key ≠ 0) ∧
        confirm = Config.hmac384 key (tagConfirm ++ leBytes 1 role ++ leBytes 8 Config.serial.toNat))
      (fun _ => 0)
      (fun s t => (key ≠ 0 → t.roleKey role = some key) ∧ (role ≠ 3 → key = 0 → (Table.find t.sec.keys role) = none) ∧
        t.sec.keyGen = s.sec.keyGen + 1 ∧ (role = 3 → t.sec.adminInitial = false) ∧
        ∀ j, (t.session j).role = role → (t.session j).handle ≠ e.session → (t.session j).state = .provisional ∨
          (t.session j).state = .free ∨ 8 ≤ j)) ∧
  (∀ (op : ScanOp) (s : State), exec (.boundaryScanInstruction op) s = .next { s with dev := { s.dev with scan := some op } }) ∧
  (∀ (bursts : List Burst) (s : State),
    ∃ t, exec (.jtagPortReset bursts) s = .next t ∧ t.dev = { s.dev with scan := none } ∧ ∀ x ∈ t.jcc.sems, x.2 ≠ 14)

/-! ### The host interface -/

/-- Doorbells, ring heads, GO of a mailbox, and the end of a hold-off. The sideband: STATUS and RESULT answer, SUBMIT starts a command
or ends with BAD_PEC, or is ignored while BUSY. -/
def Obligations.RegistersAndSideband : Prop :=
  ((∀ (p : Fin 16) (v : BitVec 32) (s : State), s.barUp = true → (s.ringPair p).on = true →
    v.toNat % 65536 < 2 ^ (s.ringPair p).sqLog → headOk (s.ringPair p).cqLog (s.ringPair p).cqHead (s.ringPair p).cqNext
      (v.toNat / 65536) = true →
    exec (.doorbellWrite p v) s = .next (s.setRingPair p { s.ringPair p with
      sqTail := v.toNat % 65536
      cqHead := v.toNat / 65536 })) ∧
  (∀ (v : BitVec 32) (s : State), s.barUp = true → s.host.evt.on = true →
    headOk s.host.evt.log2 s.host.evt.head s.host.evt.next (v.toNat % 65536) = true →
    exec (.evtHeadWrite v) s = .next { s with host := { s.host with evt := { s.host.evt with head := v.toNat % 65536 } } }) ∧
  (∀ (v : BitVec 32) (s : State), s.barUp = true → s.host.jrn.on = true →
    headOk s.host.jrn.log2 s.host.jrn.head s.host.jrn.next (v.toNat % 65536) = true →
    exec (.jrnHeadWrite v) s = .next { s with host := { s.host with jrn := { s.host.jrn with head := v.toNat % 65536 } } }) ∧
  (∀ (v : BitVec 32) (s : State), s.barUp = true → s.host.fac.on = true →
    headOk s.host.fac.log2 s.host.fac.head s.host.fac.next (v.toNat % 65536) = true →
    exec (.facHeadWrite v) s = .next { s with host := { s.host with fac := { s.host.fac with head := v.toNat % 65536 } } }) ∧
  (∀ (m : Fin 8) (v : BitVec 32) (s : State), s.barUp = true → v.getLsbD 0 = true → (s.mailbox m).state ≠ 1 →
    exec (.mailboxGo m v) s = .next (s.setMailbox m { s.mailbox m with
      state := 1
      taken := false })) ∧
  (∀ (m : Fin 8) (v : BitVec 32) (s : State), (s.mailbox m).state = 1 → exec (.mailboxGo m v) s = .next s) ∧
  (∀ (v : Nat) (s : State), v ∈ s.host.irqWait →
    Table.get 0 s.host.irqTick v + s.cur .hostIrqHoldoff 0 * 25 ≤ s.clk.tick + 1 →
    ∃ t, exec .irqHoldoffEnd s = .next t ∧ v ∉ t.host.irqWait ∧ (v ∈ t.host.irqSent ∨ v ∈ t.host.irqPba)) ∧
  (∀ (k : Nat) (c : PerfCtr) (s : State), 2 ≤ k → s.log.perf = [(k, c)] → c.event = 0x04A → c.obj = 0xFFFF →
    Table.get 0 s.log.perfVal k + 1 < 2 ^ 48 →
    ∃ t, exec .longCommandYield s = .next t ∧ s.quiet t ∧ Table.get 0 t.log.perfVal k = Table.get 0 s.log.perfVal k + 1)) ∧
  (∀ s : State, s.sidebandServed = true →
    exec .i2cStatus s = .next (s.setReply (s.sidebandReply 0x01 s.statusBytes)) ∧
    (∃ t, exec .i2cResult s = .next t ∧ t.host.sb.reply.length = 82 ∧ t = { s with host := t.host }) ∧
    ∀ (head : BitVec 128) (args : BitVec 384) (pec : Byte), s.host.sb.state ≠ 1 →
      (pec = crc8 ([BitVec.ofNat 8 (2 * (0x58 + s.dev.addr)), 0x10] ++ leBytes 64 (entryBits head args).toNat) →
        ∃ t, exec (.i2cSubmit head args pec) s = .next t ∧ t.host.sb.state = 1 ∧ t.host.sb.taken = false ∧
          t.host.sb.cmd = entryBits head args) ∧
      (pec ≠ crc8 ([BitVec.ofNat 8 (2 * (0x58 + s.dev.addr)), 0x10] ++ leBytes 64 (entryBits head args).toNat) →
        ∃ t, exec (.i2cSubmit head args pec) s = .next t ∧ t.host.sb.state = 2 ∧ t.host.sb.compl.status = 0x0012 ∧
          t.host.sb.compl.cmdId = Entry.cmdId ⟨24, entryBits head args⟩)) ∧
  (∀ (head : BitVec 128) (args : BitVec 384) (pec : Byte) (s : State), s.host.sb.state = 1 → exec (.i2cSubmit head args pec) s = .next s)

/-- A provisional handle expires, a session closes by its idle time or its window, with its slot, its ring pairs and its claim on the
staged delta; the bar of a path ends; an endpoint reset, by PERST_N or FLR, suspends the sessions of PCIe and resets the rings, the
mailboxes, MSI-X and BAR0. -/
def Obligations.SessionsEnd : Prop :=
  (∀ (k : Fin 8) (s : State), (s.session k).state = .provisional → (s.session k).hello + 25000000 ≤ s.clk.tick →
    exec (.provisionalHandleExpiry k) s = .next (s.setSession k {})) ∧
  (∀ (k : Fin 8) (s : State), (s.session k).state = .suspended → (s.session k).resume = true →
    (s.session k).hello + 25000000 ≤ s.clk.tick →
    exec (.provisionalHandleExpiry k) s = .next (s.setSession k { s.session k with resume := false })) ∧
  (∀ (k : Fin 8) (n : Nat) (s : State), (s.session k).state = .opened → n = s.cur .sessionIdleTimeout 0 → n ≠ 0 →
    (s.session k).lastTick + n * 25000000 ≤ s.clk.tick →
    ∃ t, exec (.sessionIdleTimeout k) s = .next t ∧ t.session k = {} ∧ (∀ j, j ≠ k.val → t.session j = s.session j) ∧
      (∀ p, (s.ringPair p).on = true → (s.ringPair p).owner = (s.session k).handle → (s.session k).handle % 8 = k →
        t.ringPair p = {}) ∧
      (s.com.owner = (s.session k).handle → t.com.owner = 0) ∧ t.com.staged = s.com.staged) ∧
  (∀ (k : Fin 8) (n : Nat) (s : State), (s.session k).state = .suspended → n = s.cur .sessionResumeWindow 0 → n ≠ 0 →
    (s.session k).since + n * 25000000 ≤ s.clk.tick →
    ∃ t, exec (.resumeWindowExpiry k) s = .next t ∧ t.session k = {} ∧ (∀ j, j ≠ k.val → t.session j = s.session j) ∧
      (∀ p, (s.ringPair p).on = true → (s.ringPair p).owner = (s.session k).handle → (s.session k).handle % 8 = k →
        t.ringPair p = {}) ∧
      (s.com.owner = (s.session k).handle → t.com.owner = 0) ∧ t.com.staged = s.com.staged) ∧
  (∀ s : State, (s.cur .sessionIdleTimeout 0 = 0 → ∀ k, exec (.sessionIdleTimeout k) s = .next s) ∧
    (s.cur .sessionResumeWindow 0 = 0 → ∀ k, exec (.resumeWindowExpiry k) s = .next s)) ∧
  (∀ (p : Fin 2) (n : Nat) (s : State), Table.find s.host.authBar p = some n →
    (n + 1500000000 ≤ s.clk.tick → exec (.authLockExpiry p) s =
      .next { s with host := { s.host with authBar := Table.drop s.host.authBar p } }) ∧
    (s.clk.tick < n + 1500000000 → exec (.authLockExpiry p) s = .next s)) ∧
  (∀ (bursts : List Burst) (s : State),
    ∃ t, exec (.perstNAssert bursts) s = .next t ∧ t.host.linkUp = false ∧ t.endpointClear ∧
      t.host.sb.state = s.host.sb.state ∧ ∀ k, t.session k = (s.session k).afterEndpointReset s.clk.tick) ∧
  (∀ (bursts : List Burst) (s : State), s.host.linkUp = true →
    ∃ t, exec (.functionLevelReset bursts) s = .next t ∧ t.host.linkUp = true ∧ t.endpointClear ∧
      t.host.sb.state = s.host.sb.state ∧ ∀ k, t.session k = (s.session k).afterEndpointReset s.clk.tick) ∧
  (∀ (bursts : List Burst) (s : State), s.host.linkUp = false → exec (.functionLevelReset bursts) s = .next s)

/-! ### The Jaray complex -/

/-- UNLOCK; an apply batch, applied in full or refused in full with a bus error; REMAP; writes to the working SRAM and its aliases;
DMA; the march test. -/
def Obligations.JarayComplex : Prop :=
  (∀ (v : BitVec 32) (s : State), s.barUp = true →
    (v = 0xC1A5 → exec (.unlockWrite v) s = .next { s with host := { s.host with
      unlocked := true
      unlockTick := s.clk.tick } }) ∧
    (v ≠ 0xC1A5 → exec (.unlockWrite v) s = .next { s with host := { s.host with
      unlocked := false
      badKeys := min 255 (s.host.badKeys + 1) } })) ∧
  (∀ s : State, s.host.unlocked = true → s.host.unlockTick + 25000000 ≤ s.clk.tick →
    exec .unlockExpiry s = .next { s with host := { s.host with unlocked := false } }) ∧
  (∀ (j : Fin 2) (ws : List RegWrite) (s u : State), s.masterOn j = true → Table.get [] s.jcc.batch j = [] →
    u = (s.granted j (0x40020000 + 0x4000 * j)).request →
    (256 < ws.length ∨ (∃ w ∈ ws, w.addr < 0x40000000 ∨ 0x50000000 ≤ w.addr ∨ regWritable (w.addr - 0x40000000) = false) →
      ∃ t, exec (.applyBatch j ws) s = .next t ∧ t.jcc.error = true ∧ t.jcc.readData = 0 ∧ t.host = s.host ∧
        t.jcc.busError = Table.put s.jcc.busError j (0x40020000 + 0x4000 * j) ∧ Table.get [] t.jcc.batch j = []) ∧
    (ws.length ≤ 256 → (∀ w ∈ ws, 0x40000000 ≤ w.addr ∧ w.addr < 0x50000000 ∧ regWritable (w.addr - 0x40000000) = true) →
      exec (.applyBatch j ws) s =
        .next (ws.foldl (fun s w => s.regWrite j (w.addr - 0x40000000) w.value)
          { u with jcc := { u.jcc with batch := Table.drop u.jcc.batch j } }))) ∧
  (∀ s : State, s.masterOn 0 = true → exec (.remapWrite 0 true) s = .next { s with jcc := { s.jcc with remap := true } }) ∧
  (∀ (m : Fin 14) (off : Nat) (bs : List Byte) (s : State), s.masterOn m = true → m.val < 10 → bs ≠ [] →
    off % 16 + bs.length ≤ 16 → off < 0x800000 →
    (∃ t, exec (.registerWrite m (0x20000000 + off) bs) s = .next t ∧ Table.getRun 0 t.jcc.sram off bs.length = bs ∧
      t.host = s.host ∧ ∀ a, a < off ∨ off + bs.length ≤ a → Table.get 0 t.jcc.sram a = Table.get 0 s.jcc.sram a) ∧
    (s.jcc.sramBad = [] → ∃ t, exec (.registerWrite m (0x21000000 + off) bs) s = .next t ∧
      Table.getRun 0 t.jcc.sram off bs.length =
        List.zipWith (fun x y => x ||| y) (Table.getRun 0 s.jcc.sram off bs.length) bs) ∧
    (s.jcc.sramBad = [] → ∃ t, exec (.registerWrite m (0x22000000 + off) bs) s = .next t ∧
      Table.getRun 0 t.jcc.sram off bs.length =
        List.zipWith (fun x y => x &&& ~~~y) (Table.getRun 0 s.jcc.sram off bs.length) bs)) ∧
  (∀ (ch : Fin 8) (a b : Nat) (s : State), s.masterOn (ch.val + 2) = true → a + 16 ≤ 0x800000 → b + 16 ≤ 0x800000 →
    s.jcc.sramBad = [] →
    ∃ t, exec (.dmaTransfer ch (0x20000000 + a) (0x20000000 + b) ⟨16, none⟩) s = .next t ∧
      Table.getRun 0 t.jcc.sram b 16 = Table.getRun 0 s.jcc.sram a 16 ∧
      ∀ x, x < b ∨ b + 16 ≤ x → Table.get 0 t.jcc.sram x = Table.get 0 s.jcc.sram x) ∧
  (∀ s : State, s.domain 2 = 0 → s.dev.jcc ≠ .off → s.dev.jcc ≠ .retained → s.jcc.slice ≠ 0 →
    ∃ t, exec (.marchTestSlice 0) s = .next t ∧ t.jcc.region = s.jcc.region ∧ t.jcc.sram = s.jcc.sram ∧
      (s.jcc.slice ≠ 15 → t.jcc.slice = s.jcc.slice + 1 ∧ t.jcc.marchOn = true) ∧
      (s.jcc.slice = 15 → t.jcc.slice = 0 ∧ t.jcc.marchOn = false ∧ t.jcc.nextRegion = (s.jcc.region + 1) % 2048 ∧
        t.cnt .cfgPmMarchRegions 0 = (s.cnt .cfgPmMarchRegions 0 + 1) % 2 ^ 48))

/-! ### Events, journal, counters -/

/-- LOG.EVENT_RING, JOURNAL_RING, FILTER, ALARMS, PERF.PROGRAM and PERF.READ. -/
def Obligations.LoggingCommands : Prop :=
  (∀ (e : Entry) (addr log2 vector : Nat),
    completes (.logEventRing e addr log2 vector) e ⟨0x1001, 3, false, false, []⟩ 1
      (fun s => 4 ≤ log2 ∧ log2 ≤ 16 ∧ vector ≤ 31 ∧ addr % 4096 = 0 ∧ s.writeOk addr (32 * 2 ^ log2) = true ∧
        s.host.evt.on = false)
      (fun _ => 0)
      (fun s t => t.host.evt = { on := true, addr := addr, log2 := log2, vector := vector } ∧ t.host.dmaOn = true ∧ s.quiet t)) ∧
  (∀ (e : Entry) (addr log2 vector : Nat),
    completes (.logJournalRing e addr log2 vector) e ⟨0x1002, 3, false, false, []⟩ 1
      (fun s => 4 ≤ log2 ∧ log2 ≤ 16 ∧ vector ≤ 31 ∧ addr % 4096 = 0 ∧ s.writeOk addr (64 * 2 ^ log2) = true ∧
        s.host.jrn.on = false)
      (fun _ => 0)
      (fun s t => t.host.jrn = { on := true, addr := addr, log2 := log2, vector := vector } ∧ t.host.dmaOn = true ∧ s.quiet t)) ∧
  (∀ (e : Entry) (b : Buf) (fs : List FilterEntry),
    completes (.logFilter e b fs.length fs) e ⟨0x1003, 2, false, false, []⟩ 1
      (fun s => fs ≠ [] ∧ fs.length ≤ 64 ∧ 8 * fs.length ≤ b.len ∧ (∀ f ∈ fs, 1 ≤ f.cls ∧ f.cls ≤ 3 ∧ f.action ≤ 1) ∧
        s.bufRead b (8 * fs.length) = true)
      (fun _ => 0)
      (fun s t => t.log.filters = fs ∧ s.quiet t)) ∧
  (∀ (e : Entry) (b : Buf),
    completes (.logAlarms e b) e ⟨0x1004, 1, false, false, []⟩ 0
      (fun s => b.len ≠ 0 ∧ b.len % 16 = 0 ∧ s.bufWrite b b.len = true)
      (fun s => s.log.alarms.length)
      (fun s t => s.quiet t ∧ (16 ≤ e.ring → ∀ k a, s.log.alarms[k]? = some a → 16 * k < b.len →
        Table.getRun 0 t.host.mem (b.addr + 16 * k) 16 = a.bytes))) ∧
  (∀ (e : Entry) (b : Buf) (es : List PerfEntry),
    accepts (.perfProgram e b es.length es) e ⟨0x1101, 3, false, false, []⟩ 1
      (fun s => es ≠ [] ∧ es.length ≤ 192 ∧ 16 * es.length ≤ b.len ∧
        (∀ x ∈ es, x.counter ≤ 191 ∧ perfListed x.event = true ∧ PerfEntry.conflict x = false) ∧
        namedTwice (es.map (·.counter)) = false ∧ s.bufRead b (16 * es.length) = true)
      (fun c s t => t.log.perfPend = s.log.perfPend ++ es ∧ t.prot.waits = s.prot.waits ++ [(s.clk.rsn + 1, c, 0)] ∧
        s.quiet { t with prot := s.prot } ∧ t.prot.groups = s.prot.groups ∧ t.prot.merges = s.prot.merges)) ∧
  (∀ (e : Entry) (b : Buf) (first count : Nat),
    completes (.perfRead e b first count) e ⟨0x1102, 1, false, false, []⟩ 0
      (fun s => (2 ≤ s.callerRole e ∨ s.cur .perfObserverRead 0 ≠ 0) ∧ count ≠ 0 ∧ first + count ≤ 416 ∧ 8 * count ≤ b.len ∧
        s.bufWrite b (8 * count) = true)
      (fun _ => 0)
      (fun s t => s.quiet t ∧ (16 ≤ e.ring → ∀ k, k < count → Table.getRun 0 t.host.mem (b.addr + 8 * k) 8 =
        leBytes 8 (Table.get 0 s.log.perfVal (first + k) +
          (if first + k < 192 then (s.perfCtr (first + k)).event else 0) * 2 ^ 48))))

/-- What the firmware and the engines write and count with time: the rings, HEARTBEAT, TJ_MAX, the lifetime records. -/
def Obligations.LoggingEvents : Prop :=
  (∀ (x : Event) (s : State), s.ringsServed = true → s.host.evt.on = true → s.log.queue = [x] → x.len = 1 →
    1 ≤ s.host.evt.room →
    ∃ t, exec .eventRingWrite s = .next t ∧ t.host.evt = s.host.evt.advance ∧
      Table.getRun 0 t.host.mem (s.host.evt.addr + 32 * s.host.evt.next) 32 = x.head s.host.evt.phase) ∧
  (∀ (j : JRec) (s : State), s.ringsServed = true → s.host.jrn.on = true → s.log.jbuf = [j] → s.log.jcoal = [] →
    1 ≤ s.host.jrn.room →
    ∃ t, exec .journalRingWrite s = .next t ∧ t.host.jrn = s.host.jrn.advance ∧ t.log.jbuf = [] ∧
      Table.getRun 0 t.host.mem (s.host.jrn.addr + 64 * s.host.jrn.next) 64 = j.bytes) ∧
  (∀ s : State, s.dev.jcc = .running →
    exec .heartbeat s = .next { s with host := { s.host with heartbeat := s.host.heartbeat + 1 } }) ∧
  (∀ (x : Int) (s : State), exec (.tjUpdate x) s = .next { s with host := { s.host with tjMax := x } }) ∧
  (∀ (xs : List Int) (bins : List Nat) (s : State), ∃ t, exec (.lifetimeSample xs bins) s = .next t ∧
    Table.get 0 t.log.life 0 = Table.get 0 s.log.life 0 + 1 ∧
    (∀ x p, hottest xs = some x → s.log.lifePeak = some p → x ≤ p - 40 → t.log.lifePeak = some x) ∧
    (∀ x p, hottest xs = some x → s.log.lifePeak = some p → p - 40 < x → t.log.lifePeak = some (max p x))) ∧
  (∀ s : State, s.dev.jcc = .running → s.elapsed s.log.lifeTick (60 * secTicks) = true →
    ∃ t, exec .lifetimeSlotWrite s = .next t ∧ Table.get [] t.log.lifeSlots (s.log.lifeNext % 8) = t.log.life ∧
      t.log.lifeNext = s.log.lifeNext + 1 ∧ t.log.lifeTick = s.clk.tick)

/-! ### Boundaries -/

/-- ROW_BOUNDARY, SUPERFRAME_BOUNDARY and SECOND_BOUNDARY complete. A row boundary with no step of the time due and no live copy
moves the clock by one row, whatever else takes place at it, and commits nothing; while TIM does not run only AON counts. A
superframe boundary stands at RSN mod 625 = 0 and takes the snapshot of AON and the saturation counts; a second boundary stands at
RSN mod 390,625 = 0 and takes the _prev snapshots; in any other row they change nothing. -/
def Obligations.Boundaries : Prop :=
  (∀ (m : RowMeas) (s : State), s.timRuns = true → s.flt.parityNew = [] → s.tim.step = [] → s.pair.fwd = [] → s.pair.live = none →
    ∃ t, exec (.rowBoundary m) s = .next t ∧ t.clk.rsn = s.clk.rsn + 1 ∧ t.clk.tick = s.clk.tick + 64 ∧
      t.clk.tod = s.clk.tod + 4096 ∧ t.com.gen = s.com.gen ∧ t.sec = s.sec) ∧
  (∀ (m : RowMeas) (s : State), s.timRuns = false →
    exec (.rowBoundary m) s = .next { s with clk := { s.clk with tick := s.clk.tick + 64 } }) ∧
  (∀ s : State, s.timRuns = true → s.clk.rsn.toNat % 625 = 0 →
    ∃ t, exec .superframeBoundary s = .next t ∧ t.pow.snap = some (s.clk.rsn, s.clk.tod, s.tq, s.clk.tick) ∧ t.clk = s.clk ∧
      t.com.gen = s.com.gen ∧ ∀ d x, Table.find s.obs.cuts d = some x → (t.cut d).satLast = x.satNow ∧ (t.cut d).satNow = []) ∧
  (∀ s : State, s.timRuns = false ∨ s.clk.rsn.toNat % 625 ≠ 0 → exec .superframeBoundary s = .next s) ∧
  (∀ s : State, s.timRuns = true → s.clk.rsn.toNat % 390625 = 0 → (∀ x ∈ s.lanes, x.1 < 512) →
    ∃ t, exec .secondBoundary s = .next t ∧ t.clk = s.clk ∧ t.com = s.com ∧ t.sw = s.sw ∧ ∀ n o, o < 65536 →
      n ∉ [.lanePmEs, .lanePmSes, .lanePmUas, .timingPmOasisS, .timingPmFreerunS] →
      Table.get 0 t.par.prev (n.key o) = s.cnt n o) ∧
  (∀ s : State, s.timRuns = false ∨ s.clk.rsn.toNat % 390625 ≠ 0 → exec .secondBoundary s = .next s)

/-- R414: a read of RSN_LO latches RSN bits [47:32] into RSN_HI and changes nothing else; RSN_HI reads as latched, and so the two
words of a 64-bit read make one RSN. -/
def Obligations.RowNumberLatched : Prop :=
  (∀ s : State, exec .rsnLoRead s =
    .next { s with host := { s.host with rsnHi := BitVec.ofNat 16 (s.clk.rsn.toNat / 2 ^ 32) } }) ∧
  (∀ s : State, s.reg 0x3C = s.host.rsnHi.toNat) ∧
  (∀ s t : State, exec .rsnLoRead s = .next t → s.reg 0x38 + 2 ^ 32 * t.reg 0x3C = s.clk.rsn.toNat)

/-- R456 as SEMAPHORE_READ and SEMAPHORE_WRITE give it, for the masters that run and reach the register space: J0 and J1 (0 and 1) and
the debug master (13). -/
def Obligations.SemaphoresHeld : Prop :=
  ∀ (m : Fin 14) (k : Fin 64) (s : State), s.masterOn m = true → m.val < 2 ∨ m.val = 13 →
    (Table.get 0 s.jcc.sems k = 0 → ∃ t, exec (.semaphoreRead m k) s = .next t ∧ t.jcc.readData = 0 ∧
      Table.get 0 t.jcc.sems k = (if m.val = 13 then 0 else m.val + 1) ∧
      ∀ j, j ≠ k.val → Table.get 0 t.jcc.sems j = Table.get 0 s.jcc.sems j) ∧
    (∀ h, Table.get 0 s.jcc.sems k = h + 1 → ∃ t, exec (.semaphoreRead m k) s = .next t ∧ t.jcc.sems = s.jcc.sems ∧
      t.jcc.readData = 0x80000000 ||| BitVec.ofNat 32 h) ∧
    (Table.get 0 s.jcc.sems k = m.val + 1 → ∃ t, exec (.semaphoreWrite m k) s = .next t ∧ Table.get 0 t.jcc.sems k = 0 ∧
      ∀ j, j ≠ k.val → Table.get 0 t.jcc.sems j = Table.get 0 s.jcc.sems j) ∧
    (Table.get 0 s.jcc.sems k ≠ m.val + 1 → ∃ t, exec (.semaphoreWrite m k) s = .next t ∧ t.jcc.sems = s.jcc.sems)

/-- R419: RECOVER as RECOVER_WRITE gives it, whatever the firmware does. A write while UNLOCKED is 0 changes nothing; a keyed write of 0
consumes the unlock alone; a keyed write of 1 resets the device into RECOVERY as FW.RECOVER does, with the cause BAR_RECOVER. -/
def Obligations.RecoverRegister : Prop :=
  ∀ (v : BitVec 32) (s : State), s.barUp = true →
    (s.host.unlocked = false → exec (.recoverWrite v) s = .next s) ∧
    (s.host.unlocked = true → v.getLsbD 0 = false → exec (.recoverWrite v) s =
      .next { s with host := { s.host with unlocked := false } }) ∧
    (s.host.unlocked = true → v.getLsbD 0 = true → ∃ t, exec (.recoverWrite v) s = .next t ∧ t.dev.mode = .recovery ∧
      t.dev.jcc = .bootRom ∧ t.dev.resetKind = 2 ∧ t.dev.resetCause = 2 ∧ t.dev.role = .none ∧ t.host.unlocked = false ∧
      t.lanes = [] ∧ t.tribs = [] ∧ t.par.vals = [] ∧ t.par.store = s.par.store ∧ t.sec.counter = s.sec.counter ∧
      t.host.mem = s.host.mem)

/-! ### The whole block -/

/-- What POR leaves by R493, in State.reset and after POWER_ON from any state: mode BOOT, no role, RSN 0, TQ 0b00, no maps, tributaries
or merge pairs, no commit, setpoints 0, the unlock cleared, sessions closed, rings and MSI-X reset, no _prev snapshot, no filters; after
POWER_ON the kind of the last reset is POR, while State.reset holds BOOT_STATUS at its Reset of 0 (log entry 119). In State.reset the
queue is empty and the memories are in canonical form too. -/
def Obligations.AfterPowerOn : Prop :=
  (∀ t : State, t = State.reset ∨ (∃ x s, exec (.powerOn x) s = .next t) →
    t.dev.mode = .boot ∧ t.dev.role = .none ∧ (t ≠ State.reset → t.dev.resetKind = 1) ∧ t.dev.resetCause = 0 ∧ t.clk.rsn = 0 ∧ t.tq = 0 ∧
      t.tim.sel = 31 ∧ t.tim.state = .freerun ∧ t.tim.histValid = false ∧ t.sw = {} ∧ t.com = {} ∧ t.prot = {} ∧
      t.tribs = [] ∧ t.lanes = [] ∧ t.obs = {} ∧ t.pow.dvfsJcc = 0 ∧ t.pow.dvfsFac = 0 ∧ t.host.unlocked = false ∧
      t.host.sessions = [] ∧ t.host.pairs = [] ∧ t.host.msix = [] ∧ t.host.evt.on = false ∧ t.host.jrn.on = false ∧
      t.host.fac.on = false ∧ t.par.vals = [] ∧ t.par.prev = [] ∧ t.log.filters = [] ∧ t.log.perf = []) ∧
  State.reset.pending = [] ∧ State.reset.memOk

/-- A step takes the command at the front of the queue and is that command with the queue's rest. With an empty queue the block idles:
that is the model's choice (log entry 5). -/
def Obligations.StepRunsTheFrontCommand : Prop :=
  (∀ (c : Instr) (rest : List Instr) (s : State), s.pending = c :: rest → step s = exec c { s with pending := rest }) ∧
  (∀ s : State, s.pending = [] → step s = .next s)

/-- No command and no event ends a run: exec answers a next state for every command, with every operand, in every state. -/
def Obligations.EveryCommandAnswers : Prop :=
  ∀ (i : Instr) (s : State), ∃ t, exec i s = .next t

/-- What the first seven refusals of R388 do and when each is given: a command that does not stand at its head, or whose turn has not
come, is not taken; a stale entry and a command that one of them meets change nothing but the host interface, the telemetry and the
counts, and end with the STATUS. -/
def Obligations.RefusalsChangeNothing : Prop :=
  (∀ (i : Instr) (d : CmdDesc) (e : Entry) (s : State), drepexOf i = some (d, e) →
    (s.starts d e = false → exec i s = .next s ∨ exec i s = .next s.reapRings) ∧
    (s.starts d e = true → e.ring < 16 → (s.ringPair e.ring).expSeq ≠ e.submitSeq →
      ∃ t, exec i s = .next t ∧ s.quiet t ∧ s.ended t e 0x0006 0xFFFFFFFF false) ∧
    (s.starts d e = true → 16 ≤ e.ring ∨ (s.ringPair e.ring).expSeq = e.submitSeq →
      ∀ st, (s.served (descOf d e) e).headRefusal (descOf d e) e = some st →
        ∃ t, exec i s = .next t ∧ s.quiet t ∧ s.ended t e st 0xFFFFFFFF false)) ∧
  (∀ (d : CmdDesc) (e : Entry) (s : State), s.dev.mode.working = true →
    (catalogued d.code = false ∨ d.code = 0x1207 → s.headRefusal d e = some 0x0001) ∧
    (catalogued d.code = true → d.code ≠ 0x1207 → e.reservedZero d = false → s.headRefusal d e = some 0x0002) ∧
    (catalogued d.code = true → d.code ≠ 0x1207 → d.code ≠ 0x0101 → d.code ≠ 0x0102 → e.reservedZero d = true →
      (s.findSession e.session = none → s.headRefusal d e = some 0x0101) ∧
      ∀ x, s.findSession e.session = some x →
        (x.path ≠ pathOf e.ring ∨ (e.ring < 16 ∧ (s.ringPair e.ring).owner ≠ e.session) → s.headRefusal d e = some 0x0101) ∧
        (x.path = pathOf e.ring → 16 ≤ e.ring ∨ (s.ringPair e.ring).owner = e.session →
          (x.state = .suspended → s.headRefusal d e = some 0x0102) ∧
          (x.state = .opened → x.role < d.role ∨ (x.role = 4 ∧ d.code = 0x1303) ∨
            (x.role < 2 ∧ d.code = 0x1102 ∧ s.cur .perfObserverRead 0 = 0) → s.headRefusal d e = some 0x0103) ∧
          (x.state = .opened → s.mayRun x.role d = true → x.initial = false →
            (s.headRefusal d e = none ↔ (e.ring = 24 → onSideband s.dev.mode d.code = true) ∧
              (s.pair.takeover = true → ¬(5 ≤ d.code / 256 ∧ d.code / 256 ≤ 10)))))))

/-- The zero rule of R438 for item counts: a valid no-op, with STATUS OK and NOOP, for the read commands and for the change commands. -/
def Obligations.ZeroCountsAreNoOps : Prop :=
  (∀ (e : Entry) (b : Buf) (first bank map dune : Nat) (ids : List PId),
    passesOver (.paramGet e b 0 ids) e ⟨0x0201, 1, false, false, []⟩ 0 (fun _ => True) ∧
    passesOver (.paramDescribe e b 0 ids) e ⟨0x0203, 1, false, false, []⟩ 0 (fun _ => True) ∧
    passesOver (.mapRead e b first 0 bank map dune) e ⟨0x0504, 1, false, false, []⟩ 0 (fun _ => True) ∧
    passesOver (.cutReadSat e b first 0 dune) e ⟨0x0D02, 1, false, false, []⟩ 0 (fun _ => True) ∧
    passesOver (.perfRead e b first 0) e ⟨0x1102, 1, false, false, []⟩ 0
      (fun s => 2 ≤ s.callerRole e ∨ s.cur .perfObserverRead 0 ≠ 0)) ∧
  (∀ (e : Entry) (b : Buf) (target : Nat) (gs : List Nat) (ps : List ParamEntry) (ds : List DomainEntry) (fs : List FilterEntry)
      (cs : List PerfEntry),
    passesOver (.paramSet e b 0 ps) e ⟨0x0202, 0, false, false, []⟩ 1 (fun _ => True) ∧
    passesOver (.powerDomain e b 0 ds) e ⟨0x0F02, 3, false, false, []⟩ 1 (fun _ => True) ∧
    passesOver (.logFilter e b 0 fs) e ⟨0x1003, 2, false, false, []⟩ 1 (fun _ => True) ∧
    passesOver (.perfProgram e b 0 cs) e ⟨0x1101, 3, false, false, []⟩ 1 (fun _ => True) ∧
    passesOver (.protLockout e b 0 gs) e ⟨0x0801, 2, false, true, []⟩ 1 (fun s => s.dev.role ≠ .follower) ∧
    passesOver (.protForce e b 0 gs) e ⟨0x0802, 2, false, true, []⟩ 1 (fun s => s.dev.role ≠ .follower) ∧
    passesOver (.protManual e b 0 target gs) e ⟨0x0803, 2, false, true, []⟩ 1 (fun s => s.dev.role ≠ .follower) ∧
    passesOver (.protClear e b 0 gs) e ⟨0x0804, 2, false, true, []⟩ 1 (fun s => s.dev.role ≠ .follower))

/-- What every step keeps, from every state: the memories stay in canonical form, OTP goes one way only (R550), and the queue loses
its front command. -/
def Obligations.KeptByEveryStep : Prop :=
  ∀ s t : State, s.memOk → step s = .next t → t.memOk ∧ s.otpLe t ∧ t.pending = s.pending.tail
end

