-- ==== Sys2Proof/Laws/Table.lean ====
section
/-!
SUPPORT. Laws/Table.lean: reading a sparse table after a write, and the canonical form that every write keeps.
-/
namespace Sys2Proof.Table
variable {α : Type}

theorem find_put_same (t : Table α) (k : Nat) (v : α) : find (put t k v) k = some v := by
  induction t with
  | nil => simp [put, find]
  | cons x r ih =>
    obtain ⟨j, w⟩ := x
    by_cases h : k < j
    · simp [put, find, h]
    · by_cases h' : k = j
      · simp [put, find, h']
      · simp [put, find, h, h', ih, Ne.symm h']

theorem find_put_other (t : Table α) {k i : Nat} (v : α) (h : i ≠ k) : find (put t k v) i = find t i := by
  induction t with
  | nil => simp [put, find, Ne.symm h]
  | cons x r ih =>
    obtain ⟨j, w⟩ := x
    by_cases h1 : k < j
    · simp [put, find, h1, Ne.symm h]
    · by_cases h2 : k = j
      · subst h2; simp [put, find, Ne.symm h]
      · simp [put, find, h1, h2, ih]

theorem find_drop_same (t : Table α) (k : Nat) : find (drop t k) k = none := by
  induction t with
  | nil => rfl
  | cons x r ih =>
    obtain ⟨j, w⟩ := x
    by_cases h : j = k <;> simp [drop, find, h, ih]

theorem find_drop_other (t : Table α) {k i : Nat} (h : i ≠ k) : find (drop t k) i = find t i := by
  induction t with
  | nil => rfl
  | cons x r ih =>
    obtain ⟨j, w⟩ := x
    by_cases h1 : j = k
    · subst h1; simp [drop, find, ih, Ne.symm h]
    · simp [drop, find, h1, ih]

variable [DecidableEq α]

@[simp] theorem get_set_same (d : α) (t : Table α) (k : Nat) (v : α) : get d (set d t k v) k = v := by
  by_cases h : v = d
  · subst h; simp [get, set, find_drop_same]
  · simp [get, set, h, find_put_same]

theorem get_set_other (d : α) (t : Table α) {k i : Nat} (v : α) (h : i ≠ k) : get d (set d t k v) i = get d t i := by
  by_cases h' : v = d
  · simp [get, set, h', find_drop_other t h]
  · simp [get, set, h', find_put_other t v h]

theorem get_setRun_outside (d : α) (vs : List α) (t : Table α) {k i : Nat} (h : i < k ∨ k + vs.length ≤ i) :
    get d (setRun d t k vs) i = get d t i := by
  induction vs generalizing t k with
  | nil => rfl
  | cons v r ih =>
    have hl : (v :: r).length = r.length + 1 := rfl
    have h2 : i < k + 1 ∨ k + 1 + r.length ≤ i := by omega
    simp only [setRun]
    rw [ih _ h2, get_set_other]; omega

/-- A run that was written reads back. -/
theorem getRun_setRun (d : α) (vs : List α) (t : Table α) (k : Nat) : getRun d (setRun d t k vs) k vs.length = vs := by
  induction vs generalizing t k with
  | nil => rfl
  | cons v r ih =>
    have h : get d (setRun d (set d t k v) (k + 1) r) k = v := by
      rw [get_setRun_outside _ _ _ (by omega)]; simp
    simp [getRun, setRun, h, ih]

/-- Applying a function that keeps the default to every value. -/
theorem get_mapVals (d : α) (f : Nat → α → α) (t : Table α) (k : Nat) (h : f k d = d) :
    get d (mapVals d f t) k = f k (get d t k) := by
  induction t with
  | nil => simp [mapVals, get, find, h]
  | cons x r ih =>
    obtain ⟨j, v⟩ := x
    simp only [mapVals]
    by_cases hj : j = k
    · subst hj
      split
      · next hw => simp [get, find, find_drop_same, hw]
      · simp [get, find]
    · split
      · unfold get; rw [find_drop_other _ (Ne.symm hj)]; simpa [get, find, hj] using ih
      · simpa [get, find, hj] using ih

/-! ### The canonical form -/

theorem wf_tail {d : α} {x : Nat × α} {r : Table α} (h : wf d (x :: r) = true) : wf d r = true := by
  obtain ⟨j, v⟩ := x; simp [wf] at h; exact h.2

theorem wf_head {d : α} {j : Nat} {v : α} {r : Table α} (h : wf d ((j, v) :: r) = true) : v ≠ d := by
  simp [wf] at h; exact h.1.2

theorem wf_above {d : α} {j : Nat} {v : α} {r : Table α} (h : wf d ((j, v) :: r) = true) : above j r := by
  induction r generalizing j v with
  | nil => intro x hx; cases hx
  | cons y r ih =>
    obtain ⟨k, w⟩ := y
    have hjk : j < k := by simp [wf] at h; exact h.1.1
    intro x hx
    cases hx with
    | head => exact hjk
    | tail _ hx => exact Nat.lt_trans hjk (ih (wf_tail h) x hx)

theorem wf_cons {d : α} {j : Nat} {v : α} {r : Table α} (hv : v ≠ d) (ha : above j r) (hr : wf d r = true) :
    wf d ((j, v) :: r) = true := by
  cases r with
  | nil => simp [wf, hv]
  | cons y r =>
    obtain ⟨k, w⟩ := y
    have := ha (k, w) (List.mem_cons_self ..)
    simp [wf, hv, this] at hr ⊢; exact hr

omit [DecidableEq α] in
theorem above_put {b k : Nat} {t : Table α} {v : α} (h : above b t) (hk : b < k) : above b (put t k v) := by
  induction t with
  | nil => intro x hx; simp [put] at hx; simpa [hx] using hk
  | cons y r ih =>
    obtain ⟨j, w⟩ := y
    have hr : above b r := fun x hx => h x (List.mem_cons_of_mem _ hx)
    have hj : b < j := h (j, w) (List.mem_cons_self ..)
    intro x hx
    simp only [put] at hx
    split at hx
    · cases hx with
      | head => exact hk
      | tail _ hx => exact h x hx
    · split at hx
      · cases hx with
        | head => exact hk
        | tail _ hx => exact hr x hx
      · cases hx with
        | head => exact hj
        | tail _ hx => exact ih hr x hx

omit [DecidableEq α] in
theorem above_drop {b k : Nat} {t : Table α} (h : above b t) : above b (drop t k) := by
  induction t with
  | nil => exact h
  | cons y r ih =>
    obtain ⟨j, w⟩ := y
    have hr : above b r := fun x hx => h x (List.mem_cons_of_mem _ hx)
    intro x hx
    simp only [drop] at hx
    split at hx
    · exact ih hr x hx
    · cases hx with
      | head => exact h (j, w) (List.mem_cons_self ..)
      | tail _ hx => exact ih hr x hx

theorem wf_put {d : α} {t : Table α} {k : Nat} {v : α} (h : wf d t = true) (hv : v ≠ d) : wf d (put t k v) = true := by
  induction t with
  | nil => simp [put, wf, hv]
  | cons y r ih =>
    obtain ⟨j, w⟩ := y
    simp only [put]
    split
    · next hk =>
      refine wf_cons hv ?_ h
      intro x hx
      cases hx with
      | head => exact hk
      | tail _ hx => exact Nat.lt_trans hk (wf_above h x hx)
    · split
      · next hk => subst hk; exact wf_cons hv (wf_above h) (wf_tail h)
      · next h1 h2 => exact wf_cons (wf_head h) (above_put (wf_above h) (by omega)) (ih (wf_tail h))

theorem wf_drop {d : α} {t : Table α} {k : Nat} (h : wf d t = true) : wf d (drop t k) = true := by
  induction t with
  | nil => rfl
  | cons y r ih =>
    obtain ⟨j, w⟩ := y
    simp only [drop]
    split
    · exact ih (wf_tail h)
    · exact wf_cons (wf_head h) (above_drop (wf_above h)) (ih (wf_tail h))

/-- Every write keeps the canonical form. -/
theorem wf_set {d : α} {t : Table α} (k : Nat) (v : α) (h : wf d t = true) : wf d (set d t k v) = true := by
  unfold set; split
  · exact wf_drop h
  · next hv => exact wf_put h hv

/-- Every write of a run keeps the canonical form. -/
theorem wf_setRun {d : α} (vs : List α) {t : Table α} (k : Nat) (h : wf d t = true) : wf d (setRun d t k vs) = true := by
  induction vs generalizing t k with
  | nil => exact h
  | cons v r ih => exact ih _ (wf_set k v h)

end Sys2Proof.Table
end

