-- ==== Sys2Proof/Laws/Memory.lean ====
section
/-!
SUPPORT. Laws/Memory.lean: the two byte memories of the state. Every operation that writes one keeps its canonical form, a run that was
written reads back, and every byte outside it is as it was.
-/
namespace Sys2Proof.Machine

/-- A write to host memory keeps the canonical form. -/
theorem hostWrite_wf (s : State) (a : Nat) (bs : List Byte) (h : Memory.wf s.host.mem) : Memory.wf (s.hostWrite a bs).host.mem :=
  Table.wf_setRun bs a h

/-- What was written to host memory reads back. -/
theorem hostWrite_reads (s : State) (a : Nat) (bs : List Byte) : Table.getRun 0 (s.hostWrite a bs).host.mem a bs.length = bs :=
  Table.getRun_setRun 0 bs s.host.mem a

/-- A write to host memory leaves every other byte. -/
theorem hostWrite_outside (s : State) {a x : Nat} (bs : List Byte) (h : x < a ∨ a + bs.length ≤ x) :
    Table.get 0 (s.hostWrite a bs).host.mem x = Table.get 0 s.host.mem x :=
  Table.get_setRun_outside 0 bs s.host.mem h

/-- A beat that the working SRAM takes: what it leaves, byte by byte, is what the view makes of the old bytes and the new. -/
theorem sramWrite_sram (s : State) (m k off : Nat) (bs : List Byte) (h : (s.sramWrite m k off bs).1 = true) :
    (s.sramWrite m k off bs).2.jcc.sram =
      Table.setRun 0 s.jcc.sram off (List.zipWith (aliased k) (Table.getRun 0 s.jcc.sram off bs.length) bs) := by
  unfold State.sramWrite at h ⊢
  dsimp only at h ⊢
  split at h
  · exact absurd h Bool.false_ne_true
  · rename_i c
    rw [if_neg c]

/-- A beat that the working SRAM takes keeps the canonical form. -/
theorem sramWrite_wf (s : State) (m k off : Nat) (bs : List Byte) (h : (s.sramWrite m k off bs).1 = true)
    (w : Memory.wf s.jcc.sram) : Memory.wf (s.sramWrite m k off bs).2.jcc.sram := by
  rw [sramWrite_sram s m k off bs h]
  exact Table.wf_setRun _ _ w

/-- A beat that the working SRAM takes leaves every byte outside it. -/
theorem sramWrite_outside (s : State) (m k off : Nat) (bs : List Byte) {x : Nat} (h : (s.sramWrite m k off bs).1 = true)
    (hx : x < off ∨ off + bs.length ≤ x) : Table.get 0 (s.sramWrite m k off bs).2.jcc.sram x = Table.get 0 s.jcc.sram x := by
  rw [sramWrite_sram s m k off bs h]
  apply Table.get_setRun_outside
  rw [List.length_zipWith]
  omega

/-- The image that the boot ROM copies into the working SRAM keeps the canonical form (R554). -/
theorem imageLoad_wf (sram : Memory) (code : List Byte) (h : Memory.wf sram) : Memory.wf (Table.setRun 0 sram 0 code) :=
  Table.wf_setRun code 0 h

/-- A memory that lists nothing, as after reset, is in canonical form. -/
theorem empty_wf : Memory.wf [] := rfl

end Sys2Proof.Machine
end

