-- ==== Sys2Proof/Laws/Quiet.lean ====
section
/-!
SUPPORT. Laws/Quiet.lean: the shared operations that count, report, journal, signal, serve and complete touch the host
interface, the telemetry and the counts alone.
-/
namespace Sys2Proof.Machine

@[simp] theorem quiet_refl (s : State) : s.quiet s := rfl

theorem State.quiet.trans {s t u : State} (h : s.quiet t) (k : t.quiet u) : s.quiet u := by
  unfold State.quiet at *; rw [k, h]

/-- Any change of the three components is quiet. -/
theorem quiet_mk (s : State) (h : HostIf) (l : Log) (c : Table Nat) :
    s.quiet { s with
      host := h
      log := l
      par := { s.par with counts := c } } := rfl

theorem quiet_host (s : State) (h : HostIf) : s.quiet { s with host := h } := rfl

theorem quiet_log (s : State) (l : Log) : s.quiet { s with log := l } := rfl

theorem quiet_ite {s a b : State} (p : Prop) [Decidable p] (h : s.quiet a) (k : s.quiet b) : s.quiet (if p then a else b) := by
  split <;> assumption

theorem quiet_bump (s : State) (n : Pn) (o k : Nat) : s.quiet (s.bump n o k) := by
  unfold State.bump; split <;> rfl

theorem quiet_foldl {α : Type} (f : State → α → State) (h : ∀ (s : State) (a : α), s.quiet (f s a)) (l : List α) (s : State) :
    s.quiet (l.foldl f s) := by
  induction l generalizing s with
  | nil => rfl
  | cons a r ih => exact (h s a).trans (ih _)

theorem quiet_perfBump (s : State) (i k : Nat) : s.quiet (s.perfBump i k).1 := rfl

theorem quiet_pushEvent (s : State) (cls sev : Nat) (b : Bool) (code obj data : Nat) (p : List Byte) :
    s.quiet (s.pushEvent cls sev b code obj data p) := rfl

theorem quiet_perfQuiet (s : State) (ev k : Nat) : s.quiet (s.perfQuiet ev k) := by
  refine quiet_foldl _ ?_ _ _
  intro s a; split
  · exact quiet_perfBump ..
  · rfl

theorem quiet_dropEvent (s : State) (cls code : Nat) : s.quiet (s.dropEvent cls code) := by
  have h : ∀ u : State, u.quiet (match cls with
      | 1 => u.bump .logPmDropInfo 0 1
      | 2 => u.bump .logPmDropPerf 0 1
      | _ => u.bump .logPmDropTrace 0 1) := by
    intro u; split <;> exact quiet_bump ..
  exact (State.quiet.trans (quiet_log s _) (quiet_perfQuiet _ 7 1)).trans (h _)

theorem quiet_dropSummary (s : State) (cls : Nat) : s.quiet (s.dropSummary cls) := by
  unfold State.dropSummary; dsimp only; split
  · rfl
  · exact (quiet_pushEvent ..).trans (quiet_log ..)

theorem quiet_softEvent (s : State) (cls code obj data : Nat) : s.quiet (s.softEvent cls code obj data) := by
  exact quiet_ite _ (quiet_bump ..)
    (quiet_ite _ ((quiet_dropSummary s cls).trans (quiet_pushEvent ..)) (quiet_dropEvent s cls code))

theorem quiet_info (s : State) (code obj data : Nat) : s.quiet (s.info code obj data) := quiet_softEvent ..

theorem quiet_foldEvent (s : State) (code obj : Nat) : s.quiet (s.foldEvent code obj) := by
  unfold State.foldEvent; split
  · exact quiet_log ..
  · split
    · exact quiet_log ..
    · split <;> exact quiet_log ..

theorem quiet_alarmEvent (s : State) (sev : Nat) (a b : Bool) (code obj data : Nat) (p : List Byte) :
    s.quiet (s.alarmEvent sev a b code obj data p) := by
  unfold State.alarmEvent; split
  · exact quiet_pushEvent ..
  · split
    · exact (quiet_log ..).trans (quiet_bump ..)
    · exact quiet_foldEvent ..

theorem quiet_perf_go (ev i k : Nat) (cs : List (Nat × PerfCtr)) (s : State) : s.quiet (State.perf.go ev i k cs s) := by
  induction cs generalizing s with
  | nil => rfl
  | cons c r ih =>
    obtain ⟨j, c⟩ := c
    unfold State.perf.go; dsimp only; split
    · split
      · exact (quiet_perfBump ..).trans (ih _)
      · split
        · exact ((quiet_perfBump s j k).trans (quiet_perfBump (s.perfBump j k).1 (j + 1) (s.perfBump j k).2)).trans
            ((quiet_ite _ (quiet_refl _) (quiet_softEvent _ 2 0x3001 (j + 1) 0)).trans (ih _))
        · exact ((quiet_perfBump ..).trans (quiet_softEvent ..)).trans (ih _)
    · exact ih _

theorem quiet_perf (s : State) (ev i k : Nat) : s.quiet (s.perf ev i k) := quiet_perf_go ..

theorem quiet_perfOccupancy_go (ev i o c : Nat) (cs : List (Nat × PerfCtr)) (s : State) :
    s.quiet (State.perfOccupancy.go ev i o c cs s) := by
  induction cs generalizing s with
  | nil => rfl
  | cons x r ih =>
    obtain ⟨j, x⟩ := x
    unfold State.perfOccupancy.go; split
    · exact (quiet_perfBump ..).trans (ih _)
    · exact ih _

theorem quiet_perfOccupancy (s : State) (ev i o c : Nat) : s.quiet (s.perfOccupancy ev i o c) := quiet_perfOccupancy_go ..

theorem quiet_jupdate (s : State) : s.quiet s.jupdate := rfl

theorem quiet_lifeAdd (s : State) (a b k : Nat) : s.quiet (s.lifeAdd a b k) := rfl

theorem quiet_pushRec (s : State) (own : Bool) (a b c d e f g h i j : Nat) : s.quiet (s.pushRec own a b c d e f g h i j) := by
  unfold State.pushRec; dsimp only
  refine State.quiet.trans ?_ (quiet_jupdate _)
  refine State.quiet.trans ?_ (quiet_perf _ 5 0 1)
  refine State.quiet.trans ?_ (quiet_bump _ _ 0 1)
  split
  · exact (quiet_log ..).trans (quiet_lifeAdd ..)
  · exact quiet_log ..

theorem quiet_journalCmd (s : State) (c : CmdRef) (k o n v : Nat) : s.quiet (s.journalCmd c k o n v) := quiet_pushRec ..

theorem quiet_coalesce (s : State) (code k : Nat) : s.quiet (s.coalesce code k) := by
  unfold State.coalesce; exact (quiet_log ..).trans (quiet_bump ..)

theorem quiet_journalAuto (s : State) (code o v : Nat) (c : CmdRef) : s.quiet (s.journalAuto code o v c) := by
  unfold State.journalAuto; split
  · exact quiet_pushRec ..
  · exact quiet_coalesce ..

theorem quiet_journalSummary (s : State) (code o n v : Nat) : s.quiet (s.journalSummary code o n v) := quiet_pushRec ..

theorem quiet_journalSecurity (s : State) (a b c d e f g : Nat) : s.quiet (s.journalSecurity a b c d e f g) := by
  unfold State.journalSecurity; split
  · exact quiet_pushRec ..
  · exact quiet_bump ..

theorem quiet_journalRestart (s : State) (o v : Nat) : s.quiet (s.journalRestart o v) := by
  unfold State.journalRestart; dsimp only; split
  · exact (quiet_log ..).trans (quiet_pushRec ..)
  · split
    · exact (quiet_log ..).trans (quiet_pushRec ..)
    · exact quiet_log ..

theorem quiet_flushCoalesced_go (t : List (Nat × Nat × Nat × Nat)) (s : State) : s.quiet (State.flushCoalesced.go t s) := by
  induction t generalizing s with
  | nil => rfl
  | cons x r ih =>
    obtain ⟨a, b, c, d⟩ := x
    unfold State.flushCoalesced.go; split
    · exact ih _
    · split
      · exact ((quiet_log ..).trans (quiet_journalSummary ..)).trans (ih _)
      · rfl

theorem quiet_flushCoalesced (s : State) : s.quiet s.flushCoalesced := quiet_flushCoalesced_go ..

theorem quiet_signal (s : State) (v : Nat) : s.quiet (s.signal v) := by
  unfold State.signal; dsimp only; split <;> exact quiet_host ..

theorem quiet_interrupt (s : State) (v : Nat) : s.quiet (s.interrupt v) := by
  unfold State.interrupt; dsimp only; split
  · exact quiet_signal ..
  · split
    · rfl
    · exact quiet_host ..

theorem quiet_hostWrite (s : State) (a : Nat) (bs : List Byte) : s.quiet (s.hostWrite a bs) := rfl

theorem quiet_setRingPair (s : State) (p : Nat) (x : RingPair) : s.quiet (s.setRingPair p x) := rfl

theorem quiet_setMailbox (s : State) (m : Nat) (x : Mailbox) : s.quiet (s.setMailbox m x) := rfl

theorem quiet_setSession (s : State) (k : Nat) (x : Session) : s.quiet (s.setSession k x) := rfl

theorem quiet_completePair (s : State) (r c st x d f : Nat) : s.quiet (s.completePair r c st x d f) := by
  unfold State.completePair; dsimp only
  exact quiet_ite _ (((quiet_hostWrite ..).trans (quiet_setRingPair ..)).trans (quiet_interrupt ..)) (quiet_refl _)

theorem quiet_completeMail (s : State) (r c st x d f : Nat) : s.quiet (s.completeMail r c st x d f) := by
  unfold State.completeMail; dsimp only
  exact quiet_ite _ (quiet_setMailbox ..) (quiet_refl _)

theorem quiet_complete (s : State) (c : CmdRef) (st r d : Nat) (b : Bool) : s.quiet (s.complete c st r d b) :=
  quiet_ite _ (quiet_completePair ..) (quiet_ite _ (quiet_completeMail ..) (quiet_ite _ (quiet_host ..) (quiet_refl _)))

theorem quiet_respond (s : State) (r : Nat) (bs : List Byte) : s.quiet (s.respond r bs) := by
  unfold State.respond; split
  · rfl
  · split <;> rfl

theorem quiet_take (s : State) (r : Nat) : s.quiet (s.take r) := by
  unfold State.take; dsimp only; split <;> split <;> first | rfl | (split <;> rfl)

theorem quiet_linkError (s : State) (d : Nat) : s.quiet (s.linkError d) := rfl

theorem quiet_touch (s : State) (h : Nat) : s.quiet (s.touch h) := by
  unfold State.touch; split <;> rfl

theorem quiet_refuseCmd (s : State) (c : CmdRef) (st r d : Nat) : s.quiet (s.refuseCmd c st r d) := by
  have h3 : ∀ u : State, u.quiet (if st = 0x000A then u.bump .logPmJournalRefused 0 1 else u) :=
    fun u => quiet_ite _ (quiet_bump ..) (quiet_refl _)
  have h2 : ∀ u : State, u.quiet (if st = 0x0007 then (u.bump .cfgPmAddrFaults 0 1).linkError d else u) :=
    fun u => quiet_ite _ ((quiet_bump ..).trans (quiet_linkError ..)) (quiet_refl _)
  have h1 : s.quiet (if st = 0x0103 ∨ st = 0x0104 ∨ st = 0x0105
      then s.journalSecurity c.path c.role c.session c.cmdId c.code st 0 else s) :=
    quiet_ite _ (quiet_journalSecurity ..) (quiet_refl _)
  exact ((h1.trans (h2 _)).trans (h3 _)).trans (quiet_complete ..)

theorem quiet_journalAll (c : CmdRef) (recs : List (Nat × Nat × Nat)) (s : State) : s.quiet (s.journalAll c recs) := by
  induction recs generalizing s with
  | nil => rfl
  | cons x r ih => obtain ⟨o, n, v⟩ := x; exact (quiet_journalCmd ..).trans (ih _)

theorem quiet_accepted (s : State) (c : CmdRef) (q : Nat) : s.quiet (s.accepted c q) := by
  have h1 : s.quiet (if c.ring < 16 then s.setRingPair c.ring { s.ringPair c.ring with lastSeq := q } else s) :=
    quiet_ite _ (quiet_setRingPair ..) (quiet_refl _)
  exact h1.trans (quiet_ite _ (quiet_softEvent ..) (quiet_refl _))

theorem quiet_served (s : State) (d : CmdDesc) (e : Entry) : s.quiet (s.served d e) := by
  unfold State.served; dsimp only; split
  · exact (((quiet_take ..).trans (quiet_touch ..)).trans (quiet_perf ..)).trans (quiet_perf ..)
  · exact ((quiet_take ..).trans (quiet_touch ..)).trans (quiet_perf ..)

/-- A command whose own effect is quiet is quiet as a whole. -/
theorem quiet_finish (s : State) (c : CmdRef) (q : Nat) (t : State) (r : Nat) (recs : List (Nat × Nat × Nat)) (h : s.quiet t) :
    s.quiet (s.finish c q (.done t r recs)) := by
  unfold State.finish; dsimp only; split
  · exact ((h.trans (quiet_journalAll ..)).trans (quiet_accepted ..)).trans (quiet_complete ..)
  · exact quiet_refuseCmd ..

/-- An admitted command is served as the catalogue describes it. -/
theorem admits_starts {d : CmdDesc} {e : Entry} {s : State} (h : s.admits d e = true) :
    s.starts d e = true ∧ descOf d e = d ∧ ¬(e.ring < 16 ∧ (s.ringPair e.ring).expSeq ≠ e.submitSeq) ∧
      (s.served d e).headRefusal d e = none := by
  unfold State.admits at h
  simp only [Bool.and_eq_true, Option.isNone_iff_eq_none] at h
  obtain ⟨⟨⟨h1, h2⟩, h3⟩, h4⟩ := h
  refine ⟨h1, ?_, ?_, h4⟩
  · unfold Entry.spells at h2
    simp only [Bool.and_eq_true, beq_iff_eq] at h2
    unfold descOf
    split
    · rfl
    · rename_i hc
      rw [h2.1] at hc
      simp [State.headRefusal, hc] at h4
  · intro ⟨a, b⟩
    rcases Bool.or_eq_true _ _ ▸ h3 with c | c
    · have := of_decide_eq_true c; omega
    · exact b (eq_of_beq c)

/-- What serve does with a command that is admitted. -/
theorem serve_admits (d : CmdDesc) (e : Entry) (s : State) (body : CmdRef → State → Reply) (h : s.admits d e = true) :
    serve d e s body =
      .next ((s.served d e).finish (s.servedRef d e) e.submitSeq (body (s.servedRef d e) (s.served d e))) := by
  obtain ⟨h1, h2, h3, h4⟩ := admits_starts h
  unfold serve
  rw [if_pos h1]
  simp only [h2, h3, if_false]
  have h6 : (if d.urgent = true then State.perf (State.perf (State.touch (s.take e.ring) e.session) 0x047 e.ring 1) 0x049 0 1
      else State.perf (State.touch (s.take e.ring) e.session) 0x047 e.ring 1) = s.served d e := rfl
  rw [h6, h4]; rfl

end Sys2Proof.Machine
end

