-- ==== Sys2Proof/Laws/State.lean ====
section
/-!
SUPPORT. Laws/State.lean: each named update of the state, read back field by field, so that no proof unfolds a record update.
-/
namespace Sys2Proof.Machine

/-! ### The component an update does not write -/

@[simp] theorem setLane_clk (s : State) (l : Nat) (x : Lane) : (s.setLane l x).clk = s.clk := rfl
@[simp] theorem setLane_dev (s : State) (l : Nat) (x : Lane) : (s.setLane l x).dev = s.dev := rfl
@[simp] theorem setLane_host (s : State) (l : Nat) (x : Lane) : (s.setLane l x).host = s.host := rfl
@[simp] theorem setLane_par (s : State) (l : Nat) (x : Lane) : (s.setLane l x).par = s.par := rfl
@[simp] theorem setLane_tribs (s : State) (l : Nat) (x : Lane) : (s.setLane l x).tribs = s.tribs := rfl
@[simp] theorem setLane_sw (s : State) (l : Nat) (x : Lane) : (s.setLane l x).sw = s.sw := rfl
@[simp] theorem setLane_com (s : State) (l : Nat) (x : Lane) : (s.setLane l x).com = s.com := rfl
@[simp] theorem setLane_prot (s : State) (l : Nat) (x : Lane) : (s.setLane l x).prot = s.prot := rfl
@[simp] theorem setLane_obs (s : State) (l : Nat) (x : Lane) : (s.setLane l x).obs = s.obs := rfl
@[simp] theorem setLane_tim (s : State) (l : Nat) (x : Lane) : (s.setLane l x).tim = s.tim := rfl
@[simp] theorem setLane_pair (s : State) (l : Nat) (x : Lane) : (s.setLane l x).pair = s.pair := rfl
@[simp] theorem setLane_jcc (s : State) (l : Nat) (x : Lane) : (s.setLane l x).jcc = s.jcc := rfl
@[simp] theorem setLane_pow (s : State) (l : Nat) (x : Lane) : (s.setLane l x).pow = s.pow := rfl
@[simp] theorem setLane_flt (s : State) (l : Nat) (x : Lane) : (s.setLane l x).flt = s.flt := rfl
@[simp] theorem setLane_log (s : State) (l : Nat) (x : Lane) : (s.setLane l x).log = s.log := rfl
@[simp] theorem setLane_sec (s : State) (l : Nat) (x : Lane) : (s.setLane l x).sec = s.sec := rfl
@[simp] theorem setLane_pending (s : State) (l : Nat) (x : Lane) : (s.setLane l x).pending = s.pending := rfl

@[simp] theorem modLane_clk (s : State) (l : Nat) (f : Lane → Lane) : (s.modLane l f).clk = s.clk := rfl
@[simp] theorem modLane_dev (s : State) (l : Nat) (f : Lane → Lane) : (s.modLane l f).dev = s.dev := rfl
@[simp] theorem modLane_host (s : State) (l : Nat) (f : Lane → Lane) : (s.modLane l f).host = s.host := rfl
@[simp] theorem modLane_par (s : State) (l : Nat) (f : Lane → Lane) : (s.modLane l f).par = s.par := rfl
@[simp] theorem modLane_tribs (s : State) (l : Nat) (f : Lane → Lane) : (s.modLane l f).tribs = s.tribs := rfl
@[simp] theorem modLane_sw (s : State) (l : Nat) (f : Lane → Lane) : (s.modLane l f).sw = s.sw := rfl
@[simp] theorem modLane_com (s : State) (l : Nat) (f : Lane → Lane) : (s.modLane l f).com = s.com := rfl
@[simp] theorem modLane_prot (s : State) (l : Nat) (f : Lane → Lane) : (s.modLane l f).prot = s.prot := rfl
@[simp] theorem modLane_obs (s : State) (l : Nat) (f : Lane → Lane) : (s.modLane l f).obs = s.obs := rfl
@[simp] theorem modLane_tim (s : State) (l : Nat) (f : Lane → Lane) : (s.modLane l f).tim = s.tim := rfl
@[simp] theorem modLane_pair (s : State) (l : Nat) (f : Lane → Lane) : (s.modLane l f).pair = s.pair := rfl
@[simp] theorem modLane_jcc (s : State) (l : Nat) (f : Lane → Lane) : (s.modLane l f).jcc = s.jcc := rfl
@[simp] theorem modLane_pow (s : State) (l : Nat) (f : Lane → Lane) : (s.modLane l f).pow = s.pow := rfl
@[simp] theorem modLane_flt (s : State) (l : Nat) (f : Lane → Lane) : (s.modLane l f).flt = s.flt := rfl
@[simp] theorem modLane_log (s : State) (l : Nat) (f : Lane → Lane) : (s.modLane l f).log = s.log := rfl
@[simp] theorem modLane_sec (s : State) (l : Nat) (f : Lane → Lane) : (s.modLane l f).sec = s.sec := rfl
@[simp] theorem modLane_pending (s : State) (l : Nat) (f : Lane → Lane) : (s.modLane l f).pending = s.pending := rfl

@[simp] theorem setTrib_clk (s : State) (t : Nat) (x : Trib) : (s.setTrib t x).clk = s.clk := rfl
@[simp] theorem setTrib_dev (s : State) (t : Nat) (x : Trib) : (s.setTrib t x).dev = s.dev := rfl
@[simp] theorem setTrib_host (s : State) (t : Nat) (x : Trib) : (s.setTrib t x).host = s.host := rfl
@[simp] theorem setTrib_par (s : State) (t : Nat) (x : Trib) : (s.setTrib t x).par = s.par := rfl
@[simp] theorem setTrib_lanes (s : State) (t : Nat) (x : Trib) : (s.setTrib t x).lanes = s.lanes := rfl
@[simp] theorem setTrib_sw (s : State) (t : Nat) (x : Trib) : (s.setTrib t x).sw = s.sw := rfl
@[simp] theorem setTrib_com (s : State) (t : Nat) (x : Trib) : (s.setTrib t x).com = s.com := rfl
@[simp] theorem setTrib_prot (s : State) (t : Nat) (x : Trib) : (s.setTrib t x).prot = s.prot := rfl
@[simp] theorem setTrib_obs (s : State) (t : Nat) (x : Trib) : (s.setTrib t x).obs = s.obs := rfl
@[simp] theorem setTrib_tim (s : State) (t : Nat) (x : Trib) : (s.setTrib t x).tim = s.tim := rfl
@[simp] theorem setTrib_pair (s : State) (t : Nat) (x : Trib) : (s.setTrib t x).pair = s.pair := rfl
@[simp] theorem setTrib_jcc (s : State) (t : Nat) (x : Trib) : (s.setTrib t x).jcc = s.jcc := rfl
@[simp] theorem setTrib_pow (s : State) (t : Nat) (x : Trib) : (s.setTrib t x).pow = s.pow := rfl
@[simp] theorem setTrib_flt (s : State) (t : Nat) (x : Trib) : (s.setTrib t x).flt = s.flt := rfl
@[simp] theorem setTrib_log (s : State) (t : Nat) (x : Trib) : (s.setTrib t x).log = s.log := rfl
@[simp] theorem setTrib_sec (s : State) (t : Nat) (x : Trib) : (s.setTrib t x).sec = s.sec := rfl
@[simp] theorem setTrib_pending (s : State) (t : Nat) (x : Trib) : (s.setTrib t x).pending = s.pending := rfl

@[simp] theorem modTrib_clk (s : State) (t : Nat) (f : Trib → Trib) : (s.modTrib t f).clk = s.clk := rfl
@[simp] theorem modTrib_dev (s : State) (t : Nat) (f : Trib → Trib) : (s.modTrib t f).dev = s.dev := rfl
@[simp] theorem modTrib_host (s : State) (t : Nat) (f : Trib → Trib) : (s.modTrib t f).host = s.host := rfl
@[simp] theorem modTrib_par (s : State) (t : Nat) (f : Trib → Trib) : (s.modTrib t f).par = s.par := rfl
@[simp] theorem modTrib_lanes (s : State) (t : Nat) (f : Trib → Trib) : (s.modTrib t f).lanes = s.lanes := rfl
@[simp] theorem modTrib_sw (s : State) (t : Nat) (f : Trib → Trib) : (s.modTrib t f).sw = s.sw := rfl
@[simp] theorem modTrib_com (s : State) (t : Nat) (f : Trib → Trib) : (s.modTrib t f).com = s.com := rfl
@[simp] theorem modTrib_prot (s : State) (t : Nat) (f : Trib → Trib) : (s.modTrib t f).prot = s.prot := rfl
@[simp] theorem modTrib_obs (s : State) (t : Nat) (f : Trib → Trib) : (s.modTrib t f).obs = s.obs := rfl
@[simp] theorem modTrib_tim (s : State) (t : Nat) (f : Trib → Trib) : (s.modTrib t f).tim = s.tim := rfl
@[simp] theorem modTrib_pair (s : State) (t : Nat) (f : Trib → Trib) : (s.modTrib t f).pair = s.pair := rfl
@[simp] theorem modTrib_jcc (s : State) (t : Nat) (f : Trib → Trib) : (s.modTrib t f).jcc = s.jcc := rfl
@[simp] theorem modTrib_pow (s : State) (t : Nat) (f : Trib → Trib) : (s.modTrib t f).pow = s.pow := rfl
@[simp] theorem modTrib_flt (s : State) (t : Nat) (f : Trib → Trib) : (s.modTrib t f).flt = s.flt := rfl
@[simp] theorem modTrib_log (s : State) (t : Nat) (f : Trib → Trib) : (s.modTrib t f).log = s.log := rfl
@[simp] theorem modTrib_sec (s : State) (t : Nat) (f : Trib → Trib) : (s.modTrib t f).sec = s.sec := rfl
@[simp] theorem modTrib_pending (s : State) (t : Nat) (f : Trib → Trib) : (s.modTrib t f).pending = s.pending := rfl

@[simp] theorem modDune_clk (s : State) (d : Nat) (f : Dune → Dune) : (s.modDune d f).clk = s.clk := rfl
@[simp] theorem modDune_dev (s : State) (d : Nat) (f : Dune → Dune) : (s.modDune d f).dev = s.dev := rfl
@[simp] theorem modDune_host (s : State) (d : Nat) (f : Dune → Dune) : (s.modDune d f).host = s.host := rfl
@[simp] theorem modDune_par (s : State) (d : Nat) (f : Dune → Dune) : (s.modDune d f).par = s.par := rfl
@[simp] theorem modDune_lanes (s : State) (d : Nat) (f : Dune → Dune) : (s.modDune d f).lanes = s.lanes := rfl
@[simp] theorem modDune_tribs (s : State) (d : Nat) (f : Dune → Dune) : (s.modDune d f).tribs = s.tribs := rfl
@[simp] theorem modDune_com (s : State) (d : Nat) (f : Dune → Dune) : (s.modDune d f).com = s.com := rfl
@[simp] theorem modDune_prot (s : State) (d : Nat) (f : Dune → Dune) : (s.modDune d f).prot = s.prot := rfl
@[simp] theorem modDune_obs (s : State) (d : Nat) (f : Dune → Dune) : (s.modDune d f).obs = s.obs := rfl
@[simp] theorem modDune_tim (s : State) (d : Nat) (f : Dune → Dune) : (s.modDune d f).tim = s.tim := rfl
@[simp] theorem modDune_pair (s : State) (d : Nat) (f : Dune → Dune) : (s.modDune d f).pair = s.pair := rfl
@[simp] theorem modDune_jcc (s : State) (d : Nat) (f : Dune → Dune) : (s.modDune d f).jcc = s.jcc := rfl
@[simp] theorem modDune_pow (s : State) (d : Nat) (f : Dune → Dune) : (s.modDune d f).pow = s.pow := rfl
@[simp] theorem modDune_flt (s : State) (d : Nat) (f : Dune → Dune) : (s.modDune d f).flt = s.flt := rfl
@[simp] theorem modDune_log (s : State) (d : Nat) (f : Dune → Dune) : (s.modDune d f).log = s.log := rfl
@[simp] theorem modDune_sec (s : State) (d : Nat) (f : Dune → Dune) : (s.modDune d f).sec = s.sec := rfl
@[simp] theorem modDune_pending (s : State) (d : Nat) (f : Dune → Dune) : (s.modDune d f).pending = s.pending := rfl

@[simp] theorem modGroup_clk (s : State) (g : Nat) (f : Group → Group) : (s.modGroup g f).clk = s.clk := rfl
@[simp] theorem modGroup_dev (s : State) (g : Nat) (f : Group → Group) : (s.modGroup g f).dev = s.dev := rfl
@[simp] theorem modGroup_host (s : State) (g : Nat) (f : Group → Group) : (s.modGroup g f).host = s.host := rfl
@[simp] theorem modGroup_par (s : State) (g : Nat) (f : Group → Group) : (s.modGroup g f).par = s.par := rfl
@[simp] theorem modGroup_lanes (s : State) (g : Nat) (f : Group → Group) : (s.modGroup g f).lanes = s.lanes := rfl
@[simp] theorem modGroup_tribs (s : State) (g : Nat) (f : Group → Group) : (s.modGroup g f).tribs = s.tribs := rfl
@[simp] theorem modGroup_sw (s : State) (g : Nat) (f : Group → Group) : (s.modGroup g f).sw = s.sw := rfl
@[simp] theorem modGroup_com (s : State) (g : Nat) (f : Group → Group) : (s.modGroup g f).com = s.com := rfl
@[simp] theorem modGroup_obs (s : State) (g : Nat) (f : Group → Group) : (s.modGroup g f).obs = s.obs := rfl
@[simp] theorem modGroup_tim (s : State) (g : Nat) (f : Group → Group) : (s.modGroup g f).tim = s.tim := rfl
@[simp] theorem modGroup_pair (s : State) (g : Nat) (f : Group → Group) : (s.modGroup g f).pair = s.pair := rfl
@[simp] theorem modGroup_jcc (s : State) (g : Nat) (f : Group → Group) : (s.modGroup g f).jcc = s.jcc := rfl
@[simp] theorem modGroup_pow (s : State) (g : Nat) (f : Group → Group) : (s.modGroup g f).pow = s.pow := rfl
@[simp] theorem modGroup_flt (s : State) (g : Nat) (f : Group → Group) : (s.modGroup g f).flt = s.flt := rfl
@[simp] theorem modGroup_log (s : State) (g : Nat) (f : Group → Group) : (s.modGroup g f).log = s.log := rfl
@[simp] theorem modGroup_sec (s : State) (g : Nat) (f : Group → Group) : (s.modGroup g f).sec = s.sec := rfl
@[simp] theorem modGroup_pending (s : State) (g : Nat) (f : Group → Group) : (s.modGroup g f).pending = s.pending := rfl

@[simp] theorem setRingPair_clk (s : State) (p : Nat) (x : RingPair) : (s.setRingPair p x).clk = s.clk := rfl
@[simp] theorem setRingPair_dev (s : State) (p : Nat) (x : RingPair) : (s.setRingPair p x).dev = s.dev := rfl
@[simp] theorem setRingPair_par (s : State) (p : Nat) (x : RingPair) : (s.setRingPair p x).par = s.par := rfl
@[simp] theorem setRingPair_lanes (s : State) (p : Nat) (x : RingPair) : (s.setRingPair p x).lanes = s.lanes := rfl
@[simp] theorem setRingPair_tribs (s : State) (p : Nat) (x : RingPair) : (s.setRingPair p x).tribs = s.tribs := rfl
@[simp] theorem setRingPair_sw (s : State) (p : Nat) (x : RingPair) : (s.setRingPair p x).sw = s.sw := rfl
@[simp] theorem setRingPair_com (s : State) (p : Nat) (x : RingPair) : (s.setRingPair p x).com = s.com := rfl
@[simp] theorem setRingPair_prot (s : State) (p : Nat) (x : RingPair) : (s.setRingPair p x).prot = s.prot := rfl
@[simp] theorem setRingPair_obs (s : State) (p : Nat) (x : RingPair) : (s.setRingPair p x).obs = s.obs := rfl
@[simp] theorem setRingPair_tim (s : State) (p : Nat) (x : RingPair) : (s.setRingPair p x).tim = s.tim := rfl
@[simp] theorem setRingPair_pair (s : State) (p : Nat) (x : RingPair) : (s.setRingPair p x).pair = s.pair := rfl
@[simp] theorem setRingPair_jcc (s : State) (p : Nat) (x : RingPair) : (s.setRingPair p x).jcc = s.jcc := rfl
@[simp] theorem setRingPair_pow (s : State) (p : Nat) (x : RingPair) : (s.setRingPair p x).pow = s.pow := rfl
@[simp] theorem setRingPair_flt (s : State) (p : Nat) (x : RingPair) : (s.setRingPair p x).flt = s.flt := rfl
@[simp] theorem setRingPair_log (s : State) (p : Nat) (x : RingPair) : (s.setRingPair p x).log = s.log := rfl
@[simp] theorem setRingPair_sec (s : State) (p : Nat) (x : RingPair) : (s.setRingPair p x).sec = s.sec := rfl
@[simp] theorem setRingPair_pending (s : State) (p : Nat) (x : RingPair) : (s.setRingPair p x).pending = s.pending := rfl

@[simp] theorem setMailbox_clk (s : State) (m : Nat) (x : Mailbox) : (s.setMailbox m x).clk = s.clk := rfl
@[simp] theorem setMailbox_dev (s : State) (m : Nat) (x : Mailbox) : (s.setMailbox m x).dev = s.dev := rfl
@[simp] theorem setMailbox_par (s : State) (m : Nat) (x : Mailbox) : (s.setMailbox m x).par = s.par := rfl
@[simp] theorem setMailbox_lanes (s : State) (m : Nat) (x : Mailbox) : (s.setMailbox m x).lanes = s.lanes := rfl
@[simp] theorem setMailbox_tribs (s : State) (m : Nat) (x : Mailbox) : (s.setMailbox m x).tribs = s.tribs := rfl
@[simp] theorem setMailbox_sw (s : State) (m : Nat) (x : Mailbox) : (s.setMailbox m x).sw = s.sw := rfl
@[simp] theorem setMailbox_com (s : State) (m : Nat) (x : Mailbox) : (s.setMailbox m x).com = s.com := rfl
@[simp] theorem setMailbox_prot (s : State) (m : Nat) (x : Mailbox) : (s.setMailbox m x).prot = s.prot := rfl
@[simp] theorem setMailbox_obs (s : State) (m : Nat) (x : Mailbox) : (s.setMailbox m x).obs = s.obs := rfl
@[simp] theorem setMailbox_tim (s : State) (m : Nat) (x : Mailbox) : (s.setMailbox m x).tim = s.tim := rfl
@[simp] theorem setMailbox_pair (s : State) (m : Nat) (x : Mailbox) : (s.setMailbox m x).pair = s.pair := rfl
@[simp] theorem setMailbox_jcc (s : State) (m : Nat) (x : Mailbox) : (s.setMailbox m x).jcc = s.jcc := rfl
@[simp] theorem setMailbox_pow (s : State) (m : Nat) (x : Mailbox) : (s.setMailbox m x).pow = s.pow := rfl
@[simp] theorem setMailbox_flt (s : State) (m : Nat) (x : Mailbox) : (s.setMailbox m x).flt = s.flt := rfl
@[simp] theorem setMailbox_log (s : State) (m : Nat) (x : Mailbox) : (s.setMailbox m x).log = s.log := rfl
@[simp] theorem setMailbox_sec (s : State) (m : Nat) (x : Mailbox) : (s.setMailbox m x).sec = s.sec := rfl
@[simp] theorem setMailbox_pending (s : State) (m : Nat) (x : Mailbox) : (s.setMailbox m x).pending = s.pending := rfl

@[simp] theorem setSession_clk (s : State) (k : Nat) (x : Session) : (s.setSession k x).clk = s.clk := rfl
@[simp] theorem setSession_dev (s : State) (k : Nat) (x : Session) : (s.setSession k x).dev = s.dev := rfl
@[simp] theorem setSession_par (s : State) (k : Nat) (x : Session) : (s.setSession k x).par = s.par := rfl
@[simp] theorem setSession_lanes (s : State) (k : Nat) (x : Session) : (s.setSession k x).lanes = s.lanes := rfl
@[simp] theorem setSession_tribs (s : State) (k : Nat) (x : Session) : (s.setSession k x).tribs = s.tribs := rfl
@[simp] theorem setSession_sw (s : State) (k : Nat) (x : Session) : (s.setSession k x).sw = s.sw := rfl
@[simp] theorem setSession_com (s : State) (k : Nat) (x : Session) : (s.setSession k x).com = s.com := rfl
@[simp] theorem setSession_prot (s : State) (k : Nat) (x : Session) : (s.setSession k x).prot = s.prot := rfl
@[simp] theorem setSession_obs (s : State) (k : Nat) (x : Session) : (s.setSession k x).obs = s.obs := rfl
@[simp] theorem setSession_tim (s : State) (k : Nat) (x : Session) : (s.setSession k x).tim = s.tim := rfl
@[simp] theorem setSession_pair (s : State) (k : Nat) (x : Session) : (s.setSession k x).pair = s.pair := rfl
@[simp] theorem setSession_jcc (s : State) (k : Nat) (x : Session) : (s.setSession k x).jcc = s.jcc := rfl
@[simp] theorem setSession_pow (s : State) (k : Nat) (x : Session) : (s.setSession k x).pow = s.pow := rfl
@[simp] theorem setSession_flt (s : State) (k : Nat) (x : Session) : (s.setSession k x).flt = s.flt := rfl
@[simp] theorem setSession_log (s : State) (k : Nat) (x : Session) : (s.setSession k x).log = s.log := rfl
@[simp] theorem setSession_sec (s : State) (k : Nat) (x : Session) : (s.setSession k x).sec = s.sec := rfl
@[simp] theorem setSession_pending (s : State) (k : Nat) (x : Session) : (s.setSession k x).pending = s.pending := rfl

@[simp] theorem modRefIn_clk (s : State) (i : Nat) (f : RefIn → RefIn) : (s.modRefIn i f).clk = s.clk := rfl
@[simp] theorem modRefIn_dev (s : State) (i : Nat) (f : RefIn → RefIn) : (s.modRefIn i f).dev = s.dev := rfl
@[simp] theorem modRefIn_host (s : State) (i : Nat) (f : RefIn → RefIn) : (s.modRefIn i f).host = s.host := rfl
@[simp] theorem modRefIn_par (s : State) (i : Nat) (f : RefIn → RefIn) : (s.modRefIn i f).par = s.par := rfl
@[simp] theorem modRefIn_lanes (s : State) (i : Nat) (f : RefIn → RefIn) : (s.modRefIn i f).lanes = s.lanes := rfl
@[simp] theorem modRefIn_tribs (s : State) (i : Nat) (f : RefIn → RefIn) : (s.modRefIn i f).tribs = s.tribs := rfl
@[simp] theorem modRefIn_sw (s : State) (i : Nat) (f : RefIn → RefIn) : (s.modRefIn i f).sw = s.sw := rfl
@[simp] theorem modRefIn_com (s : State) (i : Nat) (f : RefIn → RefIn) : (s.modRefIn i f).com = s.com := rfl
@[simp] theorem modRefIn_prot (s : State) (i : Nat) (f : RefIn → RefIn) : (s.modRefIn i f).prot = s.prot := rfl
@[simp] theorem modRefIn_obs (s : State) (i : Nat) (f : RefIn → RefIn) : (s.modRefIn i f).obs = s.obs := rfl
@[simp] theorem modRefIn_pair (s : State) (i : Nat) (f : RefIn → RefIn) : (s.modRefIn i f).pair = s.pair := rfl
@[simp] theorem modRefIn_jcc (s : State) (i : Nat) (f : RefIn → RefIn) : (s.modRefIn i f).jcc = s.jcc := rfl
@[simp] theorem modRefIn_pow (s : State) (i : Nat) (f : RefIn → RefIn) : (s.modRefIn i f).pow = s.pow := rfl
@[simp] theorem modRefIn_flt (s : State) (i : Nat) (f : RefIn → RefIn) : (s.modRefIn i f).flt = s.flt := rfl
@[simp] theorem modRefIn_log (s : State) (i : Nat) (f : RefIn → RefIn) : (s.modRefIn i f).log = s.log := rfl
@[simp] theorem modRefIn_sec (s : State) (i : Nat) (f : RefIn → RefIn) : (s.modRefIn i f).sec = s.sec := rfl
@[simp] theorem modRefIn_pending (s : State) (i : Nat) (f : RefIn → RefIn) : (s.modRefIn i f).pending = s.pending := rfl

@[simp] theorem modPpsIn_clk (s : State) (i : Nat) (f : PpsIn → PpsIn) : (s.modPpsIn i f).clk = s.clk := rfl
@[simp] theorem modPpsIn_dev (s : State) (i : Nat) (f : PpsIn → PpsIn) : (s.modPpsIn i f).dev = s.dev := rfl
@[simp] theorem modPpsIn_host (s : State) (i : Nat) (f : PpsIn → PpsIn) : (s.modPpsIn i f).host = s.host := rfl
@[simp] theorem modPpsIn_par (s : State) (i : Nat) (f : PpsIn → PpsIn) : (s.modPpsIn i f).par = s.par := rfl
@[simp] theorem modPpsIn_lanes (s : State) (i : Nat) (f : PpsIn → PpsIn) : (s.modPpsIn i f).lanes = s.lanes := rfl
@[simp] theorem modPpsIn_tribs (s : State) (i : Nat) (f : PpsIn → PpsIn) : (s.modPpsIn i f).tribs = s.tribs := rfl
@[simp] theorem modPpsIn_sw (s : State) (i : Nat) (f : PpsIn → PpsIn) : (s.modPpsIn i f).sw = s.sw := rfl
@[simp] theorem modPpsIn_com (s : State) (i : Nat) (f : PpsIn → PpsIn) : (s.modPpsIn i f).com = s.com := rfl
@[simp] theorem modPpsIn_prot (s : State) (i : Nat) (f : PpsIn → PpsIn) : (s.modPpsIn i f).prot = s.prot := rfl
@[simp] theorem modPpsIn_obs (s : State) (i : Nat) (f : PpsIn → PpsIn) : (s.modPpsIn i f).obs = s.obs := rfl
@[simp] theorem modPpsIn_pair (s : State) (i : Nat) (f : PpsIn → PpsIn) : (s.modPpsIn i f).pair = s.pair := rfl
@[simp] theorem modPpsIn_jcc (s : State) (i : Nat) (f : PpsIn → PpsIn) : (s.modPpsIn i f).jcc = s.jcc := rfl
@[simp] theorem modPpsIn_pow (s : State) (i : Nat) (f : PpsIn → PpsIn) : (s.modPpsIn i f).pow = s.pow := rfl
@[simp] theorem modPpsIn_flt (s : State) (i : Nat) (f : PpsIn → PpsIn) : (s.modPpsIn i f).flt = s.flt := rfl
@[simp] theorem modPpsIn_log (s : State) (i : Nat) (f : PpsIn → PpsIn) : (s.modPpsIn i f).log = s.log := rfl
@[simp] theorem modPpsIn_sec (s : State) (i : Nat) (f : PpsIn → PpsIn) : (s.modPpsIn i f).sec = s.sec := rfl
@[simp] theorem modPpsIn_pending (s : State) (i : Nat) (f : PpsIn → PpsIn) : (s.modPpsIn i f).pending = s.pending := rfl

@[simp] theorem modCut_clk (s : State) (d : Nat) (f : CutStage → CutStage) : (s.modCut d f).clk = s.clk := rfl
@[simp] theorem modCut_dev (s : State) (d : Nat) (f : CutStage → CutStage) : (s.modCut d f).dev = s.dev := rfl
@[simp] theorem modCut_host (s : State) (d : Nat) (f : CutStage → CutStage) : (s.modCut d f).host = s.host := rfl
@[simp] theorem modCut_par (s : State) (d : Nat) (f : CutStage → CutStage) : (s.modCut d f).par = s.par := rfl
@[simp] theorem modCut_lanes (s : State) (d : Nat) (f : CutStage → CutStage) : (s.modCut d f).lanes = s.lanes := rfl
@[simp] theorem modCut_tribs (s : State) (d : Nat) (f : CutStage → CutStage) : (s.modCut d f).tribs = s.tribs := rfl
@[simp] theorem modCut_sw (s : State) (d : Nat) (f : CutStage → CutStage) : (s.modCut d f).sw = s.sw := rfl
@[simp] theorem modCut_com (s : State) (d : Nat) (f : CutStage → CutStage) : (s.modCut d f).com = s.com := rfl
@[simp] theorem modCut_prot (s : State) (d : Nat) (f : CutStage → CutStage) : (s.modCut d f).prot = s.prot := rfl
@[simp] theorem modCut_tim (s : State) (d : Nat) (f : CutStage → CutStage) : (s.modCut d f).tim = s.tim := rfl
@[simp] theorem modCut_pair (s : State) (d : Nat) (f : CutStage → CutStage) : (s.modCut d f).pair = s.pair := rfl
@[simp] theorem modCut_jcc (s : State) (d : Nat) (f : CutStage → CutStage) : (s.modCut d f).jcc = s.jcc := rfl
@[simp] theorem modCut_pow (s : State) (d : Nat) (f : CutStage → CutStage) : (s.modCut d f).pow = s.pow := rfl
@[simp] theorem modCut_flt (s : State) (d : Nat) (f : CutStage → CutStage) : (s.modCut d f).flt = s.flt := rfl
@[simp] theorem modCut_log (s : State) (d : Nat) (f : CutStage → CutStage) : (s.modCut d f).log = s.log := rfl
@[simp] theorem modCut_sec (s : State) (d : Nat) (f : CutStage → CutStage) : (s.modCut d f).sec = s.sec := rfl
@[simp] theorem modCut_pending (s : State) (d : Nat) (f : CutStage → CutStage) : (s.modCut d f).pending = s.pending := rfl

@[simp] theorem modFacetLane_clk (s : State) (l : Nat) (f : FacetLane → FacetLane) : (s.modFacetLane l f).clk = s.clk := rfl
@[simp] theorem modFacetLane_dev (s : State) (l : Nat) (f : FacetLane → FacetLane) : (s.modFacetLane l f).dev = s.dev := rfl
@[simp] theorem modFacetLane_host (s : State) (l : Nat) (f : FacetLane → FacetLane) : (s.modFacetLane l f).host = s.host := rfl
@[simp] theorem modFacetLane_par (s : State) (l : Nat) (f : FacetLane → FacetLane) : (s.modFacetLane l f).par = s.par := rfl
@[simp] theorem modFacetLane_lanes (s : State) (l : Nat) (f : FacetLane → FacetLane) : (s.modFacetLane l f).lanes = s.lanes := rfl
@[simp] theorem modFacetLane_tribs (s : State) (l : Nat) (f : FacetLane → FacetLane) : (s.modFacetLane l f).tribs = s.tribs := rfl
@[simp] theorem modFacetLane_sw (s : State) (l : Nat) (f : FacetLane → FacetLane) : (s.modFacetLane l f).sw = s.sw := rfl
@[simp] theorem modFacetLane_com (s : State) (l : Nat) (f : FacetLane → FacetLane) : (s.modFacetLane l f).com = s.com := rfl
@[simp] theorem modFacetLane_prot (s : State) (l : Nat) (f : FacetLane → FacetLane) : (s.modFacetLane l f).prot = s.prot := rfl
@[simp] theorem modFacetLane_tim (s : State) (l : Nat) (f : FacetLane → FacetLane) : (s.modFacetLane l f).tim = s.tim := rfl
@[simp] theorem modFacetLane_pair (s : State) (l : Nat) (f : FacetLane → FacetLane) : (s.modFacetLane l f).pair = s.pair := rfl
@[simp] theorem modFacetLane_jcc (s : State) (l : Nat) (f : FacetLane → FacetLane) : (s.modFacetLane l f).jcc = s.jcc := rfl
@[simp] theorem modFacetLane_pow (s : State) (l : Nat) (f : FacetLane → FacetLane) : (s.modFacetLane l f).pow = s.pow := rfl
@[simp] theorem modFacetLane_flt (s : State) (l : Nat) (f : FacetLane → FacetLane) : (s.modFacetLane l f).flt = s.flt := rfl
@[simp] theorem modFacetLane_log (s : State) (l : Nat) (f : FacetLane → FacetLane) : (s.modFacetLane l f).log = s.log := rfl
@[simp] theorem modFacetLane_sec (s : State) (l : Nat) (f : FacetLane → FacetLane) : (s.modFacetLane l f).sec = s.sec := rfl
@[simp] theorem modFacetLane_pending (s : State) (l : Nat) (f : FacetLane → FacetLane) : (s.modFacetLane l f).pending = s.pending := rfl

@[simp] theorem setDomain_clk (s : State) (q v : Nat) : (s.setDomain q v).clk = s.clk := rfl
@[simp] theorem setDomain_dev (s : State) (q v : Nat) : (s.setDomain q v).dev = s.dev := rfl
@[simp] theorem setDomain_host (s : State) (q v : Nat) : (s.setDomain q v).host = s.host := rfl
@[simp] theorem setDomain_par (s : State) (q v : Nat) : (s.setDomain q v).par = s.par := rfl
@[simp] theorem setDomain_lanes (s : State) (q v : Nat) : (s.setDomain q v).lanes = s.lanes := rfl
@[simp] theorem setDomain_tribs (s : State) (q v : Nat) : (s.setDomain q v).tribs = s.tribs := rfl
@[simp] theorem setDomain_sw (s : State) (q v : Nat) : (s.setDomain q v).sw = s.sw := rfl
@[simp] theorem setDomain_com (s : State) (q v : Nat) : (s.setDomain q v).com = s.com := rfl
@[simp] theorem setDomain_prot (s : State) (q v : Nat) : (s.setDomain q v).prot = s.prot := rfl
@[simp] theorem setDomain_obs (s : State) (q v : Nat) : (s.setDomain q v).obs = s.obs := rfl
@[simp] theorem setDomain_tim (s : State) (q v : Nat) : (s.setDomain q v).tim = s.tim := rfl
@[simp] theorem setDomain_pair (s : State) (q v : Nat) : (s.setDomain q v).pair = s.pair := rfl
@[simp] theorem setDomain_jcc (s : State) (q v : Nat) : (s.setDomain q v).jcc = s.jcc := rfl
@[simp] theorem setDomain_flt (s : State) (q v : Nat) : (s.setDomain q v).flt = s.flt := rfl
@[simp] theorem setDomain_log (s : State) (q v : Nat) : (s.setDomain q v).log = s.log := rfl
@[simp] theorem setDomain_sec (s : State) (q v : Nat) : (s.setDomain q v).sec = s.sec := rfl
@[simp] theorem setDomain_pending (s : State) (q v : Nat) : (s.setDomain q v).pending = s.pending := rfl

@[simp] theorem drawn_dev (s : State) : (s.drawn).dev = s.dev := rfl
@[simp] theorem drawn_host (s : State) : (s.drawn).host = s.host := rfl
@[simp] theorem drawn_par (s : State) : (s.drawn).par = s.par := rfl
@[simp] theorem drawn_lanes (s : State) : (s.drawn).lanes = s.lanes := rfl
@[simp] theorem drawn_tribs (s : State) : (s.drawn).tribs = s.tribs := rfl
@[simp] theorem drawn_sw (s : State) : (s.drawn).sw = s.sw := rfl
@[simp] theorem drawn_com (s : State) : (s.drawn).com = s.com := rfl
@[simp] theorem drawn_prot (s : State) : (s.drawn).prot = s.prot := rfl
@[simp] theorem drawn_obs (s : State) : (s.drawn).obs = s.obs := rfl
@[simp] theorem drawn_tim (s : State) : (s.drawn).tim = s.tim := rfl
@[simp] theorem drawn_pair (s : State) : (s.drawn).pair = s.pair := rfl
@[simp] theorem drawn_jcc (s : State) : (s.drawn).jcc = s.jcc := rfl
@[simp] theorem drawn_pow (s : State) : (s.drawn).pow = s.pow := rfl
@[simp] theorem drawn_flt (s : State) : (s.drawn).flt = s.flt := rfl
@[simp] theorem drawn_log (s : State) : (s.drawn).log = s.log := rfl
@[simp] theorem drawn_sec (s : State) : (s.drawn).sec = s.sec := rfl
@[simp] theorem drawn_pending (s : State) : (s.drawn).pending = s.pending := rfl

@[simp] theorem setCur_clk (s : State) (n : Pn) (o v : Nat) : (s.setCur n o v).clk = s.clk := rfl
@[simp] theorem setCur_dev (s : State) (n : Pn) (o v : Nat) : (s.setCur n o v).dev = s.dev := rfl
@[simp] theorem setCur_host (s : State) (n : Pn) (o v : Nat) : (s.setCur n o v).host = s.host := rfl
@[simp] theorem setCur_lanes (s : State) (n : Pn) (o v : Nat) : (s.setCur n o v).lanes = s.lanes := rfl
@[simp] theorem setCur_tribs (s : State) (n : Pn) (o v : Nat) : (s.setCur n o v).tribs = s.tribs := rfl
@[simp] theorem setCur_sw (s : State) (n : Pn) (o v : Nat) : (s.setCur n o v).sw = s.sw := rfl
@[simp] theorem setCur_com (s : State) (n : Pn) (o v : Nat) : (s.setCur n o v).com = s.com := rfl
@[simp] theorem setCur_prot (s : State) (n : Pn) (o v : Nat) : (s.setCur n o v).prot = s.prot := rfl
@[simp] theorem setCur_obs (s : State) (n : Pn) (o v : Nat) : (s.setCur n o v).obs = s.obs := rfl
@[simp] theorem setCur_tim (s : State) (n : Pn) (o v : Nat) : (s.setCur n o v).tim = s.tim := rfl
@[simp] theorem setCur_pair (s : State) (n : Pn) (o v : Nat) : (s.setCur n o v).pair = s.pair := rfl
@[simp] theorem setCur_jcc (s : State) (n : Pn) (o v : Nat) : (s.setCur n o v).jcc = s.jcc := rfl
@[simp] theorem setCur_pow (s : State) (n : Pn) (o v : Nat) : (s.setCur n o v).pow = s.pow := rfl
@[simp] theorem setCur_flt (s : State) (n : Pn) (o v : Nat) : (s.setCur n o v).flt = s.flt := rfl
@[simp] theorem setCur_log (s : State) (n : Pn) (o v : Nat) : (s.setCur n o v).log = s.log := rfl
@[simp] theorem setCur_sec (s : State) (n : Pn) (o v : Nat) : (s.setCur n o v).sec = s.sec := rfl
@[simp] theorem setCur_pending (s : State) (n : Pn) (o v : Nat) : (s.setCur n o v).pending = s.pending := rfl

@[simp] theorem setLate_clk (s : State) (n : Pn) (o v : Nat) : (s.setLate n o v).clk = s.clk := rfl
@[simp] theorem setLate_dev (s : State) (n : Pn) (o v : Nat) : (s.setLate n o v).dev = s.dev := rfl
@[simp] theorem setLate_host (s : State) (n : Pn) (o v : Nat) : (s.setLate n o v).host = s.host := rfl
@[simp] theorem setLate_lanes (s : State) (n : Pn) (o v : Nat) : (s.setLate n o v).lanes = s.lanes := rfl
@[simp] theorem setLate_tribs (s : State) (n : Pn) (o v : Nat) : (s.setLate n o v).tribs = s.tribs := rfl
@[simp] theorem setLate_sw (s : State) (n : Pn) (o v : Nat) : (s.setLate n o v).sw = s.sw := rfl
@[simp] theorem setLate_com (s : State) (n : Pn) (o v : Nat) : (s.setLate n o v).com = s.com := rfl
@[simp] theorem setLate_prot (s : State) (n : Pn) (o v : Nat) : (s.setLate n o v).prot = s.prot := rfl
@[simp] theorem setLate_obs (s : State) (n : Pn) (o v : Nat) : (s.setLate n o v).obs = s.obs := rfl
@[simp] theorem setLate_tim (s : State) (n : Pn) (o v : Nat) : (s.setLate n o v).tim = s.tim := rfl
@[simp] theorem setLate_pair (s : State) (n : Pn) (o v : Nat) : (s.setLate n o v).pair = s.pair := rfl
@[simp] theorem setLate_jcc (s : State) (n : Pn) (o v : Nat) : (s.setLate n o v).jcc = s.jcc := rfl
@[simp] theorem setLate_pow (s : State) (n : Pn) (o v : Nat) : (s.setLate n o v).pow = s.pow := rfl
@[simp] theorem setLate_flt (s : State) (n : Pn) (o v : Nat) : (s.setLate n o v).flt = s.flt := rfl
@[simp] theorem setLate_log (s : State) (n : Pn) (o v : Nat) : (s.setLate n o v).log = s.log := rfl
@[simp] theorem setLate_sec (s : State) (n : Pn) (o v : Nat) : (s.setLate n o v).sec = s.sec := rfl
@[simp] theorem setLate_pending (s : State) (n : Pn) (o v : Nat) : (s.setLate n o v).pending = s.pending := rfl

@[simp] theorem release_clk (s : State) (n : Pn) (o : Nat) : (s.release n o).clk = s.clk := rfl
@[simp] theorem release_dev (s : State) (n : Pn) (o : Nat) : (s.release n o).dev = s.dev := rfl
@[simp] theorem release_host (s : State) (n : Pn) (o : Nat) : (s.release n o).host = s.host := rfl
@[simp] theorem release_lanes (s : State) (n : Pn) (o : Nat) : (s.release n o).lanes = s.lanes := rfl
@[simp] theorem release_tribs (s : State) (n : Pn) (o : Nat) : (s.release n o).tribs = s.tribs := rfl
@[simp] theorem release_sw (s : State) (n : Pn) (o : Nat) : (s.release n o).sw = s.sw := rfl
@[simp] theorem release_com (s : State) (n : Pn) (o : Nat) : (s.release n o).com = s.com := rfl
@[simp] theorem release_prot (s : State) (n : Pn) (o : Nat) : (s.release n o).prot = s.prot := rfl
@[simp] theorem release_obs (s : State) (n : Pn) (o : Nat) : (s.release n o).obs = s.obs := rfl
@[simp] theorem release_tim (s : State) (n : Pn) (o : Nat) : (s.release n o).tim = s.tim := rfl
@[simp] theorem release_pair (s : State) (n : Pn) (o : Nat) : (s.release n o).pair = s.pair := rfl
@[simp] theorem release_jcc (s : State) (n : Pn) (o : Nat) : (s.release n o).jcc = s.jcc := rfl
@[simp] theorem release_pow (s : State) (n : Pn) (o : Nat) : (s.release n o).pow = s.pow := rfl
@[simp] theorem release_flt (s : State) (n : Pn) (o : Nat) : (s.release n o).flt = s.flt := rfl
@[simp] theorem release_log (s : State) (n : Pn) (o : Nat) : (s.release n o).log = s.log := rfl
@[simp] theorem release_sec (s : State) (n : Pn) (o : Nat) : (s.release n o).sec = s.sec := rfl
@[simp] theorem release_pending (s : State) (n : Pn) (o : Nat) : (s.release n o).pending = s.pending := rfl

@[simp] theorem load_clk (s : State) (n : Pn) (o v : Nat) : (s.load n o v).clk = s.clk := rfl
@[simp] theorem load_dev (s : State) (n : Pn) (o v : Nat) : (s.load n o v).dev = s.dev := rfl
@[simp] theorem load_host (s : State) (n : Pn) (o v : Nat) : (s.load n o v).host = s.host := rfl
@[simp] theorem load_lanes (s : State) (n : Pn) (o v : Nat) : (s.load n o v).lanes = s.lanes := rfl
@[simp] theorem load_tribs (s : State) (n : Pn) (o v : Nat) : (s.load n o v).tribs = s.tribs := rfl
@[simp] theorem load_sw (s : State) (n : Pn) (o v : Nat) : (s.load n o v).sw = s.sw := rfl
@[simp] theorem load_com (s : State) (n : Pn) (o v : Nat) : (s.load n o v).com = s.com := rfl
@[simp] theorem load_prot (s : State) (n : Pn) (o v : Nat) : (s.load n o v).prot = s.prot := rfl
@[simp] theorem load_obs (s : State) (n : Pn) (o v : Nat) : (s.load n o v).obs = s.obs := rfl
@[simp] theorem load_tim (s : State) (n : Pn) (o v : Nat) : (s.load n o v).tim = s.tim := rfl
@[simp] theorem load_pair (s : State) (n : Pn) (o v : Nat) : (s.load n o v).pair = s.pair := rfl
@[simp] theorem load_jcc (s : State) (n : Pn) (o v : Nat) : (s.load n o v).jcc = s.jcc := rfl
@[simp] theorem load_pow (s : State) (n : Pn) (o v : Nat) : (s.load n o v).pow = s.pow := rfl
@[simp] theorem load_flt (s : State) (n : Pn) (o v : Nat) : (s.load n o v).flt = s.flt := rfl
@[simp] theorem load_log (s : State) (n : Pn) (o v : Nat) : (s.load n o v).log = s.log := rfl
@[simp] theorem load_sec (s : State) (n : Pn) (o v : Nat) : (s.load n o v).sec = s.sec := rfl
@[simp] theorem load_pending (s : State) (n : Pn) (o v : Nat) : (s.load n o v).pending = s.pending := rfl

@[simp] theorem hostWrite_clk (s : State) (a : Nat) (bs : List Byte) : (s.hostWrite a bs).clk = s.clk := rfl
@[simp] theorem hostWrite_dev (s : State) (a : Nat) (bs : List Byte) : (s.hostWrite a bs).dev = s.dev := rfl
@[simp] theorem hostWrite_par (s : State) (a : Nat) (bs : List Byte) : (s.hostWrite a bs).par = s.par := rfl
@[simp] theorem hostWrite_lanes (s : State) (a : Nat) (bs : List Byte) : (s.hostWrite a bs).lanes = s.lanes := rfl
@[simp] theorem hostWrite_tribs (s : State) (a : Nat) (bs : List Byte) : (s.hostWrite a bs).tribs = s.tribs := rfl
@[simp] theorem hostWrite_sw (s : State) (a : Nat) (bs : List Byte) : (s.hostWrite a bs).sw = s.sw := rfl
@[simp] theorem hostWrite_com (s : State) (a : Nat) (bs : List Byte) : (s.hostWrite a bs).com = s.com := rfl
@[simp] theorem hostWrite_prot (s : State) (a : Nat) (bs : List Byte) : (s.hostWrite a bs).prot = s.prot := rfl
@[simp] theorem hostWrite_obs (s : State) (a : Nat) (bs : List Byte) : (s.hostWrite a bs).obs = s.obs := rfl
@[simp] theorem hostWrite_tim (s : State) (a : Nat) (bs : List Byte) : (s.hostWrite a bs).tim = s.tim := rfl
@[simp] theorem hostWrite_pair (s : State) (a : Nat) (bs : List Byte) : (s.hostWrite a bs).pair = s.pair := rfl
@[simp] theorem hostWrite_jcc (s : State) (a : Nat) (bs : List Byte) : (s.hostWrite a bs).jcc = s.jcc := rfl
@[simp] theorem hostWrite_pow (s : State) (a : Nat) (bs : List Byte) : (s.hostWrite a bs).pow = s.pow := rfl
@[simp] theorem hostWrite_flt (s : State) (a : Nat) (bs : List Byte) : (s.hostWrite a bs).flt = s.flt := rfl
@[simp] theorem hostWrite_log (s : State) (a : Nat) (bs : List Byte) : (s.hostWrite a bs).log = s.log := rfl
@[simp] theorem hostWrite_sec (s : State) (a : Nat) (bs : List Byte) : (s.hostWrite a bs).sec = s.sec := rfl
@[simp] theorem hostWrite_pending (s : State) (a : Nat) (bs : List Byte) : (s.hostWrite a bs).pending = s.pending := rfl

/-! ### What was written reads back, and nothing beside it changes -/

@[simp] theorem lane_setLane (s : State) (l : Nat) (x : Lane) : (s.setLane l x).lane l = x :=
  Table.get_set_same ..

theorem lane_setLane_other (s : State) (l : Nat) (x : Lane) {j : Nat} (h : j ≠ l) : (s.setLane l x).lane j = s.lane j :=
  Table.get_set_other _ _ _ h

@[simp] theorem lane_modLane (s : State) (l : Nat) (f : Lane → Lane) : (s.modLane l f).lane l = f (s.lane l) :=
  Table.get_set_same ..

theorem lane_modLane_other (s : State) (l : Nat) (f : Lane → Lane) {j : Nat} (h : j ≠ l) : (s.modLane l f).lane j = s.lane j :=
  Table.get_set_other _ _ _ h

@[simp] theorem trib_setTrib (s : State) (t : Nat) (x : Trib) : (s.setTrib t x).trib t = x :=
  Table.get_set_same ..

theorem trib_setTrib_other (s : State) (t : Nat) (x : Trib) {j : Nat} (h : j ≠ t) : (s.setTrib t x).trib j = s.trib j :=
  Table.get_set_other _ _ _ h

@[simp] theorem trib_modTrib (s : State) (t : Nat) (f : Trib → Trib) : (s.modTrib t f).trib t = f (s.trib t) :=
  Table.get_set_same ..

theorem trib_modTrib_other (s : State) (t : Nat) (f : Trib → Trib) {j : Nat} (h : j ≠ t) : (s.modTrib t f).trib j = s.trib j :=
  Table.get_set_other _ _ _ h

@[simp] theorem dune_modDune (s : State) (d : Nat) (f : Dune → Dune) : (s.modDune d f).dune d = f (s.dune d) :=
  Table.get_set_same ..

theorem dune_modDune_other (s : State) (d : Nat) (f : Dune → Dune) {j : Nat} (h : j ≠ d) : (s.modDune d f).dune j = s.dune j :=
  Table.get_set_other _ _ _ h

@[simp] theorem group_modGroup (s : State) (g : Nat) (f : Group → Group) : (s.modGroup g f).group g = f (s.group g) :=
  Table.get_set_same ..

theorem group_modGroup_other (s : State) (g : Nat) (f : Group → Group) {j : Nat} (h : j ≠ g) : (s.modGroup g f).group j = s.group j :=
  Table.get_set_other _ _ _ h

@[simp] theorem ringPair_setRingPair (s : State) (p : Nat) (x : RingPair) : (s.setRingPair p x).ringPair p = x :=
  Table.get_set_same ..

theorem ringPair_setRingPair_other (s : State) (p : Nat) (x : RingPair) {j : Nat} (h : j ≠ p) : (s.setRingPair p x).ringPair j = s.ringPair j :=
  Table.get_set_other _ _ _ h

@[simp] theorem mailbox_setMailbox (s : State) (m : Nat) (x : Mailbox) : (s.setMailbox m x).mailbox m = x :=
  Table.get_set_same ..

theorem mailbox_setMailbox_other (s : State) (m : Nat) (x : Mailbox) {j : Nat} (h : j ≠ m) : (s.setMailbox m x).mailbox j = s.mailbox j :=
  Table.get_set_other _ _ _ h

@[simp] theorem session_setSession (s : State) (k : Nat) (x : Session) : (s.setSession k x).session k = x :=
  Table.get_set_same ..

theorem session_setSession_other (s : State) (k : Nat) (x : Session) {j : Nat} (h : j ≠ k) : (s.setSession k x).session j = s.session j :=
  Table.get_set_other _ _ _ h

@[simp] theorem refIn_modRefIn (s : State) (i : Nat) (f : RefIn → RefIn) : (s.modRefIn i f).refIn i = f (s.refIn i) :=
  Table.get_set_same ..

theorem refIn_modRefIn_other (s : State) (i : Nat) (f : RefIn → RefIn) {j : Nat} (h : j ≠ i) : (s.modRefIn i f).refIn j = s.refIn j :=
  Table.get_set_other _ _ _ h

@[simp] theorem ppsIn_modPpsIn (s : State) (i : Nat) (f : PpsIn → PpsIn) : (s.modPpsIn i f).ppsIn i = f (s.ppsIn i) :=
  Table.get_set_same ..

theorem ppsIn_modPpsIn_other (s : State) (i : Nat) (f : PpsIn → PpsIn) {j : Nat} (h : j ≠ i) : (s.modPpsIn i f).ppsIn j = s.ppsIn j :=
  Table.get_set_other _ _ _ h

@[simp] theorem cut_modCut (s : State) (d : Nat) (f : CutStage → CutStage) : (s.modCut d f).cut d = f (s.cut d) :=
  Table.get_set_same ..

theorem cut_modCut_other (s : State) (d : Nat) (f : CutStage → CutStage) {j : Nat} (h : j ≠ d) : (s.modCut d f).cut j = s.cut j :=
  Table.get_set_other _ _ _ h

@[simp] theorem facetLane_modFacetLane (s : State) (l : Nat) (f : FacetLane → FacetLane) : (s.modFacetLane l f).facetLane l = f (s.facetLane l) :=
  Table.get_set_same ..

theorem facetLane_modFacetLane_other (s : State) (l : Nat) (f : FacetLane → FacetLane) {j : Nat} (h : j ≠ l) : (s.modFacetLane l f).facetLane j = s.facetLane j :=
  Table.get_set_other _ _ _ h

@[simp] theorem domain_setDomain (s : State) (q v : Nat) : (s.setDomain q v).domain q = v :=
  Table.get_set_same ..

theorem domain_setDomain_other (s : State) (q v : Nat) {j : Nat} (h : j ≠ q) : (s.setDomain q v).domain j = s.domain j :=
  Table.get_set_other _ _ _ h

end Sys2Proof.Machine
end

