-- ==== Sys2Proof/Laws/Serve.lean ====
section
/-!
SUPPORT. Laws/Serve.lean: what the journal, the acceptance and the completion of a Drepex command leave of the host
interface, and the completion that an admitted command gets.
-/
namespace Sys2Proof.Machine

/-- Of the host interface, s and t agree on memory, ring pairs, mailboxes, sideband and sessions. -/
def HostIf.same (h k : HostIf) : Prop :=
  k.mem = h.mem ∧ k.pairs = h.pairs ∧ k.mail = h.mail ∧ k.sb = h.sb ∧ k.sessions = h.sessions

theorem HostIf.same.trans {h k l : HostIf} (a : h.same k) (b : k.same l) : h.same l := by
  obtain ⟨a1, a2, a3, a4, a5⟩ := a
  obtain ⟨b1, b2, b3, b4, b5⟩ := b
  exact ⟨b1.trans a1, b2.trans a2, b3.trans a3, b4.trans a4, b5.trans a5⟩

theorem HostIf.same_rfl (h : HostIf) : h.same h := ⟨rfl, rfl, rfl, rfl, rfl⟩

/-! ### Counting and reporting leave the whole host interface alone -/

@[simp] theorem host_bump (s : State) (n : Pn) (o k : Nat) : (s.bump n o k).host = s.host := by
  unfold State.bump; split <;> rfl

theorem host_foldl {α : Type} (f : State → α → State) (h : ∀ (s : State) (a : α), (f s a).host = s.host) (l : List α)
    (s : State) : (l.foldl f s).host = s.host := by
  induction l generalizing s with
  | nil => rfl
  | cons a r ih => exact (ih _).trans (h s a)

@[simp] theorem host_perfQuiet (s : State) (ev k : Nat) : (s.perfQuiet ev k).host = s.host := by
  refine host_foldl _ ?_ _ _
  intro s a; split <;> rfl

@[simp] theorem host_dropEvent (s : State) (cls code : Nat) : (s.dropEvent cls code).host = s.host := by
  unfold State.dropEvent; dsimp only; split <;> simp

@[simp] theorem host_dropSummary (s : State) (cls : Nat) : (s.dropSummary cls).host = s.host := by
  unfold State.dropSummary; dsimp only; split <;> rfl

theorem host_ite {s a b : State} (p : Prop) [Decidable p] (h : a.host = s.host) (k : b.host = s.host) :
    (if p then a else b).host = s.host := by
  split <;> assumption

@[simp] theorem host_softEvent (s : State) (cls code obj data : Nat) : (s.softEvent cls code obj data).host = s.host :=
  host_ite _ (host_bump ..) (host_ite _ (host_dropSummary s cls) (host_dropEvent s cls code))

@[simp] theorem host_perf_go (ev i k : Nat) (cs : List (Nat × PerfCtr)) (s : State) :
    (State.perf.go ev i k cs s).host = s.host := by
  induction cs generalizing s with
  | nil => rfl
  | cons c r ih =>
    obtain ⟨j, c⟩ := c
    unfold State.perf.go; dsimp only; split
    · split
      · exact ih _
      · split
        · exact (ih _).trans (host_ite (s := s) _ rfl (host_softEvent _ 2 0x3001 (j + 1) 0))
        · exact (ih _).trans (host_softEvent _ 2 0x3001 j 0)
    · exact ih _

@[simp] theorem host_perf (s : State) (ev i k : Nat) : (s.perf ev i k).host = s.host := host_perf_go ..

@[simp] theorem host_pushRec (s : State) (own : Bool) (a b c d e f g h i j : Nat) :
    (s.pushRec own a b c d e f g h i j).host = s.host := by
  unfold State.pushRec; dsimp only
  refine (host_perf _ 5 0 1).trans ((host_bump _ _ 0 1).trans ?_)
  split <;> rfl

@[simp] theorem host_journalCmd (s : State) (c : CmdRef) (k o n v : Nat) : (s.journalCmd c k o n v).host = s.host :=
  host_pushRec ..

@[simp] theorem host_journalAll (c : CmdRef) (recs : List (Nat × Nat × Nat)) (s : State) :
    (s.journalAll c recs).host = s.host := by
  induction recs generalizing s with
  | nil => rfl
  | cons x r ih => obtain ⟨o, n, v⟩ := x; exact (ih _).trans (host_journalCmd ..)

@[simp] theorem host_journalSecurity (s : State) (a b c d e f g : Nat) :
    (s.journalSecurity a b c d e f g).host = s.host := by
  unfold State.journalSecurity; split <;> simp

/-! ### Serving -/

theorem served_host (s : State) (d : CmdDesc) (e : Entry) :
    (s.served d e).host = ((s.take e.ring).touch e.session).host := by
  unfold State.served; dsimp only; split <;> simp

theorem touch_same (s : State) (h : Nat) :
    (s.touch h).host.mem = s.host.mem ∧ (s.touch h).host.pairs = s.host.pairs ∧ (s.touch h).host.mail = s.host.mail ∧
      (s.touch h).host.sb = s.host.sb := by
  unfold State.touch; split <;> exact ⟨rfl, rfl, rfl, rfl⟩

/-- A served command has been taken from its ring: the pair's fields that its completion uses. -/
theorem served_ringPair (s : State) (d : CmdDesc) (e : Entry) (h : e.ring < 16) :
    (s.served d e).ringPair e.ring =
      { s.ringPair e.ring with
        sqHead := if (s.ringPair e.ring).sqHead + 1 = 2 ^ (s.ringPair e.ring).sqLog then 0 else (s.ringPair e.ring).sqHead + 1
        expSeq := ((s.ringPair e.ring).expSeq + 1) % 2 ^ 32
        outstanding := (s.ringPair e.ring).outstanding + 1 } := by
  unfold State.ringPair
  rw [served_host, (touch_same _ _).2.1]
  have h24 : e.ring < 24 := by omega
  simp [State.take, h, h24, State.setRingPair, State.ringPair]

/-- What an admitted command finds at its ring, mailbox or sideband. -/
theorem admits_ready {s : State} {d : CmdDesc} {e : Entry} (h : s.admits d e = true) : s.ready e.ring = true := by
  have h := (admits_starts h).1
  unfold State.starts State.standing at h
  simp only [Bool.and_eq_true] at h
  exact h.1.1.1.2

/-! ### Completing -/

/-- Of the host interface, k differs from h at most in what serving and completing write: memory, ring pairs, mailboxes,
sideband and the state of the vectors. -/
def HostIf.kept (h k : HostIf) : Prop :=
  k = { h with
    mem := k.mem
    pairs := k.pairs
    mail := k.mail
    sb := k.sb
    turn := k.turn
    irqWait := k.irqWait
    irqSent := k.irqSent
    irqTick := k.irqTick
    irqPba := k.irqPba }

theorem HostIf.kept_rfl (h : HostIf) : h.kept h := rfl

theorem HostIf.kept.trans {h k l : HostIf} (a : h.kept k) (b : k.kept l) : h.kept l := by
  unfold HostIf.kept at *; rw [b, a]

theorem HostIf.kept_of_eq {h k : HostIf} (e : k = h) : h.kept k := by
  subst e; rfl

theorem signal_same (s : State) (v : Nat) : s.host.same (s.signal v).host := by
  unfold State.signal; dsimp only; split <;> exact ⟨rfl, rfl, rfl, rfl, rfl⟩

theorem signal_kept (s : State) (v : Nat) : s.host.kept (s.signal v).host := by
  unfold State.signal; dsimp only; split <;> rfl

theorem interrupt_same (s : State) (v : Nat) : s.host.same (s.interrupt v).host := by
  unfold State.interrupt; dsimp only; split
  · exact signal_same ..
  · split
    · exact HostIf.same_rfl _
    · exact ⟨rfl, rfl, rfl, rfl, rfl⟩

theorem interrupt_kept (s : State) (v : Nat) : s.host.kept (s.interrupt v).host := by
  unfold State.interrupt; dsimp only; split
  · exact signal_kept ..
  · split <;> rfl

theorem accepted_host (s : State) (c : CmdRef) (q : Nat) :
    (s.accepted c q).host =
      (if c.ring < 16 then s.setRingPair c.ring { s.ringPair c.ring with lastSeq := q } else s).host := by
  unfold State.accepted; dsimp only; exact host_ite _ (host_softEvent ..) rfl

theorem complBytes_length (a b c d e f g : Nat) : (complBytes a b c d e f g).length = 16 := by
  simp [complBytes, leBytes]

theorem completePair_posted (t : State) (r c st x d f : Nat) (h : (t.ringPair r).on = true) :
    Table.getRun 0 (t.completePair r c st x d f).host.mem ((t.ringPair r).cqAddr + 16 * (t.ringPair r).cqNext) 16 =
        complBytes c st (t.ringPair r).sqHead x d r (f + if (t.ringPair r).phase then 128 else 0)
      ∧ ((t.completePair r c st x d f).ringPair r).cqNext =
        if (t.ringPair r).cqNext + 1 = 2 ^ (t.ringPair r).cqLog then 0 else (t.ringPair r).cqNext + 1 := by
  unfold State.completePair
  simp only [h, if_true]
  refine ⟨?_, ?_⟩
  · rw [(interrupt_same _ _).1]
    exact Table.getRun_setRun _ (complBytes c st (t.ringPair r).sqHead x d r _) _ _
  · unfold State.ringPair
    rw [(interrupt_same _ _).2.1]
    simp [State.setRingPair]

/-- What a completion leaves of the host interface: all but its own place and the vectors. -/
theorem complete_kept (s : State) (c : CmdRef) (st r d : Nat) (b : Bool) : s.host.kept (s.complete c st r d b).host := by
  unfold State.complete; dsimp only; split
  · unfold State.completePair; dsimp only; split
    · exact HostIf.kept.trans (by rfl) (interrupt_kept ..)
    · rfl
  · split
    · unfold State.completeMail; dsimp only; split <;> rfl
    · split <;> rfl

theorem complete_ringPair (s : State) (c : CmdRef) (st r d : Nat) (b : Bool) {p : Nat} (h : p ≠ c.ring) :
    (s.complete c st r d b).ringPair p = s.ringPair p := by
  unfold State.complete; dsimp only; split
  · unfold State.completePair; dsimp only; split
    · unfold State.ringPair
      rw [(interrupt_same _ _).2.1]
      exact ringPair_setRingPair_other _ _ _ h
    · rfl
  · split
    · unfold State.completeMail; dsimp only; split <;> rfl
    · split <;> rfl

theorem complete_mailbox (s : State) (c : CmdRef) (st r d : Nat) (b : Bool) {m : Nat} (h : m + 16 ≠ c.ring) :
    (s.complete c st r d b).mailbox m = s.mailbox m := by
  unfold State.complete; dsimp only; split
  · unfold State.completePair; dsimp only; split
    · unfold State.mailbox
      rw [(interrupt_same _ _).2.2.1]; rfl
    · rfl
  · split
    · unfold State.completeMail; dsimp only; split
      · exact mailbox_setMailbox_other _ _ _ (by omega)
      · rfl
    · split <;> rfl

theorem complete_mem (s : State) (c : CmdRef) (st r d : Nat) (b : Bool) (h : 16 ≤ c.ring) :
    (s.complete c st r d b).host.mem = s.host.mem := by
  have h' : ¬c.ring < 16 := by omega
  unfold State.complete; simp only [h', if_false]; split
  · unfold State.completeMail; dsimp only; split <;> rfl
  · split <;> rfl

/-- A completion of STATUS 0 stands where R385 puts it, if the place is as the command was taken from it. -/
theorem complete_posted (s t : State) (e : Entry) (c : CmdRef) (r : Nat) (hr : c.ring = e.ring) (hc : c.cmdId = e.cmdId)
    (h24 : e.ring ≤ 24)
    (hp : e.ring < 16 → (t.ringPair e.ring).on = true ∧ (t.ringPair e.ring).cqAddr = (s.ringPair e.ring).cqAddr ∧
      (t.ringPair e.ring).cqNext = (s.ringPair e.ring).cqNext ∧ (t.ringPair e.ring).cqLog = (s.ringPair e.ring).cqLog ∧
      (t.ringPair e.ring).phase = (s.ringPair e.ring).phase ∧ (t.ringPair e.ring).sqHead =
        (if (s.ringPair e.ring).sqHead + 1 = 2 ^ (s.ringPair e.ring).sqLog then 0 else (s.ringPair e.ring).sqHead + 1))
    (hm : 16 ≤ e.ring → e.ring < 24 → (t.mailbox (e.ring - 16)).state = 1) :
    s.posted (t.complete c 0 r 0 false) e r := by
  unfold State.posted State.complete
  rw [hr, hc]
  by_cases h16 : e.ring < 16
  · obtain ⟨h1, h2, h3, h4, h5, h6⟩ := hp h16
    have h := completePair_posted t e.ring e.cmdId 0 r 0 0 h1
    rw [h2, h3, h4, h5, h6] at h
    simp only [h16, if_true, Bool.false_eq_true, if_false]
    exact ⟨by simpa using h.1, fun _ => h.2⟩
  · by_cases h24' : e.ring < 24
    · have := hm (by omega) h24'
      simp [h16, h24', State.completeMail, this]
    · have : e.ring = 24 := by omega
      simp [this, State.completeSide]

/-- Of the host interface, t has what a completion of entry e needs as serving left it in s. -/
def State.placeKept (s t : State) (e : Entry) : Prop :=
  t.ringPair e.ring = s.ringPair e.ring ∧ (t.mailbox (e.ring - 16)).state = (s.mailbox (e.ring - 16)).state

theorem served_mailbox (s : State) (d : CmdDesc) (e : Entry) (h : ¬e.ring < 16) (k : e.ring < 24) :
    (s.served d e).mailbox (e.ring - 16) = { s.mailbox (e.ring - 16) with taken := true } := by
  unfold State.mailbox
  rw [served_host, (touch_same _ _).2.2.1]
  simp [State.take, h, k, State.setMailbox, State.mailbox]

theorem ready_ring {s : State} {r : Nat} (h : s.ready r = true) : r ≤ 24 := by
  unfold State.ready at h
  split at h
  · omega
  · split at h
    · omega
    · split at h
      · omega
      · cases h

theorem take_session (s : State) (r k : Nat) : (s.take r).session k = s.session k := by
  unfold State.take; dsimp only; split <;> split <;> rfl

theorem take_findSession (s : State) (r h : Nat) : (s.take r).findSession h = s.findSession h := by
  unfold State.findSession; simp only [take_session]

/-- A session that is marked as active keeps everything but its time. -/
theorem touch_findSession (s : State) (h : Nat) :
    (s.touch h).findSession h = (s.findSession h).map fun x => { x with
      last := s.clk.rsn
      lastTick := s.clk.tick } := by
  cases hf : s.findSession h with
  | none => unfold State.touch; simp [hf]
  | some x =>
    unfold State.touch
    simp only [hf, Option.map_some]
    unfold State.findSession at hf ⊢
    simp only [Option.ite_none_right_eq_some, Option.some.injEq] at hf
    obtain ⟨⟨h1, h2, h3⟩, h4⟩ := hf
    subst h4
    simp [h1, h2, h3]

/-- The role by which a command is judged is that of its session. -/
theorem servedRef_role (s : State) (d : CmdDesc) (e : Entry) :
    (s.servedRef d e).role = (match (s.served d e).findSession e.session with
      | some x => x.role
      | none => 0) := by
  have h : (s.served d e).findSession e.session = ((s.take e.ring).touch e.session).findSession e.session := by
    unfold State.findSession State.session; rw [served_host]
  rw [h, touch_findSession]
  unfold State.servedRef State.refOf
  cases (s.take e.ring).findSession e.session <;> rfl

/-- What a command that is done leaves of its effect t: all but the host interface, the telemetry and the counts; of the host
interface, all but its own place, the memory and the vectors; of the memory, all, if its completion does not go there. -/
def State.after (t u : State) (e : Entry) : Prop :=
  t.quiet u ∧ t.host.kept u.host ∧ (∀ p, p ≠ e.ring → u.ringPair p = t.ringPair p) ∧
    (∀ m, m + 16 ≠ e.ring → u.mailbox m = t.mailbox m) ∧ (16 ≤ e.ring → u.host.mem = t.host.mem)

/-- After the effect t of a command, with room for its records: the completion stands, and the effect stays. -/
theorem finish_done (s : State) (d : CmdDesc) (e : Entry) (t : State) (r : Nat) (recs : List (Nat × Nat × Nat))
    (ha : s.admits d e = true) (hj : (s.served d e).journalRoom recs.length = true) (hk : (s.served d e).placeKept t e) :
    s.posted ((s.served d e).finish (s.servedRef d e) e.submitSeq (.done t r recs)) e r ∧
      t.after ((s.served d e).finish (s.servedRef d e) e.submitSeq (.done t r recs)) e := by
  have hf : (s.served d e).finish (s.servedRef d e) e.submitSeq (.done t r recs) =
      ((t.journalAll (s.servedRef d e) recs).accepted (s.servedRef d e) e.submitSeq).complete (s.servedRef d e) 0 r 0 false := by
    simp [State.finish, hj]
  have hr := admits_ready ha
  have hc : (s.servedRef d e).ring = e.ring := rfl
  have hid : (s.servedRef d e).cmdId = e.cmdId := rfl
  have h24 : e.ring ≤ 24 := ready_ring hr
  have ha : ((t.journalAll (s.servedRef d e) recs).accepted (s.servedRef d e) e.submitSeq).host =
      (if e.ring < 16 then t.setRingPair e.ring { t.ringPair e.ring with lastSeq := e.submitSeq } else t).host := by
    rw [accepted_host, hc]
    split
    · unfold State.setRingPair State.ringPair; simp
    · simp
  rw [hf]
  refine ⟨complete_posted s _ e _ r hc hid h24 ?_ ?_, (quiet_journalAll ..).trans ((quiet_accepted ..).trans (quiet_complete ..)),
    ?_, ?_, ?_, ?_⟩
  · intro h16
    have hp : ((t.journalAll (s.servedRef d e) recs).accepted (s.servedRef d e) e.submitSeq).ringPair e.ring =
        { t.ringPair e.ring with lastSeq := e.submitSeq } := by
      have h : ∀ u v : State, u.host = v.host → u.ringPair e.ring = v.ringPair e.ring := fun u v h => by
        unfold State.ringPair; rw [h]
      rw [h _ _ ha]; simp [h16]
    have hs := served_ringPair s d e h16
    have hon : (s.ringPair e.ring).on = true := by
      simp [State.ready, h16] at hr; exact hr.1.1
    rw [hp, hk.1, hs]
    exact ⟨hon, rfl, rfl, rfl, rfl, rfl⟩
  · intro h16 h24'
    have h : ∀ u v : State, u.host = v.host → u.mailbox (e.ring - 16) = v.mailbox (e.ring - 16) := fun u v h => by
      unfold State.mailbox; rw [h]
    have hn : ¬e.ring < 16 := by omega
    rw [h _ _ ha]
    simp only [hn, if_false]
    rw [hk.2, served_mailbox s d e hn h24']
    simp [State.ready, hn, h24'] at hr
    exact hr.1
  · refine HostIf.kept.trans ?_ (complete_kept ..)
    rw [ha]; split <;> rfl
  · intro p hp
    rw [complete_ringPair _ _ _ _ _ _ (by rw [hc]; exact hp)]
    have h : ∀ u v : State, u.host = v.host → u.ringPair p = v.ringPair p := fun u v h => by
      unfold State.ringPair; rw [h]
    rw [h _ _ ha]; split
    · exact ringPair_setRingPair_other _ _ _ hp
    · rfl
  · intro m hm
    rw [complete_mailbox _ _ _ _ _ _ (by rw [hc]; exact hm)]
    have h : ∀ u v : State, u.host = v.host → u.mailbox m = v.mailbox m := fun u v h => by
      unfold State.mailbox; rw [h]
    rw [h _ _ ha]; split <;> rfl
  · intro h16
    have hn : ¬e.ring < 16 := by omega
    rw [complete_mem _ _ _ _ _ _ (hc ▸ h16), ha]
    simp [hn]

/-- What serving hands to a command's own checks about its reference. -/
def CmdRef.of (c : CmdRef) (s : State) (e : Entry) : Prop :=
  c.ring = e.ring ∧ c.path = pathOf e.ring ∧ c.session = e.session ∧ c.cmdId = e.cmdId ∧
    c.role = (match s.findSession e.session with | some x => x.role | none => 0)

/-- A command that serve serves completes where its body answers with an effect that keeps its place. -/
theorem completes_of_done {i : Instr} {e : Entry} {d : CmdDesc} {n : Nat} {pre : State → Prop} {res : State → Nat}
    {post : State → State → Prop} {body : CmdRef → State → Reply} (hx : ∀ s, exec i s = serve (d.of i) e s body)
    (hb : ∀ s c, c.of s e → (e.ring < 16 → (s.ringPair e.ring).on = true) → pre s →
      ∃ t recs, body c s = .done t (res s) recs ∧ recs.length = n ∧ s.placeKept t e ∧ ∀ u, t.after u e → post s u) :
    completes i e d n pre res post := by
  intro s ha hj hp
  have hon : e.ring < 16 → ((s.served d e).ringPair e.ring).on = true := by
    intro h16
    have hr := admits_ready ha
    rw [served_ringPair s d e h16]
    simp [State.ready, h16] at hr; exact hr.1.1
  obtain ⟨t, recs, h1, h2, h3, h4⟩ :=
    hb (s.served d e) (s.servedRef d e) ⟨rfl, rfl, rfl, rfl, servedRef_role s d e⟩ hon hp
  subst h2
  obtain ⟨f1, f2⟩ := finish_done s (d.of i) e t (res (s.served d e)) recs ha hj h3
  refine ⟨_, ?_, f1, h4 _ f2⟩
  have h1 : body (s.servedRef (d.of i) e) (s.served (d.of i) e) = _ := h1
  rw [hx, serve_admits (d.of i) e s body ha, h1]

/-- A command that serve serves is accepted where its body says so. -/
theorem accepts_of_accept {i : Instr} {e : Entry} {d : CmdDesc} {n : Nat} {pre : State → Prop} {post : CmdRef → State → State → Prop}
    {body : CmdRef → State → Reply} (hx : ∀ s, exec i s = serve (d.of i) e s body)
    (hb : ∀ s c, c.of s e → pre s → ∃ t recs, body c s = .accept t recs ∧ recs.length = n ∧ ∀ u, t.quiet u → post c s u) :
    accepts i e d n pre post := by
  intro s ha hj hp
  obtain ⟨t, recs, h1, h2, h3⟩ := hb (s.served d e) (s.servedRef d e) ⟨rfl, rfl, rfl, rfl, servedRef_role s d e⟩ hp
  subst h2
  refine ⟨_, ?_, h3 _ ((quiet_journalAll (s.servedRef d e) recs t).trans (quiet_accepted _ (s.servedRef d e) e.submitSeq))⟩
  have h1 : body (s.servedRef (d.of i) e) (s.served (d.of i) e) = _ := h1
  rw [hx, serve_admits (d.of i) e s body ha, h1]
  have hj : (s.served (d.of i) e).journalRoom recs.length = true := hj
  simp only [State.finish, hj, if_true]
  rfl

end Sys2Proof.Machine
end

