-- ==== Sys2Proof/Tests/Slice0.lean ====
section
/-!
SUPPORT. Tests/Slice0.lean: the well-formedness smoke test; a few runs of one step whose expected values are worked out by hand
from the manual; and for every statement with hypotheses a witness: a state and operands that meet all hypotheses of each of its
clauses together.
-/
set_option Elab.async false

namespace Sys2Proof.Tests
open Sys2Proof Sys2Proof.Machine

/-! ### States for the tests -/

/-- A unit in CONFIGURE: an ADMIN session, a SERVICE session on the next slot, a suspended one and a provisional one; mailbox 0
holds a command. -/
def demo : State := {
  dev := { mode := .configure, jcc := .running, role := .standalone, serviceEn := true, tmr := true, resetKind := 1 }
  host := {
    dmaOn := true
    mail := [(0, { state := 1 })]
    sessions := [(1, { state := .opened, handle := 9, role := 3 }), (2, { state := .opened, handle := 10, role := 4 }),
      (3, { state := .suspended, handle := 11, role := 3 }), (4, { state := .provisional, handle := 12, role := 3 })] }
  sec := { adminInitial := false, keys := [(3, 77), (4, 78)] } }

/-- The head of an entry in mailbox 0 under the ADMIN session: CMD_ID 7, SUBMIT_SEQ 0. -/
def mail : Entry := entryOf 16 9 7 0 ⟨0, 0, false, false, []⟩
/-- The same under the SERVICE session. -/
def service : Entry := entryOf 16 10 7 0 ⟨0, 0, false, false, []⟩
/-- The head of an entry in ring pair 0. -/
def ring0 : Entry := entryOf 0 9 7 0 ⟨0, 0, false, false, []⟩
/-- The entry that spells command f, with the head of another entry (R383, R384, R401). -/
def entryFor (f : Entry → Instr) (h : Entry) : Entry := entryOf h.ring h.session h.cmdId h.submitSeq (cmdOf (f h))
/-- An entry stands in the mailbox or in the sideband that it names. -/
def State.placing (s : State) (e : Entry) : State :=
  if e.ring < 16 then s
  else if e.ring < 24 then s.setMailbox (e.ring - 16) { s.mailbox (e.ring - 16) with cmd := e.word }
  else { s with host := { s.host with sb := { s.host.sb with cmd := e.word } } }
/-- A buffer in the window of host memory that reset leaves open. -/
def buf : Buf := ⟨0x1000, 0x10000, 0⟩

/-- demo in another mode. -/
def inMode (m : Mode) : State := { demo with dev := { demo.dev with mode := m } }
/-- demo with one parameter. -/
def having (n : Pn) (obj v : Nat) : State := { demo with par := { vals := [(n.key obj, v)] } }
/-- A unit in TRANSPORT that follows, with the Sared link up. -/
def follower : State :=
  { demo with dev := { demo.dev with mode := .transport, role := .follower }, pair := { linkUp := true } }
/-- demo with one lane. -/
def withLane (l : Nat) (x : Lane) : State := { demo with lanes := [(l, x)] }
/-- A unit in TEST with lane 3 in the test set. -/
def inTest : State :=
  { inMode .test with lanes := [(3, { rxOn := true, txOn := true, test := { under := true } })] }
/-- demo with one tributary. -/
def withTrib (x : Trib) : State := { demo with tribs := [(5, x)] }
/-- A pending commit. -/
def pending : PendCommit := {
  c := 102, accepted := 99, armed := false, ready := false, handshake := false, proposed := false, refused := none,
  switched := false, ref := none }
/-- demo at RSN 100 with that commit. -/
def committing (p : PendCommit) : State := { demo with clk := { rsn := 100 }, com := { pend := some p } }
/-- A firmware image of 16 bytes, unsigned. -/
def image : Image := {
  magic := 0x51584657, format := 1, keyIndex := 0, version := 1, svn := 0, floor := 0, codeLen := 16, ckptFormat := 1,
  ckptReadMin := 1, codeDigest := 0, rsaN := [], slhPk := [], header := [], rsaSig := [], slhSig := [], reservedZero := true,
  code := List.replicate 16 0 }

/-- The entry of command f stands where head h says and is admitted, the journal has room for n records, and pre holds of the entry
and of the state that the command's own checks find. -/
def ready (f : Entry → Instr) (h : Entry) (n : Nat) (s : State) (pre : Entry → State → Bool) : Bool :=
  let e := entryFor f h
  let s := State.placing s e
  match drepexOf (f e) with
  | some (d, x) => x == e && s.admits d e && (s.served d e).journalRoom n && pre e (s.served d e)
  | none => false

/-! ### Ill-formed operands are refused -/

theorem test_wf_entry : Instr.wf (.commitNow ⟨25, 0⟩) = false ∧ Instr.wf (.commitNow mail) = true := by decide
theorem test_wf_buffer : Instr.wf (.sessionList mail ⟨2 ^ 64, 256, 0⟩) = false ∧ Instr.wf (.sessionList mail ⟨0, 2 ^ 32, 0⟩) = false ∧
    Instr.wf (.sessionList mail ⟨0, 256, 5⟩) = false ∧
    Instr.wf (.sessionList mail buf) = true := by decide
theorem test_wf_fields : Instr.wf (.tribDelete mail 65536) = false ∧ Instr.wf (.testLane mail 3 256) = false ∧
    Instr.wf (.sessionClose mail (2 ^ 32)) = false ∧ Instr.wf (.commitAt mail (2 ^ 64)) = false ∧
    Instr.wf (.mapRead mail buf 0 1 0 0 256) = false ∧ Instr.wf (.legacyWriteApply .laneMode 65536) = false := by decide
theorem test_wf_counts : Instr.wf (.paramGet mail buf 2 [.known .laneMode 0]) = false ∧
    Instr.wf (.paramSet mail buf 1 []) = false ∧ Instr.wf (.tribCreate mail buf [1, 2] 0 0 3 0) = false ∧
    Instr.wf (.protLockout mail buf 2 [1]) = false ∧ Instr.wf (.secHallmark mail buf []) = false ∧
    Instr.wf (.caravanLoad mail buf buf 1 1 0 [0] []) = false := by decide
theorem test_wf_records : Instr.wf (.mapStage mail buf 2 [0]) = false ∧ Instr.wf (.cutStage mail buf 2 0 [0]) = false ∧
    Instr.wf (.laneRowReceived 0 ⟨true, 0, 4, [], 0, none⟩) = false ∧ Instr.wf (.laneRowReceived 0 ⟨true, 0, 0, [4], 0, none⟩) = false ∧
    Instr.wf (.laneRowReceived 0 ⟨true, 0, 3, [3, 0], 0, none⟩) = true ∧
    Instr.wf (.paramSet mail buf 1 [⟨.known .laneMode 0, 65536, true, []⟩]) = false := by decide
theorem test_wf_events : Instr.wf (.registerWrite 14 0 []) = false ∧ Instr.wf (.registerWrite 0 (2 ^ 32) []) = false ∧
    Instr.wf (.dmaTransfer 0 (2 ^ 32) 0 ⟨16, none⟩) = false ∧ Instr.wf (.lockstepDecision 0 [⟨65536, 0, 0⟩]) = false ∧
    Instr.wf (.mapShadowRepair 0 0 65536) = false ∧ Instr.wf (.holdoffExpiry 65536 0) = false := by decide

/-! ### One step, worked out by hand from the manual -/

/-- The state after one command. -/
def after (i : Instr) (s : State) : State := match exec i s with | .next t => t | _ => s

/-- The digits 1 to 9 in ASCII, on which the published check values of a CRC are taken. -/
def digits : List Byte := [0x31, 0x32, 0x33, 0x34, 0x35, 0x36, 0x37, 0x38, 0x39]

/-- Published check values of CRC-32C (R68), of the CRC-16 of R63 and of the CRC-8 of R406. -/
theorem test_crc_check_values : crc32c digits = 0xE3069283 ∧ crc16 digits = 0x29B1 ∧ crc8 digits = 0xF4 := by decide +kernel
/-- R11: the RSN wraps. -/
theorem test_rsn_wraps : rsnLe (BitVec.allOnes 48) 0 = true ∧ rsnLe 0 (BitVec.allOnes 48) = false := by decide
/-- R332's example: ALL eyes are 12,096 points. -/
theorem test_eye_points : eyePoints 3 = 12096 := by decide
/-- R490's example: 8 h without supplies are 720,000,000,000 ticks and 11,250,000,000 rows. -/
theorem test_supply_restore_8h :
    (after (.supplyRestore 720000000000) { demo with pow := { removed := true, snap := some (0, 0, 1, 0) } }).clk.rsn =
      11250000000 := by decide +kernel
/-- The state after a Drepex command whose entry stands in its mailbox. -/
def ran (f : Entry → Instr) (h : Entry) (s : State) : State := after (f (entryFor f h)) (State.placing s (entryFor f h))

/-- R383, R384: class and op in bytes 0 and 1, CMD_ID, SESSION and SUBMIT_SEQ at 4, 8 and 12, the arguments from byte 16 on, each at a
multiple of its width: the lane, the channel and the buffer of LANE.MGMT_SEND. -/
theorem test_entry_bytes :
    let e := entryFor (fun e => .laneMgmtSend e ⟨0x10000, 64, 0⟩ 3 1 []) mail
    leBytes 32 e.word.toNat = [3, 2, 0, 0, 7, 0, 0, 0, 9, 0, 0, 0, 0, 0, 0, 0, 0, 0, 1, 0, 0, 0, 0, 0, 64, 0, 0, 0, 3, 0, 1, 0] := by
  decide +kernel
/-- The STATUS that a command leaves in mailbox 0: bytes 4 and 5 of the completion (R385). -/
def status (f : Entry → Instr) (h : Entry) (s : State) : Nat := (((ran f h s).mailbox 0).compl.extractLsb' 32 16).toNat
/-- R387: an entry whose code R401 does not list is answered with UNKNOWN_OP. -/
theorem test_unknown_op :
    let e : Entry := ⟨16, 0x7F7F + 9 * 2 ^ 64⟩
    ((after (.commitNow e) (State.placing demo e)).mailbox 0).compl.extractLsb' 32 16 = 1 := by decide +kernel
/-- R388: DENIED for an OBSERVER, RESERVED_NONZERO for a nonzero byte 2, NO_SESSION; and OK (R385, R387). -/
theorem test_head_refusals :
    let observer := { demo with host := { demo.host with sessions := [(1, { state := .opened, handle := 9, role := 1 })] } }
    let odd : Entry := ⟨16, (entryFor .fwMaintain mail).word ||| 0x10000⟩
    let stranger := entryOf 16 17 7 0 ⟨0, 0, false, false, []⟩
    status .mapDiscard mail observer = 0x0103 ∧ ((after (.fwMaintain odd) (State.placing demo odd)).mailbox 0).compl.extractLsb' 32 16 = 2 ∧
      status .fwMaintain stranger demo = 0x0101 ∧ status .paramSave mail demo = 0 := by decide +kernel
/-- R419: only the key unlocks. -/
theorem test_unlock_key : (after (.unlockWrite 0x0000C1A5) demo).host.unlocked = true ∧
    (after (.unlockWrite 0x0001C1A5) demo).host.unlocked = false := by decide +kernel
/-- R456: the first read acquires; the second names the holder. -/
theorem test_semaphore_read :
    let s := after (.semaphoreRead 0 5) demo
    s.jcc.readData = 0 ∧ (after (.semaphoreRead 1 5) { s with jcc := { s.jcc with j1 := true } }).jcc.readData = 0x80000000 := by
  decide +kernel
/-- R451: a write through the bit-set view, then one through the bit-clear view. -/
theorem test_sram_views :
    let s := after (.registerWrite 0 0x20000010 [0x0F]) demo
    Table.get 0 (after (.registerWrite 0 0x21000010 [0xF0]) s).jcc.sram 0x10 = 0xFF ∧
      Table.get 0 (after (.registerWrite 0 0x22000010 [0x03]) s).jcc.sram 0x10 = 0x0C := by decide +kernel
/-- R123: the member grains, named in any order, are held in ascending order. -/
theorem test_trib_create_sorts : ((ran (fun e => .tribCreate e buf [7, 0, 5] 5 3 3 0) mail demo).trib 5).grains = [0, 5, 7] := by decide +kernel
/-- R30, R33: MAINTAIN is pending until its boundary. -/
theorem test_maintain_pending :
    let t := ran .fwMaintain mail demo
    t.dev.mode = .configure ∧ (t.dev.pend.map (·.target)) = some .maintain := by decide +kernel
/-- R385 and R389: the completion of an empty ring pair lies at its CQ base with the first phase. -/
theorem test_ring_completion :
    let s := { demo with host := { demo.host with pairs := [(0,
      { on := true, owner := 9, cqAddr := 0x4000, sqLog := 4, cqLog := 4, sqTail := 1 })] } }
    Table.getRun 0 (ran .paramSave ring0 s).host.mem 0x4000 16 =
      [7, 0, 0, 0, 0, 0, 1, 0, 0, 0, 0, 0, 0, 0, 0, 0x80] := by decide +kernel
/-- R578: an over-temperature holds the device in a FATAL reset. -/
theorem test_thermal_trip : (after .thermalTrip demo).dev.fatalHeld = some 1 := by decide +kernel
/-- A command at the front of the queue runs; an empty queue idles (log entry 5). -/
theorem test_step_queue : (step { demo with pending := [.unlockWrite 0xC1A5, .unlockExpiry] } =
      exec (.unlockWrite 0xC1A5) { demo with pending := [.unlockExpiry] }) ∧ step demo = .next demo := ⟨rfl, rfl⟩

/-! ### Witnesses of the hypotheses -/

/-- The checks have let the command pass. -/
def passed (r : Reply) : Bool := match r with | .noop x => x | _ => false

/-- A TOD_IN message of second 9 (R296). -/
def todSample : List Byte := [0xC5, 0x3A, 0x01, 0x80, 0, 0, 0, 0, 0, 9, 0, 0, 0, 0, 0xCB, 0x8C]
/-- A transient parity hit of the storage of stripe 0. -/
def faultSite : FaultSite := ⟨1, 0x10, 0, 0, false, []⟩

theorem leNat_lt (bs : List Byte) : leNat bs < 256 ^ bs.length := by
  induction bs with
  | nil => decide
  | cons b r ih =>
    have := b.isLt
    simp only [leNat, List.length_cons, Nat.pow_succ]
    omega

theorem padTo_length (n : Nat) (bs : List Byte) : (padTo n bs).length = n := by
  simp only [padTo, List.length_append, List.length_take, List.length_replicate]; omega

/-- T_h as SESSION.PROVE carries it. -/
def proofArg (tag : BitVec 384) : Nat := leNat (padTo 48 (beBytes 48 tag.toNat))
theorem proofArg_lt (tag : BitVec 384) : proofArg tag < 256 ^ 48 := by
  have h := leNat_lt (padTo 48 (beBytes 48 tag.toNat))
  rwa [padTo_length] at h

/-- The entry of SESSION.PROVE in ring pair 0 under the provisional handle 12 of demo: its code, CMD_ID 7 and SESSION 12, then T_h from
byte 16 on. -/
def proving (tag : BitVec 384) : Entry := ⟨0, BitVec.ofNat 512 (0x0201 + 7 * 256 ^ 4 + 12 * 256 ^ 8 + proofArg tag * 256 ^ 16)⟩

theorem proving_fields (tag : BitVec 384) : (proving tag).code = 0x0102 ∧ (proving tag).session = 12 ∧ (proving tag).submitSeq = 0 ∧
    (proving tag).field 2 2 = 0 ∧ (proving tag).field 16 48 = proofArg tag := by
  have h := proofArg_lt tag
  simp only [proving, Entry.code, Entry.session, Entry.submitSeq, Entry.field, BitVec.toNat_ofNat]
  rw [show (2 : Nat) ^ 512 = 256 ^ 64 from Nat.pow_mul 2 8 64]
  generalize proofArg tag = v at *
  have hw : (0x0201 + 7 * 256 ^ 4 + 12 * 256 ^ 8 + v * 256 ^ 16) % 256 ^ 64 = 0x0201 + 7 * 256 ^ 4 + 12 * 256 ^ 8 + v * 256 ^ 16 :=
    Nat.mod_eq_of_lt (by omega)
  rw [hw]
  omega

/-- demo with that entry's ring pair. -/
def provingRing : State := { demo with host := { demo.host with
  pairs := [(0, { on := true, owner := 9, sqLog := 4, cqLog := 4, sqTail := 1 })] } }

theorem test_SessionOpens_prove (tag : BitVec 384) :
    let e := proving tag
    let s := provingRing.served ⟨0x0102, 0, false, false, []⟩ e
    provingRing.admits (CmdDesc.of ⟨0x0102, 0, false, false, []⟩ (.sessionProve e tag)) e = true ∧
      s.proving e.session = some { state := .provisional, handle := 12, role := 3 } ∧ s.roleKey 3 = some 77 := by
  obtain ⟨h1, h2, h3, h4, h5⟩ := proving_fields tag
  have hr : (proving tag).ring = 0 := rfl
  have hc : catalogued 0x0102 = true := by decide
  have hl := proofArg_lt tag
  have hv : leNat (padTo 48 (beBytes 48 tag.toNat)) = proofArg tag := rfl
  have hs : provingRing.standing 0 = true := by decide +kernel
  have hm (a : List Arg) : provingRing.mayStart ⟨0x0102, 0, false, false, a⟩ 0 = true := by
    rw [show provingRing.mayStart ⟨0x0102, 0, false, false, a⟩ 0 = provingRing.mayStart ⟨0x0102, 0, false, false, []⟩ 0 from rfl]
    decide +kernel
  have hz : (proving tag).reservedZero ⟨0x0102, 0, false, false, [.bytes 48 (beBytes 48 tag.toNat)]⟩ = true := by
    simp [Entry.reservedZero, placeArgs, Arg.align, Arg.width, h4, h5]
  have hsp : (proving tag).spells ⟨0x0102, 0, false, false, [.bytes 48 (beBytes 48 tag.toNat)]⟩ = true := by
    have hd : decide (proofArg tag < 256 ^ 48) = true := decide_eq_true hl
    simp only [Entry.spells, Entry.holds, placeArgs, Arg.align, Arg.width, Arg.value, h1, hv, List.all_cons, List.all_nil]
    simpa [h5] using hl
  have hh : (((provingRing.take 0).touch 12).perf 0x047 0 1).headRefusal ⟨0x0102, 0, false, false, [.bytes 48 (beBytes 48 tag.toNat)]⟩
      (proving tag) = none := by
    have hm : (((provingRing.take 0).touch 12).perf 0x047 0 1).dev.mode = .configure := by decide +kernel
    simp [State.headRefusal, hm, hz, hc, hr, bootServes]
  have hq : (provingRing.ringPair 0).expSeq = 0 := by decide +kernel
  have ht : provingRing.served ⟨0x0102, 0, false, false, []⟩ (proving tag) = ((provingRing.take 0).touch 12).perf 0x047 0 1 := by
    simp [State.served, hr, h2]
  refine ⟨?_, ?_, ?_⟩
  · simp [State.admits, State.starts, State.holds, descOf, CmdDesc.of, cmdOf, drepexOf, h1, h3, hr, hs, hm, hsp, hc, hq]
    rw [show provingRing.served ⟨0x0102, 0, false, false, [.bytes 48 (beBytes 48 tag.toNat)]⟩ (proving tag) =
      ((provingRing.take 0).touch 12).perf 0x047 0 1 by simp [State.served, hr, h2]]
    exact hh
  · rw [ht, h2]; decide +kernel
  · rw [ht]; decide +kernel

theorem test_SecurityCommands_key :
    let x : Session := { state := .opened, handle := 9, role := 3 }
    let key := x.newKey 1 0
    let confirm := Config.hmac384 key (tagConfirm ++ leBytes 1 1 ++ leBytes 8 Config.serial.toNat)
    ready (fun e => .secKeySet e buf 1 0 confirm) mail 1 demo (fun e s => s.findSession e.session == some x && decide (96 ≤ buf.len) &&
      s.bufRead buf 96 && !s.onInitial x) = true := by decide +kernel

/-- The 16 bytes of CONNECT of egress grain (5, 7) to source grain (3, 9), as one little-endian number (R186). -/
def connectWord : BitVec 128 := BitVec.ofNat 128 (1 + 5 * 2 ^ 16 + 7 * 2 ^ 32 + 3 * 2 ^ 48 + 9 * 2 ^ 64)
/-- The 16 bytes of DISCONNECT of egress grain (5, 7) (R186). -/
def disconnectWord : BitVec 128 := BitVec.ofNat 128 (2 + 5 * 2 ^ 16 + 7 * 2 ^ 32)
/-- The 8 bytes that connect input 8,191 of a cut stage to source (24, 9) (R265). -/
def cutEntryWord : BitVec 64 := BitVec.ofNat 64 (8191 + 24 * 2 ^ 16 + 9 * 2 ^ 32 + 1 * 2 ^ 48)

theorem test_CaravanTimetable_load :
    ready (fun e => .caravanLoad e buf buf 1 1 0 [20] [[disconnectWord]]) mail 1
      (inMode .transport) (fun _ s =>
        s.tableFits 0 [20] [[disconnectWord]] && s.bufRead buf 16 && s.bufRead buf buf.len && !s.maintained && !s.commitPending &&
        decide (s.dev.role ≠ .follower) && !s.paired) = true := by decide +kernel

theorem test_CaravanTimetable_paired :
    ready (fun e => .caravanLoad e buf buf 1 1 0 [20] [[disconnectWord]]) mail 1
      { demo with
        dev := { demo.dev with mode := .transport, role := .holder }
        pair := { linkUp := true, peerJoined := true } } (fun _ s =>
        s.tableFits 0 [20] [[disconnectWord]] && s.bufRead buf 16 && s.bufRead buf buf.len && !s.maintained && !s.commitPending &&
        decide (s.dev.role ≠ .follower) && s.paired && s.pair.linkUp) = true := by decide +kernel

theorem test_EyeScansAndFrames_done :
    let c : CmdRef := ⟨16, 0, 9, 3, 7, 0x0301⟩
    let s := withLane 3 { test := { scan := some (buf, 1, 16, 1, 0, c) } }
    (s.lane 3).test.scan = some (buf, 1, 16, 1, 0, c) ∧ (s.lane 3).test.scanWait = false ∧ (s.lane 3).test.scanEnd = false ∧
      (List.replicate (eyePoints 1) 0).length = eyePoints 1 ∧ s.host.linkUp = true ∧
      s.bufWrite buf (4 * eyePoints 1) = true ∧ 16 ≤ c.ring :=
  ⟨by decide, by decide, by decide, List.length_replicate, by decide, by decide, by decide⟩

theorem test_LeaseAndLink_own :
    ∃ f : LeaseFrame, demo.pow.removed = false ∧ f.serial = Config.serial.setWidth 32 ∧ f.plane = demo.dev.planeB :=
  ⟨⟨3, true, false, 0, 0, false, 31, 0, false, false, 0, Config.serial.setWidth 32⟩, by decide, rfl, by decide⟩

theorem test_LeaseAndLink_other :
    ∃ f : LeaseFrame, follower.pow.removed = false ∧ ¬(f.serial = Config.serial.setWidth 32 ∧ f.plane = follower.dev.planeB) ∧
      follower.dev.role = .follower ∧ f.state = 2 :=
  ⟨⟨2, true, true, 0, 0, false, 31, 0, false, false, 0, 0⟩, by decide, fun h => absurd h.2 (by decide), by decide, by decide⟩

theorem test_AfterPowerOn : ∃ t, t = State.reset ∨ ∃ x s, exec (.powerOn x) s = .next t := ⟨_, .inl rfl⟩

theorem test_KeptByEveryStep : Memory.wf demo.host.mem ∧ Memory.wf demo.jcc.sram ∧ ∃ t, step { demo with pending := [.heartbeat] } = .next t :=
  ⟨by decide, by decide, _, rfl⟩

theorem test_SessionOpens :
    (ready (fun e => .sessionHello e 3 0 0 [] 0x2000) mail 0 demo (fun e s => decide (1 ≤ 3 ∧ 3 ≤ 4 ∧ (0x2000 = 0 ∨ s.bufWrite
      ⟨0x2000, 44, 0⟩ 44 = true) ∧ s.helloBarred (pathOf e.ring) = false ∧ (3 = 4 → s.dev.serviceEn = true) ∧ (s.roleKey
      3).isSome = true ∧ s.freeSlot = some 0)) = true) ∧
    (ready (fun e => .sessionHello e 3 1 11 [] 0) mail 0 demo (fun e s => decide (1 ≤ 3 ∧ 3 ≤ 4 ∧ (0 = 0 ∨ s.bufWrite
      ⟨0, 44, 0⟩ 44 = true) ∧ s.helloBarred (pathOf e.ring) = false ∧ (3 = 4 → s.dev.serviceEn = true) ∧ (s.roleKey 3).isSome =
      true ∧ s.resumable 11 3 = true)) = true) :=
  ⟨by decide +kernel, by decide +kernel⟩

theorem test_SessionClosesAndLists :
    (ready (fun e => .sessionClose e 10) mail 0 demo (fun e s => decide (2 = 2 ∧ 10 = (if 10 = 0 then e.session else 10) ∧
      (s.findSession 10).isSome = true ∧ (10 = e.session ∨ 3 ≤ ((s.findSession e.session).map (·.role)).getD 0))) = true) ∧
    (ready (fun e => .sessionList e buf) mail 0 demo (fun _ s => decide (256 ≤ buf.len ∧ s.bufWrite buf 256 = true)) = true) :=
  ⟨by decide +kernel, by decide +kernel⟩

theorem test_RingPairsMadeAndDeleted :
    (ready (fun e => .sessionRingCreate e 15 4 16 31 0 0x2000) mail 1 demo (fun _ s => decide (15 ≤ 15 ∧ 4 ≤ 4 ∧ 4 ≤ 16 ∧ 4 ≤
      16 ∧ 16 ≤ 16 ∧ 31 ≤ 31 ∧ 0 % 4096 = 0 ∧ 0x2000 % 4096 = 0 ∧ s.readOk 0 (64 * 2 ^ 4) = true ∧ s.writeOk 0x2000 (16 * 2 ^
      16) = true ∧ (s.ringPair 15).on = false)) = true) ∧
    (ready (fun e => .sessionRingDelete e 0) mail 1
      { demo with host := { demo.host with turn := 0, pairs := [(0, { on := true, owner := 9, sqLog := 4, cqLog := 4, sqTail := 1 })] } }
      (fun e s => decide (0 ≤ 15 ∧ 0 ≠ e.ring ∧ (s.ringPair 0).on = true ∧ (s.ringPair 0).owner = e.session)) = true) ∧
    (ready (fun e => .sessionRingDelete e e.ring) ring0 1
      { demo with host := { demo.host with pairs := [(0, { on := true, owner := 9, sqLog := 4, cqLog := 4, sqTail := 1 })] } }
      (fun e s => decide (e.ring ≤ 15 ∧ (s.ringPair e.ring).owner = e.session)) = true) :=
  ⟨by decide +kernel, by decide +kernel, by decide +kernel⟩

theorem test_ParametersRead :
    (ready (fun e => .paramGet e buf [PId.known .laneTheta 511, .known .laneMode 0].length
      [PId.known .laneTheta 511, .known .laneMode 0]) mail 0 demo (fun _ s => decide
      ([PId.known .laneTheta 511, .known .laneMode 0] ≠ [] ∧ 72 * [PId.known .laneTheta 511, .known .laneMode 0].length ≤
      buf.len ∧ s.bufRead buf (72 * [PId.known .laneTheta 511, .known .laneMode 0].length) = true ∧ s.bufWrite buf (72 *
      [PId.known .laneTheta 511, .known .laneMode 0].length) = true ∧ s.flt.parityNew = [])) = true) ∧
    (ready (fun e => .paramDescribe e buf [PId.known .laneTheta 511, .known .laneMode 0].length
      [PId.known .laneTheta 511, .known .laneMode 0]) mail 0 demo (fun _ s => decide
      ([PId.known .laneTheta 511, .known .laneMode 0] ≠ [] ∧ 96 * [PId.known .laneTheta 511, .known .laneMode 0].length ≤
      buf.len ∧ s.bufRead buf (96 * [PId.known .laneTheta 511, .known .laneMode 0].length) = true ∧ s.bufWrite buf (96 *
      [PId.known .laneTheta 511, .known .laneMode 0].length) = true ∧ ∀ p ∈ [PId.known .laneTheta 511, .known .laneMode 0],
      (resolveId p).param.isSome = true)) = true) ∧
    (ready (fun e => .paramSave e) mail 1 demo (fun _ _ => true) = true) :=
  ⟨by decide +kernel, by decide +kernel, by decide +kernel⟩

theorem test_ParameterWritten :
    (ready (fun e => .paramSet e buf 1 [⟨.known Pn.hostIrqHoldoff 0, 2, true, ([0xE8, 3] : List Byte)⟩]) mail 1 demo (fun e s
      => decide (Pn.hostIrqHoldoff.desc.acc = .rw ∧ Pn.hostIrqHoldoff.desc.effect = .atOnce ∧ Pn.hostIrqHoldoff ∉
      [.laneTraceCheck, .laneTraceExpected, .tribTraceCheck, .tribTraceExpected, .laneRxAdapt] ∧ 72 ≤ buf.len ∧ s.bufRead buf
      72 = true ∧ Pn.hostIrqHoldoff.instOk 0 = true ∧ Pn.hostIrqHoldoff.desc.role ≤ s.callerRole e ∧ 2 ≤ 64 ∧
      Pn.hostIrqHoldoff.checkValue 0 2 (leNat (([0xE8, 3] : List Byte).take 2)) = none)) = true) ∧
    (ready (fun e => .paramSet e buf 1 [⟨.known Pn.protHoldoff 65535, 2, true, ([0, 0] : List Byte)⟩]) mail 1 demo (fun e s =>
      decide (Pn.protHoldoff.desc.acc = .rw ∧ Pn.protHoldoff.desc.effect = .nextRow ∧ Pn.protHoldoff ∉
      [.lanePrbsTx, .lanePrbsRx, .lanePrbsPattern, .protDirection, .protApsLane, .protApsRemoteGroup] ∧ 72 ≤ buf.len ∧
      s.bufRead buf 72 = true ∧ Pn.protHoldoff.instOk 65535 = true ∧ Pn.protHoldoff.desc.role ≤ s.callerRole e ∧ 2 ≤ 64 ∧
      Pn.protHoldoff.checkValue 65535 2 (leNat (([0, 0] : List Byte).take 2)) = none ∧ (Pn.protHoldoff = .timingRefEnable → ∀ x
      ∈ s.par.buffered, x.n.desc.block ≠ .refIn))) = true) ∧
    (ready (fun e => .paramSet e buf 1 [⟨.known Pn.laneAnchor 0, 1, true, ([2] : List Byte)⟩]) mail 1 demo (fun e s => decide
      (Pn.laneAnchor.desc.acc = .rwd ∧ Pn.laneAnchor ≠ .laneMode ∧ Pn.laneAnchor ≠ .laneClocking ∧ Pn.laneAnchor ≠
      .laneRxCoupling ∧ 72 ≤ buf.len ∧ s.bufRead buf 72 = true ∧ Pn.laneAnchor.instOk 0 = true ∧ Pn.laneAnchor.desc.role ≤
      s.callerRole e ∧ 1 ≤ 64 ∧ Pn.laneAnchor.checkValue 0 1 (leNat (([2] : List Byte).take 1)) = none ∧ s.blockOn
      Pn.laneAnchor.desc.block 0 = false)) = true) ∧
    (ready (fun e => .paramSet e buf 1 [⟨.known .laneRxCoupling (511 : Fin 512), 1, true, leBytes 1 (1 : Fin 2).val⟩]) mail 1
      demo (fun e s => decide (72 ≤ buf.len ∧ s.bufRead buf 72 = true ∧ 2 ≤ s.callerRole e ∧ s.blockOn .laneRx (511 : Fin 512)
      = false)) = true) ∧
    (ready (fun e => .paramSet e buf 1 [⟨.known .cfgProtection 0, 1, true, leBytes 1 (2 : Fin 3).val⟩]) mail 1
      { demo with host := { demo.host with unlocked := true } } (fun e s => decide (72 ≤ buf.len ∧ s.bufRead buf 72 = true ∧ 3
      ≤ s.callerRole e ∧ s.host.unlocked = true)) = true) :=
  ⟨by decide +kernel, by decide +kernel, by decide +kernel, by decide +kernel, by decide +kernel⟩

theorem test_WritesToEnabledBlocks :
    ((fun s : State => decide (s.par.buffered.find? (fun x => x.n == Pn.laneAnchor && x.obj == 3) = some
      (⟨.laneAnchor, 3, 2, [], 0⟩ : Buffered) ∧ (rsnLe (⟨.laneAnchor, 3, 2, [], 0⟩ : Buffered).due s.clk.rsn = true ∨ s.blockOn
      Pn.laneAnchor.desc.block 3 = false))) ({ demo with par := { buffered := [⟨.laneAnchor, 3, 2, [], 0⟩] } }) = true) ∧
    (ready (fun e => .paramSet e buf 1 [⟨.known Pn.laneAnchor 3, 1, true, ([2] : List Byte)⟩]) mail 1
      { demo with par := { vals := [(Pn.key .laneTxEnable 3, 1), (Pn.key .laneRxEnable 3, 1), (Pn.key .cfgApplyMode 0, 1)] } }
      (fun e s => decide (Pn.laneAnchor.desc.acc = .rwd ∧ 72 ≤ buf.len ∧ s.bufRead buf 72 = true ∧ Pn.laneAnchor.instOk 3 =
      true ∧ Pn.laneAnchor.desc.role ≤ s.callerRole e ∧ 1 ≤ 64 ∧ Pn.laneAnchor.checkValue 3 1 (leNat (([2] : List Byte).take
      1)) = none ∧ s.blockOn Pn.laneAnchor.desc.block 3 = true ∧ s.cur .cfgApplyMode 0 = 1 ∧ s.bufferFull Pn.laneAnchor 3 =
      false ∧ s.ownRefusal Pn.laneAnchor 3 (leNat (([2] : List Byte).take 1)) = none ∧ s.par.buffered.find? (fun x => x.n ==
      Pn.laneAnchor && x.obj == 3) = none)) = true) ∧
    (ready (fun e => .paramSet e buf 1 [⟨.known .laneAnchor 3, 1, true, [2]⟩]) mail 1
      { demo with par := { vals := [(Pn.key .laneTxEnable 3, 1), (Pn.key .laneRxEnable 3, 1)] } } (fun e s => decide (72 ≤
      buf.len ∧ s.bufRead buf 72 = true ∧ Pn.instOk .laneAnchor 3 = true ∧ (Pn.desc .laneAnchor).acc = .rwd ∧ (Pn.desc
      .laneAnchor).role ≤ s.callerRole e ∧ Pn.checkValue .laneAnchor 3 1 2 = none ∧ s.blockOn (Pn.desc .laneAnchor).block 3 =
      true ∧ s.cur .cfgApplyMode 0 = 0)) = true) ∧
    ((fun _ : State => decide ((⟨.unknown 1, 1, true, [0]⟩ : ParamEntry).id.param = none ∧ ([] : List ParamEntry).length < 1))
      demo = true) :=
  ⟨by decide, by decide +kernel, by decide +kernel, by decide⟩

theorem test_LaneDirections :
    (ready (fun e => .laneTxEnable e 511 1) mail 1 demo (fun e s => decide (511 ≤ 511 ∧ 2 ≤ s.callerRole e ∧ s.cur
      .laneTxEnable 511 = 0 ∧ s.domain (ltOf 511) = 0 ∧ s.stripeDown 511 = false)) = true) ∧
    (ready (fun e => .laneTxEnable e 3 0) mail 1 (having .laneTxEnable 3 1) (fun e s => decide (3 ≤ 511 ∧ 2 ≤ s.callerRole e ∧
      s.cur .laneTxEnable 3 = 1 ∧ s.par.buffered = [] ∧ (s.lane 3).test.loopNext = none)) = true) ∧
    (ready (fun e => .laneRxEnable e 0 1) mail 1 demo (fun e s => decide (0 ≤ 511 ∧ 2 ≤ s.callerRole e ∧ s.cur .laneRxEnable 0
      = 0 ∧ s.domain (lrOf 0) = 0 ∧ s.stripeDown 0 = false)) = true) ∧
    (ready (fun e => .laneRxEnable e 3 0) mail 1 (having .laneRxEnable 3 1) (fun e s => decide (3 ≤ 511 ∧ 2 ≤ s.callerRole e ∧
      s.cur .laneRxEnable 3 = 1 ∧ s.par.buffered = [] ∧ (s.lane 3).test.loopNext = none)) = true) ∧
    (ready (fun e => .rxAdaptRestart e 511) mail 1 demo (fun e s => decide (511 ≤ 511 ∧ 2 ≤ s.callerRole e)) = true) ∧
    ((fun s : State => decide ((s.lane (3 : Fin 512)).rxOn = true)) ((withLane 3 { rxOn := true })) = true) ∧
    ((fun s : State => decide ((s.lane (3 : Fin 512)).txOn = true ∧ (s.lane (3 : Fin 512)).txSending = false ∧ s.domain (ltOf
      (3 : Fin 512)) = 0)) ((withLane 3 { txOn := true })) = true) :=
  ⟨by decide +kernel, by decide +kernel, by decide +kernel, by decide +kernel, by decide +kernel, by decide, by decide⟩

theorem test_LaneReceivers :
    ((fun s : State => decide ((s.lane (3 : Fin 512)).rxOn = true ∧ s.domain (lrOf (3 : Fin 512)) = 0 ∧ s.lineChecker (3 : Fin
      512) = false)) ((withLane 3 { rxOn := true })) = true) ∧
    ((fun s : State => decide ((s.lane (3 : Fin 512)).rxOn = true ∧ (s.lane (3 : Fin 512)).los = false ∧ ((s.lane (3 : Fin
      512)).near = false ∨ (s.lane (3 : Fin 512)).tx.idle = true))) ((withLane 3 { rxOn := true })) = true) ∧
    ((fun s : State => decide ((s.lane (3 : Fin 512)).rxOn = true)) ((withLane 3 { rxOn := true })) = true) :=
  ⟨by decide, by decide, by decide⟩

theorem test_LaneHousekeeping :
    ((fun s : State => decide ((s.lane (3 : Fin 512)).anf = true ∧ 64 ≤ (s.lane (3 : Fin 512)).runs.anfSet ∧ s.cur .laneAnchor
      (s.anchorLane (3 : Fin 512)) = 255 ∧ s.cur .laneClocking (3 : Fin 512) = 0))
      ({ withLane 3 { anf := true, runs := { anfSet := 64 } } with par := { vals := [(Pn.key .laneAnchor 3, 255)] } }) = true) ∧
    ((fun s : State => decide ((17, 0) ∈ (s.lane (3 : Fin 512)).barred ∧ s.elapsed 0 4096 = true))
      ({ withLane 3 { barred := [(17, 0)] } with clk := { tick := 4096 } }) = true) ∧
    ((fun s : State => decide (s.domain (ltOf (3 : Fin 512)) = 0 ∧ s.domain (lrOf (3 : Fin 512)) = 0 ∧ s.cur .laneRxCoupling (3
      : Fin 512) = 1 ∧ s.cnt .laneWiringEvents (3 : Fin 512) < 2 ^ 48)) ((having .laneRxCoupling 3 1)) = true) :=
  ⟨by decide, by decide, by decide⟩

theorem test_LaneTests :
    (ready (fun e => .testLane e 511 1) mail 1 inTest (fun _ s => decide (511 ≤ 511 ∧ s.dev.mode = .test ∧ (s.eff .lanePrbsRx
      511 = 1 → (s.lane 511).rxOn = true → (s.lane 511).test.under = true))) = true) ∧
    (ready (fun e => .testLane e 3 1) mail 1
      { inMode .test with lanes := [(3, { rxOn := true })], par := { vals := [(Pn.key .lanePrbsRx 3, 1)] } } (fun _ s => decide
      (3 ≤ 511 ∧ s.dev.mode = .test ∧ s.eff .lanePrbsRx 3 = 1 ∧ s.eff .lanePrbsPattern 3 ≤ 1 ∧ (s.lane 3).rxOn = true ∧ (s.lane
      3).test.under = false)) = true) ∧
    (ready (fun e => .testLane e 3 0) mail 1 inTest (fun _ s => decide (3 ≤ 511 ∧ s.dev.mode = .test ∧ (s.lane 3).test.loopNext
      = none)) = true) ∧
    (ready (fun e => .testInject e 1 3 1 5) mail 1 inTest (fun _ s => decide (3 ≤ 511 ∧ 5 ≤ 5 ∧ s.dev.mode = .test ∧ (s.lane
      3).test.under = true ∧ (s.lane 3).txOn = true ∧ 1 ≤ 1 ∧ 1 ≤ injectMax 5 ∧ 1 ≠ 0)) = true) ∧
    (ready (fun e => .testLoop e 3 4) mail 1 inTest (fun _ s => decide (3 ≤ 511 ∧ 4 ≤ 4 ∧ (s.lane 3).rxOn = true ∧ (s.lane
      3).txOn = true ∧ s.dev.mode = .test ∧ (s.lane 3).test.under = true)) = true) ∧
    ((fun s : State => decide ((s.lane (3 : Fin 512)).test.loopNext = some (2, 8, ({} : CmdRef)))) ((withLane 3
      { test := { loopNext := some (2, 8, {}) } })) = true) ∧
    ((fun s : State => decide ((s.lane (3 : Fin 512)).test.injRows = 1)) ((withLane 3 { test := { injRows := 1 } })) = true) :=
  ⟨by decide +kernel, by decide +kernel, by decide +kernel, by decide +kernel, by decide +kernel, by decide, by decide⟩

theorem test_EyeScansAndFrames :
    (ready (fun e => .laneEyeScan e buf 3 2 16 1 1) mail 0 (withLane 3 { rxOn := true }) (fun _ s => decide (3 ≤ 511 ∧ 2 ≤ 3 ∧
      16 ≤ 16 ∧ 16 ≤ 32 ∧ 1 ≤ 1 ∧ 1 ≤ 4 ∧ 1 ≤ 1 ∧ 4 * eyePoints 2 ≤ buf.len ∧ s.bufWrite buf (4 * eyePoints 2) = true ∧ (s.lane
      3).rxOn = true ∧ (s.lane 3).test.scan = none ∧ s.scans < 64)) = true) ∧
    (ready (fun e => .laneMgmtSend e (⟨0x1000, 64, 0⟩ : Buf) 3 1 []) mail 1 demo (fun _ s => decide (1 ≤ (⟨0x1000, 64, 0⟩ :
      Buf).len ∧ (⟨0x1000, 64, 0⟩ : Buf).len ≤ 4096 ∧ 3 ≤ 511 ∧ 1 ≤ 1 ∧ (1 = 1 → s.cur .laneMode 3 = 0) ∧ s.bufRead
      (⟨0x1000, 64, 0⟩ : Buf) (⟨0x1000, 64, 0⟩ : Buf).len = true ∧ (if 1 = 0 then (s.lane 3).mgmtTx.1 else (s.lane
      3).mgmtTx.2).length < 16)) = true) ∧
    (ready (fun e => .laneMgmtRecv e buf 3 0) mail 0 (withLane 3 { mgmtRx := ([[1, 2, 3]], []) }) (fun _ s => decide (3 ≤ 511 ∧
      0 ≤ 1 ∧ (0 = 1 → s.cur .laneMode 3 = 0) ∧ 1 ≤ buf.len ∧ ([1, 2, 3] : List Byte).length ≤ buf.len ∧ (if 0 = 0 then (s.lane
      3).mgmtRx.1 else (s.lane 3).mgmtRx.2) = ([1, 2, 3] : List Byte) :: ([] : List (List Byte)) ∧ s.bufWrite buf ([1, 2, 3] :
      List Byte).length = true)) = true) ∧
    (ready (fun e => .laneMgmtRecv e buf 3 1) mail 0 demo (fun _ s => decide (3 ≤ 511 ∧ 1 ≤ 1 ∧ (1 = 1 → s.cur .laneMode 3 = 0)
      ∧ 1 ≤ buf.len ∧ (if 1 = 0 then (s.lane 3).mgmtRx.1 else (s.lane 3).mgmtRx.2) = [])) = true) :=
  ⟨by decide +kernel, by decide +kernel, by decide +kernel, by decide +kernel⟩

theorem test_TributaryCommands :
    (ready (fun e => .tribCreate e buf [4095, 0] 65535 511 [4095, 0].length 0) mail 1 demo (fun _ s => decide ([4095, 0] ≠ [] ∧
      [4095, 0].length ≤ 4096 ∧ 2 * [4095, 0].length ≤ buf.len ∧ 65535 ≤ 65535 ∧ 511 ≤ 511 ∧ 0 ≤ 1 ∧ (∀ g ∈ [4095, 0], g <
      s.grainsOf 511) ∧ (sortGrains [4095, 0]).length = [4095, 0].length ∧ s.bufRead buf (2 * [4095, 0].length) = true ∧ (∀ d ∈
      (if 0 = 0 then List.range 8 else [511 / 64]), s.domain (4 + d) = 0) ∧ (s.trib 65535).on = false ∧ (∀ g ∈ sortGrains
      [4095, 0], s.memberOf (511 * 4096 + g) = none) ∧ (∀ m ∈ s.prot.merges, m.high ≠ 511) ∧ (0 = 1 → s.cur .laneClocking 511 ≠
      1) ∧ (0 = 0 → s.poolUsed + [4095, 0].length ≤ 524288))) = true) ∧
    (ready (fun e => .tribDelete e 5) mail 1 (withTrib { on := true }) (fun _ s => decide (5 ≤ 65535 ∧ (s.trib 5).on = true ∧
      s.sw.bank0.namesTrib (s.trib 5) = false ∧ s.sw.bank1.namesTrib (s.trib 5) = false)) = true) ∧
    (ready (fun e => .tribRealign e 5) mail 1
      { withTrib { on := true, retimed := true, tdiv := true } with dev := { demo.dev with mode := .transport, role := .follower } }
      (fun _ s => decide (5 ≤ 65535 ∧ (s.trib 5).on = true ∧ (s.trib 5).retimed = true ∧ s.dev.role = .follower ∧ (s.trib
      5).tdiv = true)) = true) :=
  ⟨by decide +kernel, by decide +kernel, by decide +kernel⟩

theorem test_PointersAndLockstep :
    ((fun s : State => decide ((s.trib 5).on = true ∧ (s.trib 5).retimed = true ∧ s.clk.rsn.toNat % 32 = 16 ∧ s.disputed 5 =
      false ∧ (s.trib 5).ndf = false ∧ pmfFree (s.trib 5).txNext ((s.clk.rsn.toNat / 32 + 1) % 2 ^ 43) = true))
      ({ withTrib { on := true, retimed := true } with clk := { rsn := 16 } }) = true) ∧
    ((fun s : State => decide (s.dev.role = .follower ∧ s.pair.linkUp = true ∧ rsnLe s.clk.rsn (BitVec.ofNat 48 (32 * 1) - 4) =
      true ∧ (s.trib (⟨5, 0, 0⟩ : PtrDecision).trib).on = true ∧ (s.trib (⟨5, 0, 0⟩ : PtrDecision).trib).retimed = true))
      ({ follower with tribs := [(5, { on := true, retimed := true })] }) = true) ∧
    ((fun s : State => decide (s.dev.role = .follower ∧ s.pair.linkUp = true)) follower = true) ∧
    ((fun s : State => decide (s.dev.role = .follower ∧ s.pair.linkUp = true ∧ (s.trib 5).on = true ∧ (s.trib 5).retimed =
      true)) ({ follower with tribs := [(5, { on := true, retimed := true })] }) = true) :=
  ⟨by decide, by decide, by decide, by decide⟩

theorem test_TributaryDefects :
    (fun s : State => decide ((s.trib 5).on = true)) ({ withTrib { on := true, retimed := true } with clk := { rsn := 16 } }) =
      true := by decide

theorem test_FacetOutput :
    (ready (fun e => .facetConfig e 0x1000 8 31) mail 1 (having .facetScope 0 3) (fun _ s => decide (4 ≤ 8 ∧ 8 ≤ 16 ∧ 31 ≤ 31 ∧
      65 * s.scopeDunes.length + 1 ≤ 2 ^ 8 ∧ 0x1000 % 4096 = 0 ∧ s.writeOk 0x1000 (4096 * 2 ^ 8) = true ∧ s.cur .facetEnable 0
      ≠ 1)) = true) ∧
    (ready (fun e => .facetEnable e 1) mail 1 { having .facetScope 0 1 with pow := {} } (fun e s => decide (2 ≤ s.callerRole e
      ∧ s.cur .facetEnable 0 = 0 ∧ s.facetRefusal = none)) = true) ∧
    (ready (fun e => .facetEnable e 0) mail 1 (having .facetEnable 0 1) (fun e s => decide (2 ≤ s.callerRole e ∧ s.cur
      .facetEnable 0 = 1 ∧ s.par.buffered = [])) = true) ∧
    ((fun s : State => decide (s.clk.rsn.toNat % 625 = 8 ∧ s.obs.facet.first = some 0 ∧ (s.obs.facet.begun = true ∨ rsnLe
      (BitVec.ofNat 48 (625 * 0)) (BitVec.ofNat 48 (625 * sfOf (s.clk.rsn - 9))) = true) ∧ s.cur .facetEnable 0 = 1 ∧ s.cur
      .facetDest 0 = 0 ∧ s.obs.facet.out = none))
      ({ having .facetEnable 0 1 with clk := { rsn := 633 }, obs := { facet := { first := some 0, begun := true } } }) = true) ∧
    ((fun s : State => decide (s.obs.facet.out = some (⟨⟨0, [0], []⟩, none, 0⟩ : FacetOut) ∧ (⟨⟨0, [0], []⟩, none, 0⟩ :
      FacetOut).gap = none ∧ s.host.fac.on = true ∧ s.host.linkUp = true ∧ s.host.dmaOn = true ∧ 0 < s.host.fac.room ∧
      (⟨⟨0, [0], []⟩, none, 0⟩ : FacetOut).done + 1 < (⟨⟨0, [0], []⟩, none, 0⟩ : FacetOut).src.entries))
      ({ demo with obs := { facet := { out := some ⟨⟨0, [0], []⟩, none, 0⟩ } }, host := { demo.host with fac := { on := true, log2 := 8 } } })
      = true) :=
  ⟨by decide +kernel, by decide +kernel, by decide +kernel, by decide, by decide⟩

theorem test_CutStagesAndLists :
    (ready (fun e => .cutEnable e 63 1) mail 1 (having .cutInputs 63 1) (fun e s => decide (63 ≤ 63 ∧ 2 ≤ s.callerRole e ∧
      s.cur .cutEnable 63 = 0 ∧ s.cutRefusal 63 = none)) = true) ∧
    (ready (fun e => .cutEnable e 3 0) mail 1 (having .cutEnable 3 1) (fun e s => decide (3 ≤ 63 ∧ 2 ≤ s.callerRole e ∧ s.cur
      .cutEnable 3 = 1 ∧ s.par.buffered = [])) = true) ∧
    ((fun s : State => decide ((s.cut (3 : Fin 64)).pend = (0, true) :: [] ∧ rsnLe 0 s.clk.rsn = true))
      ({ demo with obs := { cuts := [(3, { pend := [(0, true)] })] } }) = true) ∧
    (ready (fun e => .cutReadSat e buf 8191 1 63) mail 0 demo (fun _ s => decide (1 ≤ 1 ∧ 63 ≤ 63 ∧ 8191 + 1 ≤ 8192 ∧ 2 * 1 ≤
      buf.len ∧ s.bufWrite buf (2 * 1) = true)) = true) ∧
    (ready (fun e => .loupeList e (⟨0x1000, 32, 0⟩ : Buf) 511) mail 0 demo (fun _ s => decide (1 ≤ (⟨0x1000, 32, 0⟩ : Buf).len
      ∧ (⟨0x1000, 32, 0⟩ : Buf).len % 16 = 0 ∧ 511 ≤ 511 ∧ s.bufWrite (⟨0x1000, 32, 0⟩ : Buf) (⟨0x1000, 32, 0⟩ : Buf).len =
      true)) = true) :=
  ⟨by decide +kernel, by decide +kernel, by decide, by decide +kernel, by decide +kernel⟩

theorem test_DeltaStaged :
    (ready (fun e => .mapStage e buf [connectWord].length [connectWord]) mail 1 demo (fun e s => decide (s.bufRead buf (16 * 1)
      = true ∧ (s.com.hasDelta = true → s.com.owner = 0 ∨ s.com.owner = e.session) ∧ passed (s.deltaChecks
      s.afterReplay.shadow.conns s.afterReplay.shadow.cuts ([connectWord].map DeltaEntry.ofWord) [] (.noop true)) = true ∧
      s.stagingOpen = true ∧ s.paired = false)) = true) ∧
    (ready (fun e => .mapStage e buf [connectWord].length [connectWord]) mail 1
      { demo with dev := { demo.dev with mode := .transport, role := .holder }, pair := { linkUp := true, peerJoined := true } }
      (fun e s => decide (s.bufRead buf (16 * 1) = true ∧ (s.com.hasDelta = true → s.com.owner = 0 ∨ s.com.owner = e.session) ∧
      passed (s.deltaChecks s.afterReplay.shadow.conns s.afterReplay.shadow.cuts ([connectWord].map DeltaEntry.ofWord) []
      (.noop true)) = true ∧ s.stagingOpen = true ∧ s.paired = true)) = true) ∧
    (ready (fun e => .cutStage e buf [cutEntryWord].length 3 [cutEntryWord]) mail 1 demo (fun e s => decide ([cutEntryWord] ≠
      [] ∧ [cutEntryWord].length ≤ 65536 ∧ 8 * [cutEntryWord].length ≤ buf.len ∧ s.bufRead buf (8 * [cutEntryWord].length) =
      true ∧ 3 ≤ 63 ∧ (∀ x ∈ [cutEntryWord].map CutDelta.ofWord, s.cutRange x = false ∧ CutDelta.fieldBad x = false ∧ s.domain
      (4 + 3 / 8) = 0 ∧ (x.op = 1 → s.sourceBad x.src = false ∧ s.stripeDown (x.src / 4096) = false)) ∧ ([cutEntryWord].map fun
      x => (CutDelta.ofWord x).input).Nodup ∧ routeFull (deliveries s.afterReplay.shadow.conns (([cutEntryWord].map fun x =>
      (3, CutDelta.ofWord x)).foldl applyCut s.afterReplay.shadow.cuts)) = false ∧ (s.com.hasDelta = true → s.com.owner = 0 ∨
      s.com.owner = e.session) ∧ s.stagingOpen = true ∧ s.paired = false)) = true) ∧
    (ready (fun e => .cutStage e buf [cutEntryWord].length 3 [cutEntryWord]) mail 1
      { demo with dev := { demo.dev with mode := .transport, role := .holder }, pair := { linkUp := true, peerJoined := true } }
      (fun e s => decide ([cutEntryWord] ≠ [] ∧ [cutEntryWord].length ≤ 65536 ∧ 8 * [cutEntryWord].length ≤ buf.len ∧ s.bufRead
      buf (8 * [cutEntryWord].length) = true ∧ 3 ≤ 63 ∧ (∀ x ∈ [cutEntryWord].map CutDelta.ofWord, s.cutRange x = false ∧
      CutDelta.fieldBad x = false ∧ s.domain (4 + 3 / 8) = 0 ∧ (x.op = 1 → s.sourceBad x.src = false ∧ s.stripeDown (x.src /
      4096) = false)) ∧ ([cutEntryWord].map fun x => (CutDelta.ofWord x).input).Nodup ∧ routeFull (deliveries
      s.afterReplay.shadow.conns (([cutEntryWord].map fun x => (3, CutDelta.ofWord x)).foldl applyCut
      s.afterReplay.shadow.cuts)) = false ∧ (s.com.hasDelta = true → s.com.owner = 0 ∨ s.com.owner = e.session) ∧ s.stagingOpen
      = true ∧ s.paired = true)) = true) ∧
    (ready (fun e => .loupeMirror e 5 7 8 0) mail 1
      { demo with sw := { bank0 := { ing := [(2, 0xB009)], mid := [(2, 64)], egr := [(20487, 0x1000000000000000002)] } }, par := { vals := [(Pn.key .laneLoupe 8, 1)] } }
      (fun e s => decide (5 ≤ 511 ∧ 8 ≤ 511 ∧ 7 < s.grainsOf 5 ∧ 0 < s.grainsOf 8 ∧ s.cur .laneLoupe 8 ≠ 0 ∧ s.observedConn (5
      * 4096 + 7) = some (⟨3 * 4096 + 9, none⟩ : Conn) ∧ (s.com.hasDelta = true → s.com.owner = 0 ∨ s.com.owner = e.session) ∧
      passed (s.deltaChecks s.afterReplay.shadow.conns s.afterReplay.shadow.cuts
      [connectOf (8 * 4096 + 0) ⟨3 * 4096 + 9, none⟩] [] (.noop true)) = true ∧ s.stagingOpen = true ∧ s.paired = false)) =
      true) ∧
    (ready (fun e => .loupeMirror e 5 7 8 0) mail 1
      { demo with dev := { demo.dev with mode := .transport, role := .holder }, pair := { linkUp := true, peerJoined := true }, sw := { bank0 := { ing := [(2, 0xB009)], mid := [(2, 64)], egr := [(20487, 0x1000000000000000002)] } }, par := { vals := [(Pn.key .laneLoupe 8, 1)] } }
      (fun e s => decide (5 ≤ 511 ∧ 8 ≤ 511 ∧ 7 < s.grainsOf 5 ∧ 0 < s.grainsOf 8 ∧ s.cur .laneLoupe 8 ≠ 0 ∧ s.observedConn (5
      * 4096 + 7) = some (⟨3 * 4096 + 9, none⟩ : Conn) ∧ (s.com.hasDelta = true → s.com.owner = 0 ∨ s.com.owner = e.session) ∧
      passed (s.deltaChecks s.afterReplay.shadow.conns s.afterReplay.shadow.cuts
      [connectOf (8 * 4096 + 0) ⟨3 * 4096 + 9, none⟩] [] (.noop true)) = true ∧ s.stagingOpen = true ∧ s.paired = true)) =
      true) :=
  ⟨by decide +kernel, by decide +kernel, by decide +kernel, by decide +kernel, by decide +kernel, by decide +kernel⟩

theorem test_MapProbedReadDiscarded :
    (ready (fun e => .mapProbe e buf [connectWord].length [connectWord] (⟨0x20000, 512, 0⟩ : Buf)) mail 0 demo (fun e s =>
      decide (512 ≤ (⟨0x20000, 512, 0⟩ : Buf).len ∧ s.bufWrite ⟨0x20000, 512, 0⟩ 512 = true ∧ s.journalRoom 1 = true ∧
      s.bufRead buf (16 * 1) = true ∧ (s.com.hasDelta = true → s.com.owner = 0 ∨ s.com.owner = e.session) ∧ passed
      (s.deltaChecks s.afterReplay.shadow.conns s.afterReplay.shadow.cuts ([connectWord].map DeltaEntry.ofWord) [] (.noop
      true)) = true ∧ s.stagingOpen = true)) = true) ∧
    (ready (fun e => .mapRead e buf 0 1 1 0 63) mail 0 demo (fun _ s => decide (1 ≠ 0 ∧ 1 ≤ 1 ∧ 0 ≤ 3 ∧ 63 ≤ 63 ∧ 0 + 1 ≤
      mapEntries 0 ∧ mapEntryBytes 0 * 1 ≤ buf.len ∧ s.bufWrite buf (mapEntryBytes 0 * 1) = true)) = true) ∧
    (ready (fun e => .mapDiscard e) mail 1 { demo with com := { hasDelta := true, owner := 9 } } (fun e s => decide
      (s.com.hasDelta = true ∧ (s.com.owner = 0 ∨ s.com.owner = e.session) ∧ s.dev.role ≠ .follower ∧ s.commitPending = false))
      = true) :=
  ⟨by decide +kernel, by decide +kernel, by decide +kernel⟩

theorem test_MapEntriesRepaired :
    ((fun s : State => decide (s.dev.role = .follower ∧ s.pair.linkUp = true)) follower = true) ∧
    ((fun s : State => decide (s.dev.role = .follower ∧ s.pair.linkUp = true)) follower = true) ∧
    ((fun s : State => decide (s.elapsed s.com.scrubTick (64 * 64) = true ∧ [(0, 3, 5)] = s.com.shadowBad.filter (fun x =>
      !s.com.shadowFound.contains x))) ({ demo with clk := { tick := 4096 }, com := { shadowBad := [(0, 3, 5)] } }) = true) ∧
    ((fun s : State => decide (s.com.shadowEcc = true ∧ s.dev.jcc = .running)) ({ demo with com := { shadowEcc := true } }) =
      true) ∧
    ((fun s : State => decide (s.shadowClean (2 : Fin 4).val (63 : Fin 64).val 5 = true)) demo = true) ∧
    ((fun s : State => decide (s.dev.jcc = .running)) demo = true) :=
  ⟨by decide, by decide, by decide, by decide, by decide, by decide⟩

theorem test_CommitsAccepted :
    (ready (fun e => .commitNow e) mail 1 (inMode .transport) (fun e s => decide ((s.com.hasDelta = true → s.com.owner = 0 ∨
      s.com.owner = e.session) ∧ s.instBroken s.afterReplay.shadow.conns = false ∧ s.instIncomplete s.afterReplay.shadow.conns
      = false ∧ s.commitModeBad = false ∧ s.commitPending = false ∧ s.dev.role ≠ .follower ∧ (s.paired = true → s.pair.linkUp =
      true))) = true) ∧
    (ready (fun e => .commitAt e (3 : Rsn).toNat) mail 1 (inMode .transport) (fun e s => decide ((((3 : Rsn) - s.clk.rsn).toNat
      < 2 ^ 31 ∨ 2 ^ 47 ≤ ((3 : Rsn) - s.clk.rsn).toNat) ∧ rsnLe s.earliestCommit (3 : Rsn) = true ∧ (s.com.hasDelta = true →
      s.com.owner = 0 ∨ s.com.owner = e.session) ∧ s.instBroken s.afterReplay.shadow.conns = false ∧ s.instIncomplete
      s.afterReplay.shadow.conns = false ∧ s.commitModeBad = false ∧ s.commitPending = false ∧ s.dev.role ≠ .follower ∧
      (s.paired = true → s.pair.linkUp = true))) = true) ∧
    (ready (fun e => .commitCancel e) mail 1 (committing pending) (fun e s => decide (s.com.pend = some pending ∧ pending.armed
      = false ∧ s.dev.role ≠ .follower ∧ (s.com.hasDelta = true → s.com.owner = 0 ∨ s.com.owner = e.session))) = true) :=
  ⟨by decide +kernel, by decide +kernel, by decide +kernel⟩

theorem test_CommitSwitchesBanks :
    ((fun s : State => decide (s.com.pend = some pending ∧ pending.armed = false ∧ pending.c = s.clk.rsn + 2 ∧
      pending.handshake = false ∧ pending.catchUp = false ∧ pending.copyGen = none ∧ pending.caravan = false)) ((committing
      pending)) = true) ∧
    ((fun s : State => decide (s.com.pend = some ({ pending with armed := true, c := 101 } : PendCommit) ∧
      ({ pending with armed := true, c := 101 } : PendCommit).armed = true ∧ ({ pending with armed := true, c := 101 } :
      PendCommit).switched = false ∧ ({ pending with armed := true, c := 101 } : PendCommit).c = s.clk.rsn + 1)) ((committing
      { pending with armed := true, c := 101 })) = true) ∧
    ((fun s : State => decide (s.com.pend = some ({ pending with armed := true, switched := true, c := 100 } : PendCommit) ∧
      ({ pending with armed := true, switched := true, c := 100 } : PendCommit).armed = true ∧
      ({ pending with armed := true, switched := true, c := 100 } : PendCommit).switched = true ∧
      ({ pending with armed := true, switched := true, c := 100 } : PendCommit).c = s.clk.rsn ∧
      ({ pending with armed := true, switched := true, c := 100 } : PendCommit).caravan = false ∧
      ({ pending with armed := true, switched := true, c := 100 } : PendCommit).catchUp = false ∧
      ({ pending with armed := true, switched := true, c := 100 } : PendCommit).copyGen = none)) ((committing
      { pending with armed := true, switched := true, c := 100 })) = true) ∧
    ((fun s : State => decide (s.com.replaying = true)) ({ demo with com := { replaying := true } }) = true) ∧
    ((fun s : State => decide (s.com.pend = some ({ pending with armed := true, switched := true, c := 100, catchUp := true } :
      PendCommit) ∧ ({ pending with armed := true, switched := true, c := 100, catchUp := true } : PendCommit).armed = true ∧
      ({ pending with armed := true, switched := true, c := 100, catchUp := true } : PendCommit).switched = true ∧
      ({ pending with armed := true, switched := true, c := 100, catchUp := true } : PendCommit).c = s.clk.rsn ∧
      ({ pending with armed := true, switched := true, c := 100, catchUp := true } : PendCommit).catchUp = true)) ((committing
      { pending with armed := true, switched := true, c := 100, catchUp := true })) = true) :=
  ⟨by decide, by decide, by decide, by decide, by decide⟩

theorem test_CommitHandshake :
    ((fun s : State => decide (s.dev.role = .follower ∧ s.pair.linkUp = true)) follower = true) ∧
    ((fun s : State => decide (s.com.pend = some ({ pending with handshake := true, proposed := true } : PendCommit) ∧
      ({ pending with handshake := true, proposed := true } : PendCommit).handshake = true ∧
      ({ pending with handshake := true, proposed := true } : PendCommit).proposed = true ∧
      ({ pending with handshake := true, proposed := true } : PendCommit).armed = false)) ((committing
      { pending with handshake := true, proposed := true })) = true) ∧
    ((fun s : State => decide (s.com.pend = some ({ pending with handshake := true, proposed := true } : PendCommit) ∧
      ({ pending with handshake := true, proposed := true } : PendCommit).handshake = true ∧
      ({ pending with handshake := true, proposed := true } : PendCommit).proposed = true ∧
      ({ pending with handshake := true, proposed := true } : PendCommit).armed = false)) ((committing
      { pending with handshake := true, proposed := true })) = true) ∧
    ((fun s : State => decide (s.com.readySent = some (6 : Rsn) ∧ s.dev.role = .follower ∧ rsnLe s.clk.rsn ((6 : Rsn) - 2) =
      true ∧ s.com.pend = none)) ({ follower with com := { readySent := some 6 } }) = true) :=
  ⟨by decide, by decide, by decide, by decide⟩

theorem test_CaravanTimetable :
    ((fun s : State => decide (s.dev.role = .follower ∧ s.pair.linkUp = true)) follower = true) ∧
    (ready (fun e => .caravanStart e (10 : Rsn).toNat) mail 1
      { inMode .transport with com := { car := { entries := [⟨20, 0, [], []⟩] } } } (fun _ s => decide (s.dev.role ≠ .follower
      ∧ s.modePending = false ∧ s.powerBusy = false ∧ s.dev.mode = .transport ∧ s.startBad (10 : Rsn) = false)) = true) ∧
    (ready (fun e => .caravanStop e) mail 1 (inMode .caravan) (fun _ s => decide (s.dev.role ≠ .follower ∧ s.modePending =
      false ∧ s.powerBusy = false ∧ s.dev.mode = .caravan)) = true) ∧
    ((fun s : State => decide (s.com.pend = some ({ pending with armed := true, switched := true, c := 100, caravan := true } :
      PendCommit) ∧ ({ pending with armed := true, switched := true, c := 100, caravan := true } : PendCommit).armed = true ∧
      ({ pending with armed := true, switched := true, c := 100, caravan := true } : PendCommit).switched = true ∧
      ({ pending with armed := true, switched := true, c := 100, caravan := true } : PendCommit).c = s.clk.rsn ∧
      ({ pending with armed := true, switched := true, c := 100, caravan := true } : PendCommit).caravan = true)) ((committing
      { pending with armed := true, switched := true, c := 100, caravan := true })) = true) ∧
    ((fun s : State => decide (s.dev.mode = .caravan ∧ s.com.car.start = some (10 : Rsn)))
      ({ inMode .caravan with com := { car := { start := some 10 } } }) = true) :=
  ⟨by decide, by decide +kernel, by decide +kernel, by decide, by decide⟩

theorem test_ProtectionCommands :
    (ready (fun e => .protLockout e buf [65535, 0].length [65535, 0]) mail 1 demo (fun _ s => decide (([65535, 0] ≠ [] ∧
      [65535, 0].length ≤ 1024 ∧ 2 * [65535, 0].length ≤ buf.len ∧ s.bufRead buf (2 * [65535, 0].length) = true ∧ (∀ k ∈
      [65535, 0], k ≤ 65535) ∧ s.dev.role ≠ .follower))) = true) ∧
    (ready (fun e => .protForce e buf [65535, 0].length [65535, 0]) mail 1 demo (fun _ s => decide (([65535, 0] ≠ [] ∧
      [65535, 0].length ≤ 1024 ∧ 2 * [65535, 0].length ≤ buf.len ∧ s.bufRead buf (2 * [65535, 0].length) = true ∧ (∀ k ∈
      [65535, 0], k ≤ 65535) ∧ s.dev.role ≠ .follower) ∧ ∀ k ∈ [65535, 0], (s.group k).cmd ≠ 1)) = true) ∧
    (ready (fun e => .protManual e buf [65535, 0].length (1 : Fin 2).val [65535, 0]) mail 1 demo (fun _ s => decide
      (([65535, 0] ≠ [] ∧ [65535, 0].length ≤ 1024 ∧ 2 * [65535, 0].length ≤ buf.len ∧ s.bufRead buf (2 * [65535, 0].length) =
      true ∧ (∀ k ∈ [65535, 0], k ≤ 65535) ∧ s.dev.role ≠ .follower) ∧ ∀ k ∈ [65535, 0], (s.group k).req ≤ 7)) = true) ∧
    (ready (fun e => .protClear e buf [65535, 0].length [65535, 0]) mail 1 demo (fun _ s => decide (([65535, 0] ≠ [] ∧
      [65535, 0].length ≤ 1024 ∧ 2 * [65535, 0].length ≤ buf.len ∧ s.bufRead buf (2 * [65535, 0].length) = true ∧ (∀ k ∈
      [65535, 0], k ≤ 65535) ∧ s.dev.role ≠ .follower))) = true) :=
  ⟨by decide +kernel, by decide +kernel, by decide +kernel, by decide +kernel⟩

theorem test_ProtectionTimers :
    ((fun s : State => decide ((s.group 7).hold.find? (fun x => x.1 == (1 : Fin 4).val) = some ((1 : Fin 4).val, (0 : Rsn)) ∧
      condAt (s.group 7).cond (1 : Fin 4) = true ∧ rsnLe ((0 : Rsn) + BitVec.ofNat 48 (s.eff .protHoldoff 7)) s.clk.rsn =
      true))
      ({ demo with prot := { groups := [(7, { cond := (true, true, true, true), hold := [(1, 0)] })] }, clk := { tick := 10000000000, rsn := 500 } })
      = true) ∧
    ((fun s : State => decide ((s.group 7).wtr = some 0 ∧ s.elapsed 0 (s.eff .protWtr 7 * secTicks) = true ∧ s.groupConns 7 ≠
      []))
      ({ demo with prot := { groups := [(7, { wtr := some 0 })] }, clk := { tick := 10000000000, rsn := 500 }, sw := { bank0 := { egr := [(20487, egrWord 2 12297 (some (2, 12297, 7)) false)] } } })
      = true) ∧
    ((fun s : State => decide (s.groupConns 65535 = [])) demo = true) ∧
    ((fun s : State => decide (s.dev.role = .follower ∧ rsnLe (s.clk.rsn + 2) (2 : Rsn) = true)) follower = true) :=
  ⟨by decide, by decide, by decide, by decide⟩

theorem test_MergePairs :
    (ready (fun e => .mergeCreate e 0 7) mail 1 demo (fun _ s => decide (0 ≤ 511 ∧ 7 ≤ 511 ∧ 0 ≠ 7 ∧ 0 / 8 = 7 / 8 ∧
      (s.prot.merges.filter fun m => m.low / 8 == 0 / 8).length < 4 ∧ s.prot.merges.length < 256 ∧ s.pairOf 0 = none ∧ s.pairOf
      7 = none ∧ s.cur .laneMode 0 = s.cur .laneMode 7 ∧ s.cur .laneClocking 0 = s.cur .laneClocking 7 ∧ s.egrB.sourceLane (max
      0 7) = false ∧ s.shadow.sourceLane (max 0 7) = false ∧ (∀ x ∈ s.tribs, x.2.on = true → x.2.lane ≠ max 0 7) ∧ s.dev.role ≠
      .follower ∧ (s.paired = true → s.pair.linkUp = true))) = true) ∧
    (ready (fun e => .mergeDelete e 3) mail 1 { demo with prot := { merges := [{ laneA := 3, laneB := 4, entry := 0 }] } } (fun
      _ s => decide (3 ≤ 511 ∧ s.pairOf 3 = some ({ laneA := 3, laneB := 4, entry := 0 } : Merge) ∧
      ({ laneA := 3, laneB := 4, entry := 0 } : Merge).ending = none ∧ s.dev.role ≠ .follower ∧ (s.paired = true →
      s.pair.linkUp = true))) = true) ∧
    ((fun s : State => decide (s.pairOf (3 : Fin 512) = some ({ laneA := 3, laneB := 4, entry := 0 } : Merge)))
      ({ demo with prot := { merges := [{ laneA := 3, laneB := 4, entry := 0 }] } }) = true) ∧
    ((fun s : State => decide (s.pairOf (3 : Fin 512) = some ({ laneA := 3, laneB := 4, entry := 0 } : Merge)))
      ({ demo with prot := { merges := [{ laneA := 3, laneB := 4, entry := 0 }] } }) = true) :=
  ⟨by decide +kernel, by decide +kernel, by decide, by decide⟩

theorem test_TimingCommands :
    (ready (fun e => .timingForce e 23) mail 1 demo (fun _ s => decide (23 ≤ 23 ∧ s.dev.role ≠ .follower)) = true) ∧
    (ready (fun e => .timingManual e 0) mail 1
      { demo with tim := { inputs := [(0, { qual := .qualified, rank := 1 })] }, par := { vals := [(Pn.key .timingRefEnable 0, 1)] } }
      (fun _ s => decide (0 ≤ 23 ∧ s.dev.role ≠ .follower ∧ s.eligible 0 = true)) = true) ∧
    (ready (fun e => .timingHoldover e) mail 1 { demo with tim := { histValid := true } } (fun _ s => decide (s.dev.role ≠
      .follower ∧ s.tim.histValid = true)) = true) ∧
    (ready (fun e => .timingClear e) mail 1 demo (fun _ s => decide (s.dev.role ≠ .follower)) = true) ∧
    (ready (fun e => .timingSetQl e 7 15) mail 1 demo (fun _ s => decide (7 ≤ 7 ∧ 15 ≤ 15 ∧ s.dev.role ≠ .follower)) = true) ∧
    (ready (fun e => .timingStep e) mail 1 demo (fun _ s => decide (s.commitPending = false ∧ s.dev.role ≠ .follower ∧
      (s.paired = true → s.pair.linkUp = true))) = true) ∧
    (ready (fun e => .timingSetTod e 1) mail 1 demo (fun _ s => decide (s.dev.role ≠ .follower)) = true) :=
  ⟨by decide +kernel, by decide +kernel, by decide +kernel, by decide +kernel, by decide +kernel, by decide +kernel, by decide +kernel⟩

theorem test_ReferenceQualification :
    (fun s : State => decide ((s.refIn (0 : Fin 24)).qual = .waiting ∧ s.elapsed (s.refIn (0 : Fin 24)).waitTick ((s.refIn (0 :
      Fin 24)).waitFor * secTicks) = true)) ({ demo with tim := { inputs := [(0, { qual := .waiting })] } }) = true := by decide

theorem test_DpllStates :
    ((fun s : State => decide (s.tim.switching = true))
      ({ demo with tim := { inputs := [(0, { qual := .qualified, rank := 1 })], switching := true, sel := 0 }, par := { vals := [(Pn.key .timingRefEnable 0, 1)] } })
      = true) ∧
    ((fun s : State => decide (s.tim.state = .acquire ∧ s.elapsed s.tim.stateTick (4 * secTicks) = true))
      ({ demo with tim := { state := .acquire }, clk := { tick := 100000000 } }) = true) ∧
    ((fun s : State => decide (s.tim.calmTick = some 0 ∧ s.tim.state = .pulled ∧ s.elapsed 0 (10 * secTicks) = true))
      ({ demo with tim := { state := .pulled, calmTick := some 0 }, clk := { tick := 250000000 } }) = true) ∧
    ((fun s : State => decide (s.tim.state = .locked ∧ s.elapsed s.tim.stateTick (300 * secTicks) = true ∧ s.tim.oxf = false))
      ({ demo with tim := { state := .locked }, clk := { tick := 7500000000 } }) = true) ∧
    ((fun s : State => decide (s.tim.state = .acquire ∧ s.tim.sel < 24 ∧ s.tim.lockFor ≠ 0 ∧ s.elapsed s.tim.stateTick
      (s.tim.lockFor * secTicks) = true))
      ({ demo with tim := { state := .acquire, sel := 0, lockFor := 1 }, clk := { tick := 25000000 } }) = true) ∧
    ((fun s : State => decide (s.tim.oxf = true ∧ s.elapsed s.tim.oxfTick (10 * secTicks) = true))
      ({ demo with tim := { oxf := true }, clk := { tick := 250000000 } }) = true) ∧
    ((fun s : State => decide ([(12, some 40000)] = (((⟨some 40000, 12⟩ : OcxoSecond).freqPpt, (⟨some 40000, 12⟩ :
      OcxoSecond).milliK) :: s.tim.hist).take 300)) demo = true) :=
  ⟨by decide, by decide, by decide, by decide, by decide, by decide, by decide⟩

theorem test_PulsesAndTimeOfDay :
    ((fun s : State => decide ((s.ppsIn (1 : Fin 2)).lastTick.isSome = true ∧ (100000 : Int) = (⟨100000, 0⟩ : PpsMeas).devPs -
      ((s.cur .timingPpsDelay (1 : Fin 2) : Int) - ((s.ppsIn (1 : Fin 2)).delay : Int)) ∧ (s.cur .timingPpsTolerance 0 = 0 ∨
      (100000 : Int).natAbs ≤ 1000 * s.cur .timingPpsTolerance 0)))
      ({ demo with tim := { pps := [(1, { lastTick := some 0 })] }, par := { vals := [(Pn.key .timingPpsTolerance 0, 100)] } })
      = true) ∧
    ((fun s : State => decide ((s.ppsIn (1 : Fin 2)).lastTick.isSome = true ∧ 2 ≤ (s.ppsIn (1 : Fin 2)).bad ∧ (-100001 : Int) =
      (⟨-100001, 0⟩ : PpsMeas).devPs - ((s.cur .timingPpsDelay (1 : Fin 2) : Int) - ((s.ppsIn (1 : Fin 2)).delay : Int)) ∧
      s.cur .timingPpsTolerance 0 ≠ 0 ∧ 1000 * s.cur .timingPpsTolerance 0 < (-100001 : Int).natAbs))
      ({ demo with tim := { pps := [(1, { lastTick := some 0, bad := 2 })] }, par := { vals := [(Pn.key .timingPpsTolerance 0, 100)] } })
      = true) ∧
    ((fun s : State => decide ((s.ppsIn (1 : Fin 2)).qual = false ∧ (s.ppsIn (1 : Fin 2)).lastTick.isSome = true ∧ (s.ppsIn (1
      : Fin 2)).waitFor ≤ (s.ppsIn (1 : Fin 2)).okSecs)) ({ demo with tim := { pps := [(1, { lastTick := some 0 })] } }) =
      true) ∧
    ((fun s : State => decide (todWellFormed (⟨todSample, 115200⟩ : TodFrame).bytes = true ∧ (⟨todSample, 115200⟩ :
      TodFrame).baud = s.cur .timingTodBaud 0 ∧ s.governingPps.isSome = true ∧ 10 ≤ 10 ∧ 10 ≤ 900 ∧ 9 = beNat
      (((⟨todSample, 115200⟩ : TodFrame).bytes.drop 4).take 6) ∧ (s.tim.todGood = 0 ∨ 9 = s.tim.todSec + 1)))
      ({ demo with tim := { pps := [(1, { qual := true, lastTick := some 0 })] } }) = true) ∧
    ((fun s : State => decide ((todWellFormed (⟨[], 0⟩ : TodFrame).bytes = false ∨ (⟨[], 0⟩ : TodFrame).baud ≠ s.cur
      .timingTodBaud 0 ∨ s.governingPps = none ∨ 0 < 10 ∨ 900 < 0))) demo = true) ∧
    ((fun s : State => decide (s.elapsed s.tim.todTick (2 * secTicks) = true)) ({ demo with clk := { tick := 50000000 } }) =
      true) ∧
    ((fun s : State => decide (s.tq ≠ 0 ∧ s.edgeDue 0 = some 1 ∧ s.edgeDue 1 = some 1 ∧ (Table.get {} s.tim.ppsOut 0).second ≠
      some 1 ∧ (Table.get {} s.tim.ppsOut 1).second ≠ some 1))
      ({ demo with clk := { todSet := true, tod := 1600000000, rsn := 390625 } }) = true) ∧
    ((fun s : State => decide ((s.tq = 0 ∨ (s.edgeDue 0 = none ∧ s.edgeDue 1 = none)))) demo = true) ∧
    ((fun s : State => decide (s.tim.ppsEdge = some 0 ∧ s.elapsed 0 (500 * msTicks) = true))
      ({ demo with tim := { ppsEdge := some 0 }, clk := { tick := 12500000 } }) = true) ∧
    ((fun s : State => decide (s.tim.ppsEdge = none)) demo = true) :=
  ⟨by decide, by decide, by decide, by decide +kernel, by decide, by decide, by decide, by decide, by decide, by decide⟩

theorem test_ModesChange :
    (ready (fun e => .powerMode e 2) mail 1 (inMode .transport) (fun _ s => decide (s.modePending = false ∧ s.powerBusy = false
      ∧ s.dev.mode = .transport ∧ s.commitPending = false)) = true) ∧
    (ready (fun e => .powerMode e 3) mail 1 { demo with com := { gen := 1 }, tim := { state := .locked } } (fun _ s => decide
      (s.modePending = false ∧ s.powerBusy = false ∧ s.dev.mode = .configure ∧ s.com.gen ≠ 0 ∧ s.dpllReady = true ∧ (s.dev.role
      = .follower → s.dev.joined = true))) = true) ∧
    (ready (fun e => .powerMode e 7) mail 1 demo (fun _ s => decide (s.modePending = false ∧ s.powerBusy = false ∧ s.dev.mode =
      .configure ∧ s.commitPending = false)) = true) ∧
    (ready (fun e => .testEnter e) mail 1 demo (fun _ s => decide (s.modePending = false ∧ s.powerBusy = false ∧ (s.dev.mode =
      .configure ∨ s.dev.mode = .transport) ∧ s.commitPending = false)) = true) ∧
    (ready (fun e => .testExit e) mail 1 inTest (fun _ s => decide (s.modePending = false ∧ s.powerBusy = false ∧ s.dev.mode =
      .test ∧ s.commitPending = false)) = true) ∧
    (ready (fun e => .fwMaintain e) mail 1 (inMode .transport) (fun _ s => decide (s.modePending = false ∧ s.powerBusy = false
      ∧ (s.dev.mode = .configure ∨ s.dev.mode = .transport) ∧ s.commitPending = false ∧ (s.dev.role = .follower → s.dev.joined
      = true))) = true) ∧
    (ready (fun e => .fwResume e) mail 1 (inMode .maintain) (fun _ s => decide (s.modePending = false ∧ s.powerBusy = false ∧
      s.dev.mode = .maintain)) = true) ∧
    ((fun s : State => decide (s.autoDue = none ∧ s.dev.pend = some (⟨.transport, 5, none⟩ : ModeChange) ∧ rsnLe
      (⟨.transport, 5, none⟩ : ModeChange).due s.clk.rsn = true ∧ (⟨.transport, 5, none⟩ : ModeChange).target ≠ .recovery))
      ({ demo with dev := { demo.dev with pend := some ⟨.transport, 5, none⟩ }, clk := { rsn := 5 } }) = true) ∧
    ((fun s : State => decide (s.autoDue = none ∧ s.dev.pend = some (⟨.recovery, 5, none⟩ : ModeChange) ∧ rsnLe
      (⟨.recovery, 5, none⟩ : ModeChange).due s.clk.rsn = true ∧ (⟨.recovery, 5, none⟩ : ModeChange).target = .recovery))
      ({ demo with dev := { demo.dev with pend := some ⟨.recovery, 5, none⟩ }, clk := { rsn := 5 } }) = true) ∧
    ((fun s : State => decide (s.autoDue = some (Mode.transport, (none : Option CmdRef))))
      ({ inMode .caravan with dev := { (inMode .caravan).dev with toTransport := some 5 }, clk := { rsn := 5 } }) = true) ∧
    ((fun s : State => decide (s.dev.toTransport = none ∧ s.dev.role = .follower ∧ s.dev.mode = .transport ∧ s.dev.joined =
      true ∧ s.com.car.start = some (5 : Rsn) ∧ s.com.car.stop = none ∧ rsnLe (5 : Rsn) s.clk.rsn = true))
      ({ follower with dev := { follower.dev with joined := true }, com := { car := { start := some 5 } }, clk := { rsn := 5 } })
      = true) ∧
    ((fun s : State => decide (s.autoDue = none ∧ s.dev.pend = some (⟨.transport, 5, none⟩ : ModeChange) ∧ rsnLe
      (⟨.transport, 5, none⟩ : ModeChange).due s.clk.rsn = false))
      ({ demo with dev := { demo.dev with pend := some ⟨.transport, 5, none⟩ }, clk := { rsn := 4 } }) = true) :=
  ⟨by decide +kernel, by decide +kernel, by decide +kernel, by decide +kernel, by decide +kernel, by decide +kernel, by decide +kernel, by decide, by decide, by decide, by decide, by decide⟩

theorem test_ClaspCommands :
    (ready (fun e => .claspRelease e (1 : Fin 2).val) mail 1 { demo with dev := { demo.dev with role := .holder } } (fun _ s =>
      decide (s.dev.role = .holder ∧ s.pair.release = none ∧ ((1 : Fin 2).val = 0 → s.pair.peerJoined = true ∧ s.pair.peerMode
      ≠ 5 ∧ s.pair.peerState ≠ 4))) = true) ∧
    (ready (fun e => .claspSeize e) mail 1
      { having .pairEnable 0 1 with dev := { demo.dev with mode := .transport, role := .follower } } (fun _ s => decide
      (s.dev.mode.mayHold = true ∧ s.cur .pairEnable 0 = 1 ∧ s.pair.faultAnn = false ∧ s.dev.role ≠ .holder ∧ ¬(s.pair.linkUp =
      true ∧ s.pair.peerState = 2))) = true) ∧
    (ready (fun e => .claspClear e) mail 1 demo (fun _ s => decide (s.releaseCause = false)) = true) ∧
    (ready (fun e => .claspCheckpoint e) mail 1 { demo with dev := { demo.dev with role := .holder } } (fun _ s => decide
      (s.dev.role = .holder)) = true) ∧
    (ready (fun e => .pairEnableWrite e (1 : Fin 2).val) mail 1 demo (fun e s => decide (2 ≤ s.callerRole e ∧ s.dev.mode =
      .configure ∧ s.cur .pairEnable 0 ≠ (1 : Fin 2).val ∧ s.com.pend = none)) = true) :=
  ⟨by decide +kernel, by decide +kernel, by decide +kernel, by decide +kernel, by decide +kernel⟩

theorem test_LeaseAndLink :
    ((fun s : State => decide (s.pow.removed = false)) demo = true) ∧
    ((fun s : State => decide (s.pair.linkUp = false)) demo = true) ∧
    ((fun s : State => decide (s.pow.removed = false ∧ ((LeasePath.clasp = .sared → s.pair.linkUp = true)) ∧
      (⟨3, true, true, 0, 0, false, 31, 0, false, false, 0, 0⟩ : LeaseFrame).plane ≠ s.dev.planeB ∧
      (⟨3, true, true, 0, 0, false, 31, 0, false, false, 0, 0⟩ : LeaseFrame).primary ≠ s.dev.primary ∧ s.canAcquire = true ∧
      s.pair.cstrap = none ∧ ((⟨3, true, true, 0, 0, false, 31, 0, false, false, 0, 0⟩ : LeaseFrame).state = 3 ∨
      (⟨3, true, true, 0, 0, false, 31, 0, false, false, 0, 0⟩ : LeaseFrame).state = 4)))
      ({ having .pairEnable 0 1 with dev := { demo.dev with mode := .transport, role := .follower }, clk := { tick := 300000 }, pair := { heard := true } })
      = true) ∧
    ((fun s : State => decide (s.dev.role = .holder ∧ s.dev.primary = false ∧ s.pair.seized = false ∧ s.pair.leaseEnd ≤
      s.clk.tick)) ({ demo with dev := { demo.dev with role := .holder } }) = true) ∧
    ((fun s : State => decide (s.canAcquire = true ∧ s.pair.cstrap = none ∧ s.dev.primary = true ∧ s.pair.heard = true ∧
      s.silentSince + 300000 ≤ s.clk.tick))
      ({ having .pairEnable 0 1 with dev := { demo.dev with mode := .transport, role := .follower, primary := true }, clk := { tick := 300000 }, pair := { heard := true } })
      = true) ∧
    ((fun s : State => decide (s.pair.linkUp = false ∧ 64 ≤ s.pair.linkRun)) ({ demo with pair := { linkRun := 64 } }) = true) ∧
    ((fun s : State => decide (s.domain (lrOf 0) ≠ 0)) ({ demo with pow := { dom := [(lrOf 0, 2)] } }) = true) ∧
    ((fun s : State => decide (s.domain (lrOf 0) = 0)) demo = true) :=
  ⟨by decide, by decide, by decide, by decide, by decide, by decide, by decide, by decide⟩

theorem test_CheckpointsAndCopies :
    ((fun s : State => decide (s.dev.role = .holder ∧ s.dev.jcc = .running ∧ s.cur .pairCkptInterval 0 ≠ 0 ∧ s.elapsed
      s.pair.ckptTick (s.cur .pairCkptInterval 0 * msTicks) = true ∧ (s.ckptChanged = true ∨ s.elapsed s.pair.ckptTick (10 *
      secTicks) = true))) ({ demo with dev := { demo.dev with role := .holder }, clk := { tick := 25000000000 } }) = true) ∧
    ((fun s : State => decide (s.dev.role = .follower ∧ s.pair.linkUp = true)) follower = true) ∧
    ((fun s : State => decide (s.pair.takeover = true ∧ s.dev.role = .holder ∧ s.dev.jcc = .running))
      ({ demo with dev := { demo.dev with role := .holder }, pair := { takeover := true } }) = true) ∧
    ((fun s : State => decide (s.dev.role = .follower ∧ s.pair.linkUp = true)) follower = true) ∧
    ((fun s : State => decide (s.dev.role = .follower ∧ s.pair.linkUp = true)) follower = true) ∧
    ((fun s : State => decide (s.dev.role = .follower ∧ s.pair.linkUp = true)) follower = true) ∧
    ((fun s : State => decide (copiedPn Pn.protWtr = true ∧ Pn.protWtr.desc.acc = .rw ∧ 65535 < 65536 ∧ Pn.protWtr ∉
      [.laneTxEnable, .laneRxEnable, .laneTraceExpected] ∧ s.dev.role = .follower ∧ s.pair.live = some 0 ∧ s.cur Pn.protWtr
      65535 ≠ 5)) ({ follower with pair := { live := some 0 } }) = true) ∧
    ((fun s : State => decide (s.dev.role = .follower ∧ s.pair.live = some 0)) ({ follower with pair := { live := some 0 } }) =
      true) ∧
    ((fun s : State => decide (s.dev.role = .follower ∧ s.pair.live = some (2 + 1)))
      ({ follower with pair := { live := some 3 } }) = true) :=
  ⟨by decide, by decide, by decide, by decide, by decide, by decide, by decide, by decide, by decide⟩

theorem test_DomainRequests :
    (ready (fun e => .powerDomain e buf [(⟨139, 0⟩ : DomainEntry)].length [(⟨139, 0⟩ : DomainEntry)]) mail 1 demo (fun _ s =>
      decide (([(⟨139, 0⟩ : DomainEntry)] ≠ [] ∧ [(⟨139, 0⟩ : DomainEntry)].length ≤ 140 ∧ 2 *
      [(⟨139, 0⟩ : DomainEntry)].length ≤ buf.len ∧ (∀ x ∈ [(⟨139, 0⟩ : DomainEntry)], x.domain ≤ 139 ∧ x.target ≤ 2) ∧
      s.domainBad [(⟨139, 0⟩ : DomainEntry)] = false ∧ s.bufRead buf (2 * [(⟨139, 0⟩ : DomainEntry)].length) = true ∧
      s.powerBusy = false ∧ s.modePending = false) ∧ ∀ x ∈ [(⟨139, 0⟩ : DomainEntry)], s.domain x.domain = x.target)) = true) ∧
    (ready (fun e => .powerDomain e buf [(⟨139, 0⟩ : DomainEntry)].length [(⟨139, 0⟩ : DomainEntry)]) mail 1
      { demo with pow := { dom := [(139, 2)] } } (fun _ s => decide (([(⟨139, 0⟩ : DomainEntry)] ≠ [] ∧
      [(⟨139, 0⟩ : DomainEntry)].length ≤ 140 ∧ 2 * [(⟨139, 0⟩ : DomainEntry)].length ≤ buf.len ∧ (∀ x ∈
      [(⟨139, 0⟩ : DomainEntry)], x.domain ≤ 139 ∧ x.target ≤ 2) ∧ s.domainBad [(⟨139, 0⟩ : DomainEntry)] = false ∧ s.bufRead
      buf (2 * [(⟨139, 0⟩ : DomainEntry)].length) = true ∧ s.powerBusy = false ∧ s.modePending = false) ∧ (∃ x ∈
      [(⟨139, 0⟩ : DomainEntry)], s.domain x.domain ≠ x.target) ∧ ∀ x ∈ [(⟨139, 0⟩ : DomainEntry)], x.target = 0)) = true) ∧
    (ready (fun e => .powerDomain e buf [(⟨139, 2⟩ : DomainEntry)].length [(⟨139, 2⟩ : DomainEntry)]) mail 1 demo (fun _ s =>
      decide (([(⟨139, 2⟩ : DomainEntry)] ≠ [] ∧ [(⟨139, 2⟩ : DomainEntry)].length ≤ 140 ∧ 2 *
      [(⟨139, 2⟩ : DomainEntry)].length ≤ buf.len ∧ (∀ x ∈ [(⟨139, 2⟩ : DomainEntry)], x.domain ≤ 139 ∧ x.target ≤ 2) ∧
      s.domainBad [(⟨139, 2⟩ : DomainEntry)] = false ∧ s.bufRead buf (2 * [(⟨139, 2⟩ : DomainEntry)].length) = true ∧
      s.powerBusy = false ∧ s.modePending = false) ∧ (∃ x ∈ [(⟨139, 2⟩ : DomainEntry)], s.domain x.domain ≠ x.target) ∧ ∀ x ∈
      [(⟨139, 2⟩ : DomainEntry)], x.target ≠ 0)) = true) :=
  ⟨by decide +kernel, by decide +kernel, by decide +kernel⟩

theorem test_SleepHandshake :
    ((fun s : State => decide (s.pow.sleep = some
      ({ quiescent := false, entries := [⟨139, 2⟩], todo := [139], stopped := [], accepted := false, due := 1, tick := 0, ref := none }
      : SleepReq) ∧
      ({ quiescent := false, entries := [⟨139, 2⟩], todo := [139], stopped := [], accepted := false, due := 1, tick := 0, ref := none }
      : SleepReq).accepted = false ∧
      ({ quiescent := false, entries := [⟨139, 2⟩], todo := [139], stopped := [], accepted := false, due := 1, tick := 0, ref := none }
      : SleepReq).todo = 139 :: []))
      ({ demo with pow := { sleep := some { quiescent := false, entries := [⟨139, 2⟩], todo := [139], stopped := [], accepted := false, due := 1, tick := 0, ref := none } } })
      = true) ∧
    ((fun s : State => decide (s.pow.sleep = some
      ({ quiescent := false, entries := [⟨139, 2⟩], todo := [139], stopped := [], accepted := false, due := 1, tick := 0, ref := none }
      : SleepReq) ∧
      ({ quiescent := false, entries := [⟨139, 2⟩], todo := [139], stopped := [], accepted := false, due := 1, tick := 0, ref := none }
      : SleepReq).accepted = false ∧
      ({ quiescent := false, entries := [⟨139, 2⟩], todo := [139], stopped := [], accepted := false, due := 1, tick := 0, ref := none }
      : SleepReq).todo = 139 :: [] ∧ s.elapsed
      ({ quiescent := false, entries := [⟨139, 2⟩], todo := [139], stopped := [], accepted := false, due := 1, tick := 0, ref := none }
      : SleepReq).tick msTicks = true))
      ({ demo with pow := { sleep := some { quiescent := false, entries := [⟨139, 2⟩], todo := [139], stopped := [], accepted := false, due := 1, tick := 0, ref := none } }, clk := { tick := 25000 } })
      = true) ∧
    ((fun s : State => decide (s.pow.sleep = some
      ({ quiescent := false, entries := [⟨139, 2⟩], todo := [139], stopped := [], accepted := true, due := 1, tick := 0, ref := none }
      : SleepReq) ∧
      ({ quiescent := false, entries := [⟨139, 2⟩], todo := [139], stopped := [], accepted := true, due := 1, tick := 0, ref := none }
      : SleepReq).accepted = true ∧
      ({ quiescent := false, entries := [⟨139, 2⟩], todo := [139], stopped := [], accepted := true, due := 1, tick := 0, ref := none }
      : SleepReq).quiescent = false ∧
      (({ quiescent := false, entries := [⟨139, 2⟩], todo := [139], stopped := [], accepted := true, due := 1, tick := 0, ref := none }
      : SleepReq).entries.map (·.domain)).Nodup))
      ({ demo with pow := { sleep := some { quiescent := false, entries := [⟨139, 2⟩], todo := [139], stopped := [], accepted := true, due := 1, tick := 0, ref := none } } })
      = true) ∧
    ((fun s : State => decide (s.pow.sleep = some
      ({ quiescent := true, entries := [⟨139, 2⟩], todo := [139], stopped := [], accepted := true, due := 1, tick := 0, ref := none }
      : SleepReq) ∧
      ({ quiescent := true, entries := [⟨139, 2⟩], todo := [139], stopped := [], accepted := true, due := 1, tick := 0, ref := none }
      : SleepReq).accepted = true ∧
      ({ quiescent := true, entries := [⟨139, 2⟩], todo := [139], stopped := [], accepted := true, due := 1, tick := 0, ref := none }
      : SleepReq).quiescent = true ∧ s.dev.mode = .quiescent ∧ s.pow.wakeHeld = none))
      ({ inMode .quiescent with pow := { sleep := some { quiescent := true, entries := [⟨139, 2⟩], todo := [139], stopped := [], accepted := true, due := 1, tick := 0, ref := none } } })
      = true) ∧
    ((fun s : State => decide (s.pow.wake = some (⟨[139], 0, none, []⟩ : WakeReq)))
      ({ demo with pow := { wake := some ⟨[139], 0, none, []⟩ } }) = true) :=
  ⟨by decide, by decide, by decide, by decide, by decide⟩

theorem test_WakeAndSupplies :
    ((fun s : State => decide (s.dev.mode = .quiescent ∧ s.pow.waking = false ∧ s.pow.removed = false ∧ s.pow.sleep = none))
      ((inMode .quiescent)) = true) ∧
    ((fun s : State => decide (s.pow.waking = true ∧ s.dev.jcc = .running)) ({ demo with pow := { waking := true } }) = true) ∧
    ((fun s : State => decide (s.pow.removed = true)) ({ demo with pow := { removed := true } }) = true) ∧
    ((fun s : State => decide (s.dev.mode ≠ .quiescent ∧ s.dev.fatalHeld = none)) demo = true) :=
  ⟨by decide, by decide, by decide, by decide⟩

theorem test_VoltageAndFrequency :
    (ready (fun e => .powerDvfs e 2 3) mail 1 demo (fun _ s => decide ((3 ≤ 3 ∧ (2 = 2 ∨ 2 = 3) ∧ s.domain 2 = 0 ∧ (2 = 3 → 3 ≠
      0 → s.facBusy = false) ∧ s.powerBusy = false ∧ s.pow.dvfs = none) ∧ s.setpointOf 2 ≤ 3)) = true) ∧
    (ready (fun e => .powerDvfs e 2 0) mail 1 { demo with pow := { dvfsJcc := 2, vctl := 900 } } (fun _ s => decide ((0 ≤ 3 ∧
      (2 = 2 ∨ 2 = 3) ∧ s.domain 2 = 0 ∧ (2 = 3 → 0 ≠ 0 → s.facBusy = false) ∧ s.powerBusy = false ∧ s.pow.dvfs = none) ∧ 0 <
      s.setpointOf 2 ∧ max (vreq 0) (vreq (s.setpointOf (5 - 2))) ≤ s.pow.vctl)) = true) ∧
    (ready (fun e => .powerDvfs e 2 0) mail 1 { demo with pow := { dvfsJcc := 2, vctl := 720 } } (fun _ s => decide ((0 ≤ 3 ∧
      (2 = 2 ∨ 2 = 3) ∧ s.domain 2 = 0 ∧ (2 = 3 → 0 ≠ 0 → s.facBusy = false) ∧ s.powerBusy = false ∧ s.pow.dvfs = none) ∧ 0 <
      s.setpointOf 2 ∧ s.pow.vctl < max (vreq 0) (vreq (s.setpointOf (5 - 2))))) = true) ∧
    ((fun s : State => decide (s.pow.dvfs = some (⟨3, 1, 900, none⟩ : DvfsReq) ∧ ((⟨3, 1, 900, none⟩ : DvfsReq).domain = 2 ∨
      (⟨3, 1, 900, none⟩ : DvfsReq).domain = 3))) ({ demo with pow := { dvfs := some ⟨3, 1, 900, none⟩ } }) = true) :=
  ⟨by decide +kernel, by decide +kernel, by decide +kernel, by decide⟩

theorem test_DiagnosticCommands :
    (ready (fun e => .diagFaultRead e buf 0) mail 0 demo (fun _ s => decide (buf.len ≠ 0 ∧ ([] : List FaultRec) =
      ((s.allRecs.filter fun r => decide (0 ≤ r.fseq)).reverse).take (buf.len / 32) ∧ s.bufWrite buf (32 * ([] : List
      FaultRec).length) = true)) = true) ∧
    (ready (fun e => .diagSelftest e 5 []) mail 0 demo (fun _ _ => decide (1 ≤ 5 ∧ 5 ≤ 5)) = true) ∧
    (ready (fun e => .diagMemRead e buf (0x20000000 + 0)) service 0 demo (fun _ s => decide (buf.len ≠ 0 ∧ 0 + buf.len ≤
      0x800000 ∧ s.bufWrite buf buf.len = true ∧ s.jcc.sramBad = [])) = true) ∧
    (ready (fun e => .diagFaultInject ⟨e, []⟩ 1) service 1 demo (fun _ s => decide (∀ r ∈ s.flt.log, r.isOpen = false)) = true) ∧
    (ready (fun e => .diagFaultInject ⟨e, []⟩ 3) service 1
      { demo with sw := { bank0 := { ing := [(2, 0xB009)], mid := [(2, 64)], egr := [(20487, 0x1000000000000000002)] } } } (fun
      _ s => decide ((∀ r ∈ s.flt.log, r.isOpen = false) ∧ s.egrB.conns = (20487, (⟨3 * 4096 + 9, none⟩ : Conn)) :: ([] : Table
      Conn) ∧ 20487 < 512 * 4096)) = true) ∧
    (ready (fun e => .diagFaultInject ⟨e, []⟩ 6) service 1 demo (fun _ s => decide ((∀ r ∈ s.flt.log, r.isOpen = false) ∧
      s.dev.tmr = true)) = true) ∧
    (ready (fun e => .diagFaultInject ⟨e, []⟩ 8) service 1 demo (fun _ s => decide (∀ r ∈ s.flt.log, r.isOpen = false)) = true) :=
  ⟨by decide +kernel, by decide +kernel, by decide +kernel, by decide +kernel, by decide +kernel, by decide +kernel, by decide +kernel⟩

theorem test_FaultsDetected :
    ((fun _ : State => decide (faultSite.lasting = false)) demo = true) ∧
    ((fun s : State => decide (s.dev.jcc = .running)) demo = true) ∧
    ((fun s : State => decide (s.dev.jcc = .running ∧ ((0 : Fin 2).val = 0 ∨ s.jcc.j1 = true))) demo = true) ∧
    ((fun s : State => decide (((∀ r ∈ s.flt.log, r.isOpen = false)) ∧ s.dev.fatalHeld = none)) demo = true) ∧
    ((fun s : State => decide (s.flt.lasting = [])) demo = true) ∧
    ((fun s : State => decide (((∀ x ∈ s.flt.parityNew, 2 ≤ x.1)) ∧ s.dev.fatalHeld = none)) demo = true) ∧
    ((fun s : State => decide (s.flt.lasting = [])) demo = true) ∧
    ((fun s : State => decide (s.recOpen 1 = some
      ({ fseq := 1, rsn := 0, cls := 1, region := 0, outcome := 0, injected := false, action := 0, location := 0, detail := 0, count := 1, link := 0, isOpen := true, tick := 0 }
      : FaultRec) ∧ s.elapsed
      ({ fseq := 1, rsn := 0, cls := 1, region := 0, outcome := 0, injected := false, action := 0, location := 0, detail := 0, count := 1, link := 0, isOpen := true, tick := 0 }
      : FaultRec).tick (recoveryTicks
      ({ fseq := 1, rsn := 0, cls := 1, region := 0, outcome := 0, injected := false, action := 0, location := 0, detail := 0, count := 1, link := 0, isOpen := true, tick := 0 }
      : FaultRec).cls) = true ∧ s.recovered
      ({ fseq := 1, rsn := 0, cls := 1, region := 0, outcome := 0, injected := false, action := 0, location := 0, detail := 0, count := 1, link := 0, isOpen := true, tick := 0 }
      : FaultRec) = true))
      ({ demo with flt := { log := [{ fseq := 1, rsn := 0, cls := 1, region := 0, outcome := 0, injected := false, action := 0, location := 0, detail := 0, count := 1, link := 0, isOpen := true, tick := 0 }] } })
      = true) :=
  ⟨by decide, by decide, by decide, by decide, by decide, by decide, by decide, by decide⟩

theorem test_FatalResets :
    ((fun s : State => decide (s.dev.fatalHeld = none ∧ s.dev.mode ≠ .quiescent)) demo = true) ∧
    ((fun s : State => decide (s.dev.fatalHeld = none)) demo = true) ∧
    ((fun s : State => decide (s.dev.fatalHeld = none)) demo = true) ∧
    ((fun s : State => decide (s.dev.fatalHeld = some 1 ∧ s.dev.resetLow = false))
      ({ demo with dev := { demo.dev with fatalHeld := some 1 } }) = true) :=
  ⟨by decide, by decide, by decide, by decide⟩

theorem test_ResetsRecorded :
    ((fun s : State => decide (s.dev.fatalHeld = none)) demo = true) ∧
    ((fun s : State => decide (s.dev.resetLow = true ∧ s.dev.fatalHeld = none))
      ({ demo with dev := { demo.dev with resetLow := true } }) = true) ∧
    (ready (fun e => .powerWarm e []) mail 1 demo (fun _ _ => true) = true) ∧
    (ready (fun e => .fwRecover e) mail 1 demo (fun _ s => decide (s.modePending = false ∧ s.powerBusy = false)) = true) ∧
    (ready (fun e => .fwActivate ⟨e, []⟩) mail 1
      { inMode .maintain with sec := { demo.sec with slot1 := { state := .valid, image := some image } } } (fun _ s => decide
      (s.slotIn .valid = some 1 ∧ (s.slotOf 1).image = some image ∧ s.dev.mode = .maintain ∧ s.powerBusy = false ∧ s.pow.dvfs =
      none)) = true) ∧
    (ready (fun e => .fwRestart e) mail 1
      { inMode .recovery with dev := { (inMode .recovery).dev with jcc := .bootRom }, sec := { slot0 := { state := .valid, image := some image }, verified := some 0 } }
      (fun _ s => decide (0 < 2 ∧ s.sec.verified = some 0 ∧ (s.slotOf 0).state = .valid)) = true) :=
  ⟨by decide, by decide, by decide +kernel, by decide +kernel, by decide +kernel, by decide +kernel⟩

theorem test_BootAndTrial :
    ((fun s : State => decide (s.dev.jcc = .bootRom ∧ s.dev.mode ≠ .recovery ∧ s.dev.starting = none ∧ s.dev.candsSet = true ∧
      s.dev.cands = 0 :: ([] : List Nat) ∧ (s.slotOf 0).image = some image))
      ({ demo with dev := { mode := .boot, jcc := .bootRom, cands := [0], candsSet := true },  sec := { slot0 := { state := .active, image := some image } } })
      = true) ∧
    ((fun s : State => decide (s.dev.starting = some 0 ∧ s.dev.mode = .boot))
      ({ demo with dev := { mode := .boot, jcc := .starting, starting := some 0 },  sec := { slot0 := { state := .active, image := some image } } })
      = true) ∧
    ((fun s : State => decide (s.dev.starting = some 0 ∧ s.dev.startTick + 50000000 ≤ s.clk.tick))
      ({ demo with dev := { mode := .boot, jcc := .starting, starting := some 0 }, clk := { tick := 50000000 }, sec := { slot0 := { state := .active, image := some image } } })
      = true) ∧
    ((fun s : State => decide (s.sec.running = some 0 ∧ s.dev.jcc = .running ∧ 0 < 2 ∧ s.slotOf 0 = ⟨.trial, some image⟩ ∧
      s.sec.trialS ≠ 0 ∧ s.elapsed s.sec.trialTick (s.sec.trialS * secTicks) = true))
      ({ demo with clk := { tick := 15000000000 }, sec := { slot0 := { state := .trial, image := some image }, running := some 0 } })
      = true) :=
  ⟨by decide, by decide, by decide, by decide⟩

theorem test_FirmwareLoaded :
    (ready (fun e => .fwInfo e buf) mail 0 demo (fun e s => decide (e.ring ≠ 24 → 64 ≤ buf.len ∧ s.bufWrite buf 64 = true)) =
      true) ∧
    (ready (fun e => .fwLoad e buf 0 0x20000 image) mail 1 demo (fun e s => decide ((buf.len ≠ 0 ∧ 0 + buf.len ≤ 0x20000 ∧
      0x20000 ≤ 3166208 ∧ (e.ring = 24 → buf.len ≤ 39) ∧ (e.ring ≠ 24 → s.bufRead buf buf.len = true) ∧ s.slotIn .trial = none
      ∧ s.sec.load = none) ∧ 0 + buf.len < 0x20000)) = true) ∧
    (ready (fun e => .fwLoad e ⟨0x1000, 20496, 0⟩ 0 20496 image) mail 1 demo (fun e s => decide (((⟨0x1000, 20496, 0⟩ :
      Buf).len ≠ 0 ∧ 0 + (⟨0x1000, 20496, 0⟩ : Buf).len ≤ 20496 ∧ 20496 ≤ 3166208 ∧ (e.ring = 24 → (⟨0x1000, 20496, 0⟩ :
      Buf).len ≤ 39) ∧ (e.ring ≠ 24 → s.bufRead (⟨0x1000, 20496, 0⟩ : Buf) (⟨0x1000, 20496, 0⟩ : Buf).len = true) ∧ s.slotIn
      .trial = none ∧ s.sec.load = none) ∧ 0 + (⟨0x1000, 20496, 0⟩ : Buf).len = 20496 ∧ 20496 = 20480 + image.codeLen)) = true) :=
  ⟨by decide +kernel, by decide +kernel, by decide +kernel⟩

theorem test_SecurityCommands :
    (ready (fun e => .secIdentity e buf) mail 0 demo (fun _ s => decide (17120 ≤ buf.len ∧ s.bufWrite buf 17120 = true)) =
      true) ∧
    (ready (fun e => .secHallmark e buf []) mail 0 demo (fun _ s => decide (36304 ≤ buf.len ∧ s.bufWrite buf 36304 = true ∧
      s.bufRead buf 32 = true)) = true) :=
  ⟨by decide +kernel, by decide +kernel⟩

theorem test_RegistersAndSideband :
    ((fun s : State => decide (s.barUp = true ∧ (s.ringPair (15 : Fin 16)).on = true ∧ (0x3000F : BitVec 32).toNat % 65536 < 2
      ^ (s.ringPair (15 : Fin 16)).sqLog ∧ headOk (s.ringPair (15 : Fin 16)).cqLog (s.ringPair (15 : Fin 16)).cqHead
      (s.ringPair (15 : Fin 16)).cqNext ((0x3000F : BitVec 32).toNat / 65536) = true))
      ({ demo with host := { demo.host with pairs := [(15, { on := true, sqLog := 4, cqLog := 4, cqNext := 3 })] } }) = true) ∧
    ((fun s : State => decide (s.barUp = true ∧ s.host.evt.on = true ∧ headOk s.host.evt.log2 s.host.evt.head s.host.evt.next
      ((3 : BitVec 32).toNat % 65536) = true))
      ({ demo with host := { demo.host with evt := { on := true, log2 := 4, next := 3 } } }) = true) ∧
    ((fun s : State => decide (s.barUp = true ∧ s.host.jrn.on = true ∧ headOk s.host.jrn.log2 s.host.jrn.head s.host.jrn.next
      ((3 : BitVec 32).toNat % 65536) = true))
      ({ demo with host := { demo.host with jrn := { on := true, log2 := 4, next := 3 } } }) = true) ∧
    ((fun s : State => decide (s.barUp = true ∧ s.host.fac.on = true ∧ headOk s.host.fac.log2 s.host.fac.head s.host.fac.next
      ((3 : BitVec 32).toNat % 65536) = true))
      ({ demo with host := { demo.host with fac := { on := true, log2 := 4, next := 3 } } }) = true) ∧
    ((fun s : State => decide (s.barUp = true ∧ (1 : BitVec 32).getLsbD 0 = true ∧ (s.mailbox (7 : Fin 8)).state ≠ 1)) demo =
      true) ∧
    ((fun s : State => decide ((s.mailbox (0 : Fin 8)).state = 1)) demo = true) ∧
    ((fun s : State => decide (31 ∈ s.host.irqWait ∧ Table.get 0 s.host.irqTick 31 + s.cur .hostIrqHoldoff 0 * 25 ≤ s.clk.tick
      + 1)) ({ demo with host := { demo.host with irqWait := [31] } }) = true) ∧
    ((fun s : State => decide (2 ≤ 2 ∧ s.log.perf = [(2, ({ event := 0x04A, obj := 0xFFFF } : PerfCtr))] ∧
      ({ event := 0x04A, obj := 0xFFFF } : PerfCtr).event = 0x04A ∧ ({ event := 0x04A, obj := 0xFFFF } : PerfCtr).obj = 0xFFFF
      ∧ Table.get 0 s.log.perfVal 2 + 1 < 2 ^ 48)) ({ demo with log := { perf := [(2, { event := 0x04A, obj := 0xFFFF })] } })
      = true) ∧
    ((fun s : State => decide (s.sidebandServed = true)) demo = true) ∧
    ((fun s : State => decide (s.host.sb.state = 1)) ({ demo with host := { demo.host with sb := { state := 1 } } }) = true) :=
  ⟨by decide, by decide, by decide, by decide, by decide, by decide, by decide, by decide, by decide, by decide⟩

theorem test_SessionsEnd :
    ((fun s : State => decide ((s.session (4 : Fin 8)).state = .provisional ∧ (s.session (4 : Fin 8)).hello + 25000000 ≤
      s.clk.tick)) ({ demo with clk := { tick := 100000000000 } }) = true) ∧
    ((fun s : State => decide ((s.session (3 : Fin 8)).state = .suspended ∧ (s.session (3 : Fin 8)).resume = true ∧ (s.session
      (3 : Fin 8)).hello + 25000000 ≤ s.clk.tick))
      ({ demo with clk := { tick := 100000000000 }, host := { demo.host with sessions := [(3, { state := .suspended, handle := 11, role := 3, resume := true })] } })
      = true) ∧
    ((fun s : State => decide ((s.session (1 : Fin 8)).state = .opened ∧ 900 = s.cur .sessionIdleTimeout 0 ∧ 900 ≠ 0 ∧
      (s.session (1 : Fin 8)).lastTick + 900 * 25000000 ≤ s.clk.tick)) ({ demo with clk := { tick := 100000000000 } }) = true) ∧
    ((fun s : State => decide ((s.session (3 : Fin 8)).state = .suspended ∧ 60 = s.cur .sessionResumeWindow 0 ∧ 60 ≠ 0 ∧
      (s.session (3 : Fin 8)).since + 60 * 25000000 ≤ s.clk.tick)) ({ demo with clk := { tick := 100000000000 } }) = true) ∧
    ((fun s : State => decide (Table.find s.host.authBar (1 : Fin 2) = some 5))
      ({ demo with clk := { tick := 100000000000 }, host := { demo.host with authBar := [(1, 5)] } }) = true) ∧
    ((fun s : State => decide (s.host.linkUp = true)) demo = true) ∧
    ((fun s : State => decide (s.host.linkUp = false)) ({ demo with host := { demo.host with linkUp := false } }) = true) :=
  ⟨by decide, by decide, by decide, by decide, by decide, by decide, by decide⟩

theorem test_JarayComplex :
    ((fun s : State => decide (s.barUp = true)) demo = true) ∧
    ((fun s : State => decide (s.host.unlocked = true ∧ s.host.unlockTick + 25000000 ≤ s.clk.tick))
      ({ demo with host := { demo.host with unlocked := true }, clk := { tick := 25000000 } }) = true) ∧
    ((fun s : State => decide (s.masterOn (0 : Fin 2) = true ∧ Table.get [] s.jcc.batch (0 : Fin 2) = [])) demo = true) ∧
    ((fun s : State => decide (s.masterOn 0 = true)) demo = true) ∧
    ((fun s : State => decide (s.masterOn (9 : Fin 14) = true ∧ (9 : Fin 14).val < 10 ∧ ([1] : List Byte) ≠ [] ∧ 0x7FFFFF % 16
      + ([1] : List Byte).length ≤ 16 ∧ 0x7FFFFF < 0x800000)) demo = true) ∧
    ((fun s : State => decide (s.masterOn ((7 : Fin 8).val + 2) = true ∧ 0 + 16 ≤ 0x800000 ∧ 0x7FFFF0 + 16 ≤ 0x800000 ∧
      s.jcc.sramBad = [])) demo = true) ∧
    ((fun s : State => decide (s.domain 2 = 0 ∧ s.dev.jcc ≠ .off ∧ s.dev.jcc ≠ .retained ∧ s.jcc.slice ≠ 0))
      ({ demo with jcc := { slice := 1 } }) = true) :=
  ⟨by decide, by decide, by decide, by decide, by decide, by decide, by decide⟩

theorem test_LoggingCommands :
    (ready (fun e => .logEventRing e 0x1000 4 31) mail 1 demo (fun _ s => decide (4 ≤ 4 ∧ 4 ≤ 16 ∧ 31 ≤ 31 ∧ 0x1000 % 4096 = 0
      ∧ s.writeOk 0x1000 (32 * 2 ^ 4) = true ∧ s.host.evt.on = false)) = true) ∧
    (ready (fun e => .logJournalRing e 0x1000 16 31) mail 1 demo (fun _ s => decide (4 ≤ 16 ∧ 16 ≤ 16 ∧ 31 ≤ 31 ∧ 0x1000 % 4096
      = 0 ∧ s.writeOk 0x1000 (64 * 2 ^ 16) = true ∧ s.host.jrn.on = false)) = true) ∧
    (ready (fun e => .logFilter e buf [(⟨0x0101, 1, 1, 0⟩ : FilterEntry)].length [(⟨0x0101, 1, 1, 0⟩ : FilterEntry)]) mail 1
      demo (fun _ s => decide ([(⟨0x0101, 1, 1, 0⟩ : FilterEntry)] ≠ [] ∧ [(⟨0x0101, 1, 1, 0⟩ : FilterEntry)].length ≤ 64 ∧ 8 *
      [(⟨0x0101, 1, 1, 0⟩ : FilterEntry)].length ≤ buf.len ∧ (∀ f ∈ [(⟨0x0101, 1, 1, 0⟩ : FilterEntry)], 1 ≤ f.cls ∧ f.cls ≤ 3
      ∧ f.action ≤ 1) ∧ s.bufRead buf (8 * [(⟨0x0101, 1, 1, 0⟩ : FilterEntry)].length) = true)) = true) ∧
    (ready (fun e => .logAlarms e (⟨0x1000, 16, 0⟩ : Buf)) mail 0 demo (fun _ s => decide ((⟨0x1000, 16, 0⟩ : Buf).len ≠ 0 ∧
      (⟨0x1000, 16, 0⟩ : Buf).len % 16 = 0 ∧ s.bufWrite (⟨0x1000, 16, 0⟩ : Buf) (⟨0x1000, 16, 0⟩ : Buf).len = true)) = true) ∧
    (ready (fun e => .perfProgram e buf [(⟨191, 0x047, 0, 0, 0⟩ : PerfEntry)].length [(⟨191, 0x047, 0, 0, 0⟩ : PerfEntry)])
      mail 1 demo (fun _ s => decide ([(⟨191, 0x047, 0, 0, 0⟩ : PerfEntry)] ≠ [] ∧ [(⟨191, 0x047, 0, 0, 0⟩ : PerfEntry)].length
      ≤ 192 ∧ 16 * [(⟨191, 0x047, 0, 0, 0⟩ : PerfEntry)].length ≤ buf.len ∧ (∀ x ∈ [(⟨191, 0x047, 0, 0, 0⟩ : PerfEntry)],
      x.counter ≤ 191 ∧ perfListed x.event = true ∧ PerfEntry.conflict x = false) ∧ namedTwice
      ([(⟨191, 0x047, 0, 0, 0⟩ : PerfEntry)].map (·.counter)) = false ∧ s.bufRead buf (16 *
      [(⟨191, 0x047, 0, 0, 0⟩ : PerfEntry)].length) = true)) = true) ∧
    (ready (fun e => .perfRead e buf 415 1) mail 0 demo (fun e s => decide ((2 ≤ s.callerRole e ∨ s.cur .perfObserverRead 0 ≠
      0) ∧ 1 ≠ 0 ∧ 415 + 1 ≤ 416 ∧ 8 * 1 ≤ buf.len ∧ s.bufWrite buf (8 * 1) = true)) = true) :=
  ⟨by decide +kernel, by decide +kernel, by decide +kernel, by decide +kernel, by decide +kernel, by decide +kernel⟩

theorem test_LoggingEvents :
    ((fun s : State => decide (s.ringsServed = true ∧ s.host.evt.on = true ∧ s.log.queue =
      [(⟨1, 1, 0, 1, true, 0, 0x0101, 0, 0, 0, 0, [], 0⟩ : Event)] ∧ (⟨1, 1, 0, 1, true, 0, 0x0101, 0, 0, 0, 0, [], 0⟩ :
      Event).len = 1 ∧ 1 ≤ s.host.evt.room))
      ({ demo with host := { demo.host with evt := { on := true, log2 := 4 } }, log := { queue := [⟨1, 1, 0, 1, true, 0, 0x0101, 0, 0, 0, 0, [], 0⟩] } })
      = true) ∧
    ((fun s : State => decide (s.ringsServed = true ∧ s.host.jrn.on = true ∧ s.log.jbuf =
      [({ seq := 1, rsn := 0, tod := 0, tq := 0, path := 0, role := 0, kind := 1, session := 0, cmdId := 0, code := 0, status := 0, obj := 0, count := 0, value := 0, link := 0 } : JRec)]
      ∧ s.log.jcoal = [] ∧ 1 ≤ s.host.jrn.room))
      ({ demo with host := { demo.host with jrn := { on := true, log2 := 4 } }, log := { jbuf := [{ seq := 1, rsn := 0, tod := 0, tq := 0, path := 0, role := 0, kind := 1, session := 0, cmdId := 0, code := 0, status := 0, obj := 0, count := 0, value := 0, link := 0 }] } })
      = true) ∧
    ((fun s : State => decide (s.dev.jcc = .running)) demo = true) ∧
    ((fun s : State => decide (s.dev.jcc = .running ∧ s.elapsed s.log.lifeTick (60 * secTicks) = true))
      ({ demo with clk := { tick := 1500000000 } }) = true) :=
  ⟨by decide, by decide, by decide, by decide⟩

theorem test_Boundaries :
    ((fun s : State => decide (s.timRuns = true ∧ s.flt.parityNew = [] ∧ s.tim.step = [] ∧ s.pair.fwd = [] ∧ s.pair.live =
      none)) demo = true) ∧
    ((fun s : State => decide (s.timRuns = false)) ({ demo with dev := { demo.dev with rootLost := true } }) = true) ∧
    ((fun s : State => decide (s.timRuns = true ∧ s.clk.rsn.toNat % 625 = 0)) ({ demo with clk := { rsn := 625 } }) = true) ∧
    ((fun s : State => decide ((s.timRuns = false ∨ s.clk.rsn.toNat % 625 ≠ 0))) ({ demo with clk := { rsn := 624 } }) = true) ∧
    ((fun s : State => decide (s.timRuns = true ∧ s.clk.rsn.toNat % 390625 = 0 ∧ ((∀ x ∈ s.lanes, x.1 < 512))))
      ({ demo with clk := { rsn := 390625 }, lanes := [(511, {})] }) = true) ∧
    ((fun s : State => decide ((s.timRuns = false ∨ s.clk.rsn.toNat % 390625 ≠ 0))) ({ demo with clk := { rsn := 390624 } }) =
      true) :=
  ⟨by decide, by decide, by decide, by decide, by decide, by decide⟩

theorem test_SemaphoresHeld :
    ((fun s : State => decide (s.masterOn (0 : Fin 14) = true ∧ ((0 : Fin 14).val < 2 ∨ (0 : Fin 14).val = 13))) demo = true) ∧
    ((fun s : State => decide (s.masterOn (13 : Fin 14) = true ∧ ((13 : Fin 14).val < 2 ∨ (13 : Fin 14).val = 13))) demo =
      true) :=
  ⟨by decide, by decide⟩

theorem test_RecoverRegister :
    (fun s : State => decide (s.barUp = true)) demo = true := by decide

theorem test_StepRunsTheFrontCommand :
    ((fun s : State => decide (s.pending = .heartbeat :: [])) ({ demo with pending := [.heartbeat] }) = true) ∧
    ((fun s : State => decide (s.pending = [])) demo = true) :=
  ⟨by decide, by decide⟩

theorem test_RefusalsChangeNothing :
    ((fun _ : State => decide (drepexOf (.fwRecover mail) = some (⟨0x1206, 3, false, false, []⟩, mail))) demo = true) ∧
    ((fun s : State => decide (s.dev.mode.working = true)) demo = true) :=
  ⟨by decide +kernel, by decide⟩

theorem test_ZeroCountsAreNoOps :
    (ready (fun e => .paramGet e buf 0 ([] : List PId)) mail 0 demo (fun _ _ => true) = true) ∧
    (ready (fun e => .paramSet e buf 0 ([] : List ParamEntry)) mail 1 demo (fun _ _ => true) = true) :=
  ⟨by decide +kernel, by decide +kernel⟩

end Sys2Proof.Tests
end

section
/-!
PROOFS. The row-number registers RSN_LO and RSN_HI (R414).
-/
namespace Sys2Proof.Machine

theorem reg_rsnLo (s : State) : s.reg 0x38 = s.clk.rsn.toNat % 2 ^ 32 := rfl

theorem reg_rsnHi (s : State) : s.reg 0x3C = s.host.rsnHi.toNat :=
  Nat.mod_eq_of_lt (s.host.rsnHi.isLt.trans (by decide))

theorem exec_rsnLoRead (s : State) : exec .rsnLoRead s = .next s.latchRsn := rfl

theorem latchRsn_rsnHi (s : State) : s.latchRsn.host.rsnHi.toNat = s.clk.rsn.toNat / 2 ^ 32 := by
  have hrsn : s.clk.rsn.toNat < 2 ^ 48 := s.clk.rsn.isLt
  exact Nat.mod_eq_of_lt (by omega)

/-- Settles O52: the latch holds exactly the high bits, because an RSN has 48 bits and RSN_HI takes 16. -/
theorem rowNumberLatched : Obligations.RowNumberLatched := by
  refine ⟨exec_rsnLoRead, reg_rsnHi, ?_⟩
  intro s t ht
  obtain rfl : s.latchRsn = t := Host.Outcome.next.inj ((exec_rsnLoRead s).symm.trans ht)
  calc s.reg 0x38 + 2 ^ 32 * s.latchRsn.reg 0x3C
      = s.clk.rsn.toNat % 2 ^ 32 + 2 ^ 32 * (s.clk.rsn.toNat / 2 ^ 32) := by
        rw [reg_rsnLo, reg_rsnHi, latchRsn_rsnHi]
    _ = s.clk.rsn.toNat := Nat.mod_add_div ..

end Sys2Proof.Machine
end

section
/-!
PROOFS. RECOVER (R419): the reset that a keyed write of 1 brings, on a holder with a commit that is not armed. The holder releases the
clasp before the reset (R43), the release aborts the commit (R207, R353), and its completion goes into host memory (R385).
-/
namespace Sys2Proof.Machine

/-! ### What the reset leaves of the host interface -/

@[simp] theorem host_journalRestart (s : State) (obj value : Nat) : (s.journalRestart obj value).host = s.host := by
  unfold State.journalRestart; dsimp only
  split
  · exact host_pushRec ..
  · exact host_ite _ (host_pushRec ..) rfl

@[simp] theorem host_restoreTime (s : State) : s.restoreTime.host = s.host := by
  unfold State.restoreTime; split <;> rfl

@[simp] theorem host_beginBoot (s : State) (kind cause : Nat) : (s.beginBoot kind cause).host = s.host :=
  (host_journalRestart ..).trans (host_restoreTime s)

/-- A PIN reset keeps host memory as the release of the clasp before it leaves it (R43, R491). -/
theorem fullReset_pin_mem (s : State) (cause : Nat) : (s.fullReset 2 cause).host.mem = s.leaveClasp.host.mem := by
  unfold State.fullReset
  rw [host_beginBoot]; rfl

theorem leaveClasp_holder {s : State} (h : s.dev.role = .holder) : s.leaveClasp = s.giveUp 0 := if_pos h

/-! ### The release aborts a commit that is not armed -/

/-- A commit of COMMIT.NOW or COMMIT.AT, neither a timetable's nor a follower's, that is not armed, accepted by command c. -/
structure PendCommit.WaitsFor (p : PendCommit) (c : CmdRef) : Prop where
  unarmed : p.armed = false
  noEntry : p.caravan = false
  noCatchUp : p.catchUp = false
  noCopy : p.copyGen = none
  ref : p.ref = some c

theorem abandonCopy_host (s : State) : s.abandonCopy.host = s.host := by
  unfold State.abandonCopy; dsimp only
  refine host_ite _ rfl ?_
  unfold State.setShadow; split <;> rfl

/-- Abandoning a live copy leaves a commit that is not the copy's own (R367). -/
theorem abandonCopy_pend {s : State} {p : PendCommit} (hp : s.com.pend = some p) (hc : p.copyGen = none) :
    s.abandonCopy.com.pend = some p := by
  unfold State.abandonCopy
  simp only [hp, hc]
  split
  · exact hp
  · rfl

/-- The abort of such a commit completes its command with COMMIT_ABORTED, reason 7 (R207, R386). -/
theorem abortUnarmed_completes {s : State} {p : PendCommit} {c : CmdRef} (hp : s.com.pend = some p) (hw : p.WaitsFor c) :
    ∃ u : State, u.host = s.host ∧ s.abortUnarmed = u.complete c 0x0308 0xFFFFFFFF 7 false := by
  refine ⟨(({ s with com := { s.com with pend := none } } : State).bump .mapPmAborts 0 1).unreserve, host_bump .., ?_⟩
  simp [State.abortUnarmed, State.abortCommit, State.endCommit, State.failRef, hp, hw.unarmed, hw.noEntry, hw.noCatchUp, hw.noCopy,
    hw.ref]

/-- Of the host interface, a RELEASE of the clasp changes what the abort of a commit does, and nothing else (R353). -/
theorem giveUp_release_host (s : State) :
    ∃ r : State, r.host = s.host ∧ r.com.pend = s.abandonCopy.com.pend ∧ (s.giveUp 0).host = r.abortUnarmed.host := by
  refine ⟨_, ?_, ?_, host_bump _ .pairPmRelease 0 1⟩
  · exact abandonCopy_host s
  · rfl

/-- A RELEASE posts the completion of the aborted commit where the next entry of its pair's CQ stands (R207, R385). -/
theorem giveUp_release_posts {s : State} {p : PendCommit} {c : CmdRef} (hp : s.com.pend = some p) (hw : p.WaitsFor c)
    (hring : c.ring < 16) (hon : (s.ringPair c.ring).on = true) :
    Table.getRun 0 (s.giveUp 0).host.mem ((s.ringPair c.ring).cqAddr + 16 * (s.ringPair c.ring).cqNext) 16 =
      complBytes c.cmdId 0x0308 (s.ringPair c.ring).sqHead 0xFFFFFFFF 7 c.ring
        (if (s.ringPair c.ring).phase then 128 else 0) := by
  obtain ⟨r, hrhost, hrpend, hgive⟩ := giveUp_release_host s
  obtain ⟨u, huhost, habort⟩ := abortUnarmed_completes (hrpend.trans (abandonCopy_pend hp hw.noCopy)) hw
  have hpair : u.ringPair c.ring = s.ringPair c.ring := by
    unfold State.ringPair; rw [huhost, hrhost]
  have hpost : u.complete c 0x0308 0xFFFFFFFF 7 false = u.completePair c.ring c.cmdId 0x0308 0xFFFFFFFF 7 0 := if_pos hring
  obtain ⟨hread, -⟩ := completePair_posted u c.ring c.cmdId 0x0308 0xFFFFFFFF 7 0 (hpair ▸ hon)
  rwa [Nat.zero_add, ← hpost, ← habort, ← hgive, hpair] at hread

/-! ### The keyed write of 1 -/

theorem exec_recoverWrite (v : BitVec 32) (s : State) :
    exec (.recoverWrite v) s = .next (if s.barUp then s.recoverReg v else s) := rfl

theorem exec_recoverWrite_keyed {s : State} {v : BitVec 32} (hbar : s.barUp = true) (hkey : s.host.unlocked = true)
    (hv : v.getLsbD 0 = true) : exec (.recoverWrite v) s = .next (s.lock.fullReset 2 2) := by
  simp [exec_recoverWrite, State.recoverReg, hbar, hkey, hv]

/-- A holder in TRANSPORT, RECOVER unlocked, with a commit under way that came as command 7 through ring pair 0. -/
def committingHolder : State := {
  clk := { rsn := 100 }
  dev := { mode := .transport, jcc := .running, role := .holder }
  host := {
    unlocked := true
    dmaOn := true
    pairs := [(0, { on := true, sqAddr := 0x1000, cqAddr := 0x2000, sqLog := 4, cqLog := 4, sqHead := 1, sqTail := 1, outstanding := 1 })] }
  com := { pend := some {
    c := 108, accepted := 99, armed := false, ready := false, handshake := false, proposed := false, refused := none,
    switched := false, ref := some { ring := 0, cmdId := 7 } } }
  log := { jreserved := 1 } }

/-- Refutes O54 in its last clause, host memory: the release of the clasp before the reset aborts the commit of `committingHolder`, and
the completion COMMIT_ABORTED goes to 0x2000, where memory held zeros. -/
theorem not_recoverRegister : ¬ Obligations.RecoverRegister := by
  intro h
  obtain ⟨-, -, hkeyed⟩ := h 1 committingHolder rfl
  obtain ⟨t, ht, -, -, -, -, -, -, -, -, -, -, -, hmem⟩ := hkeyed rfl rfl
  obtain rfl := Host.Outcome.next.inj ((exec_recoverWrite_keyed rfl rfl rfl).symm.trans ht)
  rw [fullReset_pin_mem, leaveClasp_holder rfl] at hmem
  have hpost := giveUp_release_posts (s := committingHolder.lock) (c := { ring := 0, cmdId := 7 }) rfl ⟨rfl, rfl, rfl, rfl, rfl⟩
    (by decide) rfl
  rw [hmem] at hpost
  exact absurd hpost (by decide)

end Sys2Proof.Machine
end

section
/-!
PROOFS. The semaphores (R456): a read by a master that reaches the register space acquires a free one, unless it is the debug master, and
a write by the holder alone releases it.
-/
namespace Sys2Proof.Machine

/-! ### The grant of a request leaves what decides on it (R447) -/

theorem State.quiet.jcc_eq {s t : State} (h : s.quiet t) : t.jcc = s.jcc := by
  unfold State.quiet at h; rw [h]

theorem State.quiet.dev_eq {s t : State} (h : s.quiet t) : t.dev = s.dev := by
  unfold State.quiet at h; rw [h]

@[simp] theorem granted_jcc (s : State) (m a : Nat) : (s.granted m a).jcc = s.jcc := (quiet_perf ..).jcc_eq

@[simp] theorem granted_dev (s : State) (m a : Nat) : (s.granted m a).dev = s.dev := (quiet_perf ..).dev_eq

@[simp] theorem reached_granted (s : State) (m a n b : Nat) : (s.granted m a).reached n b = s.reached n b := by
  unfold State.reached; rw [granted_jcc, granted_dev]

/-- Whether PCIe inbound runs is the host interface's to say, and a grant may count there. -/
theorem masterOn_granted (s : State) (m a : Nat) {n : Nat} (hn : n ≠ 10) : (s.granted m a).masterOn n = s.masterOn n := by
  simp only [State.masterOn, granted_jcc, granted_dev, if_neg hn]

/-! ### A semaphore's address (R444, R445) -/

theorem matrixTarget_sem (remap : Bool) {k : Nat} (hk : k < 64) :
    matrixTarget remap (0x40010000 + 4 * k) = (.reg, 0x10000 + 4 * k) := by
  unfold matrixTarget
  grind

theorem serviceEn_of_masterOn_debug {s : State} (hon : s.masterOn 13 = true) : s.dev.serviceEn = true := by
  obtain ⟨⟨hstrap, -⟩, -⟩ : (s.dev.serviceEn = true ∧ _) ∧ _ := by simpa [State.masterOn] using hon
  exact hstrap

/-- J0 and J1 reach every target, and the debug master the register space while its strap lets it run. -/
theorem reached_sem {s : State} {m k : Nat} (hon : s.masterOn m = true) (hm : m < 2 ∨ m = 13) (hk : k < 64) :
    s.reached m (0x40010000 + 4 * k) = true := by
  rw [State.reached, matrixTarget_sem _ hk]
  rcases hm with hm | rfl
  · have hpcie : m ≠ 10 := by omega
    simp [reaches, hm, hpcie]
  · simp [reaches, serviceEn_of_masterOn_debug hon]

/-! ### The semaphores after a read and after a write -/

theorem semAcquire_free {s : State} {m k : Nat} (hfree : Table.get 0 s.jcc.sems k = 0) (hm : m ≠ 13) :
    (s.semAcquire m k).jcc.sems = Table.set 0 s.jcc.sems k (m + 1) := by
  simp [State.semAcquire, hfree, hm]

theorem semAcquire_debug (s : State) (k : Nat) : s.semAcquire 13 k = s := if_pos (.inl rfl)

theorem semAcquire_held {s : State} {k : Nat} (m : Nat) (hheld : Table.get 0 s.jcc.sems k ≠ 0) : s.semAcquire m k = s :=
  if_pos (.inr hheld)

/-- Who holds a semaphore that was free, after its read. -/
theorem semAcquire_free_same {s : State} {k : Nat} (m : Nat) (hfree : Table.get 0 s.jcc.sems k = 0) :
    Table.get 0 (s.semAcquire m k).jcc.sems k = if m = 13 then 0 else m + 1 := by
  by_cases hm : m = 13
  · subst hm; rw [semAcquire_debug, hfree, if_pos rfl]
  · rw [semAcquire_free hfree hm, Table.get_set_same, if_neg hm]

theorem semAcquire_other (s : State) (m : Nat) {k j : Nat} (hj : j ≠ k) :
    Table.get 0 (s.semAcquire m k).jcc.sems j = Table.get 0 s.jcc.sems j := by
  unfold State.semAcquire; split
  · rfl
  · exact Table.get_set_other 0 _ (m + 1) hj

theorem semWrite_holder {s : State} {m k : Nat} (hheld : Table.get 0 s.jcc.sems k = m + 1) :
    (s.semWrite m k).jcc.sems = Table.set 0 s.jcc.sems k 0 := by
  rw [State.semWrite, if_pos hheld]

theorem semWrite_ignored {s : State} {m k : Nat} (hheld : Table.get 0 s.jcc.sems k ≠ m + 1) : s.semWrite m k = s := if_neg hheld

/-! ### SEMAPHORE_READ and SEMAPHORE_WRITE -/

/-- The matrix has granted master m its request at semaphore k. -/
def State.atSem (s : State) (m k : Nat) : State := (s.granted m (0x40010000 + 4 * k)).request

@[simp] theorem atSem_sems (s : State) (m k : Nat) : (s.atSem m k).jcc.sems = s.jcc.sems := by
  simp [State.atSem, State.request]

/-- The word that a read of a semaphore returns: 0 where it is free, else its holder, who is held + 1 in the table (R456). -/
def semAnswer (held : Nat) : BitVec 32 :=
  match held with
  | 0 => 0
  | h + 1 => 0x80000000 ||| BitVec.ofNat 32 h

/-- A read is answered with a word. -/
def State.answerRead (s : State) (d : BitVec 32) : State := { s with jcc := { s.jcc with readData := d } }

section
variable {m : Fin 14} {s : State} (k : Fin 64) (hon : s.masterOn m = true) (hm : m.val < 2 ∨ m.val = 13)
include hon hm

/-- The master still runs where its grant is counted, and reaches the semaphore there. -/
theorem served_sem : (s.granted m (0x40010000 + 4 * k)).masterOn m = true ∧
    (s.granted m (0x40010000 + 4 * k)).reached m (0x40010000 + 4 * k) = true :=
  ⟨(masterOn_granted s m _ (by omega)).trans hon, (reached_granted ..).trans (reached_sem hon hm k.isLt)⟩

theorem exec_semaphoreRead : exec (.semaphoreRead m k) s =
    .next (((s.atSem m k).semAcquire m k).answerRead (semAnswer (Table.get 0 s.jcc.sems k))) := by
  obtain ⟨hruns, hreach⟩ := served_sem k hon hm
  rw [← atSem_sems s m k]
  change execSemaphoreRead m k s = _
  simp only [execSemaphoreRead, hon, hruns, hreach, if_true, Bool.not_true, Bool.false_eq_true, if_false]
  rfl

theorem exec_semaphoreWrite : exec (.semaphoreWrite m k) s = .next ((s.atSem m k).semWrite m k) := by
  obtain ⟨hruns, hreach⟩ := served_sem k hon hm
  change execSemaphoreWrite m k s = _
  simp only [execSemaphoreWrite, hon, hruns, hreach, if_true, Bool.not_true, Bool.false_eq_true, if_false]
  rfl

end

/-- Settles O53, by what a read and a write of a semaphore do once the matrix has granted them. -/
theorem semaphoresHeld : Obligations.SemaphoresHeld := by
  intro m k s hon hm
  have hread := exec_semaphoreRead k hon hm
  have hwrite := exec_semaphoreWrite k hon hm
  rw [← atSem_sems s m k] at hread ⊢
  refine ⟨?free, ?held, ?holder, ?other⟩
  case free =>
    intro hfree
    exact ⟨_, hread, congrArg semAnswer hfree, semAcquire_free_same m hfree, fun j hj => semAcquire_other _ m hj⟩
  case held =>
    intro h hheld
    have hne : Table.get 0 (s.atSem m k).jcc.sems k ≠ 0 := hheld ▸ Nat.succ_ne_zero h
    exact ⟨_, hread, congrArg (fun t => t.jcc.sems) (semAcquire_held m hne), congrArg semAnswer hheld⟩
  case holder =>
    intro hheld
    refine ⟨_, hwrite, ?_⟩
    rw [semWrite_holder hheld]
    exact ⟨Table.get_set_same .., fun j hj => Table.get_set_other 0 _ 0 hj⟩
  case other =>
    intro hother
    exact ⟨_, hwrite, by rw [semWrite_ignored hother]⟩

end Sys2Proof.Machine
end

section
/-!
PROOFS. Every command and every event has a next state (O57), and a step is the front command (O56).
-/
namespace Sys2Proof.Machine

/-- An outcome is a next state. -/
def Answers (o : Host.Outcome State Fault Refusal) : Prop := ∃ t, o = .next t

theorem answers_next (t : State) : Answers (.next t) := ⟨t, rfl⟩

theorem answers_ite {p : Prop} [Decidable p] {a b : Host.Outcome State Fault Refusal} (ha : Answers a) (hb : Answers b) :
    Answers (if p then a else b) := by split <;> assumption

/-- A Drepex command is taken and refused or finished, or it is not taken (R388). -/
theorem answers_serve (d : CmdDesc) (e : Entry) (s : State) (body : CmdRef → State → Reply) : Answers (serve d e s body) := by
  unfold serve
  dsimp only
  refine answers_ite (answers_ite (answers_next _) ?_) (answers_next _)
  split <;> exact answers_next _

theorem answers_reapAfter {o : Host.Outcome State Fault Refusal} (h : Answers o) : Answers (reapAfter o) := by
  obtain ⟨t, rfl⟩ := h; exact answers_next _

/-- The commands that serve serves answer by it, the events without a condition at once; a condition of an event chooses between two
next states, and so does each branch of a match. -/
theorem exec_answers (i : Instr) (s : State) : Answers (exec i s) := by
  cases i
  case sessionHello | sessionProve | sessionRingCreate | sessionRingDelete | sessionList | paramGet | paramSet | paramDescribe | paramSave | laneEyeScan |
      laneMgmtSend | laneMgmtRecv | tribCreate | tribDelete | tribRealign | mapStage | mapProbe | mapDiscard | mapRead | commitNow | commitAt | commitCancel |
      caravanLoad | caravanStart | caravanStop | protLockout | protForce | protManual | protClear | mergeCreate | mergeDelete | timingForce | timingManual |
      timingHoldover | timingClear | timingSetQl | timingStep | timingSetTod | loupeMirror | loupeList | facetConfig | cutStage | cutReadSat | testEnter |
      testExit | testLane | testInject | testLoop | powerMode | powerDomain | powerDvfs | logEventRing | logJournalRing | logFilter | logAlarms |
      perfProgram | perfRead | fwInfo | fwLoad | fwActivate | fwMaintain | fwResume | fwRecover | fwRestart | secIdentity | secHallmark | claspRelease |
      claspSeize | claspClear | claspCheckpoint | diagFaultRead | diagSelftest | diagMemRead | diagFaultInject | laneTxEnable | laneRxEnable |
      rxAdaptRestart | facetEnable | cutEnable | pairEnableWrite =>
    exact answers_serve _ _ _ _
  case sessionClose | secKeySet => exact answers_reapAfter (answers_serve _ _ _ _)
  case unlockWrite | recoverWrite | rsnLoRead | i2cStatus | i2cWake | i2cResult | i2cAddressMatch | powerOn | vaonBrownout | perstNAssert | perstNDeassert |
      thermalTrip | rootClockLoss | ocxoFailure | refSignalLoss | ppsEdge | ppsLoss | wiringFault | abort | caravanAbort | laneDefectIntegration |
      offsetBarExpiry | ocxoSensorRead | refMeanUpdate | checkerSelfTest | tmrScrub | parityScan | watchdogExpiry | engineMismatch | irqHoldoffEnd |
      longCommandYield | tjUpdate | lifetimeSample | singleInternalFault | boundaryScanInstruction | jtagPortReset =>
    exact answers_next _
  case mailboxGo | applyBatch | remapWrite | registerWrite | i2cSubmit | resetNAssert | functionLevelReset | supplyRemoval | supplyRestore | supplyTrip |
      oxfClear | todMessage | todError | laneSignalLoss | laneRowReceived | lockstepDecision | lockstepComparison | forwardedCommand | apsForward |
      checkpointReceived | rowBoundary | superframeBoundary | secondBoundary | pointerSample | misrouteDefectClear | anchorRechoose | dpllLockAchieved |
      histValidSet | refVote | refWaitExpiry | lockTimeout | ppsQualified | commitReplayDone | cutEnableEffect | shadowRewrite | mapDatabaseRepair |
      lockstepDivergence | claspFrameSend | holderLeaseExpiry | silenceAcquisition | saredLinkUp | checkpointWrite | takeoverLoadComplete |
      sessionIdleTimeout | resumeWindowExpiry | unlockExpiry | eventRingWrite | journalRingWrite | heartbeat | lifetimeSlotWrite | laneTxStart |
      equaliserConverged | injectionEnd | wakeTimerExpiry | wakeComplete | ppsOutPulse | caravanStoreCopy =>
    exact answers_ite (answers_next _) (answers_next _)
  case doorbellWrite | semaphoreRead | semaphoreWrite | resetNRelease | saredRowReceived | claspFrameHeard | shadowScrub | mapShadowRepair | marchTestSlice |
      refFrequencyGate =>
    exact answers_ite (answers_next _) (answers_ite (answers_next _) (answers_next _))
  case powerWarm e bursts =>
    simp only [exec, execPowerWarm]
    exact answers_serve (cmdOf (.powerWarm e bursts)) e s _
  all_goals
    simp only [exec, execEvtHeadWrite, execJrnHeadWrite, execFacHeadWrite, execDmaTransfer, execFatalCauseClear, execPropose, execReady, execRefuse, execArm,
      execStageRecords, execFacetWindowOpen, execFacetEntryWrite, execTribDefectIntegration, execMergeDefectIntegration, execApsDefectIntegration,
      execPairDefectIntegration, execHoldoffExpiry, execWtrExpiry, execSwitchComplete, execPulledRecovery, execCommitArming, execCommitIngressSwitch,
      execCommitEgressSwitch, execCatchUpCommit, execCaravanEntryCommit, execModeChangeEffect, execMergeEntryEffect, execFaultRecordClose,
      execProvisionalHandleExpiry, execAuthLockExpiry, execEyeScanDone, execBootVerifyDone, execFirmwareStartTimeout, execTrialConfirmation,
      execDomainQuiesceAnswer, execQuiesceTimeout, execPowerActionDone, execDomainWakeDone, execAvsReport, execTodOutMessage, execLiveCopyMessage,
      execLegacyWriteApply, execLoopEffect, execFirmwareStarted, execAvsTimeout]
    repeat' split
    all_goals exact answers_next _

/-- Settles O57, by the kind of each command. -/
theorem everyCommandAnswers : Obligations.EveryCommandAnswers := exec_answers

/-- Settles O56: both equations are the two branches of step. -/
theorem stepRunsTheFrontCommand : Obligations.StepRunsTheFrontCommand := by
  refine ⟨fun c rest s hq => ?_, fun s hq => ?_⟩
  · simp only [step, hq]
  · simp only [step, hq]

end Sys2Proof.Machine
end

section
/-!
PROOFS. What counting, reporting and journalling leave alone: all but the telemetry's own queues and the counts; and what a quiet change
leaves of each component.
-/
namespace Sys2Proof.Machine

/-! ### What a quiet change leaves -/

section
variable {s t : State} (h : s.quiet t)
include h

theorem State.quiet.clk : t.clk = s.clk := by rw [State.quiet] at h; rw [h]
theorem State.quiet.dev : t.dev = s.dev := by rw [State.quiet] at h; rw [h]
theorem State.quiet.lanes : t.lanes = s.lanes := by rw [State.quiet] at h; rw [h]
theorem State.quiet.tribs : t.tribs = s.tribs := by rw [State.quiet] at h; rw [h]
theorem State.quiet.sw : t.sw = s.sw := by rw [State.quiet] at h; rw [h]
theorem State.quiet.com : t.com = s.com := by rw [State.quiet] at h; rw [h]
theorem State.quiet.prot : t.prot = s.prot := by rw [State.quiet] at h; rw [h]
theorem State.quiet.obs : t.obs = s.obs := by rw [State.quiet] at h; rw [h]
theorem State.quiet.tim : t.tim = s.tim := by rw [State.quiet] at h; rw [h]
theorem State.quiet.pair : t.pair = s.pair := by rw [State.quiet] at h; rw [h]
theorem State.quiet.jcc : t.jcc = s.jcc := by rw [State.quiet] at h; rw [h]
theorem State.quiet.pow : t.pow = s.pow := by rw [State.quiet] at h; rw [h]
theorem State.quiet.flt : t.flt = s.flt := by rw [State.quiet] at h; rw [h]
theorem State.quiet.sec : t.sec = s.sec := by rw [State.quiet] at h; rw [h]
theorem State.quiet.pending : t.pending = s.pending := by rw [State.quiet] at h; rw [h]
theorem State.quiet.vals : t.par.vals = s.par.vals := by rw [State.quiet] at h; rw [h]
theorem State.quiet.late : t.par.late = s.par.late := by rw [State.quiet] at h; rw [h]
theorem State.quiet.store : t.par.store = s.par.store := by rw [State.quiet] at h; rw [h]
theorem State.quiet.storeOk : t.par.storeOk = s.par.storeOk := by rw [State.quiet] at h; rw [h]
theorem State.quiet.prev : t.par.prev = s.par.prev := by rw [State.quiet] at h; rw [h]
theorem State.quiet.enWrite : t.par.enWrite = s.par.enWrite := by rw [State.quiet] at h; rw [h]
theorem State.quiet.buffered : t.par.buffered = s.par.buffered := by rw [State.quiet] at h; rw [h]

theorem State.quiet.lane (l : Nat) : t.lane l = s.lane l := by unfold State.lane; rw [h.lanes]
theorem State.quiet.trib (k : Nat) : t.trib k = s.trib k := by unfold State.trib; rw [h.tribs]
theorem State.quiet.dune (d : Nat) : t.dune d = s.dune d := by unfold State.dune; rw [h.sw]
theorem State.quiet.group (g : Nat) : t.group g = s.group g := by unfold State.group; rw [h.prot]
theorem State.quiet.refIn (i : Nat) : t.refIn i = s.refIn i := by unfold State.refIn; rw [h.tim]
theorem State.quiet.ppsIn (i : Nat) : t.ppsIn i = s.ppsIn i := by unfold State.ppsIn; rw [h.tim]
theorem State.quiet.cut (d : Nat) : t.cut d = s.cut d := by unfold State.cut; rw [h.obs]
theorem State.quiet.domain (q : Nat) : t.domain q = s.domain q := by unfold State.domain; rw [h.pow]
theorem State.quiet.cur (n : Pn) (o : Nat) : t.cur n o = s.cur n o := by unfold State.cur; rw [h.vals]
theorem State.quiet.eff (n : Pn) (o : Nat) : t.eff n o = s.eff n o := by unfold State.eff; rw [h.late, h.cur]
theorem State.quiet.egrB : t.egrB = s.egrB := by unfold State.egrB; rw [h.sw]
theorem State.quiet.shadow : t.shadow = s.shadow := by unfold State.shadow; rw [h.sw]
theorem State.quiet.tq : t.tq = s.tq := by unfold State.tq State.ppsIn; rw [h.clk, h.tim]

end

/-! ### What telling leaves -/

/-- Of the telemetry, what counting, reporting and journalling do not write: the alarm table, the words last reported, filters,
reservations, the programming of the counters, and what the lifetime records keep beside their accumulators. -/
def Log.told (l k : Log) : Prop :=
  k = { l with
    eseq := k.eseq
    queue := k.queue
    folds := k.folds
    drops := k.drops
    jbuf := k.jbuf
    jseq := k.jseq
    jlink := k.jlink
    jfull := k.jfull
    jheld := k.jheld
    jcoal := k.jcoal
    jceil := k.jceil
    perfVal := k.perfVal
    life := k.life }

/-- t differs from s at most by counting, reporting and journalling. -/
def State.tells (s t : State) : Prop := s.quiet t ∧ t.host = s.host ∧ s.log.told t.log

theorem State.tells.quiet {s t : State} (h : s.tells t) : s.quiet t := h.1
theorem State.tells.host {s t : State} (h : s.tells t) : t.host = s.host := h.2.1
theorem State.tells.log {s t : State} (h : s.tells t) : s.log.told t.log := h.2.2

theorem Log.told_refl (l : Log) : l.told l := rfl

theorem Log.told.trans {l k m : Log} (h : l.told k) (h' : k.told m) : l.told m := by
  unfold Log.told at *; rw [h', h]

theorem tells_refl (s : State) : s.tells s := ⟨rfl, rfl, rfl⟩

theorem State.tells.trans {s t u : State} (h : s.tells t) (k : t.tells u) : s.tells u :=
  ⟨h.quiet.trans k.quiet, k.host.trans h.host, h.log.trans k.log⟩

theorem tells_ite {s a b : State} (p : Prop) [Decidable p] (h : s.tells a) (k : s.tells b) : s.tells (if p then a else b) := by
  split <;> assumption

theorem tells_foldl {α : Type} (f : State → α → State) (h : ∀ (s : State) (a : α), s.tells (f s a)) (l : List α) (s : State) :
    s.tells (l.foldl f s) := by
  induction l generalizing s with
  | nil => exact tells_refl s
  | cons a r ih => exact (h s a).trans (ih _)

theorem tells_bump (s : State) (n : Pn) (o k : Nat) : s.tells (s.bump n o k) := by
  unfold State.bump; split <;> exact ⟨rfl, rfl, rfl⟩

theorem tells_perfBump (s : State) (i k : Nat) : s.tells (s.perfBump i k).1 := ⟨rfl, rfl, rfl⟩

theorem tells_pushEvent (s : State) (cls sev : Nat) (b : Bool) (code obj data : Nat) (p : List Byte) :
    s.tells (s.pushEvent cls sev b code obj data p) := ⟨rfl, rfl, rfl⟩

theorem tells_perfQuiet (s : State) (ev k : Nat) : s.tells (s.perfQuiet ev k) := by
  refine tells_foldl _ (fun s a => ?_) _ _
  split
  · exact tells_perfBump ..
  · exact tells_refl _

theorem tells_dropEvent (s : State) (cls code : Nat) : s.tells (s.dropEvent cls code) := by
  unfold State.dropEvent; dsimp only
  split
  all_goals
    refine State.tells.trans (State.tells.trans ?_ (tells_perfQuiet _ 7 1)) (tells_bump ..)
    exact ⟨rfl, rfl, rfl⟩

theorem tells_dropSummary (s : State) (cls : Nat) : s.tells (s.dropSummary cls) := by
  unfold State.dropSummary; dsimp only; split <;> exact ⟨rfl, rfl, rfl⟩

theorem tells_softEvent (s : State) (cls code obj data : Nat) : s.tells (s.softEvent cls code obj data) :=
  tells_ite _ (tells_bump ..)
    (tells_ite _ ((tells_dropSummary s cls).trans (tells_pushEvent ..)) (tells_dropEvent s cls code))

theorem tells_info (s : State) (code obj data : Nat) : s.tells (s.info code obj data) := tells_softEvent ..

theorem tells_foldEvent (s : State) (code obj : Nat) : s.tells (s.foldEvent code obj) := by
  unfold State.foldEvent; split
  · exact ⟨rfl, rfl, rfl⟩
  · split
    · exact ⟨rfl, rfl, rfl⟩
    · split <;> exact ⟨rfl, rfl, rfl⟩

theorem tells_alarmEvent (s : State) (sev : Nat) (a b : Bool) (code obj data : Nat) (p : List Byte) :
    s.tells (s.alarmEvent sev a b code obj data p) := by
  unfold State.alarmEvent; split
  · exact tells_pushEvent ..
  · split
    · refine State.tells.trans ?_ (tells_bump ..)
      exact ⟨rfl, rfl, rfl⟩
    · exact tells_foldEvent ..

theorem tells_perf_go (ev i k : Nat) (cs : List (Nat × PerfCtr)) (s : State) : s.tells (State.perf.go ev i k cs s) := by
  induction cs generalizing s with
  | nil => exact tells_refl s
  | cons c r ih =>
    obtain ⟨j, c⟩ := c
    unfold State.perf.go; dsimp only; split
    · split
      · exact (tells_perfBump ..).trans (ih _)
      · split
        · exact ((tells_perfBump s j k).trans (tells_perfBump (s.perfBump j k).1 (j + 1) (s.perfBump j k).2)).trans
            ((tells_ite _ (tells_refl _) (tells_softEvent _ 2 0x3001 (j + 1) 0)).trans (ih _))
        · exact ((tells_perfBump ..).trans (tells_softEvent ..)).trans (ih _)
    · exact ih _

theorem tells_perf (s : State) (ev i k : Nat) : s.tells (s.perf ev i k) := tells_perf_go ..

theorem tells_lifeAdd (s : State) (a b k : Nat) : s.tells (s.lifeAdd a b k) := ⟨rfl, rfl, rfl⟩

theorem tells_jupdate (s : State) : s.tells s.jupdate := ⟨rfl, rfl, rfl⟩

theorem tells_pushRec (s : State) (own : Bool) (a b c d e f g h i j : Nat) : s.tells (s.pushRec own a b c d e f g h i j) := by
  unfold State.pushRec; dsimp only
  refine State.tells.trans ?_ (tells_jupdate _)
  refine State.tells.trans ?_ (tells_perf _ 5 0 1)
  refine State.tells.trans ?_ (tells_bump _ .logPmJournalRecords 0 1)
  split <;> exact ⟨rfl, rfl, rfl⟩

theorem tells_journalCmd (s : State) (c : CmdRef) (k o n v : Nat) : s.tells (s.journalCmd c k o n v) := tells_pushRec ..

theorem tells_journalAll (c : CmdRef) (recs : List (Nat × Nat × Nat)) (s : State) : s.tells (s.journalAll c recs) := by
  induction recs generalizing s with
  | nil => exact tells_refl s
  | cons x r ih => obtain ⟨o, n, v⟩ := x; exact (tells_journalCmd ..).trans (ih _)

theorem tells_coalesce (s : State) (code k : Nat) : s.tells (s.coalesce code k) := by
  unfold State.coalesce
  refine State.tells.trans ?_ (tells_bump ..)
  exact ⟨rfl, rfl, rfl⟩

theorem tells_journalAuto (s : State) (code o v : Nat) (c : CmdRef) : s.tells (s.journalAuto code o v c) :=
  tells_ite _ (tells_pushRec ..) (tells_coalesce ..)

theorem tells_journalSecurity (s : State) (a b c d e f g : Nat) : s.tells (s.journalSecurity a b c d e f g) :=
  tells_ite _ (tells_pushRec ..) (tells_bump ..)

theorem tells_journalSummary (s : State) (code o n v : Nat) : s.tells (s.journalSummary code o n v) := tells_pushRec ..

theorem tells_journalRestart (s : State) (o v : Nat) : s.tells (s.journalRestart o v) := by
  unfold State.journalRestart; dsimp only
  have hheld : s.tells { s with log := { s.log with jheld := (0, 0) } } := ⟨rfl, rfl, rfl⟩
  split
  · exact hheld.trans (tells_pushRec ..)
  · exact tells_ite _ (hheld.trans (tells_pushRec ..)) ⟨rfl, rfl, rfl⟩

/-- Signalling, accepting and completing write nothing of the telemetry but what telling writes. -/
theorem told_interrupt (s : State) (v : Nat) : (s.interrupt v).log = s.log := by
  unfold State.interrupt State.signal; dsimp only
  split
  · split <;> rfl
  · split <;> rfl

theorem log_complete (s : State) (c : CmdRef) (st r d : Nat) (b : Bool) : (s.complete c st r d b).log = s.log := by
  unfold State.complete; dsimp only
  split
  · unfold State.completePair; dsimp only
    split
    · exact told_interrupt ..
    · rfl
  · split
    · unfold State.completeMail; dsimp only; split <;> rfl
    · split <;> rfl

theorem told_accepted (s : State) (c : CmdRef) (q : Nat) : s.log.told (s.accepted c q).log := by
  unfold State.accepted; dsimp only
  split
  · split
    · exact (tells_softEvent _ 3 0x4001 c.cmdId (c.code + c.ring * 65536)).log
    · exact Log.told_refl _
  · split
    · exact (tells_softEvent _ 3 0x4001 c.cmdId (c.code + c.ring * 65536)).log
    · exact Log.told_refl _

end Sys2Proof.Machine
end

section
/-!
PROOFS. After power-on (O55): POR clears all but what R491 and R493 keep, and the boot adds its RESTART record alone.
-/
namespace Sys2Proof.Machine

/-- The state that POR leaves, as the RESTART record is written to it (R491, R493). -/
def State.booted (s : State) (x : Straps) : State :=
  let u := ({ s with dev := { s.dev with fatalHeld := none, pinWaiting := false, rootLost := false, supplies := true } }.latch x).cleared true
  { u with
    dev := { u.dev with mode := .boot, jcc := .bootRom, resetKind := 1, resetCause := 0, tmr := u.chosenTmr } }

theorem exec_powerOn (x : Straps) (s : State) : ∃ k o v, exec (.powerOn x) s = .next (((s.booted x).lifeAdd accResets k 1).journalRestart o v) :=
  ⟨_, _, _, rfl⟩

theorem tells_powerOn {x : Straps} {s t : State} (h : exec (.powerOn x) s = .next t) : (s.booted x).tells t := by
  obtain ⟨k, o, v, hx⟩ := exec_powerOn x s
  obtain rfl := Host.Outcome.next.inj (hx.symm.trans h)
  exact (tells_lifeAdd ..).trans (tells_journalRestart ..)

/-- Settles O55: what POR leaves stands in the state that the boot finds, and the boot only tells of the restart. -/
theorem afterPowerOn : Obligations.AfterPowerOn := by
  refine ⟨?_, rfl, rfl, rfl⟩
  rintro t (rfl | ⟨x, s, ht⟩)
  · exact ⟨rfl, rfl, fun h => absurd rfl h, rfl, rfl, rfl, rfl, rfl, rfl, rfl, rfl, rfl, rfl, rfl, rfl, rfl, rfl, rfl, rfl, rfl, rfl,
      rfl, rfl, rfl, rfl, rfl, rfl, rfl⟩
  · have h := tells_powerOn ht
    have hq := h.quiet
    have hlog : (s.booted x).log.told t.log := h.log
    rw [Log.told] at hlog
    rw [hq.dev, hq.clk, hq.tq, hq.tim, hq.sw, hq.com, hq.prot, hq.tribs, hq.lanes, hq.obs, hq.pow, h.host, hq.vals, hq.prev, hlog]
    exact ⟨rfl, rfl, fun _ => rfl, rfl, rfl, rfl, rfl, rfl, rfl, rfl, rfl, rfl, rfl, rfl, rfl, rfl, rfl, rfl, rfl, rfl, rfl,
      rfl, rfl, rfl, rfl, rfl, rfl, rfl⟩

end Sys2Proof.Machine
end

section
/-!
PROOFS. What a completed command leaves, and how its checks pass.
-/
namespace Sys2Proof.Machine

theorem guarded_pass {cs : List (Bool × Nat × Nat)} (r : Reply) (h : ∀ x ∈ cs, x.1 = false) : guarded cs r = r := by
  induction cs with
  | nil => rfl
  | cons x rest ih =>
    obtain ⟨b, st, d⟩ := x
    obtain rfl : b = false := h (b, st, d) (List.mem_cons_self ..)
    exact ih fun y hy => h y (List.mem_cons_of_mem _ hy)

theorem checkItems_pass {α : Type} {l : List α} {bad : α → Bool} (st : Nat) (r : Reply) (h : ∀ x ∈ l, bad x = false) :
    checkItems l bad st r = r := by
  unfold checkItems
  rw [List.findIdx?_eq_none_iff.mpr h]

/-- The checks of a buffer pass where it is long enough and the device may reach it. -/
theorem bufChecks_pass {s : State} {b : Buf} {need : Nat} {write : Bool} (hlen : need ≤ b.len) (hpos : 0 < need)
    (hok : (if write then s.bufWrite b need else s.bufRead b need) = true) : ∀ x ∈ s.bufChecks b need write, x.1 = false := by
  have hne : b.len ≠ 0 := by omega
  have hlt : ¬ b.len < need := by omega
  simp [State.bufChecks, hne, hlt, hok]

/-! ### What is kept after a command's effect -/

section
variable {h k : HostIf} (hk : h.kept k)
include hk

theorem HostIf.kept.sessions : k.sessions = h.sessions := by rw [HostIf.kept] at hk; rw [hk]
theorem HostIf.kept.evt : k.evt = h.evt := by rw [HostIf.kept] at hk; rw [hk]
theorem HostIf.kept.jrn : k.jrn = h.jrn := by rw [HostIf.kept] at hk; rw [hk]
theorem HostIf.kept.fac : k.fac = h.fac := by rw [HostIf.kept] at hk; rw [hk]
theorem HostIf.kept.dmaOn : k.dmaOn = h.dmaOn := by rw [HostIf.kept] at hk; rw [hk]
theorem HostIf.kept.unlocked : k.unlocked = h.unlocked := by rw [HostIf.kept] at hk; rw [hk]
theorem HostIf.kept.linkUp : k.linkUp = h.linkUp := by rw [HostIf.kept] at hk; rw [hk]

end

section
variable {t u : State} {e : Entry} (h : t.after u e)
include h

theorem State.after.quiet : t.quiet u := h.1
theorem State.after.kept : t.host.kept u.host := h.2.1
theorem State.after.ringPair {p : Nat} (hp : p ≠ e.ring) : u.ringPair p = t.ringPair p := h.2.2.1 p hp
theorem State.after.mailbox {m : Nat} (hm : m + 16 ≠ e.ring) : u.mailbox m = t.mailbox m := h.2.2.2.1 m hm
theorem State.after.mem (h16 : 16 ≤ e.ring) : u.host.mem = t.host.mem := h.2.2.2.2 h16
theorem State.after.session (k : Nat) : u.session k = t.session k := by
  unfold State.session; rw [h.kept.sessions]
theorem State.after.findSession (k : Nat) : u.findSession k = t.findSession k := by
  unfold State.findSession; rw [h.session]

end

/-! ### A place is kept by what does not write it -/

/-- Where a ring pair brought the command, the pair is as serving left it; where a mailbox did, the mailbox. -/
def State.ownPlaceKept (s t : State) (e : Entry) : Prop :=
  (e.ring < 16 → t.ringPair e.ring = s.ringPair e.ring) ∧
    (16 ≤ e.ring → (t.mailbox (e.ring - 16)).state = (s.mailbox (e.ring - 16)).state)

theorem ringPair_of_host {s t : State} (h : t.host = s.host) (p : Nat) : t.ringPair p = s.ringPair p := by
  unfold State.ringPair; rw [h]

theorem mailbox_of_host {s t : State} (h : t.host = s.host) (m : Nat) : t.mailbox m = s.mailbox m := by
  unfold State.mailbox; rw [h]

theorem journalled_host (t : State) (c : CmdRef) (q : Nat) (recs : List (Nat × Nat × Nat)) :
    ((t.journalAll c recs).accepted c q).host =
      (if c.ring < 16 then t.setRingPair c.ring { t.ringPair c.ring with lastSeq := q } else t).host := by
  rw [accepted_host]
  split
  · unfold State.setRingPair State.ringPair; simp only [host_journalAll]
  · exact host_journalAll ..

/-- What journalling, accepting and completing leave of the effect t of a command. -/
theorem journalled_after (t : State) (c : CmdRef) (e : Entry) (q r : Nat) (recs : List (Nat × Nat × Nat)) (hc : c.ring = e.ring) :
    t.after (((t.journalAll c recs).accepted c q).complete c 0 r 0 false) e := by
  have hh := journalled_host t c q recs
  rw [hc] at hh
  refine ⟨(quiet_journalAll ..).trans ((quiet_accepted ..).trans (quiet_complete ..)), ?_, fun p hp => ?_, fun m hm => ?_, fun h16 => ?_⟩
  · refine HostIf.kept.trans ?_ (complete_kept ..)
    rw [hh]; split <;> rfl
  · rw [complete_ringPair _ _ _ _ _ _ (hc ▸ hp), ringPair_of_host hh]
    split
    · exact ringPair_setRingPair_other _ _ _ hp
    · rfl
  · rw [complete_mailbox _ _ _ _ _ _ (hc ▸ hm), mailbox_of_host hh]
    split <;> rfl
  · rw [complete_mem _ _ _ _ _ _ (hc ▸ h16), hh, if_neg (by omega)]

/-- The completion of a command whose own place is kept stands where R385 puts it. -/
theorem journalled_posted {s t : State} {d : CmdDesc} {e : Entry} {r : Nat} {recs : List (Nat × Nat × Nat)} (ha : s.admits d e = true)
    (hk : (s.served d e).ownPlaceKept t e) :
    s.posted (((t.journalAll (s.servedRef d e) recs).accepted (s.servedRef d e) e.submitSeq).complete (s.servedRef d e) 0 r 0 false)
      e r := by
  have hready := admits_ready ha
  have hh := journalled_host t (s.servedRef d e) e.submitSeq recs
  refine complete_posted s _ e (s.servedRef d e) r rfl rfl (ready_ring hready) (fun h16 => ?_) fun h16 h24 => ?_
  · have hpair := hk.1 h16
    have hset := ringPair_of_host hh e.ring
    rw [if_pos (show (s.servedRef d e).ring < 16 from h16)] at hset
    rw [hset, show (s.servedRef d e).ring = e.ring from rfl, ringPair_setRingPair, hpair, served_ringPair s d e h16]
    simp only [State.ready, h16, if_true, Bool.and_eq_true] at hready
    exact ⟨hready.1.1, rfl, rfl, rfl, rfl, rfl⟩
  · have hn : ¬ e.ring < 16 := by omega
    rw [mailbox_of_host hh, if_neg (show ¬ (s.servedRef d e).ring < 16 from hn), hk.2 h16, served_mailbox s d e hn h24]
    simp only [State.ready, hn, h24, if_true, if_false, Bool.and_eq_true, decide_eq_true_eq] at hready
    exact hready.1

theorem placeKept_refl (s : State) (e : Entry) : s.placeKept s e := ⟨rfl, rfl⟩

theorem placeKept_of_host {s t : State} (e : Entry) (h : t.host = s.host) : s.placeKept t e := by
  unfold State.placeKept State.ringPair State.mailbox; rw [h]; exact ⟨rfl, rfl⟩

theorem placeKept_hostWrite (s : State) (e : Entry) (a : Nat) (bs : List Byte) : s.placeKept (s.hostWrite a bs) e := ⟨rfl, rfl⟩

theorem placeKept_setSession (s : State) (e : Entry) (k : Nat) (x : Session) : s.placeKept (s.setSession k x) e := ⟨rfl, rfl⟩

theorem State.placeKept.trans {s t u : State} {e : Entry} (h : s.placeKept t e) (k : t.placeKept u e) : s.placeKept u e :=
  ⟨k.1.trans h.1, k.2.trans h.2⟩

end Sys2Proof.Machine
end

section
/-!
PROOFS. Sessions and ring pairs (O1 to O3).
-/
namespace Sys2Proof.Machine

/-! ### Response data -/

theorem answer_placeKept (s : State) (e : Entry) (r a : Nat) (bs : List Byte) : s.placeKept (s.answer r a bs) e := by
  unfold State.answer State.respond
  split
  · split
    · refine ⟨rfl, ?_⟩
      by_cases hm : e.ring - 16 = r - 16
      · rw [hm, mailbox_setMailbox]
      · rw [mailbox_setMailbox_other _ _ _ hm]
    · split <;> exact ⟨rfl, rfl⟩
  · exact ⟨rfl, rfl⟩

theorem answer_session (s : State) (r a : Nat) (bs : List Byte) (k : Nat) : (s.answer r a bs).session k = s.session k := by
  unfold State.answer State.respond
  split
  · split
    · rfl
    · split <;> rfl
  · rfl

/-! ### SESSION.HELLO and SESSION.PROVE -/

/-- The suspended session x under resumption (R398). -/
def Session.resumedBy (x : Session) (s : State) (nonce : List Byte) (respAddr : Nat) : Session :=
  { x with resume := true, nonceD := leBytes 32 s.draw, nonceH := nonce, respAddr := respAddr, hello := s.clk.tick }

/-- Session x once its PROVE has succeeded (R395, R398). -/
def Session.openedBy (x : Session) (s : State) (path : Nat) (key : BitVec 384) : Session :=
  { x with
    state := .opened
    path := path
    opened := s.clk.rsn
    last := if x.state = .suspended then x.last else 0
    lastTick := s.clk.tick
    resume := false
    initial := x.role == 3 && s.sec.adminInitial
    key := key }

/-- What a HELLO answers for handle h (R395). -/
def helloAnswer (s : State) (h : Nat) : List Byte := leBytes 32 s.draw ++ leBytes 8 Config.serial.toNat ++ leBytes 4 h

/-- The provisional slot of a HELLO without RESUME (R395). -/
def Session.provisionalAs (k role path : Nat) (s : State) (nonce : List Byte) (respAddr : Nat) : Session := {
  state := .provisional
  handle := k + 8 * (1 + s.drawn.draw % (2 ^ 29 - 1))
  role := role
  path := path
  nonceD := leBytes 32 s.draw
  nonceH := nonce
  respAddr := respAddr
  hello := s.clk.tick }

theorem helloBody_fresh {s : State} {c : CmdRef} {role respAddr k : Nat} {nonce : List Byte}
    (hok : ∀ x ∈ s.helloChecks c role 0 0 respAddr, x.1 = false) (hslot : s.freeSlot = some k) :
    helloBody role 0 0 nonce respAddr c s = .done ((s.drawn.drawn.setSession k (.provisionalAs k role c.path s nonce
      respAddr)).answer c.ring respAddr (helloAnswer s (k + 8 * (1 + s.drawn.draw % (2 ^ 29 - 1)))))
      (k + 8 * (1 + s.drawn.draw % (2 ^ 29 - 1))) := by
  have hslot' : s.drawn.freeSlot = some k := hslot
  unfold helloBody
  rw [guarded_pass _ hok]
  simp only [hslot', Option.getD_some, Nat.zero_ne_one, if_false]
  rfl

theorem helloBody_resume {s : State} {c : CmdRef} {role handle respAddr : Nat} {nonce : List Byte}
    (hok : ∀ x ∈ s.helloChecks c role 1 handle respAddr, x.1 = false) :
    helloBody role 1 handle nonce respAddr c s = .done ((s.drawn.drawn.setSession (handle % 8)
      ((s.session (handle % 8)).resumedBy s nonce respAddr)).answer c.ring respAddr (helloAnswer s handle)) handle :=
  guarded_pass _ hok

/-- What a command that writes one session slot and its response leaves of the slots. -/
theorem sessions_after {s t u : State} {e : Entry} {k r a : Nat} {x : Session} {bs : List Byte} (h : t.after u e)
    (ht : t.host = ((s.setSession k x).answer r a bs).host) : u.session k = x ∧ ∀ j, j ≠ k → u.session j = s.session j := by
  have hu : ∀ j, u.session j = (s.setSession k x).session j := fun j => by
    rw [h.session, ← answer_session (s.setSession k x) r a bs]; unfold State.session; rw [ht]
  exact ⟨by rw [hu, session_setSession], fun j hj => by rw [hu, session_setSession_other _ _ _ hj]⟩

theorem answered_placeKept (s : State) (e : Entry) (k r a : Nat) (x : Session) (bs : List Byte) :
    s.placeKept ((s.setSession k x).answer r a bs) e :=
  (placeKept_setSession s e k x).trans (answer_placeKept ..)

theorem proveBody_opens {s : State} {c : CmdRef} {handle : Nat} {tag key : BitVec 384} {x : Session} (hx : s.proving handle = some x)
    (hkey : s.roleKey x.role = some key) (hbuf : x.respAddr = 0 ∨ s.bufWrite ⟨x.respAddr, 48, 0⟩ 48 = true)
    (htag : tag = Config.hmac384 key (proofMsg tagHost x.role c.path x.nonceD x.nonceH)) :
    proveBody handle tag c s = .done (((s.setSession (handle % 8) (x.openedBy s c.path key)).answer c.ring x.respAddr
      (beBytes 48 (Config.hmac384 key (proofMsg tagDevice x.role c.path x.nonceD x.nonceH)).toNat)).journalSecurity c.path x.role x.handle c.cmdId c.code 0 x.handle) := by
  have hbuf' : ¬(x.respAddr ≠ 0 ∧ s.bufWrite ⟨x.respAddr, 48, 0⟩ 48 = false) := by
    rintro ⟨hne, hno⟩
    rcases hbuf with h | h
    · exact hne h
    · rw [h] at hno; cases hno
  simp only [proveBody, hx, hkey, Option.getD_some, if_neg hbuf', htag, ne_eq, not_true_eq_false, if_false]
  rfl

theorem helloChecks_pass {s : State} {c : CmdRef} {role resume handle respAddr : Nat} (hlo : 1 ≤ role) (hhi : role ≤ 4)
    (hbuf : respAddr = 0 ∨ s.bufWrite ⟨respAddr, 44, 0⟩ 44 = true) (hbar : s.helloBarred c.path = false)
    (hsvc : role = 4 → s.dev.serviceEn = true) (hkey : (s.roleKey role).isSome = true)
    (hkind : (resume = 0 ∧ handle = 0 ∧ s.freeSlot.isSome = true) ∨ (resume = 1 ∧ s.resumable handle role = true)) :
    ∀ x ∈ s.helloChecks c role resume handle respAddr, x.1 = false := by
  have hrole : ¬(role < 1 ∨ 4 < role ∨ 1 < resume) := by omega
  have hbuf' : (respAddr != 0 && !s.bufWrite ⟨respAddr, 44, 0⟩ 44) = false := by rcases hbuf with h | h <;> simp [h]
  have hsvc' : (role == 4 && !s.dev.serviceEn) = false := by
    by_cases h : role = 4
    · simp [hsvc h]
    · simp [h]
  have hkey' : (s.roleKey role).isNone = false := by simpa using hkey
  unfold State.helloChecks
  simp only [hrole, hbuf', hbar, hsvc', hkey', decide_false]
  rcases hkind with ⟨rfl, rfl, hslot⟩ | ⟨rfl, hres⟩
  · simpa using hslot
  · simp [hres]

/-- Settles O1, by what each of the three bodies answers where its checks pass. -/
theorem sessionOpens : Obligations.SessionOpens := by
  refine ⟨fun e role respAddr k nonce => ?_, fun e role handle respAddr nonce => ?_, fun e tag x key => ?_⟩
  · refine completes_of_done (body := helloBody role 0 0 nonce respAddr) (fun _ => rfl) fun s c hc _ hp => ?_
    obtain ⟨hlo, hhi, hbuf, hbar, hsvc, hkey, hslot⟩ := hp
    obtain ⟨-, hpath, -⟩ := hc
    have hbody := helloBody_fresh (nonce := nonce)
      (helloChecks_pass hlo hhi hbuf (hpath ▸ hbar) hsvc hkey (.inl ⟨rfl, rfl, hslot ▸ rfl⟩)) hslot
    rw [hpath] at hbody
    exact ⟨_, _, hbody, rfl, answered_placeKept s.drawn.drawn e .., fun u hu => sessions_after (s := s.drawn.drawn) hu rfl⟩
  · refine completes_of_done (body := helloBody role 1 handle nonce respAddr) (fun _ => rfl) fun s c hc _ hp => ?_
    obtain ⟨hlo, hhi, hbuf, hbar, hsvc, hkey, hres⟩ := hp
    obtain ⟨-, hpath, -⟩ := hc
    have hbody := helloBody_resume (nonce := nonce)
      (helloChecks_pass hlo hhi hbuf (hpath ▸ hbar) hsvc hkey (.inr ⟨rfl, hres⟩))
    exact ⟨_, _, hbody, rfl, answered_placeKept s.drawn.drawn e .., fun u hu => sessions_after (s := s.drawn.drawn) hu rfl⟩
  · refine completes_of_done (body := proveBody e.session tag) (fun _ => rfl) fun s c hc _ hp => ?_
    obtain ⟨hx, hkey, hbuf, htag⟩ := hp
    obtain ⟨-, hpath, -⟩ := hc
    have hbody := proveBody_opens hx hkey hbuf (hpath ▸ htag)
    rw [hpath] at hbody
    exact ⟨_, _, hbody, rfl, (answered_placeKept s e ..).trans (placeKept_of_host e (host_journalSecurity ..)), fun u hu =>
      sessions_after hu (host_journalSecurity ..)⟩

/-! ### SESSION.CLOSE and SESSION.LIST -/

theorem host_forget (s : State) (p : CmdRef → Bool) : (s.forget p).host = s.host := rfl

theorem freeMail_mailbox {s : State} {p : Nat → Mailbox → Bool} {m : Nat} (hm : p m (s.mailbox m) = false) :
    (s.freeMail p).mailbox m = s.mailbox m := by
  unfold State.mailbox State.freeMail at *
  rw [Table.get_mapVals]
  · refine if_neg fun h => ?_
    rw [hm] at h; exact Bool.false_ne_true h.2.2
  · exact if_neg (by simp)

/-- The mailboxes that hold a command of the session in slot k, but for the one that brought the closing command c (R397). -/
def State.closedMail (s : State) (k : Nat) (c : CmdRef) (j : Nat) (m : Mailbox) : Bool :=
  16 + j != c.ring && Entry.session ⟨16 + j, m.cmd⟩ == (s.session k).handle

/-- The host interface after a session has closed: its slot is free, and the mailboxes of its commands (R397). -/
theorem closeSession_host (s : State) (k : Nat) (c : CmdRef) :
    (s.closeSession k c).host = ((s.freeMail (s.closedMail k c)).setSession k {}).host := by
  have hjournal := host_journalSecurity (s.freeMail (s.closedMail k c)) c.path c.role c.session c.cmdId 0x0103 0 (s.session k).handle
  unfold State.closeSession State.setSession
  dsimp only
  split
  all_goals
    simp only [host_forget]
    exact congrArg (fun h => { h with sessions := Table.set {} h.sessions k {} }) hjournal

/-- The staged delta is given up by the session that closes, and by no other (R399). -/
theorem closeSession_com (s : State) (k : Nat) (c : CmdRef) :
    (s.com.owner = (s.session k).handle → (s.closeSession k c).com.owner = 0) ∧ (s.closeSession k c).com.staged = s.com.staged := by
  have hcom := (quiet_journalSecurity (s.freeMail (s.closedMail k c)) c.path c.role c.session c.cmdId 0x0103 0
    (s.session k).handle).com
  have howner := congrArg Commit.owner hcom
  have hstaged := congrArg Commit.staged hcom
  unfold State.closeSession
  dsimp only
  split
  · exact ⟨fun _ => rfl, hstaged⟩
  · rename_i hne
    exact ⟨fun ho => absurd (howner.trans ho) hne, hstaged⟩

theorem reapRings_ringPair (s : State) (p : Nat) :
    s.reapRings.ringPair p = if (s.ringPair p).on && (s.findSession (s.ringPair p).owner).isNone then {} else s.ringPair p := by
  unfold State.reapRings State.ringPair
  exact Table.get_mapVals _ _ _ _ rfl

theorem findSession_none {s : State} {h : Nat} (hfree : s.session (h % 8) = {}) : s.findSession h = none := by
  unfold State.findSession
  rw [hfree]
  exact if_neg fun hx => hx.1 hx.2.1.symm

/-- The handle of a session that is found is the one by which it is found. -/
theorem findSession_handle {s : State} {h : Nat} {x : Session} (hx : s.findSession h = some x) :
    (s.session (h % 8)).handle = h ∧ x = s.session (h % 8) ∧ h ≠ 0 := by
  unfold State.findSession at hx
  simp only [Option.ite_none_right_eq_some, Option.some.injEq] at hx
  exact ⟨hx.1.2.1, hx.2.symm, hx.1.1⟩

/-- A pair whose owner has no session is deleted; no pair of the owner is left. -/
theorem reapRings_none {s : State} {h : Nat} (hnone : s.findSession h = none) (p : Nat) :
    ((s.ringPair p).on = true → (s.ringPair p).owner = h → s.reapRings.ringPair p = {}) ∧
      ((s.reapRings.ringPair p).on = true → (s.reapRings.ringPair p).owner ≠ h) := by
  rw [reapRings_ringPair]
  refine ⟨fun hon ho => ?_, ?_⟩
  · rw [if_pos (by simp [hon, ho, hnone])]
  · split
    · intro hon; cases hon
    · rename_i hkeep
      intro hon ho
      exact hkeep (by simp [hon, ho, hnone])

/-- A posted completion stays where the pairs of ended sessions are deleted after it. -/
theorem posted_reapRings {s t : State} {e : Entry} {r : Nat} (h : s.posted t e r) : s.posted t.reapRings e r := by
  unfold State.posted at *
  split at h
  · rw [if_pos (by assumption)]
    refine ⟨h.1, fun hon => ?_⟩
    rw [reapRings_ringPair] at hon ⊢
    split at hon
    · cases hon
    · rw [if_neg (by assumption)]; exact h.2 hon
  · rw [if_neg (by assumption)]; exact h

/-- A command after which the pairs of ended sessions are deleted completes as it does before that. -/
theorem completes_reapAfter {i : Instr} {e : Entry} {d : CmdDesc} {n : Nat} {pre : State → Prop} {res : State → Nat}
    {post : State → State → Prop} {body : CmdRef → State → Reply} (hx : ∀ s, exec i s = reapAfter (serve (d.of i) e s body))
    (hb : ∀ s c, c.of s e → pre s →
      ∃ t recs, body c s = .done t (res s) recs ∧ recs.length = n ∧ s.ownPlaceKept t e ∧ ∀ u, t.after u e → post s u.reapRings) :
    completes i e d n pre res post := by
  intro s ha hj hp
  obtain ⟨t, recs, hbody, rfl, hkept, hpost⟩ := hb (s.served d e) (s.servedRef d e) ⟨rfl, rfl, rfl, rfl, servedRef_role s d e⟩ hp
  have hj : (s.served (d.of i) e).journalRoom recs.length = true := hj
  have hbody : body (s.servedRef (d.of i) e) (s.served (d.of i) e) = _ := hbody
  refine ⟨_, ?_, posted_reapRings (journalled_posted ha hkept), hpost _ (journalled_after t _ e e.submitSeq (res (s.served d e)) recs rfl)⟩
  rw [hx, serve_admits (d.of i) e s body ha, hbody]
  simp only [State.finish, hj, if_true]
  rfl

/-- The mailbox or the pair that brought the closing command keeps its place (R397). -/
theorem closeSession_ownPlaceKept (s : State) (k : Nat) (c : CmdRef) (e : Entry) (hring : c.ring = e.ring) :
    s.ownPlaceKept (s.closeSession k c) e := by
  refine ⟨fun _ => ?_, fun h16 => congrArg Mailbox.state ?_⟩
  · unfold State.ringPair; rw [closeSession_host]; rfl
  · have hmail : (s.closeSession k c).mailbox (e.ring - 16) = (s.freeMail (s.closedMail k c)).mailbox (e.ring - 16) := by
      unfold State.mailbox; rw [closeSession_host]; rfl
    have hback : 16 + (e.ring - 16) = c.ring := by omega
    exact hmail.trans (freeMail_mailbox (by simp [State.closedMail, hback]))

/-- A session closes, and the pairs of ended sessions go with it (R397). -/
theorem closed_after {s u : State} {k : Nat} {c : CmdRef} (hsess : ∀ j, u.session j = (s.closeSession k c).session j) :
    u.session k = {} ∧ (∀ h, h % 8 = k → u.findSession h = none) ∧ ∀ j, j ≠ k → u.session j = s.session j := by
  have hclose (j : Nat) : (s.closeSession k c).session j = (s.setSession k {}).session j := by
    unfold State.session; rw [closeSession_host]; rfl
  have hfree : u.session k = {} := by rw [hsess, hclose, session_setSession]
  exact ⟨hfree, fun h hk => findSession_none (hk ▸ hfree), fun j hj => by rw [hsess, hclose, session_setSession_other _ _ _ hj]⟩

theorem closeBody_closes {s : State} {c : CmdRef} {e : Entry} {handle h : Nat} {x : Session} (hc : c.of s e)
    (hh : h = if handle = 0 then e.session else handle) (hx : s.findSession h = some x)
    (hmay : h = e.session ∨ ∃ y, s.findSession e.session = some y ∧ 3 ≤ y.role) :
    closeBody handle c s = .done (s.closeSession (h % 8) c) := by
  obtain ⟨-, -, hsess, -, hrole⟩ := hc
  rw [← hsess] at hh hmay hrole
  unfold closeBody
  rw [← hh]
  refine guarded_pass _ ?_
  have hown : (h != c.session && decide (c.role < 3)) = false := by
    rcases hmay with rfl | ⟨y, hy, h3⟩
    · simp
    · rw [hy] at hrole
      have : ¬ c.role < 3 := by rw [hrole]; exact Nat.not_lt.mpr h3
      simp [this]
  simp [hown, hx]

theorem length_leBytes (n v : Nat) : (leBytes n v).length = n := by
  induction n generalizing v with
  | zero => rfl
  | succ n ih => exact congrArg Nat.succ (ih _)

theorem length_slotEntry (s : State) (own : Nat) (all : Bool) (k : Nat) : (s.slotEntry own all k).length = 32 := by
  unfold State.slotEntry
  dsimp only
  split <;> simp only [List.length_append, length_leBytes, List.length_replicate]

/-- The length of a list of n entries of m bytes each. -/
theorem length_flatMap_const {α : Type} {f : α → List Byte} {m : Nat} (l : List α) (h : ∀ x ∈ l, (f x).length = m) :
    (l.flatMap f).length = l.length * m := by
  rw [List.length_flatMap, List.map_congr_left h, List.map_const', List.sum_replicate, smul_eq_mul]

/-- Settles O2, by what the closed session leaves and by the bytes that the list writes. -/
theorem sessionClosesAndLists : Obligations.SessionClosesAndLists := by
  refine ⟨fun e handle h => ?_, fun e b => ?_⟩
  · refine completes_reapAfter (body := closeBody handle) (fun _ => rfl) fun s c hc hp => ?_
    obtain ⟨hh, hfound, hmay⟩ := hp
    obtain ⟨x, hx⟩ := Option.isSome_iff_exists.mp hfound
    refine ⟨_, [], closeBody_closes hc hh hx hmay, rfl, closeSession_ownPlaceKept s _ c e hc.1, fun u hu => ?_⟩
    obtain ⟨hfree, hnone, hothers⟩ := closed_after (u := u) fun j => hu.session j
    obtain ⟨howner, -⟩ := closeSession_com s (h % 8) c
    refine ⟨hfree, hnone h rfl, hothers, fun p => (reapRings_none (hnone h rfl) p).2, fun ho => ?_⟩
    have hcom : u.reapRings.com = (s.closeSession (h % 8) c).com := hu.quiet.com
    rw [hcom]
    exact howner (ho.trans (findSession_handle hx).1.symm)
  · refine completes_of_done (body := sessionListBody b) (fun _ => rfl) fun s c hc _ hp => ?_
    obtain ⟨hlen, hok⟩ := hp
    obtain ⟨-, -, hsess, -, hrole⟩ := hc
    refine ⟨_, [], guarded_pass _ (bufChecks_pass hlen (by decide) hok), rfl, placeKept_hostWrite .., fun u hu => ?_⟩
    refine ⟨(quiet_hostWrite ..).trans hu.quiet, fun j => hu.session j, fun h16 => ⟨decide (3 ≤ c.role), ?_, ?_⟩⟩
    · rw [hu.mem h16, ← hsess]
      have hbytes : ((List.range 8).flatMap (s.slotEntry c.session (decide (3 ≤ c.role)))).length = 256 := by
        rw [length_flatMap_const (m := 32) _ fun k _ => length_slotEntry ..]; rfl
      exact hbytes ▸ hostWrite_reads ..
    · rw [hrole]
      cases s.findSession e.session <;> simp

/-! ### SESSION.RING_CREATE and SESSION.RING_DELETE -/

theorem createChecks_pass {s : State} {pair sq cq vector sqAddr cqAddr : Nat} (hpair : pair ≤ 15) (hsq : 4 ≤ sq ∧ sq ≤ 16)
    (hcq : 4 ≤ cq ∧ cq ≤ 16) (hvec : vector ≤ 31) (hsa : sqAddr % 4096 = 0) (hca : cqAddr % 4096 = 0)
    (hread : s.readOk sqAddr (64 * 2 ^ sq) = true) (hwrite : s.writeOk cqAddr (16 * 2 ^ cq) = true)
    (hoff : (s.ringPair pair).on = false) : ∀ x ∈ s.createChecks pair sq cq vector sqAddr cqAddr, x.1 = false := by
  have h1 : sq ≠ 0 := by omega
  have h1' : cq ≠ 0 := by omega
  have h2 : ¬ 15 < pair := by omega
  have h3 : ¬(cq < 4 ∨ 16 < cq) := by omega
  have h5 : ¬(sq < 4 ∨ 16 < sq ∨ 31 < vector) := by omega
  simp [State.createChecks, State.ringChecks, h1, h1', h2, h3, h5, hsa, hca, hread, hwrite, hoff]

theorem setRingPair_placeKept (s : State) (e : Entry) {pair : Nat} (x : RingPair) (hne : pair ≠ e.ring) :
    s.placeKept (s.setRingPair pair x) e := ⟨ringPair_setRingPair_other _ _ _ hne.symm, rfl⟩

theorem ringDeleteBody_deletes {s : State} {c : CmdRef} {pair : Nat} (hpair : pair ≤ 15) (hon : (s.ringPair pair).on = true)
    (hown : (s.ringPair pair).owner = c.session) :
    ringDeleteBody pair c s = .done ((s.forget fun r => r.ring == pair).setRingPair pair {}) 0 [(pair, 1, 0)] := by
  have h15 : ¬ 15 < pair := by omega
  exact guarded_pass _ (by simp [h15, hon, hown])

/-- A ring pair as SESSION.RING_CREATE makes it: the reset value of DMA_CTRL turns the DMA of completions on (R410). -/
def State.withPair (s : State) (pair : Nat) (x : RingPair) : State :=
  { s.setRingPair pair x with host := { (s.setRingPair pair x).host with dmaOn := true } }

theorem withPair_ringPair (s : State) (pair : Nat) (x : RingPair) (p : Nat) :
    (s.withPair pair x).ringPair p = (s.setRingPair pair x).ringPair p := rfl

theorem withPair_quiet (s : State) (pair : Nat) (x : RingPair) : s.quiet (s.withPair pair x) := rfl

theorem withPair_placeKept (s : State) (e : Entry) {pair : Nat} (x : RingPair) (hne : pair ≠ e.ring) :
    s.placeKept (s.withPair pair x) e := setRingPair_placeKept s e x hne

/-- A pair that does not exist takes no completion (R389). -/
theorem complete_off {s : State} {c : CmdRef} (h16 : c.ring < 16) (hoff : (s.ringPair c.ring).on = false) (st r d : Nat) (b : Bool) :
    s.complete c st r d b = s := by
  simp [State.complete, h16, State.completePair, hoff]

theorem served_mem (s : State) (d : CmdDesc) (e : Entry) : (s.served d e).host.mem = s.host.mem := by
  rw [served_host, (touch_same _ _).1]
  unfold State.take; dsimp only; split <;> split <;> rfl

/-- Settles O3: a pair that is not on is not the one that brings the command, and one that is deleted takes no completion. -/
theorem ringPairsMadeAndDeleted : Obligations.RingPairsMadeAndDeleted := by
  refine ⟨fun e pair sq cq vector sqAddr cqAddr => ?_, fun e pair => ?_, fun e s ha h15 hj hown => ?_⟩
  · refine completes_of_done (body := ringCreateBody pair sq cq vector sqAddr cqAddr) (fun _ => rfl) fun s c hc hon hp => ?_
    obtain ⟨hpair, hsq, hsq', hcq, hcq', hvec, hsa, hca, hread, hwrite, hoff⟩ := hp
    obtain ⟨-, -, hsess, -⟩ := hc
    have hne : pair ≠ e.ring := by
      rintro rfl
      rw [hon (by omega)] at hoff; cases hoff
    have hbody : ringCreateBody pair sq cq vector sqAddr cqAddr c s =
        .done (s.withPair pair { on := true, owner := c.session, sqAddr := sqAddr, cqAddr := cqAddr, sqLog := sq, cqLog := cq, vector := vector }) 0 [(pair, 1, 0)] :=
      guarded_pass _ (createChecks_pass hpair ⟨hsq, hsq'⟩ ⟨hcq, hcq'⟩ hvec hsa hca hread hwrite hoff)
    refine ⟨_, [(pair, 1, 0)], hbody, rfl, withPair_placeKept s e _ hne, fun u hu => ?_⟩
    refine ⟨(hu.ringPair hne).trans ?_, hu.kept.dmaOn, fun p hp he => ?_, (withPair_quiet ..).trans hu.quiet⟩
    · rw [withPair_ringPair, ringPair_setRingPair, hsess]
    · rw [hu.ringPair he, withPair_ringPair, ringPair_setRingPair_other _ _ _ hp]
  · refine completes_of_done (body := ringDeleteBody pair) (fun _ => rfl) fun s c hc _ hp => ?_
    obtain ⟨hpair, hne, hon, hown⟩ := hp
    obtain ⟨-, -, hsess, -⟩ := hc
    refine ⟨_, [(pair, 1, 0)], ringDeleteBody_deletes hpair hon (hown.trans hsess.symm), rfl,
      setRingPair_placeKept (s.forget _) e _ hne, fun u hu => ?_⟩
    refine ⟨(hu.ringPair hne).trans (ringPair_setRingPair ..), fun p hp he => ?_⟩
    exact (hu.ringPair he).trans (ringPair_setRingPair_other _ _ _ hp)
  · have h16 : e.ring < 16 := by omega
    have hpair := served_ringPair s ⟨0x0105, 1, false, false, []⟩ e h16
    have hready := admits_ready ha
    simp only [State.ready, h16, if_true, Bool.and_eq_true] at hready
    have hbody := ringDeleteBody_deletes (c := s.servedRef ⟨0x0105, 1, false, false, []⟩ e) (pair := e.ring) h15
      ((congrArg RingPair.on hpair).trans hready.1.1) ((congrArg RingPair.owner hpair).trans hown)
    generalize hc : s.servedRef ⟨0x0105, 1, false, false, []⟩ e = c at hbody
    have hring : c.ring = e.ring := by rw [← hc]; rfl
    generalize ht : ((s.served ⟨0x0105, 1, false, false, []⟩ e).forget fun r => r.ring == e.ring).setRingPair e.ring {} = t at hbody
    have hh := journalled_host t c e.submitSeq [(e.ring, 1, 0)]
    rw [if_pos (hring ▸ h16)] at hh
    have hoff : (((t.journalAll c [(e.ring, 1, 0)]).accepted c e.submitSeq).ringPair c.ring).on = false := by
      rw [ringPair_of_host hh, ringPair_setRingPair, hring, ← ht, ringPair_setRingPair]
    refine ⟨(t.journalAll c [(e.ring, 1, 0)]).accepted c e.submitSeq, ?_, hring ▸ hoff, ?_⟩
    · refine (serve_admits _ e s (ringDeleteBody e.ring) ha).trans (congrArg Host.Outcome.next ?_)
      have hfinish : (s.served ⟨0x0105, 1, false, false, []⟩ e).finish c e.submitSeq (ringDeleteBody e.ring c (s.served ⟨0x0105, 1, false, false, []⟩ e)) =
          (t.journalAll c [(e.ring, 1, 0)]).accepted c e.submitSeq := by
        rw [hbody]
        simp only [State.finish, List.length_singleton, hj, if_true]
        exact complete_off (hring ▸ h16) hoff ..
      exact hc ▸ hfinish
    · rw [hh]
      exact ((congrArg (fun x => x.host.mem) ht).symm).trans (served_mem s _ e)

end Sys2Proof.Machine
end

section
/-!
PROOFS. The host interface at its events: what closes a session from within, what an endpoint reset leaves, the registers of BAR0 and
the sideband.
-/
namespace Sys2Proof.Machine

/-! ### The ends of sessions -/

theorem elapsed_true {s : State} {t n : Nat} (h : t + n ≤ s.clk.tick) : s.elapsed t n = true := by
  unfold State.elapsed; simpa using h

/-- What a session that closes by a timer leaves. -/
theorem closeSession_reaped (s : State) (k : Nat) (c : CmdRef) :
    let t := (s.closeSession k c).reapRings
    t.session k = {} ∧ (∀ j, j ≠ k → t.session j = s.session j) ∧
      (∀ p, (s.ringPair p).on = true → (s.ringPair p).owner = (s.session k).handle → (s.session k).handle % 8 = k →
        t.ringPair p = {}) ∧
      (s.com.owner = (s.session k).handle → t.com.owner = 0) ∧ t.com.staged = s.com.staged := by
  obtain ⟨hfree, hnone, hothers⟩ := closed_after (s := s) (u := s.closeSession k c) (k := k) (c := c) fun _ => rfl
  have hpair (p : Nat) : (s.closeSession k c).ringPair p = s.ringPair p := by
    unfold State.ringPair; rw [closeSession_host]; rfl
  refine ⟨hfree, hothers, fun p hon howner hk => ?_, closeSession_com s k c⟩
  exact (reapRings_none (hnone _ hk) p).1 (hpair p ▸ hon) (hpair p ▸ howner)

/-! ### The endpoint reset -/

theorem tells_tornWrites (cause : Nat) (bs : List Burst) (s : State) : s.tells (s.tornWrites cause bs) := by
  induction bs generalizing s with
  | nil => exact tells_refl s
  | cons b r ih => exact ((tells_bump ..).trans (tells_alarmEvent ..)).trans (ih _)

theorem suspendSessions_session (s : State) (p : Session → Bool) (k : Nat) :
    (s.suspendSessions p).session k =
      if !p (s.session k) then s.session k
      else match (s.session k).state with
        | .provisional => {}
        | .opened => { s.session k with state := .suspended, since := s.clk.tick, resume := false }
        | _ => s.session k := by
  unfold State.suspendSessions State.session
  exact Table.get_mapVals _ _ _ _ (by dsimp only; split <;> rfl)

theorem afterEndpointReset_eq (x : Session) (now : Nat) :
    (if !(x.path == 0) then x
      else match x.state with
        | .provisional => {}
        | .opened => { x with state := .suspended, since := now, resume := false }
        | _ => x) = x.afterEndpointReset now := by
  unfold Session.afterEndpointReset
  by_cases h : x.path = 0
  · simp only [h, beq_self_eq_true, Bool.not_true, Bool.false_eq_true, if_false, ne_eq, not_true_eq_false] <;>
      rfl
  · simp [h]

/-- The host interface as an endpoint reset leaves it, the sessions apart (R376). -/
def HostIf.endpointDown (h : HostIf) : HostIf :=
  { h with
    dmaOn := false
    unlocked := false
    badKeys := 0
    pcie := {}
    turn := 23
    msix := []
    irqWait := []
    irqTick := []
    irqPba := []
    mail := []
    pairs := []
    evt := {}
    jrn := {}
    fac := {} }

theorem endpointReset_host (s : State) (bursts : List Burst) :
    (s.endpointReset bursts).host =
      (State.suspendSessions { s with host := s.host.endpointDown } fun x => x.path == 0).host :=
  ((tells_tornWrites 16 _ _).trans (tells_journalRestart _ 0 _)).host

theorem endpointReset_session (s : State) (bursts : List Burst) (k : Nat) :
    (s.endpointReset bursts).session k = (s.session k).afterEndpointReset s.clk.tick := by
  have h : (s.endpointReset bursts).session k =
      (State.suspendSessions { s with host := s.host.endpointDown } fun x => x.path == 0).session k := by
    unfold State.session; rw [endpointReset_host]
  rw [h, suspendSessions_session]
  exact afterEndpointReset_eq ..

theorem endpointReset_clear (s : State) (bursts : List Burst) : (s.endpointReset bursts).endpointClear := by
  unfold State.endpointClear
  rw [endpointReset_host]
  exact ⟨rfl, rfl, rfl, rfl, rfl, rfl, rfl, rfl⟩

/-- Settles O47: what the timers of sessions close is what SESSION.CLOSE closes, and both resets of the endpoint are one. -/
theorem sessionsEnd : Obligations.SessionsEnd := by
  refine ⟨fun k s hst he => ?_, fun k s hst hr he => ?_, fun k n s hst hn h0 he => ?_, fun k n s hst hn h0 he => ?_,
    fun s => ⟨fun h0 k => ?_, fun h0 k => ?_⟩, fun p n s hbar => ⟨fun he => ?_, fun he => ?_⟩, fun bursts s => ?_,
    fun bursts s hup => ?_, fun bursts s hdown => ?_⟩
  · show execProvisionalHandleExpiry k s = _
    simp [execProvisionalHandleExpiry, elapsed_true (s := s) (n := secTicks) he, hst]
  · show execProvisionalHandleExpiry k s = _
    simp [execProvisionalHandleExpiry, elapsed_true (s := s) (n := secTicks) he, hst, hr]
  · subst hn
    exact ⟨_, if_pos ⟨hst, h0, elapsed_true he⟩, closeSession_reaped s k _⟩
  · subst hn
    exact ⟨_, if_pos ⟨hst, h0, elapsed_true he⟩, closeSession_reaped s k _⟩
  · exact if_neg fun h => h.2.1 h0
  · exact if_neg fun h => h.2.1 h0
  · show execAuthLockExpiry p s = _
    simp [execAuthLockExpiry, hbar, elapsed_true (s := s) (n := 60 * secTicks) he]
  · have : s.elapsed n (60 * secTicks) = false := decide_eq_false (Nat.not_le.mpr he)
    show execAuthLockExpiry p s = _
    simp [execAuthLockExpiry, hbar, this]
  · exact ⟨_, rfl, rfl, endpointReset_clear s bursts, congrArg (fun h => h.sb.state) (endpointReset_host s bursts),
      endpointReset_session s bursts⟩
  · refine ⟨_, if_pos hup, ?_, endpointReset_clear s bursts, congrArg (fun h => h.sb.state) (endpointReset_host s bursts),
      endpointReset_session s bursts⟩
    exact (congrArg HostIf.linkUp (endpointReset_host s bursts)).trans hup
  · exact if_neg (by simp [hdown])

/-! ### BAR0 and the sideband -/

/-- A head write that keeps the index rules moves the head of its ring and nothing else (R380). -/
theorem consume_head {r : DevRing} {v : BitVec 32} (hon : r.on = true) (hok : headOk r.log2 r.head r.next (v.toNat % 65536) = true) :
    r.consume v = some { r with head := v.toNat % 65536 } := by
  unfold DevRing.consume
  simp [hon, hok]

/-- A vector that is signalled is sent or pending, and no vector that was either is lost (R382). -/
theorem signal_host (s : State) (v : Nat) :
    (s.signal v).host.irqWait = s.host.irqWait ∧ (v ∈ (s.signal v).host.irqSent ∨ v ∈ (s.signal v).host.irqPba) ∧
      ∀ x, (x ∈ s.host.irqSent ∨ x ∈ s.host.irqPba) → (x ∈ (s.signal v).host.irqSent ∨ x ∈ (s.signal v).host.irqPba) := by
  unfold State.signal
  dsimp only
  split
  · by_cases hv : v ∈ s.host.irqPba
    · simp only [hv, if_true]; exact ⟨trivial, .inr trivial, fun _ h => h⟩
    · simp only [hv, if_false]
      exact ⟨trivial, .inr List.mem_cons_self, fun _ h => h.imp_right (List.mem_cons_of_mem _)⟩
  · exact ⟨rfl, .inl List.mem_cons_self, fun _ h => h.imp_left (List.mem_cons_of_mem _)⟩

theorem foldl_signal_host (l : List Nat) (s : State) :
    (l.foldl (fun s v => s.signal v) s).host.irqWait = s.host.irqWait ∧
      ∀ x, (x ∈ s.host.irqSent ∨ x ∈ s.host.irqPba ∨ x ∈ l) →
        (x ∈ (l.foldl (fun s v => s.signal v) s).host.irqSent ∨ x ∈ (l.foldl (fun s v => s.signal v) s).host.irqPba) := by
  induction l generalizing s with
  | nil => exact ⟨rfl, fun x h => by simpa using h⟩
  | cons v r ih =>
    obtain ⟨hwait, hsent, hkept⟩ := signal_host s v
    obtain ⟨ihwait, ihkept⟩ := ih (s.signal v)
    refine ⟨ihwait.trans hwait, fun x hx => ihkept x ?_⟩
    rcases hx with h | h | h
    · exact or_assoc.mp (.inl (hkept x (.inl h)))
    · exact or_assoc.mp (.inl (hkept x (.inr h)))
    · rcases List.mem_cons.mp h with rfl | h
      · exact or_assoc.mp (.inl hsent)
      · exact .inr (.inr h)

/-- The only programmed counter counts a yield for every object; the counters 0 and 1 keep their own events (R391, R543). -/
theorem perf_yield {s : State} {k : Nat} {c : PerfCtr} (hk : 2 ≤ k) (hlist : s.log.perf = [(k, c)]) (hev : c.event = 0x04A)
    (hobj : c.obj = 0xFFFF) (hroom : Table.get 0 s.log.perfVal k + 1 < 2 ^ 48) :
    Table.get 0 (s.perf 0x04A 0 1).log.perfVal k = Table.get 0 s.log.perfVal k + 1 := by
  have hfind (i : Nat) (hi : i < 2) : Table.find s.log.perf i = none := by
    rw [hlist]; simp [Table.find, show k ≠ i by omega]
  have hcounters : s.perfList = [(0, { event := 1 }), (1, { event := 2 }), (k, c)] := by
    unfold State.perfList State.perfCtr
    rw [hfind 0 (by decide), hfind 1 (by decide), hlist]
    rfl
  have hwrap : (s.perfBump k 1).2 = 0 := Nat.div_eq_of_lt hroom
  have hrun : s.perf 0x04A 0 1 = (s.perfBump k 1).1 := by
    unfold State.perf
    rw [hcounters]
    simp [State.perf.go, hev, hobj, hwrap]
  rw [hrun]
  exact (Table.get_set_same ..).trans (Nat.mod_eq_of_lt hroom)

theorem length_complBytes (a b c d e f g : Nat) : (complBytes a b c d e f g).length = 16 := by
  simp only [complBytes, List.length_append, length_leBytes]

theorem length_padTo (n : Nat) (bs : List Byte) : (padTo n bs).length = n := by
  simp only [padTo, List.length_append, List.length_take, List.length_replicate]; omega

/-- Settles O46: each register write and each transaction by the branch that its conditions select. -/
theorem registersAndSideband : Obligations.RegistersAndSideband := by
  refine ⟨⟨fun p v s hup hon htail hhead => ?_, fun v s hup hon hok => ?_, fun v s hup hon hok => ?_, fun v s hup hon hok => ?_,
    fun m v s hup hgo hfree => ?_, fun m v s hbusy => ?_, fun v s hv hdue => ?_, fun k c s hk hlist hev hobj hroom => ?_⟩,
    fun s hserved => ⟨?_, ?_, fun head args pec hfree => ⟨fun hpec => ?_, fun hpec => ?_⟩⟩, fun head args pec s hbusy => ?_⟩
  · show execDoorbellWrite p v s = _
    simp [execDoorbellWrite, hup, hon, htail, hhead]
  · show execEvtHeadWrite v s = _
    simp [execEvtHeadWrite, hup, consume_head hon hok]
  · show execJrnHeadWrite v s = _
    simp [execJrnHeadWrite, hup, consume_head hon hok]
  · show execFacHeadWrite v s = _
    simp [execFacHeadWrite, hup, consume_head hon hok]
  · show execMailboxGo m v s = _
    simp [execMailboxGo, hup, hgo, hfree]
  · show execMailboxGo m v s = _
    simp [execMailboxGo, hbusy]
  · have hmem : v ∈ s.host.irqWait.filter fun v =>
        decide (Table.get 0 s.host.irqTick v + s.cur .hostIrqHoldoff 0 * usTicks ≤ s.clk.tick + 1) :=
      List.mem_filter.mpr ⟨hv, decide_eq_true hdue⟩
    refine ⟨_, rfl, ?_, (foldl_signal_host ..).2 v (.inr (.inr hmem))⟩
    rw [(foldl_signal_host ..).1]
    exact fun h => absurd (List.mem_filter.mp h).2 (by simp only [List.contains_iff_mem.mpr hmem]; decide)
  · exact ⟨_, rfl, quiet_perf .., perf_yield hk hlist hev hobj hroom⟩
  · show execI2cStatus s = _
    simp [execI2cStatus, hserved]
  · refine ⟨_, rfl, ?_, rfl⟩
    simp [State.setReply, hserved, State.sidebandReply, length_complBytes, length_leBytes, length_padTo]
  · have hrun : execI2cSubmit head args pec s = _ := if_neg (by simp [hserved, hfree])
    rw [if_pos hpec] at hrun
    exact ⟨_, hrun, rfl, rfl, rfl⟩
  · have hrun : execI2cSubmit head args pec s = _ := if_neg (by simp [hserved, hfree])
    rw [if_neg hpec] at hrun
    exact ⟨_, hrun, rfl, rfl, rfl⟩
  · exact if_pos (by simp [hbusy])

end Sys2Proof.Machine
end

section
/-!
PROOFS. The refusals of R388 and the valid no-ops of R438.
-/
namespace Sys2Proof.Machine

/-- Every Drepex command is served by serve, and two of them delete the pairs of ended sessions after it. -/
theorem exec_serves {i : Instr} {d : CmdDesc} {e : Entry} (h : drepexOf i = some (d, e)) :
    ∃ body, (∀ s, exec i s = serve d e s body) ∨ (∀ s, exec i s = reapAfter (serve d e s body)) := by
  cases i
  all_goals (first | (cases h; done) | skip)
  all_goals (obtain ⟨rfl, rfl⟩ := Prod.mk.inj (Option.some.inj h))
  case sessionClose | secKeySet => exact ⟨_, .inr fun _ => rfl⟩
  case powerWarm e bursts => exact ⟨fun _ _ => .restart (fun s => s.warm 0 bursts) [(0, 1, 0)], .inl fun _ => rfl⟩
  all_goals exact ⟨_, .inl fun _ => rfl⟩

/-! ### The place of a completion after the command is taken -/

/-- The pair that brought entry e stands in t as in s, one entry further, and its mailbox is BUSY (R385, R389). -/
def State.placeReady (s t : State) (e : Entry) : Prop :=
  (e.ring < 16 → (t.ringPair e.ring).on = true ∧ (t.ringPair e.ring).cqAddr = (s.ringPair e.ring).cqAddr ∧
    (t.ringPair e.ring).cqNext = (s.ringPair e.ring).cqNext ∧ (t.ringPair e.ring).phase = (s.ringPair e.ring).phase ∧
    (t.ringPair e.ring).sqHead =
      if (s.ringPair e.ring).sqHead + 1 = 2 ^ (s.ringPair e.ring).sqLog then 0 else (s.ringPair e.ring).sqHead + 1) ∧
  (16 ≤ e.ring → e.ring < 24 → (t.mailbox (e.ring - 16)).state = 1)

theorem placeReady_of_host {s t u : State} {e : Entry} (h : s.placeReady t e) (hp : u.host.pairs = t.host.pairs)
    (hm : u.host.mail = t.host.mail) : s.placeReady u e := by
  unfold State.placeReady State.ringPair State.mailbox at *
  rw [hp, hm]; exact h

theorem starts_ready {s : State} {d : CmdDesc} {e : Entry} (h : s.starts d e = true) : s.ready e.ring = true := by
  unfold State.starts State.standing at h
  simp only [Bool.and_eq_true] at h
  exact h.1.1.1.2

theorem take_placeReady {s : State} {d : CmdDesc} {e : Entry} (h : s.starts d e = true) : s.placeReady (s.take e.ring) e := by
  have hready := starts_ready h
  refine ⟨fun h16 => ?_, fun h16 h24 => ?_⟩
  · have h24 : e.ring < 24 := by omega
    simp only [State.ready, h16, if_true, Bool.and_eq_true] at hready
    simp only [State.take, h16, h24, if_true, ringPair_setRingPair]
    exact ⟨hready.1.1, rfl, rfl, rfl, rfl⟩
  · have hn : ¬ e.ring < 16 := by omega
    simp only [State.ready, hn, h24, if_true, if_false, Bool.and_eq_true, decide_eq_true_eq] at hready
    simp only [State.take, hn, h24, if_true, if_false, mailbox_setMailbox]
    exact hready.1

theorem served_placeReady {s : State} {d d' : CmdDesc} {e : Entry} (h : s.starts d e = true) : s.placeReady (s.served d' e) e := by
  obtain ⟨-, hpairs, hmail, -⟩ := touch_same (s.take e.ring) e.session
  exact placeReady_of_host (take_placeReady h) (by rw [served_host, hpairs]) (by rw [served_host, hmail])

/-- A completion goes to the place of its entry. -/
theorem complete_ended {s t : State} {e : Entry} {c : CmdRef} (st r : Nat) (b : Bool) (hr : c.ring = e.ring) (hc : c.cmdId = e.cmdId)
    (h24 : e.ring ≤ 24) (h : s.placeReady t e) : s.ended (t.complete c st r 0 b) e st r b := by
  obtain ⟨hpair, hmail⟩ := h
  unfold State.ended State.complete
  rw [hr, hc]
  dsimp only
  split
  · obtain ⟨hon, haddr, hnext, hphase, hhead⟩ := hpair ‹_›
    have hposted := (completePair_posted t e.ring e.cmdId st r 0 (if b then 1 else 0) hon).1
    rw [haddr, hnext, hphase, hhead] at hposted
    exact hposted
  · split
    · simp [State.completeMail, hmail (by omega) ‹_›]
    · have h24' : e.ring = 24 := by omega
      simp [h24', State.completeSide]

theorem accepted_placeReady {s t : State} {e : Entry} (c : CmdRef) (q : Nat) (h : s.placeReady t e) :
    s.placeReady (t.accepted c q) e := by
  have hh : (t.accepted c q).host = (if c.ring < 16 then t.setRingPair c.ring { t.ringPair c.ring with lastSeq := q } else t).host :=
    accepted_host t c q
  obtain ⟨hpair, hmail⟩ := h
  refine ⟨fun h16 => ?_, fun h16 h24 => ?_⟩
  · rw [ringPair_of_host hh]
    split
    · by_cases hc : e.ring = c.ring
      · rw [← hc, ringPair_setRingPair]; exact hpair h16
      · rw [ringPair_setRingPair_other _ _ _ hc]; exact hpair h16
    · exact hpair h16
  · rw [mailbox_of_host hh]
    split <;> exact hmail h16 h24

/-! ### Refusals -/

/-- A refusal completes the command; beside it, it reaches only the telemetry, the counts and the link's error bits (R415). -/
theorem refuseCmd_ended {s t : State} {e : Entry} {c : CmdRef} (st r : Nat) (hr : c.ring = e.ring) (hc : c.cmdId = e.cmdId)
    (h24 : e.ring ≤ 24) (h : s.placeReady t e) : s.ended (t.refuseCmd c st r 0) e st r false := by
  refine complete_ended st r false hr hc h24 (placeReady_of_host h ?_ ?_)
  · split <;> split <;> split <;> simp [State.linkError]
  · split <;> split <;> split <;> simp [State.linkError]

theorem quiet_reapRings (s : State) : s.quiet s.reapRings := rfl

theorem ended_reapRings {s t : State} {e : Entry} {st r : Nat} {b : Bool} (h : s.ended t e st r b) :
    s.ended t.reapRings e st r b := h

/-- What holds of the next state of serve, and stays where the pairs of ended sessions are deleted, holds of the command's. -/
theorem exec_of_serve {i : Instr} {d : CmdDesc} {e : Entry} {s t : State} {st r : Nat} (hi : drepexOf i = some (d, e))
    (hserve : ∀ body, serve d e s body = .next t) (hq : s.quiet t) (hend : s.ended t e st r false) :
    ∃ u, exec i s = .next u ∧ s.quiet u ∧ s.ended u e st r false := by
  obtain ⟨body, hx | hx⟩ := exec_serves hi
  · exact ⟨t, (hx s).trans (hserve body), hq, hend⟩
  · exact ⟨t.reapRings, by rw [hx, hserve]; rfl, hq.trans (quiet_reapRings t), ended_reapRings hend⟩

/-- A stale entry is taken and refused (R384). -/
theorem serve_stale {s : State} {d : CmdDesc} {e : Entry} (body : CmdRef → State → Reply) (hs : s.starts d e = true)
    (h16 : e.ring < 16) (hseq : (s.ringPair e.ring).expSeq ≠ e.submitSeq) :
    serve d e s body = .next ((s.take e.ring).complete ((s.take e.ring).refOf (descOf d e) e) 0x0006 0xFFFFFFFF 0 false) := by
  unfold serve
  simp only [hs, h16, hseq, if_true, ne_eq, not_false_eq_true, and_self]

/-- A command that meets one of the first seven refusals is taken and refused (R388). -/
theorem serve_refused {s : State} {d : CmdDesc} {e : Entry} {st : Nat} (body : CmdRef → State → Reply) (hs : s.starts d e = true)
    (hseq : 16 ≤ e.ring ∨ (s.ringPair e.ring).expSeq = e.submitSeq)
    (href : (s.served (descOf d e) e).headRefusal (descOf d e) e = some st) :
    serve d e s body = .next ((s.served (descOf d e) e).refuseCmd (s.servedRef (descOf d e) e) st 0xFFFFFFFF 0) := by
  have hfresh : ¬(e.ring < 16 ∧ (s.ringPair e.ring).expSeq ≠ e.submitSeq) := by
    rintro ⟨h16, hne⟩
    rcases hseq with h | h
    · omega
    · exact hne h
  unfold serve
  simp only [hs, hfresh, if_true, if_false]
  have hserved : (if (descOf d e).urgent = true then
      State.perf (State.perf (State.touch (s.take e.ring) e.session) 0x047 e.ring 1) 0x049 0 1
      else State.perf (State.touch (s.take e.ring) e.session) 0x047 e.ring 1) = s.served (descOf d e) e := rfl
  rw [hserved, href]
  rfl

/-- In a working mode no command is served without a session but those that open one (R388). -/
theorem headRefusal_working {s : State} {d : CmdDesc} {e : Entry} (hw : s.dev.mode.working = true) :
    s.headRefusal d e =
      if catalogued d.code = false ∨ d.code = 0x1207 then some 0x0001
      else if e.reservedZero d = false then some 0x0002
      else if d.code ≠ 0x0101 ∧ d.code ≠ 0x0102 then
        match s.findSession e.session with
        | none => some 0x0101
        | some x =>
          if x.path ≠ pathOf e.ring ∨ (e.ring < 16 ∧ (s.ringPair e.ring).owner ≠ e.session) then some 0x0101
          else if x.state = .suspended then some 0x0102
          else if s.mayRun x.role d = false ∨ (s.onInitial x = true ∧ initialMay d e = false) then some 0x0103
          else if e.ring = 24 ∧ onSideband s.dev.mode d.code = false then some 0x0008
          else if s.pair.takeover = true ∧ 5 ≤ d.code / 256 ∧ d.code / 256 ≤ 10 then some 0x0010
          else none
      else if e.ring = 24 ∧ onSideband s.dev.mode d.code = false ∧ s.dev.mode ≠ .boot then some 0x0008
      else none := by
  have hmode : s.dev.mode ≠ .boot ∧ s.dev.mode ≠ .recovery ∧ s.dev.mode ≠ .quiescent := by
    refine ⟨?_, ?_, ?_⟩ <;> (intro h; rw [h] at hw; cases hw)
  obtain ⟨hboot, hrecovery, hquiescent⟩ := hmode
  have hfree : bootServes s.dev.mode d.code e.ring = false := by
    unfold bootServes; split
    · exact absurd ‹_› hboot
    · exact absurd ‹_› hrecovery
    · rfl
  unfold State.headRefusal
  simp only [hfree, hboot, hrecovery, hquiescent, or_false, false_and, false_or, decide_false, Bool.not_false, true_and,
    Bool.false_eq_true, not_false_eq_true] <;>
    rfl

theorem mayRun_false {s : State} {role : Nat} {d : CmdDesc}
    (h : role < d.role ∨ (role = 4 ∧ d.code = 0x1303) ∨ (role < 2 ∧ d.code = 0x1102 ∧ s.cur .perfObserverRead 0 = 0)) :
    s.mayRun role d = false := by
  unfold State.mayRun
  rcases h with h | ⟨h4, hc⟩ | ⟨h2, hc, h0⟩
  · have : ¬ d.role ≤ role := by omega
    simp [this]
  · simp [h4, hc]
  · simp [h2, hc, h0]

/-- Settles O58: serve by its branches, and the checks of R388 one after the other. -/
theorem refusalsChangeNothing : Obligations.RefusalsChangeNothing := by
  refine ⟨fun i d e s hi => ⟨fun hs => ?_, fun hs h16 hseq => ?_, fun hs hseq st href => ?_⟩, fun d e s hw => ⟨fun h => ?_,
    fun hcat hrec hres => ?_, fun hcat hrec hhello hprove hres => ⟨fun hx => ?_, fun x hx => ⟨fun hplace => ?_, fun hpath hring => ⟨fun hsusp => ?_,
      fun hopen hrole => ?_, fun hopen hmay hinit => ?_⟩⟩⟩⟩⟩
  · have hidle (body : CmdRef → State → Reply) : serve d e s body = .next s := if_neg (by simp [hs])
    obtain ⟨body, hx | hx⟩ := exec_serves hi
    · exact .inl ((hx s).trans (hidle body))
    · exact .inr (by rw [hx, hidle]; rfl)
  · exact exec_of_serve hi (fun body => serve_stale body hs h16 hseq) ((quiet_take ..).trans (quiet_complete ..))
      (complete_ended 6 0xFFFFFFFF false rfl rfl (ready_ring (starts_ready hs)) (take_placeReady hs))
  · exact exec_of_serve hi (fun body => serve_refused body hs hseq href) ((quiet_served ..).trans (quiet_refuseCmd ..))
      (refuseCmd_ended st 0xFFFFFFFF rfl rfl (ready_ring (starts_ready hs)) (served_placeReady hs))
  · rw [headRefusal_working hw, if_pos h]
  · rw [headRefusal_working hw, if_neg (by simp [hcat, hrec]), if_pos hres]
  all_goals rw [headRefusal_working hw, if_neg (by simp [hcat, hrec]), if_neg (by simp [hres]), if_pos ⟨hhello, hprove⟩, hx]
  · dsimp only; rw [if_pos hplace]
  all_goals dsimp only; rw [if_neg (fun h => h.elim (absurd hpath) fun h => hring.elim (fun _ => by omega) h.2)]
  · rw [if_pos hsusp]
  · rw [if_neg (by simp [hopen]), if_pos (.inl (mayRun_false hrole))]
  · rw [if_neg (by simp [hopen]), if_neg (by simp [hmay, State.onInitial, hinit])]
    split <;> rename_i hside
    · exact ⟨fun h => (by cases h), fun h => absurd (h.1 hside.1) (by simp [hside.2])⟩
    · have hserved : e.ring = 24 → onSideband s.dev.mode d.code = true := fun h => by
        cases hb : onSideband s.dev.mode d.code with
        | true => rfl
        | false => exact absurd ⟨h, hb⟩ hside
      split <;> rename_i htake
      · exact ⟨fun h => (by cases h), fun h => absurd htake.2 (h.2 htake.1)⟩
      · exact ⟨fun _ => ⟨hserved, fun h k => htake ⟨h, k⟩⟩, fun _ => rfl⟩

/-! ### Valid no-ops -/

/-- A command whose body answers a valid no-op passes over (R438). -/
theorem passesOver_of_noop {i : Instr} {e : Entry} {d : CmdDesc} {change : Bool} {pre : State → Prop} {body : CmdRef → State → Reply}
    (hx : ∀ s, exec i s = serve (d.of i) e s body) (hb : ∀ c s, pre s → body c s = .noop change) :
    passesOver i e d (if change then 1 else 0) pre := by
  intro s ha hj hp
  have hs := (admits_starts ha).1
  have hj : (s.served (d.of i) e).journalRoom (if change then 1 else 0) = true := hj
  have hbody := hb (s.servedRef (d.of i) e) (s.served (d.of i) e) hp
  refine ⟨_, (hx s).trans (serve_admits (d.of i) e s body ha), ?_, ?_⟩
  · rw [hbody]
    simp only [State.finish, hj, if_true]
    exact (quiet_served s (d.of i) e).trans ((quiet_ite _ (quiet_journalCmd ..) (quiet_refl _)).trans
      ((quiet_accepted ..).trans (quiet_complete ..)))
  · rw [hbody]
    simp only [State.finish, hj, if_true]
    refine complete_ended 0 0 true rfl rfl (ready_ring (starts_ready hs)) (accepted_placeReady _ _ (placeReady_of_host (served_placeReady (d' := d.of i) hs) ?_ ?_))
    all_goals split <;> simp

/-- Settles O59: each of these commands checks its count before anything else, the PROT commands after the role of the device. -/
theorem zeroCountsAreNoOps : Obligations.ZeroCountsAreNoOps := by
  have hprot (b : Buf) (kind target : Nat) (gs : List Nat) (f : Group → Bool) (c : CmdRef) (s : State) (h : s.dev.role ≠ .follower) :
      protBody kind target b 0 gs f c s = .noop true := by simp [protBody, h]
  refine ⟨fun e b first bank map dune ids => ⟨?_, ?_, ?_, ?_, ?_⟩, fun e b target gs ps ds fs cs => ⟨?_, ?_, ?_, ?_, ?_, ?_, ?_, ?_⟩⟩
  · exact passesOver_of_noop (change := false) (body := paramGetBody b 0 ids) (fun _ => rfl) fun _ _ _ => rfl
  · exact passesOver_of_noop (change := false) (body := paramDescribeBody b 0 ids) (fun _ => rfl) fun _ _ _ => rfl
  · exact passesOver_of_noop (change := false) (body := mapReadBody b first 0 bank map dune) (fun _ => rfl) fun _ _ _ => rfl
  · exact passesOver_of_noop (change := false) (body := cutReadSatBody b first 0 dune) (fun _ => rfl) fun _ _ _ => rfl
  · exact passesOver_of_noop (change := false) (body := perfReadBody b first 0) (fun _ => rfl) fun _ _ _ => rfl
  · exact passesOver_of_noop (change := true) (body := paramSetBody b 0 ps) (fun _ => rfl) fun _ _ _ => rfl
  · exact passesOver_of_noop (change := true) (body := powerDomainBody b 0 ds) (fun _ => rfl) fun _ _ _ => rfl
  · exact passesOver_of_noop (change := true) (body := logFilterBody b 0 fs) (fun _ => rfl) fun _ _ _ => rfl
  · exact passesOver_of_noop (change := true) (body := perfProgramBody b 0 cs) (fun _ => rfl) fun _ _ _ => rfl
  · exact passesOver_of_noop (change := true) (body := protBody 1 0 b 0 gs _) (fun _ => rfl) (hprot b _ _ gs _)
  · exact passesOver_of_noop (change := true) (body := protBody 2 0 b 0 gs _) (fun _ => rfl) (hprot b _ _ gs _)
  · exact passesOver_of_noop (change := true) (body := protBody 3 target b 0 gs _) (fun _ => rfl) (hprot b _ _ gs _)
  · exact passesOver_of_noop (change := true) (body := protBody 4 0 b 0 gs _) (fun _ => rfl) (hprot b _ _ gs _)

end Sys2Proof.Machine
end

section
/-!
PROOFS. The bytes of lists in memory, and the commands and events of logging.
-/
namespace Sys2Proof.Table
variable {α : Type}

/-- A part of a run is the part of its values. -/
theorem getRun_part (d : α) (t : Table α) (k i n m : Nat) (h : i + n ≤ m) :
    getRun d t (k + i) n = ((getRun d t k m).drop i).take n := by
  induction m generalizing k i n with
  | zero => obtain ⟨rfl, rfl⟩ : i = 0 ∧ n = 0 := by omega
            rfl
  | succ m ih =>
    cases i with
    | succ i =>
      have := ih (k + 1) i n (by omega)
      rw [show k + (i + 1) = k + 1 + i by omega, this]; rfl
    | zero =>
      cases n with
      | zero => rfl
      | succ n => exact congrArg (get d t k :: ·) ((ih (k + 1) 0 n (by omega)).trans rfl)

end Sys2Proof.Table

namespace Sys2Proof.Machine

/-! ### Lists of entries of one size -/

theorem chunk_flatMap {α : Type} {f : α → List Byte} {m : Nat} (l : List α) (hlen : ∀ x ∈ l, (f x).length = m) {k : Nat} {x : α}
    (hx : l[k]? = some x) : ((l.flatMap f).drop (m * k)).take m = f x := by
  induction l generalizing k with
  | nil => cases hx
  | cons y r ih =>
    have hy : (f y).length = m := hlen y List.mem_cons_self
    cases k with
    | zero =>
      obtain rfl : y = x := by simpa using hx
      simp [← hy]
    | succ k =>
      have := ih (fun z hz => hlen z (List.mem_cons_of_mem _ hz)) (k := k) (by simpa using hx)
      rw [List.flatMap_cons, show m * (k + 1) = (f y).length + m * k by rw [hy]; ring, ← List.drop_drop, List.drop_left, this]

/-- Where a list of entries of m bytes each is written, entry k is read at m times k. -/
theorem hostWrite_entry {α : Type} {f : α → List Byte} {m : Nat} (s : State) (a : Nat) {l : List α} (hlen : ∀ x ∈ l, (f x).length = m)
    {k : Nat} {x : α} (hx : l[k]? = some x) : Table.getRun 0 (s.hostWrite a (l.flatMap f)).host.mem (a + m * k) m = f x := by
  have hk : k < l.length := (List.getElem?_eq_some_iff.mp hx).1
  have hroom : m * k + m ≤ (l.flatMap f).length := by
    rw [length_flatMap_const l hlen, ← Nat.mul_succ, Nat.mul_comm l.length]; exact Nat.mul_le_mul_left m hk
  rw [Table.getRun_part 0 _ a (m * k) m _ hroom, hostWrite_reads]
  exact chunk_flatMap l hlen hx

/-! ### Commands whose effect shows in the telemetry -/

/-- A completion leaves the response of the sideband (R406). -/
theorem complete_resp (s : State) (c : CmdRef) (st r d : Nat) (b : Bool) : (s.complete c st r d b).host.sb.resp = s.host.sb.resp := by
  unfold State.complete
  dsimp only
  split
  · unfold State.completePair
    dsimp only
    split
    · rw [(interrupt_same _ _).2.2.2.1]; rfl
    · rfl
  · split
    · unfold State.completeMail
      dsimp only
      split <;> rfl
    · split <;> rfl

/-- As completes_of_done, with what the completion leaves of the telemetry, and with the place that the entry has. -/
theorem completes_told {i : Instr} {e : Entry} {d : CmdDesc} {n : Nat} {pre : State → Prop} {res : State → Nat}
    {post : State → State → Prop} {body : CmdRef → State → Reply} (hx : ∀ s, exec i s = serve (d.of i) e s body)
    (hb : ∀ s c, c.of s e → pre s → ∃ t recs, body c s = .done t (res s) recs ∧ recs.length = n ∧ s.ownPlaceKept t e ∧
      ∀ u, t.after u e → t.log.told u.log → u.host.sb.resp = t.host.sb.resp → post s u) : completes i e d n pre res post := by
  intro s ha hj hp
  obtain ⟨t, recs, hbody, rfl, hkept, hpost⟩ := hb (s.served d e) (s.servedRef d e) ⟨rfl, rfl, rfl, rfl, servedRef_role s d e⟩ hp
  have hj : (s.served (d.of i) e).journalRoom recs.length = true := hj
  have hbody : body (s.servedRef (d.of i) e) (s.served (d.of i) e) = _ := hbody
  refine ⟨_, ?_, journalled_posted ha hkept, hpost _ (journalled_after t _ e e.submitSeq (res (s.served d e)) recs rfl) ?_ ?_⟩
  · rw [hx, serve_admits (d.of i) e s body ha, hbody]
    simp only [State.finish, hj, if_true]
  · rw [log_complete]
    exact (tells_journalAll ..).log.trans (told_accepted ..)
  · rw [complete_resp, journalled_host]
    split <;> rfl

/-- As accepts_of_accept, with what the acceptance leaves of the telemetry. -/
theorem accepts_told {i : Instr} {e : Entry} {d : CmdDesc} {n : Nat} {pre : State → Prop} {post : CmdRef → State → State → Prop}
    {body : CmdRef → State → Reply} (hx : ∀ s, exec i s = serve (d.of i) e s body)
    (hb : ∀ s c, c.of s e → pre s → ∃ t recs, body c s = .accept t recs ∧ recs.length = n ∧
      ∀ u, t.quiet u → t.log.told u.log → post c s u) : accepts i e d n pre post := by
  intro s ha hj hp
  obtain ⟨t, recs, hbody, rfl, hpost⟩ := hb (s.served d e) (s.servedRef d e) ⟨rfl, rfl, rfl, rfl, servedRef_role s d e⟩ hp
  have hj : (s.served (d.of i) e).journalRoom recs.length = true := hj
  have hbody : body (s.servedRef (d.of i) e) (s.served (d.of i) e) = _ := hbody
  refine ⟨_, ?_, hpost _ ((quiet_journalAll (s.servedRef d e) recs t).trans (quiet_accepted _ (s.servedRef d e) e.submitSeq))
    ((tells_journalAll (s.servedRef d e) recs t).log.trans (told_accepted _ (s.servedRef d e) e.submitSeq))⟩
  rw [hx, serve_admits (d.of i) e s body ha, hbody]
  simp only [State.finish, hj, if_true]
  rfl

theorem Log.told.filters {l k : Log} (h : l.told k) : k.filters = l.filters := by rw [Log.told] at h; rw [h]
theorem Log.told.perfPend {l k : Log} (h : l.told k) : k.perfPend = l.perfPend := by rw [Log.told] at h; rw [h]

/-- An effect that leaves the host interface as it is leaves every place. -/
theorem ownPlaceKept_of_host {s t : State} (e : Entry) (h : t.host = s.host) : s.ownPlaceKept t e :=
  ⟨fun _ => ringPair_of_host h _, fun _ => congrArg Mailbox.state (mailbox_of_host h _)⟩

/-! ### LOG and PERF -/

theorem logRing_pass {s : State} {addr log2 vector size : Nat} {r : DevRing} (hlo : 4 ≤ log2) (hhi : log2 ≤ 16) (hvec : vector ≤ 31)
    (haddr : addr % 4096 = 0) (hwrite : s.writeOk addr (size * 2 ^ log2) = true) (hoff : r.on = false) :
    ∀ x ∈ s.ringChecks log2 vector addr size true ++ [(r.on, 0x0108, 0)], x.1 = false := by
  have h0 : log2 ≠ 0 := by omega
  have hrange : ¬(log2 < 4 ∨ 16 < log2 ∨ 31 < vector) := by omega
  simp [State.ringChecks, h0, hrange, haddr, hwrite, hoff]

theorem length_alarmBytes (a : Alarm) : a.bytes.length = 16 := by
  simp only [Alarm.bytes, List.length_append, length_leBytes]

/-- Settles O49: the checks of each body pass, and its effect is the one stated. -/
theorem loggingCommands : Obligations.LoggingCommands := by
  refine ⟨fun e addr log2 vector => ?_, fun e addr log2 vector => ?_, fun e b fs => ?_, fun e b => ?_, fun e b es => ?_,
    fun e b first count => ?_⟩
  · refine completes_told (body := eventRingBody addr log2 vector) (fun _ => rfl) fun s c _ hp => ?_
    obtain ⟨hlo, hhi, hvec, haddr, hwrite, hoff⟩ := hp
    exact ⟨_, [(0, 1, addr)], guarded_pass _ (logRing_pass hlo hhi hvec haddr hwrite hoff), rfl, ⟨fun _ => rfl, fun _ => rfl⟩,
      fun u hu _ _ => ⟨hu.kept.evt, hu.kept.dmaOn, (quiet_host ..).trans hu.quiet⟩⟩
  · refine completes_told (body := journalRingBody addr log2 vector) (fun _ => rfl) fun s c _ hp => ?_
    obtain ⟨hlo, hhi, hvec, haddr, hwrite, hoff⟩ := hp
    exact ⟨_, [(0, 1, addr)], guarded_pass _ (logRing_pass hlo hhi hvec haddr hwrite hoff), rfl, ⟨fun _ => rfl, fun _ => rfl⟩,
      fun u hu _ _ => ⟨hu.kept.jrn, hu.kept.dmaOn, (quiet_host ..).trans hu.quiet⟩⟩
  · refine completes_told (body := logFilterBody b fs.length fs) (fun _ => rfl) fun s c _ hp => ?_
    obtain ⟨hne, hcount, hlen, hvalid, hread⟩ := hp
    refine ⟨{ s with log := { s.log with filters := fs } }, [(0, fs.length, 0)], ?_, rfl, ownPlaceKept_of_host e rfl,
      fun u hu hl _ => ⟨hl.filters, (quiet_log ..).trans hu.quiet⟩⟩
    have hpos : 0 < fs.length := List.length_pos_iff.mpr hne
    unfold logFilterBody
    rw [if_neg (by omega), List.take_length, guarded_pass _ (by simp; omega), checkItems_pass, checkItems_pass, if_pos hread]
    · intro f hf
      obtain ⟨h1, h3, -⟩ := hvalid f hf
      simp only [Bool.or_eq_false_iff, beq_eq_false_iff_ne]; omega
    · intro f hf
      obtain ⟨-, h3, ha⟩ := hvalid f hf
      exact decide_eq_false (by omega)
  · refine completes_told (body := logAlarmsBody b) (fun _ => rfl) fun s c _ hp => ?_
    obtain ⟨hne, hmod, hwrite⟩ := hp
    refine ⟨_, [], guarded_pass _ (by simp [hne, hmod, hwrite]), rfl, ⟨fun _ => rfl, fun _ => rfl⟩,
      fun u hu _ _ => ⟨(quiet_hostWrite ..).trans hu.quiet, fun h16 k a ha hk => ?_⟩⟩
    rw [hu.mem h16]
    exact hostWrite_entry s b.addr (fun x _ => length_alarmBytes x) ((List.getElem?_take_of_lt (by omega)).trans ha)
  · refine accepts_told (body := perfProgramBody b es.length es) (fun _ => rfl) fun s c _ hp => ?_
    obtain ⟨hne, hcount, hlen, hvalid, htwice, hread⟩ := hp
    have hpos : 0 < es.length := List.length_pos_iff.mpr hne
    refine ⟨{ s with
      log := { s.log with perfPend := s.log.perfPend ++ es }
      prot := { s.prot with waits := s.prot.waits ++ [(s.clk.rsn + 1, c, 0)] } }, [(0, es.length, 0)], ?_, rfl, fun u hu hl => ?_⟩
    · unfold perfProgramBody
      rw [if_neg (by omega)]
      dsimp only
      rw [List.take_length, guarded_pass _ (by simp; omega), checkItems_pass, checkItems_pass,
        guarded_pass _ (by simp [htwice, hread])]
      · exact fun x hx => (hvalid x hx).2.2
      · intro x hx
        obtain ⟨h1, h2, -⟩ := hvalid x hx
        simp [h2]; omega
    · have hprot := hu.prot
      refine ⟨hl.perfPend, by rw [hprot], ?_, by rw [hprot], by rw [hprot]⟩
      rw [State.quiet] at hu ⊢
      rw [hu]
  · refine completes_told (body := perfReadBody b first count) (fun _ => rfl) fun s c _ hp => ?_
    obtain ⟨-, hne, hrange, hlen, hwrite⟩ := hp
    have hchecks : ∀ x ∈ [(b.len == 0, 0x0003, 0), (decide (415 < first + count - 1), 0x0004, 0)] ++ s.bufChecks b (8 * count) true,
        x.1 = false := by
      intro x hx
      rcases List.mem_append.mp hx with h | h
      · have h0 : b.len ≠ 0 := by omega
        have h1 : ¬ 415 < first + count - 1 := by omega
        simp only [List.mem_cons, List.not_mem_nil, or_false] at h
        rcases h with rfl | rfl <;> simp [h0]; omega
      · exact bufChecks_pass (write := true) hlen (by omega) hwrite x h
    refine ⟨_, [], (if_neg hne).trans (guarded_pass _ hchecks), rfl, ⟨fun _ => rfl, fun _ => rfl⟩,
      fun u hu _ _ => ⟨(quiet_hostWrite ..).trans hu.quiet, fun h16 k hk => ?_⟩⟩
    rw [hu.mem h16]
    exact hostWrite_entry s b.addr (m := 8) (fun x _ => length_leBytes 8 _) (List.getElem?_range hk)

/-! ### What is written with time -/

theorem length_eventHead (e : Event) (phase : Bool) : (e.head phase).length = 32 := by
  simp only [Event.head, List.length_append, length_leBytes]

theorem length_jrecBytes (j : JRec) : j.bytes.length = 64 := by
  simp only [JRec.bytes, List.length_append, length_leBytes, List.length_singleton]

theorem foldSummary_host (s : State) (f : Fold) : (s.foldSummary f).host = s.host := (tells_pushEvent ..).host

theorem unfold_go_host (fs : List Fold) (s : State) : (State.unfold.go fs s).host = s.host := by
  induction fs generalizing s with
  | nil => rfl
  | cons f r ih =>
    unfold State.unfold.go
    split
    · exact (ih _).trans (foldSummary_host ..)
    · rfl

theorem unfold_host (s : State) : s.unfold.host = s.host := unfold_go_host ..

theorem flushCoalesced_host (s : State) : s.flushCoalesced.host = s.host := by
  unfold State.flushCoalesced
  generalize s.log.jcoal = t
  induction t generalizing s with
  | nil => rfl
  | cons x r ih =>
    obtain ⟨code, n, a, b⟩ := x
    unfold State.flushCoalesced.go
    split
    · exact ih s
    · split
      · exact (ih _).trans (tells_journalSummary ..).host
      · rfl

/-- The vector of a ring changes none of the rings and no memory (R382). -/
theorem signalled_same (p : Prop) [Decidable p] (s : State) (v : Nat) :
    (if p then s else s.interrupt v).host.evt = s.host.evt ∧ (if p then s else s.interrupt v).host.jrn = s.host.jrn ∧
      (if p then s else s.interrupt v).host.mem = s.host.mem ∧ (if p then s else s.interrupt v).log = s.log := by
  split
  · exact ⟨rfl, rfl, rfl, rfl⟩
  · exact ⟨(interrupt_kept s v).evt, (interrupt_kept s v).jrn, (interrupt_same s v).1, told_interrupt s v⟩

/-- What one entry leaves of the host interface. -/
def HostIf.evtWritten (h : HostIf) (f : Bool → List Byte) : HostIf :=
  { h with
    mem := Table.setRun 0 h.mem (h.evt.addr + 32 * h.evt.next) (f h.evt.phase)
    evt := h.evt.advance }

theorem evtEntry_host (s : State) (f : Bool → List Byte) : (s.evtEntry f).host = s.host.evtWritten f := rfl

/-- An event of one entry is written at the head of the event ring. -/
theorem writeEvent_single (s : State) {x : Event} (hlen : x.len = 1) : (s.writeEvent x).host = s.host.evtWritten x.head := by
  unfold State.writeEvent
  rw [host_perf, host_bump, hlen]
  exact evtEntry_host s x.head

/-- The only queued event, of one entry, is written. -/
theorem drainEvents_single {s : State} {x : Event} (hq : s.log.queue = [x]) (hlen : x.len = 1) (hroom : 1 ≤ s.host.evt.room) :
    (s.drainEvents s.log.queue.length).host = s.host.evtWritten x.head := by
  have hrun : s.drainEvents 1 = ({ s with log := { s.log with queue := [] } } : State).writeEvent x := by
    rw [State.drainEvents, hq]
    dsimp only
    rw [if_pos (hlen ▸ hroom), State.drainEvents]
  rw [hq, List.length_singleton, hrun, writeEvent_single _ hlen]

/-- The buffered record written to the journal ring, and no longer buffered. -/
def State.jrnEntry (s : State) (j : JRec) : State :=
  let t := s.hostWrite (s.host.jrn.addr + 64 * s.host.jrn.next) j.bytes
  { t with
    host := { t.host with jrn := s.host.jrn.advance }
    log := { t.log with jbuf := [] } }

/-- The only buffered record is written. -/
theorem drainJournal_single {s : State} {j : JRec} (hq : s.log.jbuf = [j]) (hroom : 1 ≤ s.host.jrn.room) :
    s.drainJournal s.log.jbuf = s.jrnEntry j := by
  rw [hq, State.drainJournal, if_pos hroom, State.drainJournal]
  unfold State.jrnEntry
  dsimp only <;> rfl

theorem jrnEntry_host (s : State) (j : JRec) :
    (s.jrnEntry j).host.jrn = s.host.jrn.advance ∧
      (s.jrnEntry j).host.mem = (s.hostWrite (s.host.jrn.addr + 64 * s.host.jrn.next) j.bytes).host.mem ∧
      (s.jrnEntry j).log.jbuf = [] ∧ (s.jrnEntry j).log.jcoal = s.log.jcoal := by
  unfold State.jrnEntry
  dsimp only
  exact ⟨rfl, rfl, rfl, rfl⟩

/-- The accumulators of an internal number other than 0 are not that of the time on. -/
theorem lifeAdd_zero (s : State) (acc bin n : Nat) (hacc : acc ≠ 0) :
    Table.get 0 (s.lifeAdd acc bin n).log.life 0 = Table.get 0 s.log.life 0 := by
  exact Table.get_set_other _ _ _ (by omega)

theorem lifeEach_zero (s : State) (acc stride : Nat) (bins : List Nat) (hacc : acc ≠ 0) :
    Table.get 0 (s.lifeEach acc stride bins).log.life 0 = Table.get 0 s.log.life 0 ∧
      (s.lifeEach acc stride bins).log.lifePeak = s.log.lifePeak := by
  suffices h : ∀ k, Table.get 0 (State.lifeEach.go acc stride s k bins).log.life 0 = Table.get 0 s.log.life 0 ∧
      (State.lifeEach.go acc stride s k bins).log.lifePeak = s.log.lifePeak from h 0
  intro k
  induction bins generalizing s k with
  | nil => exact ⟨rfl, rfl⟩
  | cons b r ih =>
    obtain ⟨hlife, hpeak⟩ := ih (s.lifeAdd acc (k * stride + b) 1) (k + 1)
    exact ⟨hlife.trans (lifeAdd_zero s _ _ _ hacc), hpeak⟩

theorem thermalCycle_zero (s : State) (x : Int) : Table.get 0 (s.thermalCycle x).log.life 0 = Table.get 0 s.log.life 0 := by
  unfold State.thermalCycle
  split
  · rfl
  · split
    · exact lifeAdd_zero _ _ _ _ (by decide)
    · split <;> rfl

theorem thermalCycle_peak {s : State} {p : Int} (x : Int) (hpeak : s.log.lifePeak = some p) :
    (s.thermalCycle x).log.lifePeak = some (if x ≤ p - 40 then x else max p x) := by
  unfold State.thermalCycle
  rw [hpeak]
  dsimp only
  split
  · rfl
  · split
    · rw [max_eq_right (by omega)]
    · rw [max_eq_left (by omega)]; exact hpeak

/-- The accumulators as a second leaves them before the thermal cycles (R544). -/
def State.lifeBins (s : State) (xs : List Int) (bins : List Nat) : State :=
  ((s.lifeAdd 0 0 1).lifeEach 1 64 (xs.map tjBin)).lifeEach 2 32 (bins.map (min 31))

theorem lifeBins_zero (s : State) (xs : List Int) (bins : List Nat) :
    Table.get 0 (s.lifeBins xs bins).log.life 0 = Table.get 0 s.log.life 0 + 1 ∧ (s.lifeBins xs bins).log.lifePeak = s.log.lifePeak := by
  obtain ⟨hlife2, hpeak2⟩ := lifeEach_zero ((s.lifeAdd 0 0 1).lifeEach 1 64 (xs.map tjBin)) 2 32 (bins.map (min 31)) (by decide)
  obtain ⟨hlife1, hpeak1⟩ := lifeEach_zero (s.lifeAdd 0 0 1) 1 64 (xs.map tjBin) (by decide)
  have hadd : Table.get 0 (s.lifeAdd 0 0 1).log.life 0 = Table.get 0 s.log.life 0 + 1 := by
    simp [State.lifeAdd]
  exact ⟨(hlife2.trans hlife1).trans hadd, hpeak2.trans hpeak1⟩

theorem exec_lifetimeSample (xs : List Int) (bins : List Nat) (s : State) :
    exec (.lifetimeSample xs bins) s = .next (match hottest xs with
      | none => s.lifeBins xs bins
      | some x => (s.lifeBins xs bins).thermalCycle x) := rfl

/-- Settles O50: the rings by their single entry, the lifetime records by their accumulators. -/
theorem loggingEvents : Obligations.LoggingEvents := by
  refine ⟨fun x s hserved hon hq hlen hroom => ?_, fun j s hserved hon hq hcoal hroom => ?_, fun s hrun => if_pos hrun, fun x s => rfl,
    fun xs bins s => ?_, fun s hrun hdue => ?_⟩
  · refine ⟨_, if_pos (by simp [hserved, hon]), ?_, ?_⟩
    · rw [(signalled_same _ _ _).1, unfold_host, drainEvents_single hq hlen hroom]
      rfl
    · rw [(signalled_same _ _ _).2.2.1, unfold_host, drainEvents_single hq hlen hroom, ← length_eventHead x s.host.evt.phase]
      exact hostWrite_reads ..
  · obtain ⟨hjrn, hmem, hbuf, hcoal'⟩ := jrnEntry_host s j
    have hhost : (s.jrnEntry j).jupdate.flushCoalesced.host = (s.jrnEntry j).host := flushCoalesced_host _
    have hflush : (s.jrnEntry j).jupdate.flushCoalesced = (s.jrnEntry j).jupdate := by
      have hnone : (s.jrnEntry j).jupdate.log.jcoal = [] := hcoal'.trans hcoal
      unfold State.flushCoalesced
      rw [hnone, State.flushCoalesced.go]
    refine ⟨_, if_pos (by simp [hserved, hon]), ?_, ?_, ?_⟩
    · rw [(signalled_same _ _ _).2.1, drainJournal_single hq hroom, hhost, hjrn]
    · rw [(signalled_same _ _ _).2.2.2, drainJournal_single hq hroom, hflush]
      exact hbuf
    · rw [(signalled_same _ _ _).2.2.1, drainJournal_single hq hroom, hhost, hmem, ← length_jrecBytes j, hostWrite_reads]
  · obtain ⟨hlife, hpeak⟩ := lifeBins_zero s xs bins
    refine ⟨_, exec_lifetimeSample xs bins s, ?_, fun x p hx hp hcycle => ?_, fun x p hx hp hcycle => ?_⟩
    · split
      · exact hlife
      · rw [thermalCycle_zero, hlife]
    · rw [hx]
      exact (thermalCycle_peak x (hpeak.trans hp)).trans (by rw [if_pos hcycle])
    · rw [hx]
      exact (thermalCycle_peak x (hpeak.trans hp)).trans (by rw [if_neg (by omega)])
  · obtain ⟨-, -, hlog⟩ := tells_bump (s.lifeAdd accWear (256 + s.log.lifeNext % 8) 1) .logPmLifetimeWrites 0 1
    have hclk := (quiet_bump (s.lifeAdd accWear (256 + s.log.lifeNext % 8) 1) .logPmLifetimeWrites 0 1).clk
    rw [Log.told] at hlog
    exact ⟨_, if_pos ⟨hrun, hdue⟩, Table.get_set_same .., congrArg (fun l => l.lifeNext + 1) hlog, congrArg Clock.tick hclk⟩

end Sys2Proof.Machine
end

section
/-!
PROOFS. Role keys, identity, hallmarks, the JTAG port, and the loading of firmware.
-/
namespace Sys2Proof.Machine

/-- A write to memory leaves every pair and every mailbox. -/
theorem ownPlaceKept_hostWrite (s : State) (a : Nat) (bs : List Byte) (e : Entry) : s.ownPlaceKept (s.hostWrite a bs) e :=
  ⟨fun _ => rfl, fun _ => rfl⟩

/-! ### SEC.KEY_SET -/

theorem State.ownPlaceKept.trans {s t u : State} {e : Entry} (h : s.ownPlaceKept t e) (k : t.ownPlaceKept u e) : s.ownPlaceKept u e :=
  ⟨fun h16 => (k.1 h16).trans (h.1 h16), fun h16 => (k.2 h16).trans (h.2 h16)⟩

/-- One step of closing the other sessions of a role (R566). -/
def State.closeOther (role : Nat) (c : CmdRef) (s : State) (k : Nat) : State :=
  if (s.session k).role == role && (s.session k).handle != c.session &&
    ((s.session k).state == .opened || (s.session k).state == .suspended) then s.closeSession k c else s

theorem closeOthers_eq (s : State) (role : Nat) (c : CmdRef) :
    s.closeOthers role c = (List.range 8).foldl (State.closeOther role c) s := rfl

/-- What is kept by each session that closes is kept where the others of a role close. -/
theorem foldl_closeOther_keeps {role : Nat} {c : CmdRef} {p : State → Prop} (h : ∀ u k, p u → p (u.closeSession k c)) (l : List Nat)
    {s : State} (hp : p s) : p (l.foldl (State.closeOther role c) s) := by
  induction l generalizing s with
  | nil => exact hp
  | cons k r ih =>
    refine ih ?_
    unfold State.closeOther
    split
    · exact h s k hp
    · exact hp

theorem closeSession_session (s : State) (k : Nat) (c : CmdRef) (j : Nat) :
    (s.closeSession k c).session j = if j = k then {} else s.session j := by
  obtain ⟨hfree, -, hothers⟩ := closed_after (s := s) (u := s.closeSession k c) (k := k) (c := c) fun _ => rfl
  split
  · subst j; exact hfree
  · exact hothers j ‹_›

/-- A session of another handle does not stay open under the role. -/
def Session.closedFor (x : Session) (role handle : Nat) : Prop :=
  x.role = role → x.handle ≠ handle → x.state = .provisional ∨ x.state = .free

theorem closedFor_free (role handle : Nat) : Session.closedFor {} role handle := fun _ _ => .inr rfl

theorem closeOther_closed (s : State) (role : Nat) (c : CmdRef) (j : Nat) :
    ((State.closeOther role c s j).session j).closedFor role c.session := by
  unfold State.closeOther
  split
  · rw [closeSession_session, if_pos rfl]; exact closedFor_free _ _
  · rename_i hopen
    intro hrole hhandle
    simp only [hrole, beq_self_eq_true, hhandle, bne_iff_ne, ne_eq, not_false_eq_true, Bool.and_eq_true,
      Bool.or_eq_true, beq_iff_eq, true_and, not_or] at hopen
    cases hst : (s.session j).state with
    | free => exact .inr rfl
    | provisional => exact .inl rfl
    | opened => exact absurd hst hopen.1
    | suspended => exact absurd hst hopen.2

theorem closeSession_closedFor {s : State} {role handle : Nat} {j : Nat} (k : Nat) (c : CmdRef)
    (h : (s.session j).closedFor role handle) : ((s.closeSession k c).session j).closedFor role handle := by
  rw [closeSession_session]
  split
  · exact closedFor_free _ _
  · exact h

/-- No other session of the role stays open (R566). -/
theorem closeOthers_closed (s : State) (role : Nat) (c : CmdRef) {j : Nat} (hj : j < 8) :
    ((s.closeOthers role c).session j).closedFor role c.session := by
  have hmem : j ∈ List.range 8 := List.mem_range.mpr hj
  rw [closeOthers_eq]
  generalize List.range 8 = l at hmem ⊢
  induction l generalizing s with
  | nil => cases hmem
  | cons k r ih =>
    rcases List.mem_cons.mp hmem with rfl | h
    · exact foldl_closeOther_keeps (p := fun u => (u.session j).closedFor role c.session)
        (fun _ k h => closeSession_closedFor k c h) r (closeOther_closed s role c j)
    · exact ih _ h

theorem closeSession_sec (s : State) (k : Nat) (c : CmdRef) : (s.closeSession k c).sec = s.sec := by
  have hsec := (quiet_journalSecurity (s.freeMail (s.closedMail k c)) c.path c.role c.session c.cmdId 0x0103 0 (s.session k).handle).sec
  unfold State.closeSession
  dsimp only
  split <;> exact hsec

theorem closeOthers_sec (s : State) (role : Nat) (c : CmdRef) : (s.closeOthers role c).sec = s.sec :=
  foldl_closeOther_keeps (p := fun u => u.sec = s.sec) (fun u k hu => (closeSession_sec u k c).trans hu) _ rfl

theorem closeOthers_ownPlaceKept (s : State) (role : Nat) (c : CmdRef) (e : Entry) (hring : c.ring = e.ring) :
    s.ownPlaceKept (s.closeOthers role c) e :=
  foldl_closeOther_keeps (p := fun u => s.ownPlaceKept u e) (fun u k hu => hu.trans (closeSession_ownPlaceKept u k c e hring)) _
    ⟨fun _ => rfl, fun _ => rfl⟩

/-- The key that SEC.KEY_SET leaves (R565, R566). -/
theorem setKey_roleKey (s : State) (role : Nat) (key : BitVec 384) :
    (key ≠ 0 → (s.setKey role key).roleKey role = some key) ∧ (key = 0 → Table.find (s.setKey role key).sec.keys role = none) ∧
      (role = 3 → (s.setKey role key).sec.adminInitial = false) := by
  refine ⟨fun hkey => ?_, fun hkey => ?_, fun h3 => ?_⟩
  · have hfind : Table.find (s.setKey role key).sec.keys role = some key := by
      simp only [State.setKey, if_neg hkey, Table.find_put_same]
    unfold State.roleKey
    rw [hfind, if_neg]
    intro h
    obtain ⟨h3, hinit⟩ := Bool.and_eq_true_iff.mp h
    simp [State.setKey, of_decide_eq_true h3] at hinit
  · simp only [State.setKey, if_pos hkey, Table.find_drop_same]
  · simp [State.setKey, h3]

theorem roleKey_of_sec {s t : State} (h : t.sec = s.sec) (role : Nat) : t.roleKey role = s.roleKey role := by
  unfold State.roleKey; rw [h]

/-- Settles O45: SEC.KEY_SET by the sessions that it closes, the other commands by their bytes. -/
theorem securityCommands : Obligations.SecurityCommands := by
  refine ⟨fun e b => ?_, fun e b nonce => ?_, fun e b role masked confirm key x => ?_, fun op s => rfl, fun bursts s => ?_⟩
  · refine completes_told (body := secIdentityBody b) (fun _ => rfl) fun s c _ hp => ?_
    obtain ⟨hlen, hwrite⟩ := hp
    have hbody : secIdentityBody b c s = .done (s.hostWrite b.addr identityRecord) :=
      guarded_pass _ (bufChecks_pass (write := true) hlen (by omega) hwrite)
    refine ⟨s.hostWrite b.addr identityRecord, [], hbody, rfl, ownPlaceKept_hostWrite .., fun u hu _ _ => ⟨(quiet_hostWrite ..).trans hu.quiet, fun h16 => ?_⟩⟩
    rw [hu.mem h16, hostWrite_reads]
  · refine completes_told (body := secHallmarkBody b nonce) (fun _ => rfl) fun s c _ hp => ?_
    obtain ⟨hlen, hwrite, hread⟩ := hp
    have hbody : secHallmarkBody b nonce c s = .done (s.hostWrite b.addr (s.hallmark nonce)) := guarded_pass _ fun x hx => by
      rcases List.mem_append.mp hx with h | h
      · exact bufChecks_pass (write := true) hlen (by omega) hwrite x h
      · obtain rfl := List.mem_singleton.mp h
        simp [hread]
    refine ⟨s.hostWrite b.addr (s.hallmark nonce), [], hbody, rfl, ownPlaceKept_hostWrite ..,
      fun u hu _ _ => ⟨(quiet_hostWrite ..).trans hu.quiet, fun h16 => ?_⟩⟩
    rw [hu.mem h16, hostWrite_reads]
  · refine completes_reapAfter (body := secKeySetBody b role masked confirm) (fun _ => rfl) fun s c hc hp => ?_
    obtain ⟨hx, hkey, hrole, hrole4, hlen, hread, -, hne, hconfirm⟩ := hp
    obtain ⟨hring, -, hsess, -⟩ := hc
    have hbody : secKeySetBody b role masked confirm c s = .done ((s.setKey role key).closeOthers role c) 0 [(role, 1, s.sec.keyGen + 1)] := by
      unfold secKeySetBody
      rw [hsess, hx]
      dsimp only
      rw [← hkey]
      refine guarded_pass _ ?_
      have hb : b.len ≠ 0 := by omega
      have hz : role = 3 → ¬ key = 0#384 := hne
      simpa [hb, hread, hconfirm, hlen, hrole4, Nat.one_le_iff_ne_zero.mp hrole] using hz
    refine ⟨_, [(role, 1, s.sec.keyGen + 1)], hbody, rfl, closeOthers_ownPlaceKept (s.setKey role key) role c e hring, fun u hu => ?_⟩
    have hsec : u.reapRings.sec = (s.setKey role key).sec := hu.quiet.sec.trans (closeOthers_sec ..)
    obtain ⟨hset, hremoved, hinitial⟩ := setKey_roleKey s role key
    refine ⟨fun h0 => (roleKey_of_sec hsec role).trans (hset h0), fun _ h0 => ?_, ?_, fun h3 => ?_, fun j hj hh => ?_⟩
    · rw [hsec]; exact hremoved h0
    · rw [hsec]; rfl
    · rw [hsec]; exact hinitial h3
    · by_cases h8 : 8 ≤ j
      · exact .inr (.inr h8)
      · have hclosed := closeOthers_closed (s.setKey role key) role c (j := j) (by omega)
        have hj' : u.reapRings.session j = ((s.setKey role key).closeOthers role c).session j := hu.session j
        rw [hj'] at hj hh ⊢
        exact (hclosed hj (hsess ▸ hh)).imp_right .inl
  · refine ⟨_, rfl, (tells_tornWrites ..).quiet.dev, fun x hx => ?_⟩
    rw [(tells_tornWrites ..).quiet.jcc] at hx
    have hfilter := (List.mem_filter.mp hx).2
    rintro h14
    simp [h14] at hfilter

/-! ### FW.LOAD -/

theorem setSlot_host (s : State) (k : Nat) (x : ImageSlot) : (s.setSlot k x).host = s.host := by
  unfold State.setSlot; split <;> rfl

theorem slotOf_setSlot (s : State) {k : Nat} (x : ImageSlot) (hk : k ≤ 1) :
    (s.setSlot k x).slotOf k = x ∧ (s.setSlot k x).slotOf (1 - k) = s.slotOf (1 - k) := by
  obtain rfl | rfl : k = 0 ∨ k = 1 := by omega
  · exact ⟨rfl, rfl⟩
  · exact ⟨rfl, rfl⟩

/-- Of the security engine, only a slot is written with it. -/
theorem setSlot_sec (s : State) (k : Nat) (x : ImageSlot) :
    (s.setSlot k x).sec = { s.sec with slot0 := (s.setSlot k x).sec.slot0, slot1 := (s.setSlot k x).sec.slot1 } ∧
      (s.setSlot k x).dev = s.dev := by
  unfold State.setSlot; split <;> exact ⟨rfl, rfl⟩

theorem loadSlot_le (s : State) : s.loadSlot ≤ 1 := by
  unfold State.loadSlot
  dsimp only
  split
  · exact Nat.zero_le 1
  · split <;> omega

/-- The load slot is emptied by the first chunk (R559). -/
def State.chunked (s : State) (offset : Nat) : State :=
  if offset = 0 then s.setSlot s.loadSlot {} else s.lifeAdd accWear (5 * 256 + s.loadSlot) 1

theorem chunked_host (s : State) (offset : Nat) : (s.chunked offset).host = s.host := by
  unfold State.chunked
  split
  · exact setSlot_host ..
  · rfl

theorem chunked_sec (s : State) (offset : Nat) :
    (s.chunked offset).sec = { s.sec with slot0 := (s.chunked offset).sec.slot0, slot1 := (s.chunked offset).sec.slot1 } ∧
      (s.chunked offset).dev = s.dev := by
  unfold State.chunked
  split
  · exact setSlot_sec ..
  · exact ⟨rfl, rfl⟩

theorem chunked_slotOf (s : State) (offset : Nat) :
    (s.chunked offset).slotOf (1 - s.loadSlot) = s.slotOf (1 - s.loadSlot) ∧
      (s.chunked offset).slotOf s.loadSlot = if offset = 0 then {} else s.slotOf s.loadSlot := by
  unfold State.chunked
  split
  · exact (slotOf_setSlot s {} (loadSlot_le s)).symm
  · exact ⟨rfl, rfl⟩

theorem slotOf_of_sec {s t : State} (h : t.sec = s.sec) (k : Nat) : t.slotOf k = s.slotOf k := by
  unfold State.slotOf; rw [h]

theorem verifyImage_of_sec {s t : State} (hr : t.sec.revoked = s.sec.revoked) (hc : t.sec.counter = s.sec.counter) (i : Image) :
    t.verifyImage i = s.verifyImage i := by
  unfold State.verifyImage; rw [hr, hc]

theorem loadChecks_pass {s : State} {e : Entry} {c : CmdRef} {b : Buf} {offset total : Nat} (hring : c.ring = e.ring)
    (h : s.loadOpen e b offset total) : ∀ x ∈ s.loadChecks c b offset total, x.1 = false := by
  obtain ⟨hlen, htotal, hmax, hside, hread, htrial, hload⟩ := h
  have htotal0 : total ≠ 0 := by omega
  have hargs : ¬(total < offset + b.len ∨ 3166208 < total ∨ (e.ring = 24 ∧ 39 < b.len)) := by
    rintro (h | h | ⟨h, h'⟩)
    · omega
    · omega
    · have := hside h; omega
  have hbuf : (e.ring != 24 && !s.bufRead b b.len) = false := by
    by_cases h : e.ring = 24
    · simp [h]
    · simp [hread h]
  unfold State.loadChecks
  rw [hring]
  cases hl : s.sec.load with
  | none =>
    rw [hl] at hload
    simp only [hload, List.mem_cons, List.not_mem_nil, or_false, forall_eq_or_imp, forall_eq, hbuf, htrial, Option.isSome_none,
      bne_self_eq_false, Bool.or_false, beq_eq_false_iff_ne, Bool.or_eq_false_iff, and_true]
    exact ⟨⟨hlen, htotal0⟩, decide_eq_false (hload ▸ hargs)⟩
  | some x =>
    obtain ⟨n, got⟩ := x
    rw [hl] at hload
    obtain ⟨rfl, rfl⟩ := hload
    simp only [List.mem_cons, List.not_mem_nil, or_false, forall_eq_or_imp, forall_eq, hbuf, htrial, Option.isSome_none,
      bne_self_eq_false, Bool.or_false, beq_eq_false_iff_ne, Bool.or_eq_false_iff, and_true]
    exact ⟨⟨hlen, htotal0⟩, decide_eq_false hargs⟩

/-- The effect of a chunk beside its slot: what the load has now. -/
def State.loadAt (s : State) (offset : Nat) (x : Option (Nat × Nat)) : State :=
  { s.chunked offset with sec := { (s.chunked offset).sec with load := x } }

theorem loadAt_sec (s : State) (offset : Nat) (x : Option (Nat × Nat)) :
    (s.loadAt offset x).sec.load = x ∧ (s.loadAt offset x).sec.running = s.sec.running ∧
      (s.loadAt offset x).sec.revoked = s.sec.revoked ∧ (s.loadAt offset x).sec.counter = s.sec.counter := by
  have hsec := (chunked_sec s offset).1
  exact ⟨rfl, (congrArg Sec.running hsec :), (congrArg Sec.revoked hsec :), (congrArg Sec.counter hsec :)⟩

theorem fwLoadBody_part {s : State} {c : CmdRef} {b : Buf} {offset total : Nat} (i : Image)
    (h : ∀ x ∈ s.loadChecks c b offset total, x.1 = false) (hpart : offset + b.len < total) :
    fwLoadBody b offset total i c s = .done (s.loadAt offset (some (total, offset + b.len))) 0 [(s.loadSlot, 1, offset + b.len)] :=
  (guarded_pass _ h).trans (if_pos hpart)

/-- The slot with the image that verified, which RECOVERY boots next (R559). -/
def State.imageLoaded (s : State) (offset : Nat) (i : Image) : State :=
  let t := (s.loadAt offset none).setSlot s.loadSlot ⟨.valid, some i⟩
  { t with sec := { t.sec with verified := if t.dev.mode == Mode.recovery then some s.loadSlot else t.sec.verified } }

theorem fwLoadBody_last {s : State} {c : CmdRef} {b : Buf} {offset total : Nat} {i : Image}
    (h : ∀ x ∈ s.loadChecks c b offset total, x.1 = false) (hlast : offset + b.len = total) (hsize : total = 20480 + i.codeLen) :
    fwLoadBody b offset total i c s = match s.verifyImage i with
      | some (st, detail) => .refuseIn (s.loadAt offset none) st 0xFFFFFFFF detail
      | none => .done (s.imageLoaded offset i) 0 [(s.loadSlot, 1, i.version)] := by
  obtain ⟨-, -, hrevoked, hcounter⟩ := loadAt_sec s offset none
  have hverify : (s.loadAt offset none).verifyLoad total i = s.verifyImage i := by
    unfold State.verifyLoad
    rw [if_neg (by omega), verifyImage_of_sec hrevoked hcounter]
  refine (guarded_pass _ h).trans ((if_neg (by omega)).trans ?_)
  show (match (s.loadAt offset none).verifyLoad total i with
    | some (st, detail) => Reply.refuseIn (s.loadAt offset none) st 0xFFFFFFFF detail
    | none => .done (s.imageLoaded offset i) 0 [(s.loadSlot, 1, i.version)]) = _
  rw [hverify]

theorem imageLoaded_leaves (s : State) (offset : Nat) (i : Image) :
    (s.imageLoaded offset i).host = s.host ∧ (s.imageLoaded offset i).sec.load = none ∧
      (s.imageLoaded offset i).slotOf s.loadSlot = ⟨.valid, some i⟩ ∧
      (s.imageLoaded offset i).slotOf (1 - s.loadSlot) = s.slotOf (1 - s.loadSlot) ∧
      (s.dev.mode = .recovery → (s.imageLoaded offset i).sec.verified = some s.loadSlot) := by
  obtain ⟨hslot, hother⟩ := slotOf_setSlot (s.loadAt offset none) (k := s.loadSlot) ⟨.valid, some i⟩ (loadSlot_le s)
  obtain ⟨hsec, hdev⟩ := setSlot_sec (s.loadAt offset none) s.loadSlot ⟨.valid, some i⟩
  refine ⟨(setSlot_host ..).trans (chunked_host s offset), congrArg Sec.load hsec, hslot,
    hother.trans (chunked_slotOf s offset).1, fun hmode => ?_⟩
  have : ((s.loadAt offset none).setSlot s.loadSlot ⟨.valid, some i⟩).dev.mode = .recovery :=
    (congrArg Device.mode (hdev.trans (chunked_sec s offset).2)).trans hmode
  exact if_pos (beq_iff_eq.mpr this)

/-- Settles O44: the slot of each chunk, and what the last one leaves in it. -/
theorem firmwareLoaded : Obligations.FirmwareLoaded := by
  refine ⟨fun e b => ?_, fun e b offset total i => ?_, fun e b offset total i s ha hj hopen hlast hsize => ?_⟩
  · refine completes_told (body := fwInfoBody b) (fun _ => rfl) fun s c hc hp => ?_
    by_cases h24 : e.ring = 24
    · refine ⟨s.respond 24 s.fwInfoBytes, [], if_pos (hc.1.trans h24), rfl, ⟨fun _ => rfl, fun _ => rfl⟩,
        fun u hu _ hresp => ⟨(quiet_respond ..).trans hu.quiet, fun _ => hresp, fun _ h => absurd h24 h⟩⟩
    · obtain ⟨hlen, hwrite⟩ := hp h24
      have hbody : fwInfoBody b c s = .done (s.hostWrite b.addr s.fwInfoBytes) :=
        (if_neg (fun h => h24 (hc.1.symm.trans h))).trans (guarded_pass _ (bufChecks_pass (write := true) hlen (by omega) hwrite))
      refine ⟨s.hostWrite b.addr s.fwInfoBytes, [], hbody, rfl, ownPlaceKept_hostWrite .., fun u hu _ _ =>
        ⟨(quiet_hostWrite ..).trans hu.quiet, fun h => absurd h h24, fun h16 _ => ?_⟩⟩
      rw [hu.mem h16, hostWrite_reads]
  · refine completes_told (body := fwLoadBody b offset total i) (fun _ => rfl) fun s c hc hp => ?_
    obtain ⟨hopen, hpart⟩ := hp
    refine ⟨_, [(s.loadSlot, 1, offset + b.len)], fwLoadBody_part i (loadChecks_pass hc.1 hopen) hpart, rfl,
      ownPlaceKept_of_host e (chunked_host s offset), fun u hu _ _ => ?_⟩
    obtain ⟨hload, hrunning, -, -⟩ := loadAt_sec s offset (some (total, offset + b.len))
    obtain ⟨hother, hslot⟩ := chunked_slotOf s offset
    refine ⟨hu.quiet.sec ▸ hload, hu.quiet.sec ▸ hrunning, fun h0 => ?_, (slotOf_of_sec hu.quiet.sec _).trans hother⟩
    exact (slotOf_of_sec hu.quiet.sec _).trans (hslot.trans (if_pos h0))
  · have hbody := fwLoadBody_last (c := s.servedRef (CmdDesc.of ⟨0x1202, 3, true, false, []⟩ (.fwLoad e b offset total i)) e) (i := i)
      (loadChecks_pass rfl hopen) hlast hsize
    generalize hd : CmdDesc.of ⟨0x1202, 3, true, false, []⟩ (.fwLoad e b offset total i) = d at ha hbody
    have hserved : s.served ⟨0x1202, 3, true, false, []⟩ e = s.served d e := by rw [← hd]; rfl
    rw [hserved] at hj hopen hbody
    have hexec : exec (.fwLoad e b offset total i) s = _ :=
      (congrArg (fun d => serve d e s (fwLoadBody b offset total i)) hd).trans (serve_admits d e s _ ha)
    have hsec : (s.served d e).sec = s.sec := (quiet_served ..).sec
    have hdev : (s.served d e).dev = s.dev := (quiet_served ..).dev
    have hk : (s.served d e).loadSlot = s.loadSlot := by unfold State.loadSlot; rw [hsec]
    have hverify : (s.served d e).verifyImage i = s.verifyImage i := verifyImage_of_sec (by rw [hsec]) (by rw [hsec]) i
    have hkept : (s.served d e).slotOf (1 - s.loadSlot) = s.slotOf (1 - s.loadSlot) := slotOf_of_sec hsec _
    rw [hbody, hverify] at hexec
    cases hv : s.verifyImage i with
    | none =>
      obtain ⟨hhost, hload, hslot, hother, hverified⟩ := imageLoaded_leaves (s.served d e) offset i
      rw [hk, hdev] at hverified
      rw [hk] at hslot hother
      rw [hv] at hexec
      simp only [State.finish, List.length_singleton, hj, if_true] at hexec
      have hleaves := (journalled_after ((s.served d e).imageLoaded offset i) (s.servedRef d e) e e.submitSeq 0
        [((s.served d e).loadSlot, 1, i.version)] rfl).quiet.sec
      refine ⟨_, hexec, hleaves ▸ hload, (slotOf_of_sec hleaves _).trans (hother.trans hkept), fun _ => ?_, fun h => absurd rfl h⟩
      exact ⟨journalled_posted ha (ownPlaceKept_of_host e hhost), (slotOf_of_sec hleaves _).trans hslot,
        fun hmode => hleaves ▸ hverified hmode⟩
    | some x =>
      obtain ⟨st, detail⟩ := x
      rw [hv] at hexec
      have hquiet := (quiet_refuseCmd ((s.served d e).loadAt offset none) (s.servedRef d e) st 0xFFFFFFFF detail).sec
      obtain ⟨hother, hslot⟩ := chunked_slotOf (s.served d e) offset
      rw [hk] at hother hslot
      refine ⟨_, hexec, hquiet ▸ (loadAt_sec ..).1, (slotOf_of_sec hquiet _).trans (hother.trans hkept), nofun, fun _ => ?_⟩
      have hnow : (((s.served d e).loadAt offset none).refuseCmd (s.servedRef d e) st 0xFFFFFFFF detail).slotOf s.loadSlot =
          if offset = 0 then {} else s.slotOf s.loadSlot :=
        (slotOf_of_sec hquiet _).trans (hslot.trans (by rw [slotOf_of_sec hsec]))
      by_cases h0 : offset = 0
      · exact .inl fun hvalid => by cases (congrArg ImageSlot.state (hnow.trans (if_pos h0))).symm.trans hvalid
      · exact .inr (hnow.trans (if_neg h0))

end Sys2Proof.Machine
end

section
/-!
PROOFS. What an operation may touch, part by part of the state, and that it keeps the canonical form of host memory. One rule per
operation; the statements about modes, resets, boundaries and the whole step use them.
-/
namespace Sys2Proof.Machine

-- One theorem after the other: many at once need more stacks than the memory limit of the check allows.
set_option Elab.async false

/-- The parts of the state. The clock's free values, the mode and role of the device, the counts and the generation stand apart from
the rest of their components. -/
inductive Part where
  | clk | free | mode | dev | host | par | counts | lanes | tribs | sw | com | gen | prot | obs | tim | pair | jcc | pow | flt | log | sec
  | pending
  deriving DecidableEq

/-- All parts but some. -/
def allBut (l : List Part) : List Part :=
  [.clk, .free, .mode, .dev, .host, .par, .counts, .lanes, .tribs, .sw, .com, .gen, .prot, .obs, .tim, .pair, .jcc, .pow, .flt, .log, .sec,
    .pending].filter fun p => !l.contains p

/-- Mode, role and what waits for a mode. -/
def Device.modes (d : Device) : Device :=
  { mode := d.mode, pend := d.pend, toTransport := d.toTransport, prevMode := d.prevMode, role := d.role, joined := d.joined }

/-- The device with the modes of another. -/
def Device.withModes (d x : Device) : Device :=
  { d with mode := x.mode, pend := x.pend, toTransport := x.toTransport, prevMode := x.prevMode, role := x.role, joined := x.joined }

/-- s and t agree on a part. -/
def State.sees (s t : State) (p : Part) : Prop :=
  match p with
  | .clk => { t.clk with free := s.clk.free } = s.clk
  | .free => t.clk.free = s.clk.free
  | .mode => t.dev.modes = s.dev.modes
  | .dev => t.dev.withModes s.dev = s.dev
  | .host => t.host = s.host
  | .par => { t.par with counts := s.par.counts } = s.par
  | .counts => t.par.counts = s.par.counts
  | .lanes => t.lanes = s.lanes
  | .tribs => t.tribs = s.tribs
  | .sw => t.sw = s.sw
  | .com => { t.com with gen := s.com.gen } = s.com
  | .gen => t.com.gen = s.com.gen
  | .prot => t.prot = s.prot
  | .obs => t.obs = s.obs
  | .tim => t.tim = s.tim
  | .pair => t.pair = s.pair
  | .jcc => t.jcc = s.jcc
  | .pow => t.pow = s.pow
  | .flt => t.flt = s.flt
  | .log => t.log = s.log
  | .sec => t.sec = s.sec
  | .pending => t.pending = s.pending

theorem sees_refl (s : State) (p : Part) : s.sees s p := by cases p <;> rfl

theorem State.sees.trans {s t u : State} {p : Part} (h : s.sees t p) (k : t.sees u p) : s.sees u p := by
  cases p
  case clk =>
    have hfree : ({ u.clk with free := s.clk.free } : Clock) = { t.clk with free := s.clk.free } :=
      (congrArg (fun x : Clock => { x with free := s.clk.free }) k :)
    exact hfree.trans h
  case dev =>
    have hmodes : u.dev.withModes s.dev = t.dev.withModes s.dev := (congrArg (fun x : Device => x.withModes s.dev) k :)
    exact hmodes.trans h
  case par =>
    have hcounts : ({ u.par with counts := s.par.counts } : Params) = { t.par with counts := s.par.counts } :=
      (congrArg (fun x : Params => { x with counts := s.par.counts }) k :)
    exact hcounts.trans h
  case com =>
    have hgen : ({ u.com with gen := s.com.gen } : Commit) = { t.com with gen := s.com.gen } :=
      (congrArg (fun x : Commit => { x with gen := s.com.gen }) k :)
    exact hgen.trans h
  all_goals exact Eq.trans k h

/-- The parts of t in l, and the other parts of s. -/
def State.having (l : List Part) (s t : State) : State :=
  { clk := { (if l.contains .clk then t.clk else s.clk) with free := if l.contains .free then t.clk.free else s.clk.free }
    dev := (if l.contains .dev then t.dev else s.dev).withModes (if l.contains .mode then t.dev else s.dev)
    host := if l.contains .host then t.host else s.host
    par := { (if l.contains .par then t.par else s.par) with counts := if l.contains .counts then t.par.counts else s.par.counts }
    lanes := if l.contains .lanes then t.lanes else s.lanes
    tribs := if l.contains .tribs then t.tribs else s.tribs
    sw := if l.contains .sw then t.sw else s.sw
    com := { (if l.contains .com then t.com else s.com) with gen := if l.contains .gen then t.com.gen else s.com.gen }
    prot := if l.contains .prot then t.prot else s.prot
    obs := if l.contains .obs then t.obs else s.obs
    tim := if l.contains .tim then t.tim else s.tim
    pair := if l.contains .pair then t.pair else s.pair
    jcc := if l.contains .jcc then t.jcc else s.jcc
    pow := if l.contains .pow then t.pow else s.pow
    flt := if l.contains .flt then t.flt else s.flt
    log := if l.contains .log then t.log else s.log
    sec := if l.contains .sec then t.sec else s.sec
    pending := if l.contains .pending then t.pending else s.pending }

/-- What the invariant of every step reads. -/
def State.kept (s : State) : Memory × Memory × Nat × Nat :=
  (s.host.mem, s.jcc.sram, s.sec.counter, s.sec.revoked)

/-- Memories in canonical form stay so, and OTP goes one way only (R550). -/
def State.keeps (s t : State) : Prop := (s.memOk → t.memOk) ∧ s.otpLe t

theorem keeps_of_kept {s t : State} (h : t.kept = s.kept) : s.keeps t := by
  obtain ⟨hhost, hsram, hcounter, hrevoked⟩ : t.host.mem = s.host.mem ∧ t.jcc.sram = s.jcc.sram ∧ t.sec.counter = s.sec.counter ∧
      t.sec.revoked = s.sec.revoked := by simpa only [State.kept, Prod.mk.injEq] using h
  refine ⟨fun hw => ⟨hhost ▸ hw.1, hsram ▸ hw.2⟩, hcounter ▸ le_rfl, fun k hk => hrevoked ▸ hk⟩

theorem keeps_refl (s : State) : s.keeps s := keeps_of_kept rfl

theorem State.keeps.trans {s t u : State} (h : s.keeps t) (k : t.keeps u) : s.keeps u := by
  obtain ⟨hmem, hcounter, hrevoked⟩ := h
  obtain ⟨kmem, kcounter, krevoked⟩ := k
  exact ⟨fun hw => kmem (hmem hw), hcounter.trans kcounter, fun n hn => krevoked n (hrevoked n hn)⟩

/-- From s to t no part but those in l changes, and the invariant of every step is kept. -/
def State.touches (l : List Part) (s t : State) : Prop :=
  (∀ p, l.contains p = false → s.sees t p) ∧ s.keeps t

/-- The rule for a change of fields: it is a change of the parts in which the fields lie. -/
theorem touches_of_having {l : List Part} {s t : State} (h : t = s.having l t) (hk : s.keeps t) : s.touches l t := by
  refine ⟨fun p hp => ?_, hk⟩
  rw [h]
  cases p <;> simp only [State.sees, State.having, hp, Bool.false_eq_true, if_false] <;> rfl

theorem touches_refl (l : List Part) (s : State) : s.touches l s := ⟨fun p _ => sees_refl s p, keeps_refl s⟩

/-- Every part in the first list is in the second. -/
def subParts (l m : List Part) : Bool := l.all m.contains

theorem subParts_refl (l : List Part) : subParts l l = true :=
  List.all_eq_true.mpr fun _ hp => List.contains_iff_mem.mpr hp

theorem subParts_trans {k l m : List Part} (h : subParts k l = true) (h' : subParts l m = true) : subParts k m = true :=
  List.all_eq_true.mpr fun p hp => List.all_eq_true.mp h' p (List.contains_iff_mem.mp (List.all_eq_true.mp h p hp))

/-- What touches l and then m, both within l, touches l. -/
theorem State.touches.then {l m : List Part} {s t u : State} (h : State.touches l s t) (k : State.touches m t u)
    (hm : subParts m l = true := by rfl) : State.touches l s u := by
  refine ⟨fun p hp => (h.1 p hp).trans (k.1 p ?_), h.2.trans k.2⟩
  by_contra hc
  have hin : p ∈ m := List.contains_iff_mem.mp (Bool.eq_true_of_not_eq_false hc)
  have hl := List.all_eq_true.mp hm p hin
  rw [hp] at hl
  cases hl

/-- The same, read from the last operation back. -/
theorem State.touches.after {l m : List Part} {s t u : State} (k : State.touches m t u) (h : State.touches l s t)
    (hm : subParts m l = true := by rfl) : State.touches l s u := h.then k hm

/-- A change of fields of t, after what touches l. -/
theorem touches_fields {l : List Part} {s t u : State} (hu : u = t.having l u) (hk : u.kept = t.kept)
    (h : State.touches l s t) : State.touches l s u :=
  ⟨fun p hp => (h.1 p hp).trans ((touches_of_having hu (keeps_of_kept hk)).1 p hp), h.2.trans (keeps_of_kept hk)⟩

theorem State.touches.upd {l : List Part} {s t u : State} (h : State.touches l s t) (hu : u = t.having l u := by rfl)
    (hk : u.kept = t.kept := by rfl) : State.touches l s u := touches_fields hu hk h

/-- A change of fields of s itself. -/
theorem touches_upd {l : List Part} {s u : State} (hu : u = s.having l u := by rfl) (hk : u.kept = s.kept := by rfl) :
    s.touches l u := touches_of_having hu (keeps_of_kept hk)

/-- What touches some parts touches no more than a longer list. -/
theorem State.touches.le {l m : List Part} {s t : State} (k : State.touches m s t) (hm : subParts m l = true := by rfl) :
    State.touches l s t := (touches_refl l s).then k hm

/-- What is quiet touches the host interface, the telemetry and the counts. -/
theorem State.quiet.touches {s t : State} (h : s.quiet t) (hm : Memory.wf s.host.mem → Memory.wf t.host.mem) :
    s.touches [.host, .counts, .log] t := by
  have hk : s.keeps t := ⟨fun hw => ⟨hm hw.1, h.jcc ▸ hw.2⟩, h.sec ▸ le_rfl, fun k hk => h.sec ▸ hk⟩
  refine ⟨fun p hp => ?_, hk⟩
  rw [State.quiet] at h
  rw [h]
  cases p <;> first | rfl | cases hp

theorem State.tells.touches {s t : State} (h : s.tells t) : s.touches [.counts, .log] t := by
  have hq := h.quiet.touches fun hw => h.host ▸ hw
  refine ⟨fun p hp => ?_, hq.2⟩
  cases p
  case host => exact h.host
  case counts | log => cases hp
  all_goals exact hq.1 _ rfl

theorem State.touches.gen {l : List Part} {s t : State} (h : State.touches l s t) (hl : l.contains Part.gen = false := by rfl) :
    t.com.gen = s.com.gen := h.1 .gen hl

theorem touches_ite {l : List Part} {s a b : State} (p : Prop) [Decidable p] (h : s.touches l a) (k : s.touches l b) :
    s.touches l (if p then a else b) := by split <;> assumption

theorem touches_foldl {l : List Part} {α : Type} {s t : State} (h : s.touches l t) {f : State → α → State} (xs : List α)
    (hf : ∀ u a, State.touches l u (f u a)) : s.touches l (xs.foldl f t) := by
  induction xs generalizing t with
  | nil => exact h
  | cons a r ih =>
    exact ih ⟨fun p hp => (h.1 p hp).trans ((hf t a).1 p hp), h.2.trans (hf t a).2⟩

/-- A reply that applies touches no part but those in l; a refusal as it stands and a no-op touch none. -/
def Reply.touches (l : List Part) (s : State) (r : Reply) : Prop :=
  match r with
  | .refuseIn t .. => State.touches l s t
  | .done t .. => State.touches l s t
  | .accept t .. => State.touches l s t
  | .restart f _ => ∀ u, State.touches l u (f u)
  | _ => True

/-- A next state touches no part but those in l. -/
def nextTouches (l : List Part) (s : State) (o : Host.Outcome State Fault Refusal) : Prop :=
  match o with
  | .next t => State.touches l s t
  | _ => True

theorem reply_touches_ite {l : List Part} {s : State} {a b : Reply} (p : Prop) [Decidable p] (h : a.touches l s) (k : b.touches l s) :
    (if p then a else b).touches l s := by split <;> assumption

theorem nextTouches_ite {l : List Part} {s : State} {a b : Host.Outcome State Fault Refusal} (p : Prop) [Decidable p]
    (h : nextTouches l s a) (k : nextTouches l s b) : nextTouches l s (if p then a else b) := by split <;> assumption

theorem touches_guarded {l : List Part} {s : State} {r : Reply} (cs : List (Bool × Nat × Nat)) (h : r.touches l s) :
    (guarded cs r).touches l s := by
  induction cs with
  | nil => exact h
  | cons x xs ih => exact reply_touches_ite _ trivial ih

theorem touches_checkItems {l : List Part} {α : Type} {s : State} {r : Reply} (xs : List α) (bad : α → Bool) (st : Nat)
    (h : r.touches l s) : (checkItems xs bad st r).touches l s := by
  unfold checkItems
  split
  · trivial
  · exact h

theorem touches_checkDup {l : List Part} {s : State} {r : Reply} (xs : List Nat) (h : r.touches l s) :
    (checkDup xs r).touches l s := by
  unfold checkDup
  split
  · trivial
  · exact h

theorem Reply.touches.after {l m : List Part} {s t : State} {r : Reply} (k : r.touches m t) (h : State.touches l s t)
    (hm : subParts m l = true := by rfl) : r.touches l s := by
  cases r
  case refuseIn | done | accept => exact State.touches.after k h hm
  case restart f _ => exact fun u => (k u).le hm
  all_goals trivial

theorem Reply.touches.le {l m : List Part} {s : State} {r : Reply} (k : r.touches m s) (hm : subParts m l = true := by rfl) :
    r.touches l s := k.after (touches_refl l s) hm

theorem nextTouches.after {l m : List Part} {s t : State} {o : Host.Outcome State Fault Refusal} (k : nextTouches m t o)
    (h : State.touches l s t) (hm : subParts m l = true := by rfl) : nextTouches l s o := by
  cases o
  case next => exact State.touches.after k h hm
  all_goals trivial

theorem nextTouches.le {l m : List Part} {s : State} {o : Host.Outcome State Fault Refusal} (k : nextTouches m s o)
    (hm : subParts m l = true := by rfl) : nextTouches l s o := k.after (touches_refl l s) hm

theorem touches_hostWrite (s : State) (addr : Nat) (bs : List Byte) : State.touches [.host] s (s.hostWrite addr bs) :=
  touches_of_having rfl ⟨fun hw => ⟨hostWrite_wf s addr bs hw.1, hw.2⟩, le_rfl, fun _ h => h⟩

theorem touches_perfOccupancy_go (ev i o c : Nat) (cs : List (Nat × PerfCtr)) (s : State) :
    State.touches [.log] s (State.perfOccupancy.go ev i o c cs s) := by
  induction cs generalizing s with
  | nil => exact touches_refl ..
  | cons x r ih =>
    rw [State.perfOccupancy.go]
    exact touches_ite _ ((ih _).after touches_upd) (ih _)

/-! ### One part set -/

theorem touches_of_sees {p : Part} {s t : State} (h : ∀ q, q ≠ p → s.sees t q) (hk : s.keeps t) : State.touches [p] s t := by
  refine ⟨fun q hq => h q ?_, hk⟩
  rintro rfl
  simp at hq

theorem touches_set_clk (s : State) (x : Clock) (h : x.free = s.clk.free := by rfl) : State.touches [.clk] s { s with clk := x } :=
  touches_of_sees (fun q hq => by cases q <;> first | rfl | assumption | exact absurd rfl hq) (keeps_of_kept rfl)

theorem touches_set_free (s : State) (x : Clock) (h : { x with free := s.clk.free } = s.clk := by rfl) : State.touches [.free] s { s with clk := x } :=
  touches_of_sees (fun q hq => by cases q <;> first | rfl | assumption | exact absurd rfl hq) (keeps_of_kept rfl)

theorem touches_set_mode (s : State) (x : Device) (h : x.withModes s.dev = s.dev := by rfl) : State.touches [.mode] s { s with dev := x } :=
  touches_of_sees (fun q hq => by cases q <;> first | rfl | assumption | exact absurd rfl hq) (keeps_of_kept rfl)

theorem touches_set_dev (s : State) (x : Device) (h : x.modes = s.dev.modes := by rfl) : State.touches [.dev] s { s with dev := x } :=
  touches_of_sees (fun q hq => by cases q <;> first | rfl | assumption | exact absurd rfl hq) (keeps_of_kept rfl)

theorem touches_set_host (s : State) (x : HostIf) (h : x.mem = s.host.mem := by rfl) : State.touches [.host] s { s with host := x } :=
  touches_of_sees (fun q hq => by cases q <;> first | rfl | assumption | exact absurd rfl hq) ⟨fun hw => ⟨h ▸ hw.1, hw.2⟩, le_rfl, fun _ hk => hk⟩

theorem touches_set_par (s : State) (x : Params) (h : x.counts = s.par.counts := by rfl) : State.touches [.par] s { s with par := x } :=
  touches_of_sees (fun q hq => by cases q <;> first | rfl | assumption | exact absurd rfl hq) (keeps_of_kept rfl)

theorem touches_set_counts (s : State) (x : Params) (h : { x with counts := s.par.counts } = s.par := by rfl) : State.touches [.counts] s { s with par := x } :=
  touches_of_sees (fun q hq => by cases q <;> first | rfl | assumption | exact absurd rfl hq) (keeps_of_kept rfl)

theorem touches_set_lanes (s : State) (x : Table Lane) : State.touches [.lanes] s { s with lanes := x } :=
  touches_of_sees (fun q hq => by cases q <;> first | rfl | assumption | exact absurd rfl hq) (keeps_of_kept rfl)

theorem touches_set_tribs (s : State) (x : Table Trib) : State.touches [.tribs] s { s with tribs := x } :=
  touches_of_sees (fun q hq => by cases q <;> first | rfl | assumption | exact absurd rfl hq) (keeps_of_kept rfl)

theorem touches_set_sw (s : State) (x : Switch) : State.touches [.sw] s { s with sw := x } :=
  touches_of_sees (fun q hq => by cases q <;> first | rfl | assumption | exact absurd rfl hq) (keeps_of_kept rfl)

theorem touches_set_com (s : State) (x : Commit) (h : x.gen = s.com.gen := by rfl) : State.touches [.com] s { s with com := x } :=
  touches_of_sees (fun q hq => by cases q <;> first | rfl | assumption | exact absurd rfl hq) (keeps_of_kept rfl)

theorem touches_set_prot (s : State) (x : Prot) : State.touches [.prot] s { s with prot := x } :=
  touches_of_sees (fun q hq => by cases q <;> first | rfl | assumption | exact absurd rfl hq) (keeps_of_kept rfl)

theorem touches_set_obs (s : State) (x : Obs) : State.touches [.obs] s { s with obs := x } :=
  touches_of_sees (fun q hq => by cases q <;> first | rfl | assumption | exact absurd rfl hq) (keeps_of_kept rfl)

theorem touches_set_tim (s : State) (x : Timing) : State.touches [.tim] s { s with tim := x } :=
  touches_of_sees (fun q hq => by cases q <;> first | rfl | assumption | exact absurd rfl hq) (keeps_of_kept rfl)

theorem touches_set_pair (s : State) (x : Pair) : State.touches [.pair] s { s with pair := x } :=
  touches_of_sees (fun q hq => by cases q <;> first | rfl | assumption | exact absurd rfl hq) (keeps_of_kept rfl)

theorem touches_set_jcc (s : State) (x : Jcc) (h : x.sram = s.jcc.sram := by rfl) : State.touches [.jcc] s { s with jcc := x } :=
  touches_of_sees (fun q hq => by cases q <;> first | rfl | assumption | exact absurd rfl hq) ⟨fun hw => ⟨hw.1, h ▸ hw.2⟩, le_rfl, fun _ hk => hk⟩

theorem touches_set_pow (s : State) (x : Power) : State.touches [.pow] s { s with pow := x } :=
  touches_of_sees (fun q hq => by cases q <;> first | rfl | assumption | exact absurd rfl hq) (keeps_of_kept rfl)

theorem touches_set_flt (s : State) (x : Faults) : State.touches [.flt] s { s with flt := x } :=
  touches_of_sees (fun q hq => by cases q <;> first | rfl | assumption | exact absurd rfl hq) (keeps_of_kept rfl)

theorem touches_set_log (s : State) (x : Log) : State.touches [.log] s { s with log := x } :=
  touches_of_sees (fun q hq => by cases q <;> first | rfl | assumption | exact absurd rfl hq) (keeps_of_kept rfl)

theorem touches_set_sec (s : State) (x : Sec) (h₁ : x.counter = s.sec.counter := by rfl) (h₂ : x.revoked = s.sec.revoked := by rfl) : State.touches [.sec] s { s with sec := x } :=
  touches_of_sees (fun q hq => by cases q <;> first | rfl | assumption | exact absurd rfl hq) (⟨fun hw => hw, h₁.ge, fun k hk => h₂ ▸ hk⟩)

theorem touches_set_clkFree (s : State) (x : Clock) : State.touches [.clk, .free] s { s with clk := x } :=
  ⟨fun p hp => by cases p <;> first | rfl | simp at hp, keeps_of_kept rfl⟩

theorem touches_set_devMode (s : State) (x : Device) : State.touches [.mode, .dev] s { s with dev := x } :=
  ⟨fun p hp => by cases p <;> first | rfl | simp at hp, keeps_of_kept rfl⟩

theorem touches_set_parCounts (s : State) (x : Params) : State.touches [.par, .counts] s { s with par := x } :=
  ⟨fun p hp => by cases p <;> first | rfl | simp at hp, keeps_of_kept rfl⟩

theorem touches_set_comGen (s : State) (x : Commit) : State.touches [.com, .gen] s { s with com := x } :=
  ⟨fun p hp => by cases p <;> first | rfl | simp at hp, keeps_of_kept rfl⟩

/-! ### One part set, after what touches l -/

theorem State.touches.set_clk {l : List Part} {s t : State} {x : Clock} (k : State.touches l s t) (h : x.free = t.clk.free := by rfl)
    (hl : subParts [.clk] l = true := by rfl) : State.touches l s { t with clk := x } := (touches_set_clk t x h).after k hl

theorem State.touches.set_free {l : List Part} {s t : State} {x : Clock} (k : State.touches l s t) (h : { x with free := t.clk.free } = t.clk := by rfl)
    (hl : subParts [.free] l = true := by rfl) : State.touches l s { t with clk := x } := (touches_set_free t x h).after k hl

theorem State.touches.set_mode {l : List Part} {s t : State} {x : Device} (k : State.touches l s t) (h : x.withModes t.dev = t.dev := by rfl)
    (hl : subParts [.mode] l = true := by rfl) : State.touches l s { t with dev := x } := (touches_set_mode t x h).after k hl

theorem State.touches.set_dev {l : List Part} {s t : State} {x : Device} (k : State.touches l s t) (h : x.modes = t.dev.modes := by rfl)
    (hl : subParts [.dev] l = true := by rfl) : State.touches l s { t with dev := x } := (touches_set_dev t x h).after k hl

theorem State.touches.set_host {l : List Part} {s t : State} {x : HostIf} (k : State.touches l s t) (h : x.mem = t.host.mem := by rfl)
    (hl : subParts [.host] l = true := by rfl) : State.touches l s { t with host := x } := (touches_set_host t x h).after k hl

theorem State.touches.set_par {l : List Part} {s t : State} {x : Params} (k : State.touches l s t) (h : x.counts = t.par.counts := by rfl)
    (hl : subParts [.par] l = true := by rfl) : State.touches l s { t with par := x } := (touches_set_par t x h).after k hl

theorem State.touches.set_counts {l : List Part} {s t : State} {x : Params} (k : State.touches l s t) (h : { x with counts := t.par.counts } = t.par := by rfl)
    (hl : subParts [.counts] l = true := by rfl) : State.touches l s { t with par := x } := (touches_set_counts t x h).after k hl

theorem State.touches.set_lanes {l : List Part} {s t : State} {x : Table Lane} (k : State.touches l s t)
    (hl : subParts [.lanes] l = true := by rfl) : State.touches l s { t with lanes := x } := (touches_set_lanes t x).after k hl

theorem State.touches.set_tribs {l : List Part} {s t : State} {x : Table Trib} (k : State.touches l s t)
    (hl : subParts [.tribs] l = true := by rfl) : State.touches l s { t with tribs := x } := (touches_set_tribs t x).after k hl

theorem State.touches.set_sw {l : List Part} {s t : State} {x : Switch} (k : State.touches l s t)
    (hl : subParts [.sw] l = true := by rfl) : State.touches l s { t with sw := x } := (touches_set_sw t x).after k hl

theorem State.touches.set_com {l : List Part} {s t : State} {x : Commit} (k : State.touches l s t) (h : x.gen = t.com.gen := by rfl)
    (hl : subParts [.com] l = true := by rfl) : State.touches l s { t with com := x } := (touches_set_com t x h).after k hl

theorem State.touches.set_prot {l : List Part} {s t : State} {x : Prot} (k : State.touches l s t)
    (hl : subParts [.prot] l = true := by rfl) : State.touches l s { t with prot := x } := (touches_set_prot t x).after k hl

theorem State.touches.set_obs {l : List Part} {s t : State} {x : Obs} (k : State.touches l s t)
    (hl : subParts [.obs] l = true := by rfl) : State.touches l s { t with obs := x } := (touches_set_obs t x).after k hl

theorem State.touches.set_tim {l : List Part} {s t : State} {x : Timing} (k : State.touches l s t)
    (hl : subParts [.tim] l = true := by rfl) : State.touches l s { t with tim := x } := (touches_set_tim t x).after k hl

theorem State.touches.set_pair {l : List Part} {s t : State} {x : Pair} (k : State.touches l s t)
    (hl : subParts [.pair] l = true := by rfl) : State.touches l s { t with pair := x } := (touches_set_pair t x).after k hl

theorem State.touches.set_jcc {l : List Part} {s t : State} {x : Jcc} (k : State.touches l s t) (h : x.sram = t.jcc.sram := by rfl)
    (hl : subParts [.jcc] l = true := by rfl) : State.touches l s { t with jcc := x } := (touches_set_jcc t x h).after k hl

theorem State.touches.set_pow {l : List Part} {s t : State} {x : Power} (k : State.touches l s t)
    (hl : subParts [.pow] l = true := by rfl) : State.touches l s { t with pow := x } := (touches_set_pow t x).after k hl

theorem State.touches.set_flt {l : List Part} {s t : State} {x : Faults} (k : State.touches l s t)
    (hl : subParts [.flt] l = true := by rfl) : State.touches l s { t with flt := x } := (touches_set_flt t x).after k hl

theorem State.touches.set_log {l : List Part} {s t : State} {x : Log} (k : State.touches l s t)
    (hl : subParts [.log] l = true := by rfl) : State.touches l s { t with log := x } := (touches_set_log t x).after k hl

theorem State.touches.set_sec {l : List Part} {s t : State} {x : Sec} (k : State.touches l s t) (h₁ : x.counter = t.sec.counter := by rfl) (h₂ : x.revoked = t.sec.revoked := by rfl)
    (hl : subParts [.sec] l = true := by rfl) : State.touches l s { t with sec := x } := (touches_set_sec t x h₁ h₂).after k hl

theorem State.touches.set_clkFree {l : List Part} {s t : State} {x : Clock} (k : State.touches l s t)
    (hl : subParts [.clk, .free] l = true := by rfl) : State.touches l s { t with clk := x } := (touches_set_clkFree t x).after k hl

theorem State.touches.set_devMode {l : List Part} {s t : State} {x : Device} (k : State.touches l s t)
    (hl : subParts [.mode, .dev] l = true := by rfl) : State.touches l s { t with dev := x } := (touches_set_devMode t x).after k hl

theorem State.touches.set_parCounts {l : List Part} {s t : State} {x : Params} (k : State.touches l s t)
    (hl : subParts [.par, .counts] l = true := by rfl) : State.touches l s { t with par := x } := (touches_set_parCounts t x).after k hl

theorem State.touches.set_comGen {l : List Part} {s t : State} {x : Commit} (k : State.touches l s t)
    (hl : subParts [.com, .gen] l = true := by rfl) : State.touches l s { t with com := x } := (touches_set_comGen t x).after k hl

end Sys2Proof.Machine
end

section
/-!
PROOFS. What each operation may touch: operations, lanes and tributaries.
-/
namespace Sys2Proof.Machine

-- One theorem after the other: many at once need more stacks than the memory limit of the check allows.
set_option Elab.async false

/-! ### The operations on the state and the life of a command -/

theorem touches_setCur (s : State) (n : Pn) (obj v : Nat) : State.touches [.par] s (s.setCur n obj v) := by
  unfold State.setCur
  extract_lets _
  exact (touches_refl _ _).set_par

theorem touches_setLate (s : State) (n : Pn) (obj v : Nat) : State.touches [.par] s (s.setLate n obj v) := by
  unfold State.setLate
  extract_lets _ s1 _
  have h1 : State.touches [.par] s s1 := (touches_setCur ..).le
  exact h1.set_par

theorem touches_release (s : State) (n : Pn) (obj : Nat) : State.touches [.par] s (s.release n obj) := by
  unfold State.release
  extract_lets _
  exact (touches_refl _ _).set_par

theorem touches_load (s : State) (n : Pn) (obj v : Nat) : State.touches [.counts] s (s.load n obj v) := by
  unfold State.load
  extract_lets _
  exact (touches_refl _ _).set_counts

theorem touches_drawn (s : State) : State.touches [.free] s (s.drawn) := by
  unfold State.drawn
  extract_lets _
  exact (touches_refl _ _).set_free

theorem touches_setLane (s : State) (l : Nat) (x : Lane) : State.touches [.lanes] s (s.setLane l x) := by
  unfold State.setLane
  exact (touches_refl _ _).set_lanes

theorem touches_modLane (s : State) (l : Nat) (f : Lane → Lane) : State.touches [.lanes] s (s.modLane l f) := by
  unfold State.modLane
  exact (touches_setLane ..).le

theorem touches_setTrib (s : State) (t : Nat) (x : Trib) : State.touches [.tribs] s (s.setTrib t x) := by
  unfold State.setTrib
  exact (touches_refl _ _).set_tribs

theorem touches_modTrib (s : State) (t : Nat) (f : Trib → Trib) : State.touches [.tribs] s (s.modTrib t f) := by
  unfold State.modTrib
  exact (touches_setTrib ..).le

theorem touches_modDune (s : State) (d : Nat) (f : Dune → Dune) : State.touches [.sw] s (s.modDune d f) := by
  unfold State.modDune
  extract_lets _
  exact (touches_refl _ _).set_sw

theorem touches_modGroup (s : State) (g : Nat) (f : Machine.Group → Machine.Group) : State.touches [.prot] s (s.modGroup g f) := by
  unfold State.modGroup
  extract_lets _
  exact (touches_refl _ _).set_prot

theorem touches_setRingPair (s : State) (p : Nat) (x : RingPair) : State.touches [.host] s (s.setRingPair p x) := by
  unfold State.setRingPair
  extract_lets _
  exact (touches_refl _ _).set_host

theorem touches_setMailbox (s : State) (m : Nat) (x : Mailbox) : State.touches [.host] s (s.setMailbox m x) := by
  unfold State.setMailbox
  extract_lets _
  exact (touches_refl _ _).set_host

theorem touches_setSession (s : State) (k : Nat) (x : Session) : State.touches [.host] s (s.setSession k x) := by
  unfold State.setSession
  extract_lets _
  exact (touches_refl _ _).set_host

theorem touches_modRefIn (s : State) (i : Nat) (f : RefIn → RefIn) : State.touches [.tim] s (s.modRefIn i f) := by
  unfold State.modRefIn
  extract_lets _
  exact (touches_refl _ _).set_tim

theorem touches_modPpsIn (s : State) (i : Nat) (f : PpsIn → PpsIn) : State.touches [.tim] s (s.modPpsIn i f) := by
  unfold State.modPpsIn
  extract_lets _
  exact (touches_refl _ _).set_tim

theorem touches_modCut (s : State) (d : Nat) (f : CutStage → CutStage) : State.touches [.obs] s (s.modCut d f) := by
  unfold State.modCut
  extract_lets _
  exact (touches_refl _ _).set_obs

theorem touches_modFacetLane (s : State) (l : Nat) (f : FacetLane → FacetLane) : State.touches [.obs] s (s.modFacetLane l f) := by
  unfold State.modFacetLane
  extract_lets _ _
  exact (touches_refl _ _).set_obs

theorem touches_setShadow (s : State) (b : Bank) : State.touches [.sw] s (s.setShadow b) := by
  unfold State.setShadow
  extract_lets _
  exact touches_ite _ ((touches_refl _ _).set_sw) ((touches_refl _ _).set_sw)

theorem touches_setDomain (s : State) (q v : Nat) : State.touches [.pow] s (s.setDomain q v) := by
  unfold State.setDomain
  extract_lets _
  exact (touches_refl _ _).set_pow

theorem touches_perfOccupancy (s : State) (event inst occ cycles : Nat) :
    State.touches [.log] s (s.perfOccupancy event inst occ cycles) := by
  unfold State.perfOccupancy
  exact (touches_perfOccupancy_go ..).le

theorem touches_flushCoalesced_go (t : List (Nat × Nat × Nat × Nat)) (s : State) :
    State.touches [.counts, .log] s (State.flushCoalesced.go t s) := by
  induction t generalizing s with
  | nil =>
    rw [State.flushCoalesced.go]
    exact touches_refl _ _
  | cons x r ih =>
    rw [State.flushCoalesced.go]
    exact touches_ite _ ((ih ..).le) (touches_ite _ ((ih ..).after ((tells_journalSummary ..).touches.after
      ((touches_refl _ _).set_log))) (touches_refl _ _))

theorem touches_flushCoalesced (s : State) : State.touches [.counts, .log] s (s.flushCoalesced) := by
  unfold State.flushCoalesced
  exact (touches_flushCoalesced_go ..).le

theorem touches_signal (s : State) (v : Nat) : State.touches [.host] s (s.signal v) := by
  unfold State.signal
  extract_lets _ _
  exact touches_ite _ ((touches_refl _ _).set_host) ((touches_refl _ _).set_host)

theorem touches_interrupt (s : State) (v : Nat) : State.touches [.host] s (s.interrupt v) := by
  unfold State.interrupt
  extract_lets _ _
  exact touches_ite _ ((touches_signal ..).le) (touches_ite _ (touches_refl _ _) ((touches_refl _ _).set_host))

theorem touches_completePair (s : State) (ring cmdId status result detail flags : Nat) :
    State.touches [.host] s (s.completePair ring cmdId status result detail flags) := by
  unfold State.completePair
  extract_lets _ s1 _ _
  have h1 : State.touches [.host] s s1 := (touches_hostWrite ..).le
  exact touches_ite _ ((touches_interrupt ..).after ((touches_setRingPair ..).after h1)) (touches_refl _ _)

theorem touches_completeMail (s : State) (ring cmdId status result detail flags : Nat) :
    State.touches [.host] s (s.completeMail ring cmdId status result detail flags) := by
  unfold State.completeMail
  extract_lets _ _
  exact touches_ite _ ((touches_setMailbox ..).le) (touches_refl _ _)

theorem touches_completeSide (s : State) (r : Machine.Compl) : State.touches [.host] s (s.completeSide r) := by
  unfold State.completeSide
  extract_lets _ _
  exact (touches_refl _ _).set_host

theorem touches_complete (s : State) (c : CmdRef) (status result detail : Nat) (noop : Bool) :
    State.touches [.host] s (s.complete c status result detail noop) := by
  unfold State.complete
  extract_lets _
  exact touches_ite _ ((touches_completePair ..).le) (touches_ite _ ((touches_completeMail ..).le) (touches_ite _
    ((touches_completeSide ..).le) (touches_refl _ _)))

theorem touches_respond (s : State) (ring : Nat) (bs : List Byte) : State.touches [.host] s (s.respond ring bs) := by
  unfold State.respond
  extract_lets _ _ _
  exact touches_ite _ ((touches_setMailbox ..).le) (touches_ite _ ((touches_refl _ _).set_host) (touches_refl _ _))

theorem touches_take (s : State) (ring : Nat) : State.touches [.host] s (s.take ring) := by
  unfold State.take
  extract_lets _ s1 _ _ _ _
  have h1 : State.touches [.host] s s1 := touches_ite _ ((touches_refl _ _).set_host) (touches_refl _ _)
  exact touches_ite _ ((touches_setRingPair ..).after h1) (touches_ite _ ((touches_setMailbox ..).after h1) h1.set_host)

theorem touches_touch (s : State) (handle : Nat) : State.touches [.host] s (s.touch handle) := by
  unfold State.touch
  split
  · exact touches_refl _ _
  · exact (touches_setSession ..).le

theorem touches_linkError (s : State) (detail : Nat) : State.touches [.host] s (s.linkError detail) := by
  unfold State.linkError
  extract_lets _ _ _
  exact (touches_refl _ _).set_host

theorem touches_refuseCmd (s : State) (c : CmdRef) (st result detail : Nat) :
    State.touches [.host, .counts, .log] s (s.refuseCmd c st result detail) := by
  unfold State.refuseCmd
  extract_lets s1 s2 s3
  have h1 : State.touches [.host, .counts, .log] s s1 := touches_ite _ ((tells_journalSecurity ..).touches.le) (touches_refl _ _)
  have h2 : State.touches [.host, .counts, .log] s s2 := touches_ite _ ((touches_linkError ..).after
    ((tells_bump ..).touches.after h1)) h1
  have h3 : State.touches [.host, .counts, .log] s s3 := touches_ite _ ((tells_bump ..).touches.after h2) h2
  exact (touches_complete ..).after h3

theorem touches_accepted (s : State) (c : CmdRef) (seq : Nat) : State.touches [.host, .counts, .log] s (s.accepted c seq) := by
  unfold State.accepted
  extract_lets _ s1
  have h1 : State.touches [.host, .counts, .log] s s1 := touches_ite _ ((touches_setRingPair ..).le) (touches_refl _ _)
  exact touches_ite _ ((tells_softEvent ..).touches.after h1) h1

/-- A command that is refused or applied touches what its reply touches, and the host interface, the telemetry and the counts. -/
theorem touches_finish {l : List Part} {s : State} {r : Reply} (c : CmdRef) (seq : Nat) (h : r.touches l s)
    (hl : subParts [.host, .counts, .log] l = true) : State.touches l s (s.finish c seq r) := by
  have hcount : subParts [.counts, .log] l = true := subParts_trans rfl hl
  have hrefuse : State.touches l s (s.refuseCmd c 0x000A 0xFFFFFFFF 0) := (touches_refuseCmd ..).le hl
  have htold : ∀ t recs, State.touches l s t → State.touches l s ((t.journalAll c recs).accepted c seq) := fun t recs k =>
    (touches_accepted ..).after ((tells_journalAll ..).touches.after k hcount) hl
  have hdone : ∀ t result detail noop, State.touches l s t → State.touches l s (t.complete c 0 result detail noop) :=
    fun t _ _ _ k => State.touches.after (m := [.host, .counts, .log]) ((touches_complete ..).le) k hl
  cases r
  case refuse => exact (touches_refuseCmd ..).le hl
  case refuseIn => exact (touches_refuseCmd ..).after h hl
  case done t _ recs => exact touches_ite _ (hdone _ _ _ _ (htold t recs h)) hrefuse
  case accept t recs => exact touches_ite _ (htold t recs h) hrefuse
  case restart f recs =>
    exact touches_ite _ ((h _).after (htold s recs (touches_refl ..)) (subParts_refl l)) hrefuse
  case noop change =>
    have hrec : State.touches l s (if change then s.journalCmd c 2 0 0 0 else s) :=
      touches_ite _ ((tells_journalCmd ..).touches.le hcount) (touches_refl ..)
    exact touches_ite _ (hdone _ _ _ _ ((touches_accepted ..).after hrec hl)) hrefuse

/-- So does a command that is served (R388). -/
theorem touches_serve {l : List Part} {d : CmdDesc} {e : Entry} {s : State} {body : CmdRef → State → Reply}
    (h : ∀ c u, (body c u).touches l u) (hl : subParts [.host, .counts, .log] l = true := by rfl) :
    nextTouches l s (serve d e s body) := by
  have hhost : subParts [.host] l = true := subParts_trans rfl hl
  have htold : subParts [.counts, .log] l = true := subParts_trans rfl hl
  unfold serve
  extract_lets d' stale s1 c s2 s3
  have h1 : State.touches l s s1 := (touches_take ..).le hhost
  have h2 : State.touches l s s2 := (tells_perf ..).touches.after ((touches_touch ..).after h1 hhost) htold
  have h3 : State.touches l s s3 := touches_ite _ ((tells_perf ..).touches.after h2 htold) h2
  refine nextTouches_ite _ (nextTouches_ite _ ((touches_complete ..).after h1 hhost) ?_) (touches_refl ..)
  split
  · exact (touches_refuseCmd ..).after h3 hl
  · exact (touches_finish _ _ (h _ _) hl).after h3 (subParts_refl l)

theorem touches_settle (s : State) (c : CmdRef) (result : Nat) : State.touches [.host] s (s.settle c result) := by
  unfold State.settle
  exact touches_ite _ (touches_refl _ _) ((touches_complete ..).le)

theorem touches_mapRefs (s : State) (f : CmdRef → CmdRef) :
    State.touches [.mode, .par, .lanes, .com, .prot, .tim, .pair, .pow] s (s.mapRefs f) := by
  unfold State.mapRefs
  extract_lets _ _ _ _ _ _ _ _
  exact touches_upd

theorem touches_forget (s : State) (p : CmdRef → Bool) :
    State.touches [.mode, .par, .lanes, .com, .prot, .tim, .pair, .pow] s (s.forget p) := by
  unfold State.forget
  exact (touches_mapRefs ..).le

theorem touches_faultToMram (s : State) (r : FaultRec) : State.touches [.counts, .flt, .log] s (s.faultToMram r) := by
  unfold State.faultToMram
  extract_lets _
  exact (tells_lifeAdd ..).touches.after ((touches_refl _ _).set_flt)

theorem touches_openFault (s : State) (cls region location detail action : Nat) (escalated injected : Bool) :
    State.touches [.counts, .flt, .log] s (s.openFault cls region location detail action escalated injected) := by
  unfold State.openFault
  split
  · exact (touches_set_flt ..).le
  · extract_lets first outcome link action' r _ s1 s2 s3
    have h1 : State.touches [.counts, .flt, .log] s s1 := (touches_set_flt ..).le
    have h2 : State.touches [.counts, .flt, .log] s s2 := by
      unfold s2
      clear_value outcome
      split
      · exact (tells_bump ..).touches.after h1
      · exact (tells_bump ..).touches.after ((tells_bump ..).touches.after h1)
      · exact (tells_bump ..).touches.after h1
    have h3 : State.touches [.counts, .flt, .log] s s3 := touches_ite _ h2 ((touches_faultToMram ..).after h2)
    exact (tells_alarmEvent ..).touches.after h3

theorem touches_report (s : State) (cls region location detail action : Nat) :
    State.touches [.counts, .flt, .log] s (s.report cls region location detail action) := by
  unfold State.report
  extract_lets _ _ _ s1
  have h1 : State.touches [.counts, .flt, .log] s s1 := (touches_refl _ _).set_flt
  exact (touches_openFault ..).after h1

theorem touches_markRec (s : State) (cls region location bits : Nat) : State.touches [.flt] s (s.markRec cls region location bits) := by
  unfold State.markRec
  extract_lets _
  exact (touches_refl _ _).set_flt

theorem touches_maskedFault (s : State) (cls region : Nat) : State.touches [.counts, .flt, .log] s (s.maskedFault cls region) := by
  unfold State.maskedFault
  extract_lets s1 _ _
  have h1 : State.touches [.counts, .flt, .log] s s1 := (tells_bump ..).touches.le
  exact touches_ite _ ((tells_info ..).touches.after h1.set_flt) h1

theorem touches_errorTo (s : State) (master addr : Nat) : State.touches [.pair, .jcc] s (s.errorTo master addr) := by
  unfold State.errorTo
  extract_lets _ s1 _ _
  have h1 : State.touches [.pair, .jcc] s s1 := (touches_refl _ _).set_jcc
  exact touches_ite _ h1.set_jcc (touches_ite _ h1.set_pair h1)

theorem touches_defaultHit (s : State) (master addr : Nat) : State.touches [.counts, .pair, .jcc, .log] s (s.defaultHit master addr) := by
  unfold State.defaultHit
  extract_lets s1 _ s2 _
  have h1 : State.touches [.counts, .pair, .jcc, .log] s s1 := (tells_bump ..).touches.le
  have h2 : State.touches [.counts, .pair, .jcc, .log] s s2 := (touches_errorTo ..).after h1
  exact touches_ite _ ((tells_info ..).touches.after h2.set_jcc) h2

theorem touches_dropSems (s : State) (p : Nat → Bool) : State.touches [.jcc] s (s.dropSems p) := by
  unfold State.dropSems
  extract_lets _
  exact (touches_refl _ _).set_jcc

/-! ### Receiving tributaries -/

theorem touches_laneTais (s : State) (l : Nat) : State.touches [.tribs] s (s.laneTais l) := by
  unfold State.laneTais
  extract_lets _
  exact touches_ite _ ((touches_refl _ _).set_tribs) (touches_refl _ _)

theorem touches_evalTtim (s : State) (k : Nat) : State.touches [.tribs] s (s.evalTtim k) := by
  unfold State.evalTtim
  extract_lets _
  dsimp only
  split
  · exact touches_ite _ ((touches_setTrib ..).le) (touches_refl _ _)
  · exact (touches_setTrib ..).le

theorem touches_slotRest (s : State) (k m : Nat) (slot : BitVec 64) : State.touches [.counts, .tribs, .log] s (s.slotRest k m slot) := by
  unfold State.slotRest
  extract_lets _ _ _ _ _ _ _ _ _ _ _ _ _ _ _ s1 _ _ _ _ _ s2
  have h1 : State.touches [.counts, .tribs, .log] s s1 := (tells_bump ..).touches.after ((tells_bump ..).touches.after
    ((touches_setTrib ..).le))
  have h2 : State.touches [.counts, .tribs, .log] s s2 := (touches_setTrib ..).after h1
  exact touches_ite _ h1 (touches_ite _ ((touches_setTrib ..).after h1) (touches_ite _ ((tells_bump ..).touches.after
    ((touches_setTrib ..).after h1)) (touches_ite _ ((touches_evalTtim ..).after h2) h2)))

theorem touches_closeTsd (s : State) (k : Nat) : State.touches [.par, .tribs] s (s.closeTsd k) := by
  unfold State.closeTsd
  extract_lets _ _ _ _ _
  exact (touches_release ..).after ((touches_setTrib ..).le)

theorem touches_countExec (s : State) (k : Nat) : State.touches [.counts, .log] s (s.countExec k) := by
  unfold State.countExec
  split
  · exact touches_refl _ _
  · exact (tells_perf ..).touches.after ((tells_bump ..).touches.le)
  · exact (tells_perf ..).touches.after ((tells_bump ..).touches.le)

theorem touches_startPmf (s : State) (k m : Nat) : State.touches [.par, .counts, .tribs, .log] s (s.startPmf k m) := by
  unfold State.startPmf
  extract_lets s1 _ _ _ _ _ s2
  have h1 : State.touches [.par, .counts, .tribs, .log] s s1 := (touches_countExec ..).le
  have h2 : State.touches [.par, .counts, .tribs, .log] s s2 := (touches_setTrib ..).after h1
  exact touches_ite _ h2 ((touches_closeTsd ..).after h2)

theorem touches_evalSlot (s : State) (k m j : Nat) (slot : BitVec 64) :
    State.touches [.counts, .tribs, .log] s (s.evalSlot k m j slot) := by
  unfold State.evalSlot
  extract_lets _
  exact (touches_modTrib ..).after (touches_ite _ (touches_ite _ ((tells_bump ..).touches.after (touches_ite _
    ((tells_bump ..).touches.after ((touches_setTrib ..).le)) ((touches_setTrib ..).le))) (touches_ite _ ((tells_bump ..).touches.after
    ((touches_setTrib ..).le)) ((touches_setTrib ..).le))) ((touches_slotRest ..).after (touches_ite _ ((tells_bump ..).touches.after
    (touches_ite _ ((tells_bump ..).touches.after ((touches_setTrib ..).le)) ((touches_setTrib ..).le))) (touches_ite _
    ((tells_bump ..).touches.after ((touches_setTrib ..).le)) ((touches_setTrib ..).le)))))

theorem touches_tribRow (s : State) (k spr : Nat) (rsn : Rsn) (valid ais : Bool) (slots : Table (BitVec 64)) (c : RowContent) :
    State.touches [.par, .counts, .tribs, .log] s (s.tribRow k spr rsn valid ais slots c) := by
  unfold State.tribRow
  extract_lets _ _ s1 _ s2 _ _ _ _
  have h1 : State.touches [.par, .counts, .tribs, .log] s s1 := touches_ite _ ((touches_startPmf ..).le) (touches_refl _ _)
  have h2 : State.touches [.par, .counts, .tribs, .log] s s2 := touches_ite _ ((touches_evalSlot ..).after h1) h1
  exact (touches_setTrib ..).after h2

theorem touches_tribRows_go (l : Nat) (rsn : Rsn) (valid ais : Bool) (slots : Table (BitVec 64)) (c : RowContent) (ts : List
    (Nat × Trib)) (s : State) :
    State.touches [.par, .counts, .tribs, .log] s (State.tribRows.go l rsn valid ais slots c ts s) := by
  induction ts generalizing l rsn valid ais slots c s with
  | nil =>
    rw [State.tribRows.go]
    exact touches_refl _ _
  | cons x r ih =>
    rw [State.tribRows.go]
    exact (ih ..).after (touches_ite _ ((touches_tribRow ..).le) (touches_refl _ _))

theorem touches_tribRows (s : State) (l : Nat) (rsn : Rsn) (valid ais : Bool) (slots : Table (BitVec 64)) (c : RowContent) :
    State.touches [.par, .counts, .tribs, .log] s (s.tribRows l rsn valid ais slots c) := by
  unfold State.tribRows
  exact (touches_tribRows_go ..).le

theorem touches_makeTrib (s : State) (trib lane mode : Nat) (gs : List Nat) :
    State.touches [.free, .tribs] s (s.makeTrib trib lane mode gs) := by
  unfold State.makeTrib
  extract_lets _ _ _ s1 s2
  have h1 : State.touches [.free, .tribs] s s1 := (touches_refl _ _).set_free
  have h2 : State.touches [.free, .tribs] s s2 := touches_ite _ ((touches_setTrib ..).after h1) ((touches_setTrib ..).le)
  exact (touches_laneTais ..).after h2

/-! ### Receiving lanes -/

theorem touches_setLof (s : State) (l : Nat) (counts : Bool) : State.touches [.counts, .lanes, .tribs, .log] s (s.setLof l counts) := by
  unfold State.setLof
  extract_lets _ _ s1 s2
  have h1 : State.touches [.counts, .lanes, .tribs, .log] s s1 := (touches_setLane ..).le
  have h2 : State.touches [.counts, .lanes, .tribs, .log] s s2 := (touches_laneTais ..).after h1
  exact touches_ite _ (touches_refl _ _) (touches_ite _ ((tells_bump ..).touches.after h2) h2)

theorem touches_traceDefects (s : State) (l : Nat) : State.touches [.lanes] s (s.traceDefects l) := by
  unfold State.traceDefects
  extract_lets _ _ _ _
  dsimp only
  split
  · exact touches_ite _ ((touches_setLane ..).le) (touches_refl _ _)
  · exact (touches_setLane ..).le

theorem touches_evalTrace (s : State) (l : Nat) : State.touches [.lanes, .tribs] s (s.evalTrace l) := by
  unfold State.evalTrace
  exact (touches_laneTais ..).after ((touches_traceDefects ..).le)

theorem touches_laneTraceByte (s : State) (l : Nat) (rsn : Rsn) (b : Byte) :
    State.touches [.counts, .lanes, .tribs, .log] s (s.laneTraceByte l rsn b) := by
  unfold State.laneTraceByte
  extract_lets _ _ _ _ _ _ _ s1
  have h1 : State.touches [.counts, .lanes, .tribs, .log] s s1 := (touches_setLane ..).le
  exact touches_ite _ ((touches_setLane ..).le) (touches_ite _ ((touches_setLane ..).le) (touches_ite _ ((tells_bump ..).touches.after
    ((touches_setLane ..).le)) (touches_ite _ ((touches_evalTrace ..).after h1) h1)))

theorem touches_countCodewords_hist (l : Nat) (cs : List (Nat × Nat)) (s : State) :
    State.touches [.counts, .log] s (State.countCodewords.hist l cs s) := by
  induction cs generalizing l s with
  | nil =>
    rw [State.countCodewords.hist]
    exact touches_refl _ _
  | cons x r ih =>
    rw [State.countCodewords.hist]
    exact (ih ..).after ((tells_lifeAdd ..).touches.after ((tells_bump ..).touches.le))

theorem touches_countCodewords (s : State) (l : Nat) (lost : Option Nat) (r : LineRow) (c d : Nat) :
    State.touches [.counts, .lanes, .log] s (s.countCodewords l lost r c d) := by
  unfold State.countCodewords
  extract_lets _ _ _ _ _ s1 s2 s3 s4
  have h1 : State.touches [.counts, .lanes, .log] s s1 := (touches_modLane ..).le
  have h2 : State.touches [.counts, .lanes, .log] s s2 := (tells_bump ..).touches.after ((tells_bump ..).touches.after
    ((tells_bump ..).touches.after h1))
  have h3 : State.touches [.counts, .lanes, .log] s s3 := (tells_bump ..).touches.after ((tells_bump ..).touches.after
    ((touches_countCodewords_hist ..).after h2))
  have h4 : State.touches [.counts, .lanes, .log] s s4 := (tells_lifeAdd ..).touches.after ((tells_lifeAdd ..).touches.after h3)
  exact touches_ite _ h1 ((tells_perf ..).touches.after ((tells_perf ..).touches.after h4))

theorem touches_setAnchor (s : State) (l a : Nat) : State.touches [.counts, .lanes, .log] s (s.setAnchor l a) := by
  unfold State.setAnchor
  extract_lets _ s1
  have h1 : State.touches [.counts, .lanes, .log] s s1 := (touches_setLane ..).le
  exact touches_ite _ ((tells_journalAuto ..).touches.after h1) h1

theorem touches_shareAnchor (s : State) (l a : Nat) : State.touches [.counts, .lanes, .log] s (s.shareAnchor l a) := by
  unfold State.shareAnchor
  extract_lets _ s1
  have h1 : State.touches [.counts, .lanes, .log] s s1 := (touches_setAnchor ..).le
  exact touches_ite _ h1 ((touches_setAnchor ..).after h1)

theorem touches_rechoose (s : State) (l : Nat) : State.touches [.counts, .lanes, .log] s (s.rechoose l) := by
  unfold State.rechoose
  exact (touches_shareAnchor ..).le

theorem touches_anchorAtSync (s : State) (l : Nat) : State.touches [.counts, .lanes, .log] s (s.anchorAtSync l) := by
  unfold State.anchorAtSync
  extract_lets _
  exact touches_ite _ (touches_refl _ _) (touches_ite _ ((touches_rechoose ..).le) ((touches_shareAnchor ..).le))

theorem touches_examine (s : State) (l : Nat) (raw : RawRow) : State.touches [.counts, .lanes, .log] s (s.examine l raw) := by
  unfold State.examine
  extract_lets _ s1
  have h1 : State.touches [.counts, .lanes, .log] s s1 := touches_ite _ ((tells_bump ..).touches.le) (touches_refl _ _)
  exact (touches_modLane ..).after h1

theorem touches_enterHunt (s : State) (l : Nat) (bar : Option Nat) :
    State.touches [.counts, .lanes, .tribs, .log] s (s.enterHunt l bar) := by
  unfold State.enterHunt
  extract_lets _ _ s1
  have h1 : State.touches [.counts, .lanes, .tribs, .log] s s1 := (touches_setLane ..).le
  exact (touches_setLof ..).after h1

theorem touches_closeSd (s : State) (l : Nat) : State.touches [.par, .lanes] s (s.closeSd l) := by
  unfold State.closeSd
  extract_lets _ _ _ _ _ _
  exact (touches_release ..).after ((touches_release ..).after ((touches_setLane ..).le))

theorem touches_deliver (s : State) (l : Nat) (rsn : Rsn) (valid ais got : Bool) (c : RowContent) (slots : Table (BitVec 64))
    (aps : List Byte) :
    State.touches [.par, .counts, .lanes, .tribs, .log] s (s.deliver l rsn valid ais got c slots aps) := by
  unfold State.deliver
  extract_lets _ _ _ _ s1 s2
  have h1 : State.touches [.par, .counts, .lanes, .tribs, .log] s s1 := (touches_setLane ..).le
  have h2 : State.touches [.par, .counts, .lanes, .tribs, .log] s s2 := touches_ite _ ((tells_perf ..).touches.after h1)
    ((tells_perf ..).touches.after ((tells_bump ..).touches.after h1))
  split
  · exact touches_ite _ h2 ((touches_tribRows ..).after h2)
  · exact (touches_tribRows ..).after h2

theorem touches_judge (s : State) (l : Nat) (check : Bool) : State.touches [.par, .counts, .lanes, .tribs, .log] s (s.judge l check) := by
  unfold State.judge
  extract_lets _ _ _
  dsimp only
  split
  · exact touches_refl _ _
  · exact touches_ite _ ((touches_closeSd ..).after ((touches_deliver ..).after (touches_ite _ ((touches_setLane ..).after
      ((tells_bump ..).touches.after ((tells_bump ..).touches.after (touches_ite _ ((touches_setLane ..).le)
      ((tells_bump ..).touches.after ((touches_setLane ..).le)))))) ((touches_modLane ..).after (touches_ite _ ((touches_setLane ..).le)
      ((tells_bump ..).touches.after ((touches_setLane ..).le))))))) ((touches_deliver ..).after (touches_ite _
      ((touches_setLane ..).after ((tells_bump ..).touches.after ((tells_bump ..).touches.after (touches_ite _ ((touches_setLane ..).le)
      ((tells_bump ..).touches.after ((touches_setLane ..).le)))))) ((touches_modLane ..).after (touches_ite _ ((touches_setLane ..).le)
      ((tells_bump ..).touches.after ((touches_setLane ..).le))))))

theorem touches_missRow (s : State) (l : Nat) (rsn : Rsn) : State.touches [.par, .counts, .lanes, .tribs, .log] s (s.missRow l rsn) := by
  unfold State.missRow
  extract_lets s1 s2
  have h1 : State.touches [.par, .counts, .lanes, .tribs, .log] s s1 := (touches_modLane ..).le
  have h2 : State.touches [.par, .counts, .lanes, .tribs, .log] s s2 := (touches_deliver ..).after h1
  exact touches_ite _ ((touches_closeSd ..).after h2) h2

theorem touches_mgmtBytes_frames (l ch : Nat) (fs : List (List Byte)) (s : State) :
    State.touches [.counts, .lanes, .log] s (State.mgmtBytes.frames l ch fs s) := by
  induction fs generalizing l ch s with
  | nil =>
    rw [State.mgmtBytes.frames]
    exact touches_refl _ _
  | cons x r ih =>
    rw [State.mgmtBytes.frames]
    dsimp only
    split
    · exact (ih ..).after ((tells_bump ..).touches.le)
    · exact touches_ite _ ((ih ..).after ((tells_bump ..).touches.le)) ((ih ..).after (touches_ite _ ((tells_info ..).touches.after
        ((tells_perf ..).touches.after ((touches_setLane ..).le))) ((tells_perf ..).touches.after ((touches_setLane ..).le))))

theorem touches_mgmtBytes (s : State) (l : Nat) (bs ext : List Byte) :
    State.touches [.counts, .lanes, .log] s (s.mgmtBytes l bs ext) := by
  unfold State.mgmtBytes
  extract_lets _
  exact (touches_mgmtBytes_frames ..).after ((touches_mgmtBytes_frames ..).after ((touches_setLane ..).le))

theorem touches_apsRecord_go (gs : List Nat) (req : Nat) (sel sig : Bool) (seq : Nat) (s : State) :
    State.touches [.counts, .prot, .log] s (State.apsRecord.go gs req sel sig seq s) := by
  induction gs generalizing req sel sig seq s with
  | nil =>
    rw [State.apsRecord.go]
    exact touches_refl _ _
  | cons x r ih =>
    rw [State.apsRecord.go]
    exact (ih ..).after (touches_ite _ ((touches_modGroup ..).le) ((tells_bump ..).touches.after ((touches_modGroup ..).le)))

theorem touches_apsRecord (s : State) (l : Nat) (r : List Byte) : State.touches [.counts, .prot, .log] s (s.apsRecord l r) := by
  unfold State.apsRecord
  extract_lets _ _ _ _ _ _
  exact touches_ite _ (touches_refl _ _) (by
    split
    · exact (tells_bump ..).touches.le
    · exact touches_ite _ ((tells_bump ..).touches.le) ((touches_apsRecord_go ..).le))

theorem touches_apsRecords (s : State) (l : Nat) (aps : List Byte) : State.touches [.counts, .prot, .log] s (s.apsRecords l aps) := by
  unfold State.apsRecords
  exact (touches_apsRecord ..).after ((touches_apsRecord ..).le)

theorem touches_apsRow (s : State) (l : Nat) (aps : List Byte) : State.touches [.counts, .prot, .log] s (s.apsRow l aps) := by
  unfold State.apsRow
  exact touches_ite _ ((tells_bump ..).touches.le) (by
    split
    · exact touches_refl _ _
    · exact (touches_apsRecords ..).le)

theorem touches_checkBits (s : State) (l w : Nat) (taps : List Nat) (bs : List Bool) :
    State.touches [.counts, .lanes, .log] s (s.checkBits l w taps bs) := by
  unfold State.checkBits
  exact (tells_bump ..).touches.after ((tells_bump ..).touches.after ((tells_bump ..).touches.after ((touches_modLane ..).le)))

theorem touches_payloadCheck (s : State) (l : Nat) (r : LineRow) : State.touches [.counts, .lanes, .log] s (s.payloadCheck l r) := by
  unfold State.payloadCheck
  exact (touches_checkBits ..).le

theorem touches_lineCheck (s : State) (l : Nat) (raw : RawRow) : State.touches [.counts, .lanes, .log] s (s.lineCheck l raw) := by
  unfold State.lineCheck
  extract_lets _
  exact (touches_checkBits ..).le

theorem touches_hold (s : State) (l : Nat) (r : LineRow) (rsnOk : Bool) : State.touches [.lanes] s (s.hold l r rsnOk) := by
  unfold State.hold
  exact (touches_modLane ..).le

theorem touches_rowFields (s : State) (l : Nat) (r : LineRow) :
    State.touches [.counts, .lanes, .tribs, .prot, .log] s (s.rowFields l r) := by
  unfold State.rowFields
  extract_lets s1 s2 s3
  have h1 : State.touches [.counts, .lanes, .tribs, .prot, .log] s s1 := (touches_laneTraceByte ..).le
  have h2 : State.touches [.counts, .lanes, .tribs, .prot, .log] s s2 := (touches_mgmtBytes ..).after h1
  have h3 : State.touches [.counts, .lanes, .tribs, .prot, .log] s s3 := (touches_apsRow ..).after h2
  exact touches_ite _ ((touches_payloadCheck ..).after h3) h3

theorem touches_failedFields (s : State) (l : Nat) (r : LineRow) : State.touches [.counts, .lanes, .log] s (s.failedFields l r) := by
  unfold State.failedFields
  exact touches_ite _ (touches_refl _ _) ((touches_mgmtBytes ..).le)

theorem touches_integrateRow (s : State) (l : Nat) (inSync : Bool) (r : Option LineRow) :
    State.touches [.lanes] s (s.integrateRow l inSync r) := by
  unfold State.integrateRow
  exact (touches_modLane ..).le

theorem touches_enterSync (s : State) (l : Nat) (r : LineRow) : State.touches [.lanes] s (s.enterSync l r) := by
  unfold State.enterSync
  exact (touches_modLane ..).after ((touches_integrateRow ..).le)

theorem touches_rowHunt (s : State) (l : Nat) (raw : RawRow) : State.touches [.counts, .lanes, .log] s (s.rowHunt l raw) := by
  unfold State.rowHunt
  extract_lets s1
  have h1 : State.touches [.counts, .lanes, .log] s s1 := (touches_integrateRow ..).after ((touches_examine ..).le)
  exact touches_ite _ h1 ((touches_modLane ..).after h1)

theorem touches_countRest (s : State) (l : Nat) (raw : RawRow) : State.touches [.counts, .lanes, .log] s (s.countRest l raw) := by
  unfold State.countRest
  split
  · exact (touches_countCodewords ..).le
  · exact touches_refl _ _

theorem touches_releaseSd (s : State) (l : Nat) : State.touches [.par] s (s.releaseSd l) := by
  unfold State.releaseSd
  exact (touches_release ..).after ((touches_release ..).le)

theorem touches_rowConfirm (s : State) (l : Nat) (raw : RawRow) :
    State.touches [.par, .counts, .lanes, .tribs, .prot, .log] s (s.rowConfirm l raw) := by
  unfold State.rowConfirm
  dsimp only
  split
  · exact (touches_rowHunt ..).le
  · exact touches_ite _ (touches_ite _ ((touches_hold ..).after ((touches_rowFields ..).after ((touches_enterSync ..).after
      ((touches_anchorAtSync ..).after ((touches_releaseSd ..).after ((touches_modLane ..).after ((touches_countCodewords ..).le)))))))
      ((touches_integrateRow ..).after ((touches_examine ..).after ((touches_modLane ..).after ((tells_bump ..).touches.after
      ((touches_countCodewords ..).le)))))) ((touches_examine ..).le)

theorem touches_rowSync (s : State) (l : Nat) (raw : RawRow) :
    State.touches [.par, .counts, .lanes, .tribs, .prot, .log] s (s.rowSync l raw) := by
  unfold State.rowSync
  extract_lets _ _ s1 _ bad _ take
  have h1 : State.touches [.par, .counts, .lanes, .tribs, .prot, .log] s s1 := (touches_countCodewords ..).le
  have bad_touches u : State.touches [.par, .counts, .lanes, .tribs, .prot, .log] u (bad u) := (touches_integrateRow ..).after
    ((touches_missRow ..).after ((touches_failedFields ..).after ((touches_modLane ..).after ((touches_judge ..).le))))
  have take_touches u x1 x2 x3 : State.touches [.par, .counts, .lanes, .tribs, .prot, .log] u (take u x1 x2 x3) := touches_ite _
    ((touches_enterHunt ..).after ((tells_bump ..).touches.after ((touches_judge ..).after ((touches_modLane ..).after
    ((touches_hold ..).after ((touches_rowFields ..).after ((touches_integrateRow ..).after ((touches_judge ..).le))))))))
    ((touches_modLane ..).after ((touches_hold ..).after ((touches_rowFields ..).after ((touches_integrateRow ..).after
    ((touches_judge ..).le)))))
  exact touches_ite _ ((bad_touches ..).after h1) (by
    split
    · exact touches_ite _ ((take_touches ..).after ((tells_bump ..).touches.after h1)) (touches_ite _ ((take_touches ..).after h1)
        ((bad_touches ..).after h1))
    · exact touches_ite _ ((take_touches ..).after h1) ((take_touches ..).after h1))

theorem touches_rowFlywheel (s : State) (l : Nat) (raw : RawRow) :
    State.touches [.par, .counts, .lanes, .tribs, .prot, .log] s (s.rowFlywheel l raw) := by
  unfold State.rowFlywheel
  extract_lets _ _ s1 s2 _
  have h1 : State.touches [.par, .counts, .lanes, .tribs, .prot, .log] s s1 := (touches_countCodewords ..).le
  have h2 : State.touches [.par, .counts, .lanes, .tribs, .prot, .log] s s2 := (touches_modLane ..).after h1
  exact touches_ite _ ((touches_hold ..).after ((touches_rowFields ..).after ((touches_enterSync ..).after h2)))
    ((touches_examine ..).after ((touches_enterHunt ..).after ((touches_integrateRow ..).after ((touches_missRow ..).after
    ((touches_failedFields ..).after h1)))))

theorem touches_keepFar (s : State) (l : Nat) (raw : RawRow) : State.touches [.lanes] s (s.keepFar l raw) := by
  unfold State.keepFar
  extract_lets _ _ _ _
  exact touches_ite _ (touches_refl _ _) ((touches_setLane ..).le)

theorem touches_alignRow (s : State) (l : Nat) (raw : RawRow) :
    State.touches [.par, .counts, .lanes, .tribs, .prot, .log] s (s.alignRow l raw) := by
  unfold State.alignRow
  extract_lets _
  split
  · exact touches_refl _ _
  · exact touches_ite _ ((touches_countRest ..).after ((touches_rowHunt ..).le)) ((touches_integrateRow ..).le)
  · exact (touches_countRest ..).after ((touches_rowConfirm ..).le)
  · exact touches_ite _ ((touches_countRest ..).after ((touches_rowSync ..).le)) (touches_refl _ _)
  · exact touches_ite _ ((touches_countRest ..).after ((touches_rowFlywheel ..).le)) (touches_refl _ _)

theorem touches_execLaneRowReceived (lane : Fin 512) (row : RawRow) (s : State) :
    nextTouches [.par, .counts, .lanes, .tribs, .prot, .log] s (execLaneRowReceived lane row s) := by
  unfold execLaneRowReceived
  extract_lets _ _ _ s1 s2
  have h1 : State.touches [.par, .counts, .lanes, .tribs, .prot, .log] s s1 := (touches_modLane ..).le
  have h2 : State.touches [.par, .counts, .lanes, .tribs, .prot, .log] s s2 := touches_ite _ ((touches_lineCheck ..).after h1)
    (touches_foldl h1 _ fun u a => (touches_alignRow ..).le)
  exact nextTouches_ite _ (touches_refl _ _) (touches_ite _ ((touches_keepFar ..).after h2) h2)

theorem touches_execLaneSignalLoss (lane : Fin 512) (s : State) : nextTouches [.lanes, .tribs] s (execLaneSignalLoss lane s) := by
  unfold execLaneSignalLoss
  extract_lets _ _ _ s1
  have h1 : State.touches [.lanes, .tribs] s s1 := (touches_setLane ..).le
  exact nextTouches_ite _ (touches_refl _ _) ((touches_laneTais ..).after h1)

theorem touches_keepRdi (s : State) (l : Nat) (was : Bool × Bool × Bool) : State.touches [.lanes] s (s.keepRdi l was) := by
  unfold State.keepRdi
  exact touches_ite _ (touches_refl _ _) ((touches_modLane ..).le)

theorem touches_laneDefect (s : State) (l : Nat) (d : LaneDefect) :
    State.touches [.counts, .lanes, .tribs, .log] s (s.laneDefect l d) := by
  unfold State.laneDefect
  extract_lets _ _ _ tais s1
  have tais_touches u : State.touches [.counts, .lanes, .tribs, .log] u (tais u) := (touches_laneTais ..).le
  have h1 : State.touches [.counts, .lanes, .tribs, .log] s s1 := (touches_setLane ..).le
  exact touches_ite _ (touches_refl _ _) (by
    split
    · exact touches_ite _ (touches_ite _ h1 ((touches_setLof ..).after h1)) (touches_refl _ _)
    · exact touches_ite _ ((touches_setLane ..).le) (touches_refl _ _)
    · exact touches_ite _ ((tais_touches ..).after ((touches_setLane ..).le)) (touches_ite _ ((touches_setLane ..).le) (touches_refl _ _))
    · exact touches_ite _ ((touches_setLane ..).le) (touches_ite _ ((touches_setLane ..).le) (touches_refl _ _))
    · exact touches_ite _ ((touches_setLane ..).le) (touches_ite _ ((touches_setLane ..).le) (touches_refl _ _))
    · exact touches_ite _ ((touches_setLane ..).le) (touches_ite _ ((touches_setLane ..).le) (touches_refl _ _))
    · exact touches_ite _ ((touches_setLane ..).le) (touches_ite _ ((touches_setLane ..).le) (touches_refl _ _))
    · exact touches_ite _ ((touches_setLane ..).le) (touches_ite _ ((touches_setLane ..).le) (touches_refl _ _)))

theorem touches_execLaneDefectIntegration (lane : Fin 512) (d : LaneDefect) (s : State) :
    nextTouches [.counts, .lanes, .tribs, .log] s (execLaneDefectIntegration lane d s) := by
  unfold execLaneDefectIntegration
  exact (touches_keepRdi ..).after ((touches_laneDefect ..).le)

theorem touches_execAnchorRechoose (lane : Fin 512) (s : State) : nextTouches [.counts, .lanes, .log] s (execAnchorRechoose lane s) := by
  unfold execAnchorRechoose
  extract_lets _ _ s1
  have h1 : State.touches [.counts, .lanes, .log] s s1 := (touches_rechoose ..).le
  exact nextTouches_ite _ ((touches_modLane ..).after h1) (touches_refl _ _)

theorem touches_execOffsetBarExpiry (lane : Fin 512) (offset : Nat) (s : State) :
    nextTouches [.lanes] s (execOffsetBarExpiry lane offset s) := by
  unfold execOffsetBarExpiry
  exact (touches_modLane ..).le

theorem touches_execTribDefectIntegration (trib : Nat) (d : TribDefect) (s : State) :
    nextTouches [.tribs] s (execTribDefectIntegration trib d s) := by
  unfold execTribDefectIntegration
  extract_lets _ _ _ put _ _
  have put_touches x0 : State.touches [.tribs] s (put x0) := (touches_setTrib ..).le
  exact nextTouches_ite _ (touches_refl _ _) (by
    split
    · exact nextTouches_ite _ (put_touches ..) (nextTouches_ite _ (put_touches ..) (touches_refl _ _))
    · exact nextTouches_ite _ (put_touches ..) (nextTouches_ite _ (put_touches ..) (touches_refl _ _))
    · exact nextTouches_ite _ (put_touches ..) (nextTouches_ite _ (put_touches ..) (touches_refl _ _))
    · exact nextTouches_ite _ (put_touches ..) (nextTouches_ite _ (put_touches ..) (touches_refl _ _))
    · exact nextTouches_ite _ (put_touches ..) (nextTouches_ite _ (put_touches ..) (touches_refl _ _))
    · exact nextTouches_ite _ (put_touches ..) (nextTouches_ite _ (put_touches ..) (touches_refl _ _))
    · exact nextTouches_ite _ (put_touches ..) (nextTouches_ite _ (put_touches ..) (touches_refl _ _))
    · exact nextTouches_ite _ (put_touches ..) (touches_refl _ _))

/-! ### The test set and the management channel -/

theorem touches_laneTxOn (s : State) (l : Nat) : State.touches [.lanes] s (s.laneTxOn l) := by
  unfold State.laneTxOn
  exact (touches_modLane ..).le

theorem touches_laneRxOn (s : State) (l : Nat) : State.touches [.lanes, .tribs, .obs] s (s.laneRxOn l) := by
  unfold State.laneRxOn
  extract_lets _ s1 _
  have h1 : State.touches [.lanes, .tribs, .obs] s s1 := (touches_setLane ..).le
  exact (touches_laneTais ..).after (touches_ite _ ((touches_modFacetLane ..).after h1) h1)

theorem touches_endLoop (s : State) (l : Nat) : State.touches [.host, .lanes] s (s.endLoop l) := by
  unfold State.endLoop
  extract_lets _ _ s1
  have h1 : State.touches [.host, .lanes] s s1 := (touches_setLane ..).le
  split
  · exact (touches_complete ..).after h1
  · exact h1

theorem touches_laneRxOff (s : State) (l : Nat) : State.touches [.host, .lanes, .tribs] s (s.laneRxOff l) := by
  unfold State.laneRxOff
  extract_lets _ s1
  have h1 : State.touches [.host, .lanes, .tribs] s s1 := (touches_setLane ..).le
  exact (touches_endLoop ..).after ((touches_laneTais ..).after h1)

theorem touches_laneTxOff (s : State) (l : Nat) : State.touches [.host, .lanes] s (s.laneTxOff l) := by
  unfold State.laneTxOff
  extract_lets _ _
  exact (touches_endLoop ..).after ((touches_setLane ..).le)

theorem touches_stopTests (s : State) (l : Nat) (all : Bool) : State.touches [.host, .par, .lanes] s (s.stopTests l all) := by
  unfold State.stopTests
  extract_lets s1 _ _ s2 s3
  have h1 : State.touches [.host, .par, .lanes] s s1 := (touches_release ..).after ((touches_setCur ..).le)
  have h2 : State.touches [.host, .par, .lanes] s s2 := touches_ite _ ((touches_release ..).after ((touches_setCur ..).after h1)) h1
  have h3 : State.touches [.host, .par, .lanes] s s3 := (touches_modLane ..).after h2
  exact (touches_endLoop ..).after h3

theorem touches_emptyTestSet (s : State) : State.touches [.host, .par, .lanes] s (s.emptyTestSet) := by
  unfold State.emptyTestSet
  exact touches_foldl (touches_refl _ _) _ fun u a => (touches_modLane ..).after ((touches_stopTests ..).le)

theorem touches_execLaneTxStart (lane : Fin 512) (s : State) : nextTouches [.lanes] s (execLaneTxStart lane s) := by
  unfold execLaneTxStart
  extract_lets _
  exact nextTouches_ite _ ((touches_setLane ..).le) (touches_refl _ _)

theorem touches_execEqualiserConverged (lane : Fin 512) (s : State) : nextTouches [.par, .lanes] s (execEqualiserConverged lane s) := by
  unfold execEqualiserConverged
  extract_lets _ _ _ _ s1
  have h1 : State.touches [.par, .lanes] s s1 := (touches_setLane ..).le
  exact nextTouches_ite _ (touches_ite _ ((touches_setCur ..).after h1) h1) (touches_refl _ _)

theorem touches_checkerFrom (s old : State) (l : Nat) : State.touches [.counts, .lanes, .tribs, .log] s (s.checkerFrom old l) := by
  unfold State.checkerFrom
  exact touches_ite _ ((touches_modLane ..).after ((touches_enterHunt ..).le)) (touches_refl _ _)

theorem touches_testLaneBody (lane add : Nat) (_c : CmdRef) (s : State) :
    (testLaneBody lane add _c s).touches [.host, .par, .counts, .lanes, .tribs, .log] s := by
  unfold testLaneBody
  extract_lets s1 s2
  have h1 : State.touches [.host, .par, .counts, .lanes, .tribs, .log] s s1 := touches_ite _ (touches_refl _ _)
    ((touches_stopTests ..).le)
  have h2 : State.touches [.host, .par, .counts, .lanes, .tribs, .log] s s2 := (touches_modLane ..).after h1
  exact touches_guarded _ ((touches_checkerFrom ..).after h2)

theorem touches_execTestLane (e : Entry) (lane add : Nat) (s : State) :
    nextTouches [.host, .par, .counts, .lanes, .tribs, .log] s (execTestLane e lane add s) := by
  unfold execTestLane
  exact touches_serve fun c u => (touches_testLaneBody ..).le

theorem touches_testInjectBody (rows lane amount kind : Nat) (_c : CmdRef) (s : State) :
    (testInjectBody rows lane amount kind _c s).touches [.lanes] s := by
  unfold testInjectBody
  exact touches_guarded _ (reply_touches_ite _ trivial ((touches_modLane ..).le))

theorem touches_execTestInject (e : Entry) (rows lane amount kind : Nat) (s : State) :
    nextTouches [.host, .counts, .lanes, .log] s (execTestInject e rows lane amount kind s) := by
  unfold execTestInject
  exact touches_serve fun c u => (touches_testInjectBody ..).le

theorem touches_testLoopBody (lane loop : Nat) (c : CmdRef) (s : State) : (testLoopBody lane loop c s).touches [.host, .lanes] s := by
  unfold testLoopBody
  extract_lets _ s1
  have h1 : State.touches [.host, .lanes] s s1 := by
      unfold s1
      split
      · exact (touches_complete ..).le
      · exact touches_refl _ _
  exact touches_guarded _ ((touches_modLane ..).after h1)

theorem touches_execTestLoop (e : Entry) (lane loop : Nat) (s : State) :
    nextTouches [.host, .counts, .lanes, .log] s (execTestLoop e lane loop s) := by
  unfold execTestLoop
  exact touches_serve fun c u => (touches_testLoopBody ..).le

theorem touches_execLoopEffect (lane : Fin 512) (s : State) : nextTouches [.host, .lanes, .tribs] s (execLoopEffect lane s) := by
  unfold execLoopEffect
  extract_lets _ _ _
  dsimp only
  split
  · exact touches_refl _ _
  · exact (touches_complete ..).after ((touches_evalTrace ..).after ((touches_setLane ..).le))

theorem touches_execInjectionEnd (lane : Fin 512) (s : State) : nextTouches [.lanes] s (execInjectionEnd lane s) := by
  unfold execInjectionEnd
  extract_lets _ _
  exact nextTouches_ite _ ((touches_setLane ..).le) (touches_refl _ _)

theorem touches_eyeScanBody (b : Buf) (lane eyes d vstep freeze : Nat) (c : CmdRef) (s : State) :
    (eyeScanBody b lane eyes d vstep freeze c s).touches [.lanes] s := by
  unfold eyeScanBody
  extract_lets _ _
  exact touches_guarded _ ((touches_setLane ..).le)

theorem touches_execLaneEyeScan (e : Entry) (b : Buf) (lane eyes d vstep freeze : Nat) (s : State) :
    nextTouches [.host, .counts, .lanes, .log] s (execLaneEyeScan e b lane eyes d vstep freeze s) := by
  unfold execLaneEyeScan
  exact touches_serve fun c u => (touches_eyeScanBody ..).le

theorem touches_execEyeScanDone (lane : Fin 512) (counts : List Nat) (s : State) :
    nextTouches [.host, .lanes] s (execEyeScanDone lane counts s) := by
  unfold execEyeScanDone
  extract_lets _ _ _ s1
  have h1 : State.touches [.host, .lanes] s s1 := (touches_setLane ..).le
  dsimp only
  split
  · exact touches_refl _ _
  · exact nextTouches_ite _ (touches_refl _ _) (nextTouches_ite _ ((touches_complete ..).after (touches_ite _
      ((touches_hostWrite ..).after h1) h1)) (nextTouches_ite _ ((touches_complete ..).after (touches_ite _
      ((touches_hostWrite ..).after h1) h1)) ((touches_complete ..).after (touches_ite _ ((touches_hostWrite ..).after h1) h1))))

theorem touches_mgmtSendBody (b : Buf) (lane channel : Nat) (frame : List Byte) (_c : CmdRef) (s : State) :
    (mgmtSendBody b lane channel frame _c s).touches [.lanes] s := by
  unfold mgmtSendBody
  extract_lets _ _ _
  exact touches_guarded _ ((touches_modLane ..).le)

theorem touches_execLaneMgmtSend (e : Entry) (b : Buf) (lane channel : Nat) (frame : List Byte) (s : State) :
    nextTouches [.host, .counts, .lanes, .log] s (execLaneMgmtSend e b lane channel frame s) := by
  unfold execLaneMgmtSend
  exact touches_serve fun c u => (touches_mgmtSendBody ..).le

theorem touches_mgmtRecvBody (b : Buf) (lane channel : Nat) (_c : CmdRef) (s : State) :
    (mgmtRecvBody b lane channel _c s).touches [.host, .lanes] s := by
  unfold mgmtRecvBody
  extract_lets _
  exact touches_guarded _ (by
    split
    · exact touches_refl _ _
    · exact touches_guarded _ ((touches_hostWrite ..).after ((touches_modLane ..).le)))

theorem touches_execLaneMgmtRecv (e : Entry) (b : Buf) (lane channel : Nat) (s : State) :
    nextTouches [.host, .counts, .lanes, .log] s (execLaneMgmtRecv e b lane channel s) := by
  unfold execLaneMgmtRecv
  exact touches_serve fun c u => (touches_mgmtRecvBody ..).le

theorem touches_execWiringFault (lane : Fin 512) (txBits : Fin 16) (rxCause : Fin 4) (s : State) :
    nextTouches [.counts, .lanes, .log] s (execWiringFault lane txBits rxCause s) := by
  unfold execWiringFault
  extract_lets _ _ _ _ _
  exact (tells_bump ..).touches.after ((touches_setLane ..).le)

end Sys2Proof.Machine
end

section
/-!
PROOFS. What each operation may touch: the host interface, telemetry, modes, maps and commits.
-/
namespace Sys2Proof.Machine

-- One theorem after the other: many at once need more stacks than the memory limit of the check allows.
set_option Elab.async false

/-! ### The checks of a delta -/

theorem touches_afterReplay (s : State) : State.touches [.sw, .com] s s.afterReplay := by
  have hbank : State.touches [.sw, .com] s (s.setShadow s.egrB) := (touches_setShadow ..).le
  have hgen : s.com.gen = (s.setShadow s.egrB).com.gen := ((touches_setShadow ..).gen).symm
  unfold State.afterReplay
  exact touches_ite _ (hbank.set_com hgen) (touches_refl ..)

theorem touches_deltaChecks {l : List Part} {u : State} {r : Reply} (s : State) (cs : Table Conn) (cuts : Table Nat)
    (es : List DeltaEntry) (mid : List (Bool × Nat × Nat)) (h : r.touches l u) : (s.deltaChecks cs cuts es mid r).touches l u :=
  touches_checkItems _ _ _ <| touches_checkItems _ _ _ <| touches_guarded _ <| touches_checkDup _ <| touches_checkItems _ _ _ <|
    touches_checkItems _ _ _ <| touches_guarded _ <| touches_checkItems _ _ _ h

/-! ### Sessions, rings and the endpoint -/

theorem touches_answer (s : State) (ring respAddr : Nat) (bs : List Byte) : State.touches [.host] s (s.answer ring respAddr bs) := by
  unfold State.answer
  exact touches_ite _ ((touches_respond ..).le) ((touches_hostWrite ..).le)

theorem touches_helloBody (role resume handle : Nat) (nonce : List Byte) (respAddr : Nat) (c : CmdRef) (s : State) :
    (helloBody role resume handle nonce respAddr c s).touches [.free, .host] s := by
  unfold helloBody
  extract_lets _ s1 _ _ s2 _ _ s3
  have h1 : State.touches [.free, .host] s s1 := (touches_drawn ..).le
  have h2 : State.touches [.free, .host] s s2 := (touches_drawn ..).after h1
  have h3 : State.touches [.free, .host] s s3 := (touches_setSession ..).after h2
  exact touches_guarded _ ((touches_answer ..).after h3)

theorem touches_execSessionHello (e : Entry) (role resume handle : Nat) (nonce : List Byte) (respAddr : Nat) (s : State) :
    nextTouches [.free, .host, .counts, .log] s (execSessionHello e role resume handle nonce respAddr s) := by
  unfold execSessionHello
  exact touches_serve fun c u => (touches_helloBody ..).le

theorem touches_proveFailed (s : State) (c : CmdRef) : State.touches [.host, .counts, .log] s (s.proveFailed c) := by
  unfold State.proveFailed
  extract_lets _ _ s1 _ s2
  have h1 : State.touches [.host, .counts, .log] s s1 := (touches_refl _ _).set_host
  have h2 : State.touches [.host, .counts, .log] s s2 := h1.set_host
  exact touches_ite _ ((tells_journalSecurity ..).touches.after h2) h1

theorem touches_proveBody (handle : Nat) (tag : BitVec 384) (c : CmdRef) (s : State) :
    (proveBody handle tag c s).touches [.host, .counts, .log] s := by
  unfold proveBody
  dsimp only
  split
  · exact trivial
  · exact reply_touches_ite _ trivial (reply_touches_ite _ ((touches_proveFailed ..).le) ((tells_journalSecurity ..).touches.after
      ((touches_answer ..).after ((touches_setSession ..).le))))

theorem touches_execSessionProve (e : Entry) (tag : BitVec 384) (s : State) :
    nextTouches [.host, .counts, .log] s (execSessionProve e tag s) := by
  unfold execSessionProve
  exact touches_serve fun c u => (touches_proveBody ..).le

theorem touches_freeMail (s : State) (p : Nat → Mailbox → Bool) : State.touches [.host] s (s.freeMail p) := by
  unfold State.freeMail
  extract_lets _ _
  exact (touches_refl _ _).set_host

theorem touches_closeSession (s : State) (k : Nat) (c : CmdRef) :
    State.touches [.mode, .host, .par, .counts, .lanes, .com, .prot, .tim, .pair, .pow, .log] s (s.closeSession k c) := by
  unfold State.closeSession
  extract_lets _ s1 s2 s3 _ s4
  have h1 : State.touches [.mode, .host, .par, .counts, .lanes, .com, .prot, .tim, .pair, .pow, .log] s s1 := (touches_freeMail ..).le
  have h2 : State.touches [.mode, .host, .par, .counts, .lanes, .com, .prot, .tim, .pair, .pow, .log] s s2 :=
    (tells_journalSecurity ..).touches.after h1
  have h3 : State.touches [.mode, .host, .par, .counts, .lanes, .com, .prot, .tim, .pair, .pow, .log] s s3 := (touches_forget ..).after h2
  have h4 : State.touches [.mode, .host, .par, .counts, .lanes, .com, .prot, .tim, .pair, .pow, .log] s s4 := touches_ite _ h3.set_com h3
  exact (touches_setSession ..).after h4

theorem touches_reapRings (s : State) : State.touches [.host] s (s.reapRings) := by
  unfold State.reapRings
  extract_lets _ _
  exact (touches_refl _ _).set_host

theorem touches_reapAfter {l : List Part} {s : State} {o : Host.Outcome State Fault Refusal} (h : nextTouches l s o)
    (hl : subParts [.host] l = true := by rfl) : nextTouches l s (reapAfter o) := by
  cases o
  case next => exact (touches_reapRings ..).after h hl
  all_goals trivial

theorem touches_closeBody (handle : Nat) (c : CmdRef) (s : State) :
    (closeBody handle c s).touches [.mode, .host, .par, .counts, .lanes, .com, .prot, .tim, .pair, .pow, .log] s := by
  unfold closeBody
  extract_lets _
  exact touches_guarded _ ((touches_closeSession ..).le)

theorem touches_execSessionClose (e : Entry) (handle : Nat) (s : State) :
    nextTouches [.mode, .host, .par, .counts, .lanes, .com, .prot, .tim, .pair, .pow, .log] s (execSessionClose e handle s) := by
  unfold execSessionClose
  exact touches_reapAfter (touches_serve fun c u => (touches_closeBody ..).le)

theorem touches_ringCreateBody (pair sq cq vector sqAddr cqAddr : Nat) (c : CmdRef) (s : State) :
    (ringCreateBody pair sq cq vector sqAddr cqAddr c s).touches [.host] s := by
  unfold ringCreateBody
  extract_lets s1 _
  have h1 : State.touches [.host] s s1 := (touches_setRingPair ..).le
  exact touches_guarded _ h1.set_host

theorem touches_execSessionRingCreate (e : Entry) (pair sqLog2 cqLog2 vector sqAddr cqAddr : Nat) (s : State) :
    nextTouches [.host, .counts, .log] s (execSessionRingCreate e pair sqLog2 cqLog2 vector sqAddr cqAddr s) := by
  unfold execSessionRingCreate
  exact touches_serve fun c u => (touches_ringCreateBody ..).le

theorem touches_ringDeleteBody (pair : Nat) (c : CmdRef) (s : State) :
    (ringDeleteBody pair c s).touches [.mode, .host, .par, .lanes, .com, .prot, .tim, .pair, .pow] s := by
  unfold ringDeleteBody
  exact touches_guarded _ ((touches_setRingPair ..).after ((touches_forget ..).le))

theorem touches_execSessionRingDelete (e : Entry) (pair : Nat) (s : State) :
    nextTouches [.mode, .host, .par, .counts, .lanes, .com, .prot, .tim, .pair, .pow, .log] s (execSessionRingDelete e pair s) := by
  unfold execSessionRingDelete
  exact touches_serve fun c u => (touches_ringDeleteBody ..).le

theorem touches_sessionListBody (b : Buf) (c : CmdRef) (s : State) : (sessionListBody b c s).touches [.host] s := by
  unfold sessionListBody
  extract_lets _
  exact touches_guarded _ ((touches_hostWrite ..).le)

theorem touches_execSessionList (e : Entry) (b : Buf) (s : State) : nextTouches [.host, .counts, .log] s (execSessionList e b s) := by
  unfold execSessionList
  exact touches_serve fun c u => (touches_sessionListBody ..).le

theorem touches_execProvisionalHandleExpiry (slot : Fin 8) (s : State) : nextTouches [.host] s (execProvisionalHandleExpiry slot s) := by
  unfold execProvisionalHandleExpiry
  extract_lets _
  exact nextTouches_ite _ (touches_refl _ _) (nextTouches_ite _ ((touches_setSession ..).le) (nextTouches_ite _
    ((touches_setSession ..).le) (touches_refl _ _)))

theorem touches_execSessionIdleTimeout (slot : Fin 8) (s : State) :
    nextTouches [.mode, .host, .par, .counts, .lanes, .com, .prot, .tim, .pair, .pow, .log] s (execSessionIdleTimeout slot s) := by
  unfold execSessionIdleTimeout
  extract_lets _ _
  exact nextTouches_ite _ ((touches_reapRings ..).after ((touches_closeSession ..).le)) (touches_refl _ _)

theorem touches_execResumeWindowExpiry (slot : Fin 8) (s : State) :
    nextTouches [.mode, .host, .par, .counts, .lanes, .com, .prot, .tim, .pair, .pow, .log] s (execResumeWindowExpiry slot s) := by
  unfold execResumeWindowExpiry
  extract_lets _ _
  exact nextTouches_ite _ ((touches_reapRings ..).after ((touches_closeSession ..).le)) (touches_refl _ _)

theorem touches_execAuthLockExpiry (path : Fin 2) (s : State) : nextTouches [.host] s (execAuthLockExpiry path s) := by
  unfold execAuthLockExpiry
  extract_lets _
  split
  · exact nextTouches_ite _ ((touches_refl _ _).set_host) (touches_refl _ _)
  · exact touches_refl _ _

theorem touches_suspendSessions (s : State) (p : Session → Bool) : State.touches [.host] s (s.suspendSessions p) := by
  unfold State.suspendSessions
  extract_lets _ _
  exact (touches_refl _ _).set_host

theorem touches_doorbellInvalid (s : State) (offset : Nat) : State.touches [.counts, .log] s (s.doorbellInvalid offset) := by
  unfold State.doorbellInvalid
  exact (tells_info ..).touches.le

theorem touches_execDoorbellWrite (pair : Fin 16) (v : BitVec 32) (s : State) :
    nextTouches [.host, .counts, .log] s (execDoorbellWrite pair v s) := by
  unfold execDoorbellWrite
  extract_lets _ _ _
  exact nextTouches_ite _ (touches_refl _ _) (nextTouches_ite _ ((touches_setRingPair ..).le) ((touches_doorbellInvalid ..).le))

theorem touches_execEvtHeadWrite (v : BitVec 32) (s : State) : nextTouches [.host, .counts, .log] s (execEvtHeadWrite v s) := by
  unfold execEvtHeadWrite
  extract_lets _
  exact nextTouches_ite _ (touches_refl _ _) (by
    split
    · exact (touches_refl _ _).set_host
    · exact (touches_doorbellInvalid ..).le)

theorem touches_execJrnHeadWrite (v : BitVec 32) (s : State) : nextTouches [.host, .counts, .log] s (execJrnHeadWrite v s) := by
  unfold execJrnHeadWrite
  extract_lets _
  exact nextTouches_ite _ (touches_refl _ _) (by
    split
    · exact (touches_refl _ _).set_host
    · exact (touches_doorbellInvalid ..).le)

theorem touches_execFacHeadWrite (v : BitVec 32) (s : State) : nextTouches [.host, .counts, .log] s (execFacHeadWrite v s) := by
  unfold execFacHeadWrite
  extract_lets _
  exact nextTouches_ite _ (touches_refl _ _) (by
    split
    · exact (touches_refl _ _).set_host
    · exact (touches_doorbellInvalid ..).le)

theorem touches_execMailboxGo (mb : Fin 8) (v : BitVec 32) (s : State) : nextTouches [.host] s (execMailboxGo mb v s) := by
  unfold execMailboxGo
  extract_lets _
  exact nextTouches_ite _ ((touches_setMailbox ..).le) (touches_refl _ _)

theorem touches_execIrqHoldoffEnd (s : State) : nextTouches [.host] s (execIrqHoldoffEnd s) := by
  unfold execIrqHoldoffEnd
  extract_lets _ _ s1
  have h1 : State.touches [.host] s s1 := (touches_refl _ _).set_host
  exact touches_foldl h1 _ fun u a => (touches_signal ..).le

theorem touches_execLongCommandYield (s : State) : nextTouches [.counts, .log] s (execLongCommandYield s) := by
  unfold execLongCommandYield
  exact (tells_perf ..).touches.le

theorem touches_linkTrains (s : State) : State.touches [.host] s (s.linkTrains) := by
  unfold State.linkTrains
  extract_lets _
  exact (touches_refl _ _).set_host

theorem touches_endpointReset (s : State) (bursts : List Burst) :
    State.touches (allBut [.clk, .free, .dev, .tribs, .sw, .gen, .jcc, .flt, .sec, .pending]) s (s.endpointReset bursts) := by
  unfold State.endpointReset
  extract_lets s1 _ _ _ _ s2 s3
  have h1 : State.touches (allBut [.clk, .free, .dev, .tribs, .sw, .gen, .jcc, .flt, .sec, .pending]) s s1 := (touches_forget ..).le
  have h2 : State.touches (allBut [.clk, .free, .dev, .tribs, .sw, .gen, .jcc, .flt, .sec, .pending]) s s2 := h1.upd
  have h3 : State.touches (allBut [.clk, .free, .dev, .tribs, .sw, .gen, .jcc, .flt, .sec, .pending]) s s3 :=
    (touches_suspendSessions ..).after h2
  exact (tells_journalRestart ..).touches.after ((tells_tornWrites ..).touches.after h3)

theorem touches_execPerstNAssert (bursts : List Burst) (s : State) :
    nextTouches (allBut [.clk, .free, .dev, .tribs, .sw, .gen, .jcc, .flt, .sec, .pending]) s (execPerstNAssert bursts s) := by
  unfold execPerstNAssert
  extract_lets s1 _
  have h1 : State.touches (allBut [.clk, .free, .dev, .tribs, .sw, .gen, .jcc, .flt, .sec, .pending]) s s1 :=
    (touches_endpointReset ..).le
  exact h1.set_host

theorem touches_execFunctionLevelReset (bursts : List Burst) (s : State) :
    nextTouches (allBut [.clk, .free, .dev, .tribs, .sw, .gen, .jcc, .flt, .sec, .pending]) s (execFunctionLevelReset bursts s) := by
  unfold execFunctionLevelReset
  exact nextTouches_ite _ ((touches_linkTrains ..).after ((touches_endpointReset ..).le)) (touches_refl _ _)

theorem touches_setReply (s : State) (bs : List Byte) : State.touches [.host] s (s.setReply bs) := by
  unfold State.setReply
  extract_lets _ _
  exact (touches_refl _ _).set_host

theorem touches_execI2cStatus (s : State) : nextTouches [.host] s (execI2cStatus s) := by
  unfold execI2cStatus
  exact (touches_setReply ..).le

theorem touches_execI2cSubmit (head : BitVec 128) (args : BitVec 384) (pec : Byte) (s : State) :
    nextTouches [.host] s (execI2cSubmit head args pec s) := by
  unfold execI2cSubmit
  extract_lets _ _ _ _ _
  exact nextTouches_ite _ (touches_refl _ _) ((touches_refl _ _).set_host)

theorem touches_execI2cResult (s : State) : nextTouches [.host] s (execI2cResult s) := by
  unfold execI2cResult
  extract_lets _ _ _
  exact (touches_setReply ..).le

theorem touches_alarmEvents (s : State) (chg : List (Bool × Alarm)) : State.touches [.counts, .log] s (s.alarmEvents chg) := by
  induction chg generalizing s with
  | nil =>
    rw [State.alarmEvents]
    exact touches_refl _ _
  | cons x r ih =>
    rw [State.alarmEvents]
    exact (ih ..).after ((tells_alarmEvent ..).touches.le)

/-! ### Events, journal, alarms and counters -/

theorem touches_updateAlarms (s : State) : State.touches [.counts, .log] s (s.updateAlarms) := by
  unfold State.updateAlarms
  extract_lets _ _ _ _ s1 _
  have h1 : State.touches [.counts, .log] s s1 := (touches_alarmEvents ..).le
  exact h1.set_log

theorem touches_evtEntry (s : State) (f : Bool → List Byte) : State.touches [.host] s (s.evtEntry f) := by
  unfold State.evtEntry
  extract_lets _ s1 _
  have h1 : State.touches [.host] s s1 := (touches_hostWrite ..).le
  exact h1.set_host

theorem touches_evtMore (s : State) (e : Event) (n : Nat) (pay : List Byte) : State.touches [.host] s (s.evtMore e n pay) := by
  induction n generalizing s e pay with
  | zero =>
    rw [State.evtMore]
    exact touches_refl _ _
  | succ m ih =>
    rw [State.evtMore]
    exact (ih ..).after ((touches_evtEntry ..).le)

theorem touches_writeEvent (s : State) (e : Event) : State.touches [.host, .counts, .log] s (s.writeEvent e) := by
  unfold State.writeEvent
  extract_lets s1
  have h1 : State.touches [.host, .counts, .log] s s1 := (touches_evtMore ..).after ((touches_evtEntry ..).le)
  exact (tells_perf ..).touches.after ((tells_bump ..).touches.after h1)

theorem touches_foldSummary (s : State) (f : Fold) : State.touches [.counts, .log] s (s.foldSummary f) := by
  unfold State.foldSummary
  exact (tells_pushEvent ..).touches.le

theorem touches_unfold_go (fs : List Fold) (s : State) : State.touches [.counts, .log] s (State.unfold.go fs s) := by
  induction fs generalizing s with
  | nil =>
    rw [State.unfold.go]
    exact touches_refl _ _
  | cons x r ih =>
    rw [State.unfold.go]
    exact touches_ite _ ((ih ..).after ((touches_foldSummary ..).after ((touches_refl _ _).set_log))) (touches_refl _ _)

theorem touches_unfold (s : State) : State.touches [.counts, .log] s (s.unfold) := by
  unfold State.unfold
  exact (touches_unfold_go ..).le

theorem touches_drainEvents (s : State) (n : Nat) : State.touches [.host, .counts, .log] s (s.drainEvents n) := by
  induction n generalizing s with
  | zero =>
    rw [State.drainEvents]
    exact touches_refl _ _
  | succ m ih =>
    rw [State.drainEvents]
    dsimp only
    split
    · exact touches_refl _ _
    · exact touches_ite _ ((ih ..).after ((touches_writeEvent ..).after ((touches_refl _ _).set_log))) (touches_refl _ _)

theorem touches_execEventRingWrite (s : State) : nextTouches [.host, .counts, .log] s (execEventRingWrite s) := by
  unfold execEventRingWrite
  extract_lets s1
  have h1 : State.touches [.host, .counts, .log] s s1 := (touches_unfold ..).after ((touches_drainEvents ..).le)
  exact nextTouches_ite _ (touches_ite _ h1 ((touches_interrupt ..).after h1)) (touches_refl _ _)

theorem touches_drainJournal (s : State) (q : List JRec) : State.touches [.host, .log] s (s.drainJournal q) := by
  induction q generalizing s with
  | nil => exact touches_refl ..
  | cons j r ih =>
    have hrecord := touches_hostWrite s (s.host.jrn.addr + 64 * s.host.jrn.next) j.bytes
    rw [State.drainJournal]
    dsimp only
    generalize s.hostWrite (s.host.jrn.addr + 64 * s.host.jrn.next) j.bytes = t at hrecord ⊢
    refine touches_ite _ ((ih _).after ?_) (touches_refl ..)
    exact touches_fields rfl rfl hrecord.le

theorem touches_execJournalRingWrite (s : State) : nextTouches [.host, .counts, .log] s (execJournalRingWrite s) := by
  unfold execJournalRingWrite
  extract_lets s1
  have h1 : State.touches [.host, .counts, .log] s s1 := (touches_flushCoalesced ..).after ((tells_jupdate ..).touches.after
    ((touches_drainJournal ..).le))
  exact nextTouches_ite _ (touches_ite _ h1 ((touches_interrupt ..).after h1)) (touches_refl _ _)

theorem touches_eventRingBody (addr log2 vector : Nat) (_c : CmdRef) (s : State) :
    (eventRingBody addr log2 vector _c s).touches [.host] s := by
  unfold eventRingBody
  extract_lets _
  exact touches_guarded _ ((touches_refl _ _).set_host)

theorem touches_execLogEventRing (e : Entry) (addr log2 vector : Nat) (s : State) :
    nextTouches [.host, .counts, .log] s (execLogEventRing e addr log2 vector s) := by
  unfold execLogEventRing
  exact touches_serve fun c u => (touches_eventRingBody ..).le

theorem touches_journalRingBody (addr log2 vector : Nat) (_c : CmdRef) (s : State) :
    (journalRingBody addr log2 vector _c s).touches [.host] s := by
  unfold journalRingBody
  extract_lets _
  exact touches_guarded _ ((touches_refl _ _).set_host)

theorem touches_execLogJournalRing (e : Entry) (addr log2 vector : Nat) (s : State) :
    nextTouches [.host, .counts, .log] s (execLogJournalRing e addr log2 vector s) := by
  unfold execLogJournalRing
  exact touches_serve fun c u => (touches_journalRingBody ..).le

theorem touches_logFilterBody (b : Buf) (count : Nat) (entries : List FilterEntry) (_c : CmdRef) (s : State) :
    (logFilterBody b count entries _c s).touches [.log] s := by
  unfold logFilterBody
  extract_lets _
  exact reply_touches_ite _ trivial (touches_guarded _ (touches_checkItems _ _ _ (touches_checkItems _ _ _ (reply_touches_ite _
    ((touches_refl _ _).set_log) trivial))))

theorem touches_execLogFilter (e : Entry) (b : Buf) (count : Nat) (entries : List FilterEntry) (s : State) :
    nextTouches [.host, .counts, .log] s (execLogFilter e b count entries s) := by
  unfold execLogFilter
  exact touches_serve fun c u => (touches_logFilterBody ..).le

theorem touches_logAlarmsBody (b : Buf) (_c : CmdRef) (s : State) : (logAlarmsBody b _c s).touches [.host] s := by
  unfold logAlarmsBody
  extract_lets _
  exact touches_guarded _ ((touches_hostWrite ..).le)

theorem touches_execLogAlarms (e : Entry) (b : Buf) (s : State) : nextTouches [.host, .counts, .log] s (execLogAlarms e b s) := by
  unfold execLogAlarms
  exact touches_serve fun c u => (touches_logAlarmsBody ..).le

theorem touches_perfProgramBody (b : Buf) (count : Nat) (entries : List PerfEntry) (c : CmdRef) (s : State) :
    (perfProgramBody b count entries c s).touches [.prot, .log] s := by
  unfold perfProgramBody
  extract_lets _ _ _
  exact reply_touches_ite _ trivial (touches_guarded _ (touches_checkItems _ _ _ (touches_checkItems _ _ _
    (touches_guarded _ touches_upd))))

theorem touches_execPerfProgram (e : Entry) (b : Buf) (count : Nat) (entries : List PerfEntry) (s : State) :
    nextTouches [.host, .counts, .prot, .log] s (execPerfProgram e b count entries s) := by
  unfold execPerfProgram
  exact touches_serve fun c u => (touches_perfProgramBody ..).le

theorem touches_applyPerf (s : State) : State.touches [.log] s (s.applyPerf) := by
  unfold State.applyPerf
  extract_lets s1 _
  have h1 : State.touches [.log] s s1 := touches_foldl (touches_refl _ _) _ fun u a => (touches_refl _ _).set_log
  exact h1.set_log

theorem touches_defaultPerf (s : State) : State.touches [.counts, .log] s (s.defaultPerf) := by
  unfold State.defaultPerf
  extract_lets _ _ _ s1
  have h1 : State.touches [.counts, .log] s s1 := (touches_refl _ _).set_log
  exact (tells_info ..).touches.after h1

theorem touches_perfReadBody (b : Buf) (first count : Nat) (_c : CmdRef) (s : State) :
    (perfReadBody b first count _c s).touches [.host] s := by
  unfold perfReadBody
  extract_lets _
  exact reply_touches_ite _ trivial (touches_guarded _ ((touches_hostWrite ..).le))

theorem touches_execPerfRead (e : Entry) (b : Buf) (first count : Nat) (s : State) :
    nextTouches [.host, .counts, .log] s (execPerfRead e b first count s) := by
  unfold execPerfRead
  exact touches_serve fun c u => (touches_perfReadBody ..).le

theorem touches_execHeartbeat (s : State) : nextTouches [.host] s (execHeartbeat s) := by
  unfold execHeartbeat
  extract_lets _
  exact nextTouches_ite _ ((touches_refl _ _).set_host) (touches_refl _ _)

theorem touches_execTjUpdate (temp : Int) (s : State) : nextTouches [.host] s (execTjUpdate temp s) := by
  unfold execTjUpdate
  extract_lets _
  exact (touches_refl _ _).set_host

theorem touches_lifeEach_go (acc stride : Nat) (s : State) (k : Nat) (bs : List Nat) :
    State.touches [.counts, .log] s (State.lifeEach.go acc stride s k bs) := by
  induction bs generalizing acc stride s k with
  | nil =>
    rw [State.lifeEach.go]
    exact touches_refl _ _
  | cons x r ih =>
    rw [State.lifeEach.go]
    exact (ih ..).after ((tells_lifeAdd ..).touches.le)

theorem touches_lifeEach (s : State) (acc stride : Nat) (bins : List Nat) :
    State.touches [.counts, .log] s (s.lifeEach acc stride bins) := by
  unfold State.lifeEach
  exact (touches_lifeEach_go ..).le

theorem touches_thermalCycle (s : State) (t : Int) : State.touches [.counts, .log] s (s.thermalCycle t) := by
  unfold State.thermalCycle
  extract_lets _
  split
  · exact (touches_refl _ _).set_log
  · exact touches_ite _ ((tells_lifeAdd ..).touches.after ((touches_refl _ _).set_log)) (touches_ite _ ((touches_refl _ _).set_log)
      (touches_refl _ _))

theorem touches_execLifetimeSample (temps : List Int) (supplyBins : List Nat) (s : State) :
    nextTouches [.counts, .log] s (execLifetimeSample temps supplyBins s) := by
  unfold execLifetimeSample
  extract_lets s1
  have h1 : State.touches [.counts, .log] s s1 := (touches_lifeEach ..).after ((touches_lifeEach ..).after
    ((tells_lifeAdd ..).touches.le))
  split
  · exact h1
  · exact (touches_thermalCycle ..).after h1

theorem touches_lifeSlot (s : State) : State.touches [.counts, .log] s (s.lifeSlot) := by
  unfold State.lifeSlot
  extract_lets _ s1 _
  have h1 : State.touches [.counts, .log] s s1 := (tells_bump ..).touches.after ((tells_lifeAdd ..).touches.le)
  exact h1.set_log

theorem touches_execLifetimeSlotWrite (s : State) : nextTouches [.counts, .log] s (execLifetimeSlotWrite s) := by
  unfold execLifetimeSlotWrite
  exact nextTouches_ite _ ((touches_lifeSlot ..).le) (touches_refl _ _)

/-! ### Modes, roles and the ends of commits -/

theorem touches_reserve (s : State) : State.touches [.log] s (s.reserve) := by
  unfold State.reserve
  extract_lets _
  exact (touches_refl _ _).set_log

theorem touches_unreserve (s : State) : State.touches [.log] s (s.unreserve) := by
  unfold State.unreserve
  extract_lets _
  exact (touches_refl _ _).set_log

theorem touches_acceptReserved {l : List Part} {s : State} {f : State → State} (h : ∀ u, State.touches l u (f u))
    (hl : subParts [.log] l = true := by rfl) : (acceptReserved s f).touches l s :=
  reply_touches_ite _ ((h _).after ((touches_reserve s).le hl) (subParts_refl l)) trivial

theorem touches_effectOf (s : State) (c : CmdRef) (obj cnt value : Nat) :
    State.touches [.host, .counts, .log] s (s.effectOf c obj cnt value) := by
  unfold State.effectOf
  exact (touches_complete ..).after ((tells_journalCmd ..).touches.after ((touches_unreserve ..).le))

theorem touches_failRef (s : State) (c : Option CmdRef) (st detail : Nat) : State.touches [.host, .log] s (s.failRef c st detail) := by
  unfold State.failRef
  split
  · exact (touches_complete ..).after ((touches_unreserve ..).le)
  · exact touches_refl _ _

theorem touches_tell (s : State) (m : PeerMsg) : State.touches [.pair] s (s.tell m) := by
  unfold State.tell
  extract_lets _
  exact (touches_refl _ _).set_pair

theorem touches_forwardCmd (s : State) (c : CmdRef) (row : Rsn) (f : Forwarded) : State.touches [.pair] s (s.forwardCmd c row f) := by
  unfold State.forwardCmd
  exact (touches_tell ..).le

theorem touches_sendFrame (s : State) : State.touches [.pair] s (s.sendFrame) := by
  unfold State.sendFrame
  extract_lets _ _ _ _ s1 _
  have h1 : State.touches [.pair] s s1 := (touches_tell ..).le
  exact h1.set_pair

theorem touches_endCommit (s : State) (st detail : Nat) : State.touches [.host, .counts, .com, .log] s (s.endCommit st detail) := by
  unfold State.endCommit
  extract_lets _ s1 s2
  have h1 : State.touches [.host, .counts, .com, .log] s s1 := (touches_refl _ _).set_com
  have h2 : State.touches [.host, .counts, .com, .log] s s2 := touches_ite _ ((tells_bump ..).touches.after h1) h1
  split
  · exact touches_refl _ _
  · exact touches_ite _ h1 ((touches_failRef ..).after h2)

theorem touches_abortCommit (s : State) (detail : Nat) : State.touches [.host, .counts, .com, .log] s (s.abortCommit detail) := by
  unfold State.abortCommit
  exact (touches_endCommit ..).le

theorem touches_abortUnarmed (s : State) : State.touches [.host, .counts, .com, .log] s (s.abortUnarmed) := by
  unfold State.abortUnarmed
  split
  · exact touches_ite _ (touches_refl _ _) ((touches_abortCommit ..).le)
  · exact touches_refl _ _

theorem touches_dropEntry (s : State) : State.touches [.com] s (s.dropEntry) := by
  unfold State.dropEntry
  extract_lets _
  split
  · exact touches_ite _ ((touches_refl _ _).set_com) (touches_refl _ _)
  · exact touches_refl _ _

theorem touches_endTimetable (s : State) : State.touches [.mode, .com] s (s.endTimetable) := by
  unfold State.endTimetable
  extract_lets s1 _ _ _ _
  have h1 : State.touches [.mode, .com] s s1 := (touches_dropEntry ..).le
  exact h1.upd

theorem touches_abortCaravan (s : State) (byPeer : Bool) :
    State.touches [.mode, .dev, .counts, .com, .pair, .log] s (s.abortCaravan byPeer) := by
  unfold State.abortCaravan
  extract_lets s1 _ s2 _ _ s3 s4
  have h1 : State.touches [.mode, .dev, .counts, .com, .pair, .log] s s1 := (touches_endTimetable ..).le
  have h2 : State.touches [.mode, .dev, .counts, .com, .pair, .log] s s2 := touches_ite _ h1.set_devMode ((touches_endTimetable ..).le)
  have h3 : State.touches [.mode, .dev, .counts, .com, .pair, .log] s s3 := touches_ite _ h2 h2.set_com
  have h4 : State.touches [.mode, .dev, .counts, .com, .pair, .log] s s4 := (tells_journalAuto ..).touches.after
    ((tells_bump ..).touches.after h3)
  exact touches_ite _ (touches_refl _ _) (touches_ite _ h4 ((touches_tell ..).after h4))

theorem touches_abandonCopy (s : State) : State.touches [.sw, .com, .pair] s s.abandonCopy := by
  unfold State.abandonCopy
  extract_lets armed filled _ s1 pend s2
  have h1 : State.touches [.sw, .com, .pair] s s1 := (touches_refl _ _).set_pair
  have h2 : State.touches [.sw, .com, .pair] s s2 := (touches_setShadow ..).after h1
  have hgen : s1.com.gen = s2.com.gen := ((touches_setShadow s1 s1.egrB).gen).symm
  clear_value s2
  exact touches_ite _ h1 (h2.set_com hgen)

theorem touches_acquire (s : State) (lease : Nat) (seized : Bool) :
    State.touches [.mode, .counts, .sw, .com, .pair, .log] s (s.acquire lease seized) := by
  unfold State.acquire
  extract_lets s1 _ _ s2
  have h1 : State.touches [.mode, .counts, .sw, .com, .pair, .log] s s1 := (touches_abandonCopy ..).le
  have h2 : State.touches [.mode, .counts, .sw, .com, .pair, .log] s s2 := h1.upd
  exact (touches_sendFrame ..).after ((tells_lifeAdd ..).touches.after ((tells_bump ..).touches.after h2))

theorem touches_giveUp (s : State) (kind : Nat) : State.touches [.mode, .host, .counts, .sw, .com, .pair, .log] s (s.giveUp kind) := by
  unfold State.giveUp
  extract_lets s1 _ _ s2 s3 s4 s5
  have h1 : State.touches [.mode, .host, .counts, .sw, .com, .pair, .log] s s1 := (touches_abandonCopy ..).le
  have h2 : State.touches [.mode, .host, .counts, .sw, .com, .pair, .log] s s2 := h1.upd
  have h3 : State.touches [.mode, .host, .counts, .sw, .com, .pair, .log] s s3 := (touches_abortUnarmed ..).after h2
  have h4 : State.touches [.mode, .host, .counts, .sw, .com, .pair, .log] s s4 := touches_ite _ ((tells_bump ..).touches.after h3)
    ((tells_lifeAdd ..).touches.after ((tells_bump ..).touches.after h3))
  have h5 : State.touches [.mode, .host, .counts, .sw, .com, .pair, .log] s s5 := by
      unfold s5
      split
      · exact (tells_journalAuto ..).touches.after h4
      · exact (tells_journalAuto ..).touches.after h4
      · exact (tells_journalAuto ..).touches.after h4
      · exact h4
  exact (touches_sendFrame ..).after h5

theorem touches_releaseSoon (s : State) (kind : Nat) (c : Option CmdRef) :
    State.touches [.host, .pair, .log] s (s.releaseSoon kind c) := by
  unfold State.releaseSoon
  extract_lets _
  exact touches_ite _ (touches_refl _ _) (by
    split
    · exact (touches_refl _ _).set_pair
    · exact touches_refl _ _
    · exact (touches_ite _ ((touches_failRef ..).le) (touches_refl _ _)).set_pair
    · exact (touches_refl _ _).set_pair)

theorem touches_doRelease (s : State) : State.touches [.mode, .host, .counts, .sw, .com, .pair, .log] s (s.doRelease) := by
  unfold State.doRelease
  extract_lets _
  dsimp only
  split
  · exact touches_refl _ _
  · split
    · exact (touches_effectOf ..).after (touches_ite _ ((touches_giveUp ..).le) ((touches_refl _ _).set_pair))
    · exact touches_ite _ ((touches_giveUp ..).le) ((touches_refl _ _).set_pair)

theorem touches_faultRelease (s : State) : State.touches [.host, .pair, .log] s (s.faultRelease) := by
  unfold State.faultRelease
  exact (touches_releaseSoon ..).le

theorem touches_joinCaravan (s : State) : State.touches [.com] s (s.joinCaravan) := by
  unfold State.joinCaravan
  extract_lets _ _
  exact touches_ite _ (touches_refl _ _) ((touches_refl _ _).set_com)

theorem touches_enterMode (s : State) (m : Mode) :
    State.touches [.mode, .host, .par, .counts, .lanes, .sw, .com, .pair, .pow, .log] s (s.enterMode m) := by
  unfold State.enterMode
  extract_lets s1 s2 s3 s4 _ _ _ _ _ s5
  have h1 : State.touches [.mode, .host, .par, .counts, .lanes, .sw, .com, .pair, .pow, .log] s s1 := touches_ite _
    ((touches_emptyTestSet ..).le) (touches_refl _ _)
  have h2 : State.touches [.mode, .host, .par, .counts, .lanes, .sw, .com, .pair, .pow, .log] s s2 := touches_ite _
    ((touches_giveUp ..).after h1) h1
  have h3 : State.touches [.mode, .host, .par, .counts, .lanes, .sw, .com, .pair, .pow, .log] s s3 := touches_ite _ h2
    ((touches_abandonCopy ..).after h2)
  have h4 : State.touches [.mode, .host, .par, .counts, .lanes, .sw, .com, .pair, .pow, .log] s s4 := touches_ite _
    ((touches_joinCaravan ..).after h3) (touches_ite _ ((touches_endTimetable ..).after h3) h3)
  have h5 : State.touches [.mode, .host, .par, .counts, .lanes, .sw, .com, .pair, .pow, .log] s s5 := h4.upd
  exact touches_ite _ ((touches_sendFrame ..).after h5) h5

theorem touches_autoModeBy (s : State) (m : Mode) (by' : Option CmdRef) :
    State.touches [.mode, .host, .par, .counts, .lanes, .sw, .com, .pair, .pow, .log] s (s.autoModeBy m by') := by
  unfold State.autoModeBy
  extract_lets _ s1 s2 _ s3
  have h1 : State.touches [.mode, .host, .par, .counts, .lanes, .sw, .com, .pair, .pow, .log] s s1 := (touches_enterMode ..).le
  have h2 : State.touches [.mode, .host, .par, .counts, .lanes, .sw, .com, .pair, .pow, .log] s s2 := by
      unfold s2
      split
      · exact (tells_journalCmd ..).touches.after h1
      · exact (tells_journalAuto ..).touches.after h1
  have h3 : State.touches [.mode, .host, .par, .counts, .lanes, .sw, .com, .pair, .pow, .log] s s3 := h2.set_mode
  split
  · exact h2
  · exact touches_ite _ h2 (by
      split
      · exact touches_ite _ h3 ((touches_unreserve ..).after h3)
      · exact touches_ite _ ((touches_complete ..).after ((touches_unreserve ..).after h3)) ((touches_failRef ..).after h3))

theorem touches_autoMode (s : State) (m : Mode) :
    State.touches [.mode, .host, .par, .counts, .lanes, .sw, .com, .pair, .pow, .log] s (s.autoMode m) := by
  unfold State.autoMode
  exact (touches_autoModeBy ..).le

theorem touches_acceptMode (s : State) (c : CmdRef) (target : Mode) (release : Bool) :
    (acceptMode s c target release).touches [.mode, .host, .pair, .log] s := by
  unfold acceptMode
  exact touches_acceptReserved fun u => (touches_ite _ ((touches_releaseSoon ..).le) (touches_refl _ _)).set_mode

theorem touches_configureBody (c : CmdRef) (s : State) : (configureBody c s).touches [.mode, .host, .pair, .log] s := by
  unfold configureBody
  exact touches_guarded _ ((touches_acceptMode ..).le)

theorem touches_transportBody (c : CmdRef) (s : State) : (transportBody c s).touches [.mode, .host, .pair, .log] s := by
  unfold transportBody
  exact touches_guarded _ ((touches_acceptMode ..).le)

theorem touches_testEnterBody (c : CmdRef) (s : State) : (testEnterBody c s).touches [.mode, .host, .pair, .log] s := by
  unfold testEnterBody
  exact touches_guarded _ ((touches_acceptMode ..).le)

theorem touches_execTestEnter (e : Entry) (s : State) : nextTouches [.mode, .host, .counts, .pair, .log] s (execTestEnter e s) := by
  unfold execTestEnter
  exact touches_serve fun c u => (touches_testEnterBody ..).le

theorem touches_testExitBody (c : CmdRef) (s : State) : (testExitBody c s).touches [.mode, .host, .pair, .log] s := by
  unfold testExitBody
  exact touches_guarded _ ((touches_acceptMode ..).le)

theorem touches_execTestExit (e : Entry) (s : State) : nextTouches [.mode, .host, .counts, .pair, .log] s (execTestExit e s) := by
  unfold execTestExit
  exact touches_serve fun c u => (touches_testExitBody ..).le

theorem touches_maintainBody (c : CmdRef) (s : State) : (maintainBody c s).touches [.mode, .host, .pair, .log] s := by
  unfold maintainBody
  exact touches_guarded _ ((touches_acceptMode ..).le)

theorem touches_execFwMaintain (e : Entry) (s : State) : nextTouches [.mode, .host, .counts, .pair, .log] s (execFwMaintain e s) := by
  unfold execFwMaintain
  exact touches_serve fun c u => (touches_maintainBody ..).le

theorem touches_resumeBody (c : CmdRef) (s : State) : (resumeBody c s).touches [.mode, .host, .pair, .log] s := by
  unfold resumeBody
  exact touches_guarded _ ((touches_acceptMode ..).le)

theorem touches_execFwResume (e : Entry) (s : State) : nextTouches [.mode, .host, .counts, .pair, .log] s (execFwResume e s) := by
  unfold execFwResume
  exact touches_serve fun c u => (touches_resumeBody ..).le

/-! ### Staging and reading maps -/

theorem touches_countShadow (s : State) (rs : List MapRec) : State.touches [.counts, .log] s (s.countShadow rs) := by
  unfold State.countShadow
  exact touches_foldl (touches_refl _ _) _ fun u a => (tells_perf ..).touches.le

theorem touches_stageDelta (s : State) (owner : Nat) (es : List DeltaEntry) (cuts : List (Nat × CutDelta)) :
    State.touches [.free, .counts, .sw, .com, .pair, .log] s (s.stageDelta owner es cuts).1 := by
  unfold State.stageDelta
  dsimp only
  have h1 : State.touches [.free, .counts, .sw, .com, .pair, .log] s s.afterReplay.drawn :=
    (touches_drawn ..).after (touches_afterReplay ..).le
  generalize s.afterReplay.drawn = u at h1
  generalize s.afterReplay = u'
  have h4 : ∀ b rs c, c.gen = u.com.gen → State.touches [.free, .counts, .sw, .com, .pair, .log] s
      { (u.setShadow b).countShadow rs with com := c } := fun b rs c hc => by
    have hstaged := (touches_countShadow (u.setShadow b) rs).after (touches_setShadow u b).le (l := [.counts, .sw, .log])
    exact (hstaged.after h1).set_com (hc.trans hstaged.gen.symm)
  exact touches_ite _ ((touches_tell ..).after (h4 _ _ _ rfl)) (h4 _ _ _ rfl)

theorem touches_staged {l : List Part} {s : State} {x : State × Nat} (c : CmdRef) (recs : List (Nat × Nat × Nat))
    (h : State.touches l s x.1) (hl : subParts [.com] l = true := by rfl) : (State.staged c x recs).touches l s :=
  reply_touches_ite _ ((touches_set_com x.1 { x.1.com with stageWaits := x.1.com.stageWaits ++ [(c, x.2)] }).after h hl) h

theorem touches_discardDelta (s : State) : State.touches [.sw, .com, .pair] s s.discardDelta := by
  unfold State.discardDelta
  extract_lets s1 s2 s3
  have h1 : State.touches [.sw, .com, .pair] s s1 := (touches_afterReplay ..).le
  have h2 : State.touches [.sw, .com, .pair] s s2 := (touches_setShadow ..).after h1
  have hgen : s1.com.unstaged.gen = s2.com.gen := ((touches_setShadow s1 s1.egrB).gen).symm
  have h3 : State.touches [.sw, .com, .pair] s s3 := h2.set_com hgen
  exact touches_ite _ ((touches_tell ..).after h3) h3

theorem touches_mapStageBody (b : Buf) (entries : Nat) (table : List (BitVec 128)) (c : CmdRef) (s : State) :
    (mapStageBody b entries table c s).touches [.free, .counts, .sw, .com, .pair, .log] s := by
  unfold mapStageBody
  extract_lets t es
  have h := touches_stageDelta s c.session es []
  generalize s.stageDelta c.session es [] = x at h ⊢
  exact touches_guarded _ <| touches_deltaChecks _ _ _ _ _ <| touches_guarded _ <| touches_staged _ _ h

theorem touches_execMapStage (e : Entry) (b : Buf) (entries : Nat) (table : List (BitVec 128)) (s : State) :
    nextTouches [.free, .host, .counts, .sw, .com, .pair, .log] s (execMapStage e b entries table s) := by
  unfold execMapStage
  exact touches_serve fun c u => (touches_mapStageBody ..).le

theorem touches_mapProbeBody (b : Buf) (entries : Nat) (table : List (BitVec 128)) (out : Buf) (_c : CmdRef) (s : State) :
    (mapProbeBody b entries table out _c s).touches [.host] s := by
  unfold mapProbeBody
  extract_lets _ _ _ _
  exact touches_guarded _ (touches_deltaChecks _ _ _ _ _ (touches_guarded _ ((touches_hostWrite ..).le)))

theorem touches_execMapProbe (e : Entry) (b : Buf) (entries : Nat) (table : List (BitVec 128)) (out : Buf) (s : State) :
    nextTouches [.host, .counts, .log] s (execMapProbe e b entries table out s) := by
  unfold execMapProbe
  exact touches_serve fun c u => (touches_mapProbeBody ..).le

theorem touches_mapDiscardBody (c : CmdRef) (s : State) : (mapDiscardBody c s).touches [.sw, .com, .pair] s := by
  unfold mapDiscardBody
  exact touches_guarded _ (reply_touches_ite _ ((touches_discardDelta ..).le) trivial)

theorem touches_execMapDiscard (e : Entry) (s : State) : nextTouches [.host, .counts, .sw, .com, .pair, .log] s (execMapDiscard e s) := by
  unfold execMapDiscard
  exact touches_serve fun c u => (touches_mapDiscardBody ..).le

theorem touches_mapReadBody (b : Buf) (first count bank map dune : Nat) (_c : CmdRef) (s : State) :
    (mapReadBody b first count bank map dune _c s).touches [.host] s := by
  unfold mapReadBody
  extract_lets _ _
  exact reply_touches_ite _ trivial (touches_guarded _ ((touches_hostWrite ..).le))

theorem touches_execMapRead (e : Entry) (b : Buf) (first count bank map dune : Nat) (s : State) :
    nextTouches [.host, .counts, .log] s (execMapRead e b first count bank map dune s) := by
  unfold execMapRead
  exact touches_serve fun c u => (touches_mapReadBody ..).le

theorem touches_cutStageBody (b : Buf) (count dune : Nat) (table : List (BitVec 64)) (c : CmdRef) (s : State) :
    (cutStageBody b count dune table c s).touches [.free, .counts, .sw, .com, .pair, .log] s := by
  unfold cutStageBody
  extract_lets t xs pairs
  have h := touches_stageDelta s c.session [] pairs
  generalize s.stageDelta c.session [] pairs = x at h ⊢
  exact touches_guarded _ <| touches_checkItems _ _ _ <| touches_checkItems _ _ _ <| touches_guarded _ <| touches_checkDup _ <|
    touches_checkItems _ _ _ <| touches_guarded _ <| touches_checkItems _ _ _ <| touches_guarded _ <| touches_staged _ _ h

theorem touches_execCutStage (e : Entry) (b : Buf) (count dune : Nat) (table : List (BitVec 64)) (s : State) :
    nextTouches [.free, .host, .counts, .sw, .com, .pair, .log] s (execCutStage e b count dune table s) := by
  unfold execCutStage
  exact touches_serve fun c u => (touches_cutStageBody ..).le

theorem touches_loupeMirrorBody (obsLane obsGrain loupeLane loupeGrain : Nat) (c : CmdRef) (s : State) :
    (loupeMirrorBody obsLane obsGrain loupeLane loupeGrain c s).touches [.free, .counts, .sw, .com, .pair, .log] s := by
  unfold loupeMirrorBody
  extract_lets t obs key
  refine touches_guarded _ ?_
  split
  · trivial
  · extract_lets e
    have h := touches_stageDelta s c.session [e] []
    refine touches_deltaChecks _ _ _ _ _ (touches_guarded _ ?_)
    generalize s.stageDelta c.session [e] [] = x at h ⊢
    exact touches_staged _ _ h

theorem touches_execLoupeMirror (e : Entry) (obsLane obsGrain loupeLane loupeGrain : Nat) (s : State) :
    nextTouches [.free, .host, .counts, .sw, .com, .pair, .log] s (execLoupeMirror e obsLane obsGrain loupeLane loupeGrain s) := by
  unfold execLoupeMirror
  exact touches_serve fun c u => (touches_loupeMirrorBody ..).le

theorem touches_execStageRecords (m : StageMsg) (discard : Bool) (s : State) :
    nextTouches [.counts, .sw, .com, .log] s (execStageRecords m discard s) := by
  have hafter : State.touches [.counts, .sw, .com, .log] s s.afterReplay := (touches_afterReplay ..).le
  unfold execStageRecords
  dsimp only
  generalize s.afterReplay = u at hafter ⊢
  refine nextTouches_ite _ (nextTouches_ite _ ?_ ?_) (touches_refl ..)
  · exact ((touches_setShadow u u.egrB).after hafter).set_com (touches_setShadow u u.egrB).gen.symm
  · generalize hv : ({ u.egrB.writeAll m.recs with insts := _ } : Bank) = b
    generalize List.filter _ _ = rs
    have hstaged := (touches_countShadow (u.setShadow b) rs).after (touches_setShadow u b).le (l := [.counts, .sw, .log])
    generalize (u.setShadow b).countShadow rs = v at hstaged ⊢
    exact (hstaged.after hafter).set_com

theorem touches_findShadow (s : State) (xs : List (Nat × Nat × Nat)) (detail : Nat) :
    State.touches [.counts, .com, .flt, .log] s (s.findShadow xs detail) := by
  unfold State.findShadow
  extract_lets _ _ s1
  have h1 : State.touches [.counts, .com, .flt, .log] s s1 := (tells_bump ..).touches.after ((touches_refl _ _).set_com)
  exact touches_foldl h1 _ fun u a => (touches_report ..).le

theorem touches_execShadowScrub (s : State) : nextTouches [.counts, .com, .flt, .log] s (execShadowScrub s) := by
  unfold execShadowScrub
  extract_lets _ _ _ s1 s2
  have h1 : State.touches [.counts, .com, .flt, .log] s s1 := (touches_refl _ _).set_com
  have h2 : State.touches [.counts, .com, .flt, .log] s s2 := touches_foldl h1 _ fun u a => (touches_maskedFault ..).after
    ((tells_perf ..).touches.le)
  exact nextTouches_ite _ (touches_refl _ _) (nextTouches_ite _ h2 ((touches_findShadow ..).after h2))

theorem touches_execShadowRewrite (s : State) : nextTouches [.com] s (execShadowRewrite s) := by
  unfold execShadowRewrite
  extract_lets _
  exact nextTouches_ite _ ((touches_refl _ _).set_com) (touches_refl _ _)

theorem touches_mendMap (s : State) (map dune index : Nat) : State.touches [.flt] s (s.mendMap map dune index) := by
  unfold State.mendMap
  extract_lets _ s1 _
  have h1 : State.touches [.flt] s s1 := touches_ite _ ((touches_markRec ..).le) (touches_refl _ _)
  exact h1.set_flt

theorem touches_execMapShadowRepair (map : Fin 4) (dune : Fin 64) (index : Nat) (s : State) :
    nextTouches [.counts, .com, .flt, .log] s (execMapShadowRepair map dune index s) := by
  unfold execMapShadowRepair
  extract_lets _
  exact nextTouches_ite _ ((touches_mendMap ..).le) (nextTouches_ite _ ((touches_findShadow ..).le) (touches_refl _ _))

theorem touches_execMapDatabaseRepair (map : Fin 4) (dune : Fin 64) (index : Nat) (s : State) :
    nextTouches [.flt] s (execMapDatabaseRepair map dune index s) := by
  unfold execMapDatabaseRepair
  exact nextTouches_ite _ ((touches_mendMap ..).le) (touches_refl _ _)

/-! ### Commits and the caravan -/

theorem touches_pendCommit (s : State) (at' a : Rsn) (c : CmdRef) : State.touches [.com] s (s.pendCommit at' a c) := by
  unfold State.pendCommit
  extract_lets _ _
  exact (touches_refl _ _).set_com

theorem touches_commitNowBody (c : CmdRef) (s : State) : (commitNowBody c s).touches [.com, .log] s := by
  unfold commitNowBody
  exact touches_guarded _ (touches_acceptReserved fun u => (touches_pendCommit ..).le)

theorem touches_execCommitNow (e : Entry) (s : State) : nextTouches [.host, .counts, .com, .log] s (execCommitNow e s) := by
  unfold execCommitNow
  exact touches_serve fun c u => (touches_commitNowBody ..).le

theorem touches_commitAtBody (rsn : Nat) (c : CmdRef) (s : State) : (commitAtBody rsn c s).touches [.com, .log] s := by
  unfold commitAtBody
  extract_lets _ _
  exact touches_guarded _ (touches_guarded _ (touches_acceptReserved fun u => (touches_pendCommit ..).le))

theorem touches_execCommitAt (e : Entry) (rsn : Nat) (s : State) : nextTouches [.host, .counts, .com, .log] s (execCommitAt e rsn s) := by
  unfold execCommitAt
  exact touches_serve fun c u => (touches_commitAtBody ..).le

theorem touches_commitCancelBody (c : CmdRef) (s : State) : (commitCancelBody c s).touches [.host, .counts, .com, .pair, .log] s := by
  unfold commitCancelBody
  extract_lets _
  exact touches_guarded _ (by
    split
    · exact trivial
    · exact (touches_abortCommit ..).after (touches_ite _ ((touches_tell ..).le) (touches_refl _ _)))

theorem touches_execCommitCancel (e : Entry) (s : State) : nextTouches [.host, .counts, .com, .pair, .log] s (execCommitCancel e s) := by
  unfold execCommitCancel
  exact touches_serve fun c u => (touches_commitCancelBody ..).le

theorem touches_armPend (s : State) (p : PendCommit) : State.touches [.com] s (s.armPend p) := by
  unfold State.armPend
  extract_lets _
  exact (touches_refl _ _).set_com

theorem touches_armCommit (s : State) (p : PendCommit) : State.touches [.host, .counts, .com, .pair, .log] s (s.armCommit p) := by
  unfold State.armCommit
  extract_lets _ s1 _
  have h1 : State.touches [.host, .counts, .com, .pair, .log] s s1 := (touches_tell ..).le
  exact touches_ite _ (by
    split
    · exact (touches_armPend ..).le
    · exact (touches_refl _ _).set_com) (touches_ite _ (by
    split
    · exact (touches_abortCommit ..).after ((touches_tell ..).le)
    · exact touches_ite _ ((touches_tell ..).after ((touches_armPend ..).le)) ((touches_abortCommit ..).after h1.set_com)) (by
    split
    · exact (touches_abortCommit ..).le
    · exact (touches_armPend ..).le))

theorem touches_armEntry (s : State) : State.touches [.mode, .dev, .counts, .sw, .com, .gen, .pair, .log] s s.armEntry := by
  unfold State.armEntry
  dsimp only
  split
  · exact touches_refl ..
  · rename_i e c _
    have hafter : State.touches [.mode, .dev, .counts, .sw, .com, .gen, .pair, .log] s s.afterReplay := (touches_afterReplay ..).le
    generalize s.afterReplay = u at hafter ⊢
    generalize hv : ({ u.shadow.writeAll e.recs with insts := _ } : Bank) = b
    refine touches_ite _ (touches_refl ..) (touches_ite _ (touches_abortCaravan ..).le (touches_ite _ (touches_refl ..) ?_))
    have hcount := (touches_countShadow _ e.recs).after ((touches_setShadow u b).after hafter)
    generalize (u.setShadow b).countShadow e.recs = v at hcount ⊢
    exact hcount.set_com

theorem touches_execCommitArming (s : State) :
    nextTouches [.mode, .dev, .host, .counts, .sw, .com, .gen, .pair, .log] s (execCommitArming s) := by
  unfold execCommitArming
  split
  · exact nextTouches_ite _ ((touches_armCommit ..).le) (touches_refl _ _)
  · exact nextTouches_ite _ ((touches_armEntry ..).le) (touches_refl _ _)

theorem touches_undoEntry (s : State) (p : PendCommit) : State.touches [.sw, .com] s (s.undoEntry p) := by
  unfold State.undoEntry
  extract_lets _ _ s1
  have h1 : State.touches [.sw, .com] s s1 := touches_upd
  exact (touches_setShadow ..).after h1

theorem touches_peerHolds (s : State) : State.touches [.host, .com] s (s.peerHolds) := by
  unfold State.peerHolds
  extract_lets _ _ _ _ _ s1 s2
  have h1 : State.touches [.host, .com] s s1 := (touches_refl _ _).set_com
  have h2 : State.touches [.host, .com] s s2 := touches_foldl h1 _ fun u a => (touches_complete ..).le
  exact touches_foldl h2 _ fun u a => (touches_complete ..).le

theorem touches_passTimetable (s : State) : State.touches [.mode, .counts, .com, .log] s (s.passTimetable) := by
  unfold State.passTimetable
  extract_lets _ _ _ s1 s2
  have h1 : State.touches [.mode, .counts, .com, .log] s s1 := by
      unfold s1
      split
      · exact (tells_journalCmd ..).touches.after ((touches_refl _ _).set_com)
      · exact touches_refl _ _
  have h2 : State.touches [.mode, .counts, .com, .log] s s2 := by
      unfold s2
      split
      · exact (tells_journalCmd ..).touches.after h1
      · exact h1
  exact touches_ite _ (touches_refl _ _) (touches_ite _ ((touches_endTimetable ..).after h2) h1)

theorem touches_commitRow (s : State) : State.touches [.mode, .dev, .host, .counts, .sw, .com, .pair, .flt, .log] s (s.commitRow) := by
  unfold State.commitRow
  extract_lets s1 _ s2
  have h1 : State.touches [.mode, .dev, .host, .counts, .sw, .com, .pair, .flt, .log] s s1 := (touches_passTimetable ..).after
    ((touches_peerHolds ..).le)
  have h2 : State.touches [.mode, .dev, .host, .counts, .sw, .com, .pair, .flt, .log] s s2 := by
      unfold s2
      split
      · exact touches_ite _ (touches_ite _ ((touches_undoEntry ..).after h1) h1) (touches_ite _ ((touches_abortCommit ..).after h1)
          (touches_ite _ ((touches_tell ..).after h1.set_com) h1))
      · exact h1
  exact touches_ite _ (by
    split
    · exact h2
    · exact touches_ite _ ((touches_abortCaravan ..).after (touches_ite _ ((touches_report ..).after h2) h2)) (touches_ite _
        ((touches_report ..).after h2) h2)) h2

theorem touches_execCommitIngressSwitch (s : State) : nextTouches [.sw, .com] s (execCommitIngressSwitch s) := by
  unfold execCommitIngressSwitch
  extract_lets s1 _ _
  have h1 : State.touches [.sw, .com] s s1 := (touches_afterReplay ..).le
  split
  · exact nextTouches_ite _ h1.upd (touches_refl _ _)
  · exact touches_refl _ _

theorem touches_countMoves (s : State) (ms : List (Nat × Nat)) : State.touches [.counts, .log] s (s.countMoves ms) := by
  unfold State.countMoves
  exact touches_foldl (touches_refl _ _) _ fun u a => (tells_perf ..).touches.after ((tells_perf ..).touches.after
    ((tells_bump ..).touches.after ((tells_bump ..).touches.le)))

theorem touches_switchEgress (s : State) (c : Rsn) (gen : Nat) (recs : List MapRec) (moves : List (Nat × Nat)) :
    State.touches [.counts, .sw, .com, .gen, .pair, .flt, .log] s (s.switchEgress c gen recs moves) := by
  unfold State.switchEgress
  extract_lets _ _ _ s1 _ _ _ _ _ s2 s3
  have h1 : State.touches [.counts, .sw, .com, .gen, .pair, .flt, .log] s s1 := (touches_refl _ _).set_sw
  have h2 : State.touches [.counts, .sw, .com, .gen, .pair, .flt, .log] s s2 := h1.upd
  have h3 : State.touches [.counts, .sw, .com, .gen, .pair, .flt, .log] s s3 := (touches_countMoves ..).after h2
  exact (tells_perf ..).touches.after ((tells_lifeAdd ..).touches.after ((tells_bump ..).touches.after h3))

theorem touches_copyRings (s : State) : State.touches [.tribs] s (s.copyRings) := by
  unfold State.copyRings
  extract_lets _
  exact (touches_refl _ _).set_tribs

theorem touches_copyDone (s : State) (g : Nat) (c : Rsn) : State.touches [.mode, .counts, .tribs, .pair, .log] s (s.copyDone g c) := by
  unfold State.copyDone
  extract_lets s1 s2 _ _
  have h1 : State.touches [.mode, .counts, .tribs, .pair, .log] s s1 := (tells_journalAuto ..).touches.le
  have h2 : State.touches [.mode, .counts, .tribs, .pair, .log] s s2 := (touches_copyRings ..).after h1
  exact touches_ite _ h1 ((tells_bump ..).touches.after h2.upd)

theorem touches_execCommitEgressSwitch (s : State) :
    nextTouches [.mode, .host, .counts, .tribs, .sw, .com, .gen, .pair, .flt, .log] s (execCommitEgressSwitch s) := by
  unfold execCommitEgressSwitch
  extract_lets _
  dsimp only
  split
  · exact touches_refl _ _
  · exact nextTouches_ite _ (nextTouches_ite _ ((touches_copyDone ..).after ((touches_switchEgress ..).le)) (by
      split
      · exact (touches_switchEgress ..).le
      · exact nextTouches_ite _ ((tells_journalCmd ..).touches.after ((touches_switchEgress ..).le)) ((touches_effectOf ..).after
          ((touches_switchEgress ..).le)))) (touches_refl _ _)

theorem touches_execCommitReplayDone (s : State) : nextTouches [.counts, .sw, .com, .log] s (execCommitReplayDone s) := by
  unfold execCommitReplayDone
  extract_lets _
  exact nextTouches_ite _ (touches_foldl ((touches_afterReplay ..).le) _ fun u a => (tells_perf ..).touches.le) (touches_refl _ _)

theorem touches_flushCaravan (s : State) : State.touches [.counts, .com, .log] s (s.flushCaravan) := by
  unfold State.flushCaravan
  extract_lets _ _
  exact touches_ite _ (touches_refl _ _) ((tells_journalSummary ..).touches.after ((touches_refl _ _).set_com))

theorem touches_execCaravanEntryCommit (s : State) :
    nextTouches [.mode, .dev, .host, .par, .counts, .lanes, .sw, .com, .gen, .pair, .pow, .flt, .log] s (execCaravanEntryCommit s) := by
  unfold execCaravanEntryCommit
  split
  · exact touches_refl ..
  · rename_i p _
    have hswitch := touches_switchEgress s p.c (nextGen s.com.gen) s.com.entryRecs s.com.entryMoves
    dsimp only
    generalize s.switchEgress p.c (nextGen s.com.gen) s.com.entryRecs s.com.entryMoves = u at hswitch ⊢
    have hpass := (hswitch.le (l := [.mode, .dev, .host, .par, .counts, .lanes, .sw, .com, .gen, .pair, .pow, .flt, .log])).set_com
      (x := { u.com with car := { u.com.car with sf := (u.com.car.sf.1 + 1, if u.com.car.sf.1 = 0 then p.c.toNat else u.com.car.sf.2.1,
        p.c.toNat, if u.com.car.sf.1 = 0 then nextGen s.com.gen else u.com.car.sf.2.2.2) } })
    refine nextTouches_ite _ (nextTouches_ite _ ?_ hpass) (touches_refl ..)
    exact nextTouches_ite _ ((touches_autoMode ..).after
      ((touches_endTimetable ..).after ((tells_journalAuto ..).touches.after hpass)).set_com)
      ((touches_endTimetable ..).after ((tells_journalAuto ..).touches.after hpass)).set_com

theorem touches_execPropose (m : ProposeMsg) (s : State) : nextTouches [.com, .pair] s (execPropose m s) := by
  unfold execPropose
  extract_lets _
  exact nextTouches_ite _ (by
    split
    · exact (touches_tell ..).le
    · exact (touches_tell ..).after ((touches_refl _ _).set_com)) (touches_refl _ _)

theorem touches_execReady (s : State) : nextTouches [.com] s (execReady s) := by
  unfold execReady
  extract_lets _
  split
  · exact nextTouches_ite _ ((touches_refl _ _).set_com) (touches_refl _ _)
  · exact touches_refl _ _

theorem touches_execRefuse (reason : Nat) (s : State) : nextTouches [.com] s (execRefuse reason s) := by
  unfold execRefuse
  extract_lets _
  split
  · exact nextTouches_ite _ ((touches_refl _ _).set_com) (touches_refl _ _)
  · exact touches_refl _ _

theorem touches_execArm (s : State) : nextTouches [.com] s (execArm s) := by
  unfold execArm
  extract_lets _
  split
  · exact nextTouches_ite _ ((touches_refl _ _).set_com) (touches_refl _ _)
  · exact touches_refl _ _

theorem touches_execAbort (s : State) : nextTouches [.com] s (execAbort s) := by
  unfold execAbort
  extract_lets _
  exact (touches_refl _ _).set_com

theorem touches_learnGen (s : State) (g : Nat) : State.touches [.com, .pair] s (s.learnGen g) := by
  unfold State.learnGen
  extract_lets _ s1 _ _ _
  have h1 : State.touches [.com, .pair] s s1 := (touches_refl _ _).set_pair
  exact touches_ite _ h1.set_com (touches_ite _ h1.set_com (touches_ite _ h1.set_com h1))

theorem touches_execCatchUpCommit (s : State) : nextTouches [.counts, .sw, .com, .gen, .pair, .flt, .log] s (execCatchUpCommit s) := by
  unfold execCatchUpCommit
  extract_lets _
  dsimp only
  split
  · exact touches_refl _ _
  · exact nextTouches_ite _ ((tells_bump ..).touches.after ((tells_journalAuto ..).touches.after
      ((touches_switchEgress ..).le.set_com))) (touches_refl _ _)

theorem touches_storeTable (s : State) (xs : List CaravanBlock) (loopRows base : Nat) :
    State.touches [.com] s (s.storeTable xs loopRows base) := by
  unfold State.storeTable
  extract_lets _ _
  exact (touches_refl _ _).set_com

theorem touches_caravanLoadBody (tt blk : Buf) (entries blocks loopRows : Nat) (table : List (BitVec 128)) (c : CmdRef) (s : State) :
    (caravanLoadBody tt blk entries blocks loopRows table deltas c s).touches [.free, .com, .pair] s := by
  unfold caravanLoadBody
  extract_lets _ _ _
  exact touches_guarded _ (touches_checkItems _ _ _ (touches_guarded _ (by
    split
    · exact trivial
    · exact touches_guarded _ (by
        split
        · exact trivial
        · exact touches_guarded _ (reply_touches_ite _ (((touches_tell ..).after ((touches_storeTable ..).after
            ((touches_drawn ..).le))).set_com) ((touches_storeTable ..).after ((touches_drawn ..).le)))))))

theorem touches_execCaravanLoad (e : Entry) (tt blk : Buf) (entries blocks loopRows : Nat) (table : List (BitVec 128)) (s : State) :
    nextTouches [.free, .host, .counts, .com, .pair, .log] s (execCaravanLoad e tt blk entries blocks loopRows table deltas s) := by
  unfold execCaravanLoad
  exact touches_serve fun c u => (touches_caravanLoadBody ..).le

theorem touches_execCaravanStoreCopy (timetable : List TimetableEntry) (blocks : List BlockRecs) (loopRows base : Nat) (s : State) :
    nextTouches [.com] s (execCaravanStoreCopy timetable blocks loopRows base s) := by
  unfold execCaravanStoreCopy
  extract_lets _
  exact nextTouches_ite _ ((touches_storeTable ..).le) (touches_refl _ _)

theorem touches_caravanStartBody (rsn : Nat) (c : CmdRef) (s : State) :
    (caravanStartBody rsn c s).touches [.mode, .com, .pair, .log] s := by
  unfold caravanStartBody
  extract_lets _
  exact touches_guarded _ (touches_acceptReserved fun u => touches_ite _ ((touches_forwardCmd ..).after touches_upd) touches_upd)

theorem touches_execCaravanStart (e : Entry) (rsn : Nat) (s : State) :
    nextTouches [.mode, .host, .counts, .com, .pair, .log] s (execCaravanStart e rsn s) := by
  unfold execCaravanStart
  exact touches_serve fun c u => (touches_caravanStartBody ..).le

theorem touches_caravanStopBody (c : CmdRef) (s : State) : (caravanStopBody c s).touches [.mode, .com, .pair, .log] s := by
  unfold caravanStopBody
  exact touches_guarded _ (touches_acceptReserved fun u => touches_ite _ ((touches_forwardCmd ..).after touches_upd) touches_upd)

theorem touches_execCaravanStop (e : Entry) (s : State) :
    nextTouches [.mode, .host, .counts, .com, .pair, .log] s (execCaravanStop e s) := by
  unfold execCaravanStop
  exact touches_serve fun c u => (touches_caravanStopBody ..).le

theorem touches_peerAbort (s : State) : State.touches [.mode, .dev, .counts, .com, .pair, .log] s (s.peerAbort) := by
  unfold State.peerAbort
  extract_lets s1 _
  have h1 : State.touches [.mode, .dev, .counts, .com, .pair, .log] s s1 := (touches_abortCaravan ..).le
  exact touches_ite _ h1.set_com h1

theorem touches_execCaravanAbort (s : State) : nextTouches [.mode, .dev, .counts, .com, .pair, .log] s (execCaravanAbort s) := by
  unfold execCaravanAbort
  exact (touches_peerAbort ..).le

end Sys2Proof.Machine
end

section
/-!
PROOFS. What each operation may touch: protection, timing, the pair, resets and power.
-/
namespace Sys2Proof.Machine

-- One theorem after the other: many at once need more stacks than the memory limit of the check allows.
set_option Elab.async false

/-! ### Protection and merge -/

theorem touches_putOffWaits (s : State) (due : List ProtCmd) : State.touches [.prot] s (s.putOffWaits due) := by
  unfold State.putOffWaits
  extract_lets _
  exact (touches_refl _ _).set_prot

theorem touches_noteSwitch (s : State) (k req : Nat) (sel : Bool) (by' : Option CmdRef) :
    State.touches [.counts, .log] s (s.noteSwitch k req sel by') := by
  unfold State.noteSwitch
  exact (tells_journalAuto ..).touches.after ((tells_perf ..).touches.after ((tells_bump ..).touches.le))

theorem touches_applySel (s : State) (k : Nat) : State.touches [.counts, .prot, .log] s (s.applySel k) := by
  unfold State.applySel
  extract_lets _
  exact touches_ite _ (touches_refl _ _) ((touches_noteSwitch ..).after ((touches_modGroup ..).le))

theorem touches_apsUpdate (s : State) (k : Nat) : State.touches [.lanes, .prot] s (s.apsUpdate k) := by
  unfold State.apsUpdate
  extract_lets _ _ s1 _
  have h1 : State.touches [.lanes, .prot] s s1 := (touches_modGroup ..).le
  exact touches_ite _ (touches_refl _ _) (touches_ite _ h1 ((touches_modLane ..).after h1))

theorem touches_apsNext (s : State) (l : Nat) : State.touches [.lanes] s (s.apsNext l).1 := by
  unfold State.apsNext
  dsimp only
  split
  · exact (touches_setLane ..).le
  · split
    · exact (touches_setLane ..).le
    · exact touches_refl ..

theorem touches_formAps (s : State) (l : Nat) (row : Rsn) : State.touches [.lanes] s (s.formAps l row) :=
  (touches_modLane ..).after ((touches_apsNext (s.apsNext l).1 l).after (touches_apsNext s l))

theorem touches_apsLane (s : State) (l : Nat) : State.touches [.lanes, .pair] s (s.apsLane l) := by
  unfold State.apsLane
  extract_lets _ s1 s2 s3
  have h1 : State.touches [.lanes, .pair] s s1 := (touches_modLane ..).le
  have h2 : State.touches [.lanes, .pair] s s2 := touches_ite _ h1 ((touches_formAps ..).after h1)
  have h3 : State.touches [.lanes, .pair] s s3 := (touches_formAps ..).after h2
  exact touches_ite _ ((touches_tell ..).after h3) h2

theorem touches_apsSend (s : State) : State.touches [.lanes, .prot, .pair] s (s.apsSend) := by
  unfold State.apsSend
  extract_lets s1
  have h1 : State.touches [.lanes, .prot, .pair] s s1 := touches_foldl (touches_refl _ _) _ fun u a => (touches_apsUpdate ..).le
  exact touches_foldl h1 _ fun u a => (touches_apsLane ..).le

theorem touches_execApsForward (lane : Fin 512) (row : Rsn) (bytes : List Byte) (s : State) :
    nextTouches [.lanes] s (execApsForward lane row bytes s) := by
  unfold execApsForward
  exact nextTouches_ite _ ((touches_modLane ..).le) (touches_refl _ _)

theorem touches_groupBoundary (s : State) (k : Nat) : State.touches [.counts, .prot, .log] s (s.groupBoundary k) := by
  unfold State.groupBoundary
  extract_lets s1 _ _ _ _ _
  have h1 : State.touches [.counts, .prot, .log] s s1 := (touches_applySel ..).le
  exact touches_ite _ ((tells_journalAuto ..).touches.after ((touches_putOffWaits ..).after ((touches_modGroup ..).after h1)))
    ((touches_putOffWaits ..).after ((touches_modGroup ..).after h1))

theorem touches_protBoundary (s : State) : State.touches [.host, .counts, .prot, .log] s (s.protBoundary) := by
  unfold State.protBoundary
  extract_lets s1 _ _ s2
  have h1 : State.touches [.host, .counts, .prot, .log] s s1 := touches_ite _ (touches_foldl (touches_refl _ _) _ fun u a =>
    (touches_groupBoundary ..).le) (touches_refl _ _)
  have h2 : State.touches [.host, .counts, .prot, .log] s s2 := h1.set_prot
  exact touches_foldl h2 _ fun u a => (touches_settle ..).le

theorem touches_again (s : State) (k : Nat) (g : Machine.Group) (moved : Bool) :
    State.touches [.counts, .prot, .log] s (s.again k g moved) := by
  unfold State.again
  exact touches_ite _ ((touches_modGroup ..).le) (touches_ite _ ((tells_journalAuto ..).touches.after ((touches_modGroup ..).le))
    ((touches_modGroup ..).le))

theorem touches_execHoldoffExpiry (group : Nat) (cond : Fin 4) (s : State) :
    nextTouches [.counts, .prot, .log] s (execHoldoffExpiry group cond s) := by
  unfold execHoldoffExpiry
  extract_lets _ _
  split
  · exact touches_refl _ _
  · exact nextTouches_ite _ ((touches_again ..).le) (touches_refl _ _)

theorem touches_execWtrExpiry (group : Nat) (s : State) : nextTouches [.counts, .prot, .log] s (execWtrExpiry group s) := by
  unfold execWtrExpiry
  extract_lets _
  split
  · exact touches_refl _ _
  · exact nextTouches_ite _ ((tells_bump ..).touches.after ((touches_again ..).le)) (touches_refl _ _)

theorem touches_execApsDefectIntegration (group : Nat) (psm : Bool) (s : State) :
    nextTouches [.counts, .prot, .log] s (execApsDefectIntegration group psm s) := by
  unfold execApsDefectIntegration
  extract_lets _ _ _
  exact nextTouches_ite _ (nextTouches_ite _ ((touches_modGroup ..).le) (nextTouches_ite _ ((touches_modGroup ..).le)
    (touches_refl _ _))) (nextTouches_ite _ ((touches_again ..).le) (nextTouches_ite _ ((touches_modGroup ..).le) (touches_refl _ _)))

theorem touches_enterProt (s : State) (kind : Nat) (target : Bool) (gs : List Nat) (due : Rsn) (c : CmdRef) :
    State.touches [.prot] s (s.enterProt kind target gs due c) := by
  unfold State.enterProt
  exact touches_foldl (touches_refl _ _) _ fun u a => (touches_modGroup ..).le

theorem touches_acceptProt (s : State) (kind : Nat) (target : Bool) (gs : List Nat) (c : CmdRef) :
    State.touches [.prot, .pair] s (s.acceptProt kind target gs c) := by
  unfold State.acceptProt
  extract_lets _ _ s1 _ s2
  have h1 : State.touches [.prot, .pair] s s1 := (touches_enterProt ..).le
  have h2 : State.touches [.prot, .pair] s s2 := h1.set_prot
  exact touches_ite _ ((touches_forwardCmd ..).after h2) h2

theorem touches_protBody (kind target : Nat) (b : Buf) (count : Nat) (groups : List Nat) (preempted : Machine.Group → Bool) (c : CmdRef)
    (s : State) :
    (protBody kind target b count groups preempted c s).touches [.prot, .pair] s := by
  unfold protBody
  extract_lets _
  exact reply_touches_ite _ (reply_touches_ite _ trivial trivial) (touches_guarded _ (touches_checkItems _ _ _ (touches_guarded _
    (touches_checkItems _ _ _ (touches_guarded _ ((touches_acceptProt ..).le))))))

theorem touches_execProtLockout (e : Entry) (b : Buf) (count : Nat) (groups : List Nat) (s : State) :
    nextTouches [.host, .counts, .prot, .pair, .log] s (execProtLockout e b count groups s) := by
  unfold execProtLockout
  exact touches_serve fun c u => (touches_protBody ..).le

theorem touches_execProtForce (e : Entry) (b : Buf) (count : Nat) (groups : List Nat) (s : State) :
    nextTouches [.host, .counts, .prot, .pair, .log] s (execProtForce e b count groups s) := by
  unfold execProtForce
  exact touches_serve fun c u => (touches_protBody ..).le

theorem touches_execProtManual (e : Entry) (b : Buf) (count target : Nat) (groups : List Nat) (s : State) :
    nextTouches [.host, .counts, .prot, .pair, .log] s (execProtManual e b count target groups s) := by
  unfold execProtManual
  exact touches_serve fun c u => (touches_protBody ..).le

theorem touches_execProtClear (e : Entry) (b : Buf) (count : Nat) (groups : List Nat) (s : State) :
    nextTouches [.host, .counts, .prot, .pair, .log] s (execProtClear e b count groups s) := by
  unfold execProtClear
  exact touches_serve fun c u => (touches_protBody ..).le

theorem touches_modPair (s : State) (low : Nat) (f : Merge → Merge) : State.touches [.prot] s (s.modPair low f) := by
  unfold State.modPair
  extract_lets _
  exact (touches_refl _ _).set_prot

theorem touches_addPair (s : State) (a b : Nat) (entry : Rsn) (c : Option CmdRef) : State.touches [.prot] s (s.addPair a b entry c) := by
  unfold State.addPair
  extract_lets _ _ _
  exact (touches_refl _ _).set_prot

theorem touches_endPair (s : State) (l : Nat) (entry : Rsn) (c : Option CmdRef) : State.touches [.prot] s (s.endPair l entry c) := by
  unfold State.endPair
  split
  · exact (touches_modPair ..).le
  · exact touches_refl _ _

theorem touches_mergeCreateBody (a b : Nat) (c : CmdRef) (s : State) : (mergeCreateBody a b c s).touches [.prot, .pair] s := by
  unfold mergeCreateBody
  extract_lets s1
  have h1 : State.touches [.prot, .pair] s s1 := (touches_addPair ..).le
  exact touches_guarded _ (touches_ite _ ((touches_forwardCmd ..).after h1) h1)

theorem touches_execMergeCreate (e : Entry) (laneA laneB : Nat) (s : State) :
    nextTouches [.host, .counts, .prot, .pair, .log] s (execMergeCreate e laneA laneB s) := by
  unfold execMergeCreate
  exact touches_serve fun c u => (touches_mergeCreateBody ..).le

theorem touches_mergeDeleteBody (l : Nat) (c : CmdRef) (s : State) : (mergeDeleteBody l c s).touches [.prot, .pair] s := by
  unfold mergeDeleteBody
  extract_lets s1
  have h1 : State.touches [.prot, .pair] s s1 := (touches_endPair ..).le
  exact touches_guarded _ (touches_ite _ ((touches_forwardCmd ..).after h1) h1)

theorem touches_execMergeDelete (e : Entry) (lane : Nat) (s : State) :
    nextTouches [.host, .counts, .prot, .pair, .log] s (execMergeDelete e lane s) := by
  unfold execMergeDelete
  exact touches_serve fun c u => (touches_mergeDeleteBody ..).le

theorem touches_completeOpt (s : State) (c : Option CmdRef) : State.touches [.host] s (s.completeOpt c) := by
  unfold State.completeOpt
  split
  · exact (touches_complete ..).le
  · exact touches_refl _ _

theorem touches_newAnchor (s : State) (l : Nat) : State.touches [.counts, .lanes, .log] s (s.newAnchor l) := by
  unfold State.newAnchor
  extract_lets _
  exact touches_ite _ ((touches_anchorAtSync ..).le) (touches_refl _ _)

theorem touches_aloneAis (s : State) (l : Nat) : State.touches [.tribs] s (s.aloneAis l) := by
  unfold State.aloneAis
  exact touches_ite _ ((touches_laneTais ..).le) (touches_refl _ _)

theorem touches_execMergeEntryEffect (lane : Fin 512) (s : State) :
    nextTouches [.host, .counts, .lanes, .tribs, .prot, .log] s (execMergeEntryEffect lane s) := by
  unfold execMergeEntryEffect
  extract_lets _
  dsimp only
  split
  · exact touches_refl _ _
  · exact nextTouches_ite _ ((touches_completeOpt ..).after ((touches_newAnchor ..).after ((touches_newAnchor ..).after
      ((touches_modPair ..).le)))) (by
      split
      · exact nextTouches_ite _ ((touches_completeOpt ..).after ((touches_completeOpt ..).after ((touches_aloneAis ..).after
          ((touches_aloneAis ..).after ((touches_newAnchor ..).after ((touches_newAnchor ..).after ((touches_refl _ _).set_prot)))))))
          (touches_refl _ _)
      · exact touches_refl _ _)

theorem touches_execMergeDefectIntegration (lane : Fin 512) (d : MergeDefect) (s : State) :
    nextTouches [.prot] s (execMergeDefectIntegration lane d s) := by
  unfold execMergeDefectIntegration
  split
  · exact touches_refl ..
  · rename_i m _
    have hput : ∀ f, nextTouches [.prot] s (.next (s.modPair m.low f)) := fun f => touches_modPair ..
    cases d <;> exact nextTouches_ite _ (hput _) (nextTouches_ite _ (hput _) (touches_refl ..))

/-! ### The timing subsystem -/

theorem touches_disqualify (s : State) (i : Nat) : State.touches [.counts, .tim, .log] s (s.disqualify i) := by
  unfold State.disqualify
  exact touches_ite _ (touches_refl _ _) ((tells_bump ..).touches.after ((touches_modRefIn ..).le))

theorem touches_tryWait (s : State) (i : Nat) : State.touches [.tim] s (s.tryWait i) := by
  unfold State.tryWait
  extract_lets _ _
  exact touches_ite _ (touches_refl _ _) ((touches_modRefIn ..).le)

theorem touches_execRefSignalLoss (ref : Fin 8) (cause : Fin 3) (s : State) :
    nextTouches [.counts, .tim, .log] s (execRefSignalLoss ref cause s) := by
  unfold execRefSignalLoss
  extract_lets s1
  have h1 : State.touches [.counts, .tim, .log] s s1 := (touches_modRefIn ..).le
  exact (touches_disqualify ..).after h1

theorem touches_execRefFrequencyGate (input : Fin 24) (offsetPpb : Int) (active : Bool) (s : State) :
    nextTouches [.counts, .tim, .log] s (execRefFrequencyGate input offsetPpb active s) := by
  unfold execRefFrequencyGate
  extract_lets _ _ _ _ _ _ _ _ _ s1
  have h1 : State.touches [.counts, .tim, .log] s s1 := (touches_modRefIn ..).le
  exact nextTouches_ite _ ((touches_disqualify ..).after h1) (nextTouches_ite _ ((touches_tryWait ..).after h1) h1)

theorem touches_execRefMeanUpdate (input : Fin 24) (mean10 mean100 : Int) (s : State) :
    nextTouches [.counts, .tim, .log] s (execRefMeanUpdate input mean10 mean100 s) := by
  unfold execRefMeanUpdate
  extract_lets _ _ _ _ _ _ _ _ _ _ _ s1
  have h1 : State.touches [.counts, .tim, .log] s s1 := (touches_modRefIn ..).le
  exact touches_ite _ ((touches_disqualify ..).after h1) (touches_ite _ ((touches_tryWait ..).after h1) h1)

theorem touches_execRefVote (s : State) : nextTouches [.counts, .tim, .log] s (execRefVote s) := by
  unfold execRefVote
  extract_lets _ _ s1
  have h1 : State.touches [.counts, .tim, .log] s s1 := touches_foldl (touches_refl _ _) _ fun u a => touches_ite _ (touches_ite _
    ((touches_modRefIn ..).le) ((touches_tryWait ..).after ((touches_modRefIn ..).le))) (touches_refl _ _)
  exact nextTouches_ite _ ((touches_disqualify ..).after ((touches_modRefIn ..).after h1)) h1

theorem touches_execRefWaitExpiry (input : Fin 24) (s : State) : nextTouches [.tim] s (execRefWaitExpiry input s) := by
  unfold execRefWaitExpiry
  extract_lets _
  exact nextTouches_ite _ ((touches_modRefIn ..).le) (touches_refl _ _)

theorem touches_setDpll (s : State) (d : Dpll) : State.touches [.counts, .tim, .log] s (s.setDpll d) := by
  unfold State.setDpll
  extract_lets _ _ s1 s2
  have h1 : State.touches [.counts, .tim, .log] s s1 := (touches_refl _ _).set_tim
  have h2 : State.touches [.counts, .tim, .log] s s2 := touches_ite _ ((tells_bump ..).touches.after h1) h1
  exact touches_ite _ (touches_refl _ _) ((tells_journalAuto ..).touches.after h2)

theorem touches_holdOver (s : State) : State.touches [.counts, .tim, .log] s (s.holdOver) := by
  unfold State.holdOver
  extract_lets _ s1
  have h1 : State.touches [.counts, .tim, .log] s s1 := (touches_refl _ _).set_tim
  exact (touches_setDpll ..).after h1

theorem touches_selectRef (s : State) (i : Nat) : State.touches [.counts, .tim, .log] s (s.selectRef i) := by
  unfold State.selectRef
  extract_lets _ _ s1 s2
  have h1 : State.touches [.counts, .tim, .log] s s1 := (touches_refl _ _).set_tim
  have h2 : State.touches [.counts, .tim, .log] s s2 := (tells_journalAuto ..).touches.after ((tells_bump ..).touches.after h1)
  exact touches_ite _ (touches_refl _ _) (touches_ite _ ((touches_setDpll ..).after ((touches_refl _ _).set_tim)) (touches_ite _
    ((touches_setDpll ..).after h2) h2))

theorem touches_evalRef (s : State) : State.touches [.counts, .tim, .log] s (s.evalRef) := by
  unfold State.evalRef
  extract_lets _ _ s1
  have h1 : State.touches [.counts, .tim, .log] s s1 := touches_ite _ ((tells_journalAuto ..).touches.after
    ((touches_refl _ _).set_tim)) (touches_refl _ _)
  exact touches_ite _ (touches_refl _ _) (by
    split
    · exact (touches_selectRef ..).after h1
    · exact touches_ite _ h1 ((touches_holdOver ..).after h1))

theorem touches_followRef (s : State) : State.touches [.counts, .tim, .log] s (s.followRef) := by
  unfold State.followRef
  extract_lets _
  exact touches_ite _ ((touches_refl _ _).set_tim) (touches_ite _ (touches_refl _ _) (by
    split
    · exact touches_refl _ _
    · exact touches_ite _ ((touches_selectRef ..).after ((touches_refl _ _).set_tim)) (touches_ite _ ((touches_refl _ _).set_tim)
        ((touches_holdOver ..).after ((touches_refl _ _).set_tim)))))

theorem touches_actTiming (s : State) (kind i rank : Nat) : State.touches [.counts, .tim, .log] s (s.actTiming kind i rank) := by
  unfold State.actTiming
  extract_lets _ s1
  have h1 : State.touches [.counts, .tim, .log] s s1 := (touches_refl _ _).set_tim
  split
  · exact (touches_refl _ _).set_tim
  · exact (touches_refl _ _).set_tim
  · exact touches_ite _ h1 ((touches_holdOver ..).after h1)
  · exact (touches_refl _ _).set_tim
  · exact (touches_modRefIn ..).le

theorem touches_timingCommands (s : State) (ql : Bool) : State.touches [.host, .counts, .tim, .log] s (s.timingCommands ql) := by
  unfold State.timingCommands
  extract_lets _ _ _ s1
  have h1 : State.touches [.host, .counts, .tim, .log] s s1 := (touches_refl _ _).set_tim
  exact touches_foldl h1 _ fun u a => (touches_complete ..).after ((touches_actTiming ..).le)

theorem touches_putOffTiming (s : State) : State.touches [.tim] s (s.putOffTiming) := by
  unfold State.putOffTiming
  extract_lets _
  exact (touches_refl _ _).set_tim

theorem touches_lrefLoss (s : State) : State.touches [.counts, .tim, .log] s (s.lrefLoss) := by
  unfold State.lrefLoss
  exact touches_foldl (touches_refl _ _) _ fun u a => touches_ite _ ((touches_disqualify ..).after ((touches_modRefIn ..).le))
    (touches_ite _ ((touches_tryWait ..).after ((touches_modRefIn ..).le)) (touches_refl _ _))

theorem touches_clampRow (s : State) (inputPpt : Int) : State.touches [.counts, .tim, .log] s (s.clampRow inputPpt) := by
  unfold State.clampRow
  extract_lets _ _ _ _ _ s1
  have h1 : State.touches [.counts, .tim, .log] s s1 := (touches_refl _ _).set_tim
  exact touches_ite _ ((touches_setDpll ..).after h1) h1

theorem touches_skewRow (s : State) (ns : Nat) : State.touches [.tim] s (s.skewRow ns) := by
  unfold State.skewRow
  extract_lets _ _
  exact (touches_refl _ _).set_tim

theorem touches_selectAlone (s : State) : State.touches [.counts, .tim, .log] s (s.selectAlone) := by
  unfold State.selectAlone
  exact (touches_evalRef ..).after ((touches_followRef ..).le)

theorem touches_timingBoundary (s : State) (m : RowMeas) : State.touches [.host, .counts, .tim, .log] s (s.timingBoundary m) := by
  unfold State.timingBoundary
  extract_lets s1 s2 _ s3 s4 _
  have h1 : State.touches [.host, .counts, .tim, .log] s s1 := (touches_lrefLoss ..).after ((touches_timingCommands ..).le)
  have h2 : State.touches [.host, .counts, .tim, .log] s s2 := (touches_clampRow ..).after ((touches_selectAlone ..).after h1)
  have h3 : State.touches [.host, .counts, .tim, .log] s s3 := touches_ite _ ((touches_evalRef ..).after
    ((touches_timingCommands ..).after h2)) ((touches_putOffTiming ..).after h2)
  have h4 : State.touches [.host, .counts, .tim, .log] s s4 := (touches_skewRow ..).after h3
  exact h4.set_tim

theorem touches_qlLatch (s : State) : State.touches [.tim] s (s.qlLatch) := by
  unfold State.qlLatch
  extract_lets _ _
  exact (touches_refl _ _).set_tim

theorem touches_execSwitchComplete (s : State) : nextTouches [.counts, .tim, .log] s (execSwitchComplete s) := by
  unfold execSwitchComplete
  extract_lets _ s1 s2 _
  have h1 : State.touches [.counts, .tim, .log] s s1 := (touches_refl _ _).set_tim
  have h2 : State.touches [.counts, .tim, .log] s s2 := (touches_evalRef ..).after h1
  exact nextTouches_ite _ (nextTouches_ite _ ((touches_holdOver ..).after h1) (touches_ite _ ((touches_setDpll ..).after h2) h2))
    (touches_refl _ _)

theorem touches_execDpllLockAchieved (s : State) : nextTouches [.counts, .tim, .log] s (execDpllLockAchieved s) := by
  unfold execDpllLockAchieved
  exact nextTouches_ite _ ((touches_setDpll ..).le) (touches_refl _ _)

theorem touches_execPulledRecovery (s : State) : nextTouches [.counts, .tim, .log] s (execPulledRecovery s) := by
  unfold execPulledRecovery
  split
  · exact nextTouches_ite _ ((touches_setDpll ..).le) (touches_refl _ _)
  · exact touches_refl _ _

theorem touches_execHistValidSet (s : State) : nextTouches [.tim] s (execHistValidSet s) := by
  unfold execHistValidSet
  extract_lets _
  exact nextTouches_ite _ ((touches_refl _ _).set_tim) (touches_refl _ _)

theorem touches_execLockTimeout (s : State) : nextTouches [.counts, .tim, .log] s (execLockTimeout s) := by
  unfold execLockTimeout
  extract_lets _
  exact nextTouches_ite _ ((touches_tryWait ..).after ((touches_disqualify ..).after ((touches_modRefIn ..).le))) (touches_refl _ _)

theorem touches_execOcxoFailure (s : State) : nextTouches [.counts, .tim, .log] s (execOcxoFailure s) := by
  unfold execOcxoFailure
  extract_lets _ s1
  have h1 : State.touches [.counts, .tim, .log] s s1 := (touches_refl _ _).set_tim
  exact touches_ite _ ((touches_setDpll ..).after h1) h1

theorem touches_execOxfClear (s : State) : nextTouches [.tim] s (execOxfClear s) := by
  unfold execOxfClear
  extract_lets _
  exact nextTouches_ite _ ((touches_refl _ _).set_tim) (touches_refl _ _)

theorem touches_execOcxoSensorRead (x : OcxoSecond) (s : State) : nextTouches [.tim] s (execOcxoSensorRead x s) := by
  unfold execOcxoSensorRead
  extract_lets _ _ _
  exact (touches_refl _ _).set_tim

theorem touches_ppsStep (s : State) (i : Nat) (devPs : Int) : State.touches [.tim] s (s.ppsStep i devPs) := by
  unfold State.ppsStep
  extract_lets _ _ _ _ _ _ _
  exact (touches_modPpsIn ..).le

theorem touches_setTodAt (s : State) (sec : Nat) (phase : Int) : State.touches [.clk] s (s.setTodAt sec phase) := by
  unfold State.setTodAt
  extract_lets _
  exact (touches_refl _ _).set_clk

theorem touches_alignEdge (s : State) (phase : Int) : State.touches [.clk, .tim] s (s.alignEdge phase) := by
  obtain ⟨second, hsecond⟩ : ∃ second, second = State.edgeSecond := ⟨_, rfl⟩
  obtain ⟨F, hF⟩ : ∃ F, F = State.alignEdge := ⟨_, rfl⟩
  rw [← hF]
  delta State.alignEdge at hF
  rw [← hsecond] at hF
  subst hF
  dsimp only
  refine touches_ite _ (touches_refl ..) (touches_ite _ (touches_ite _ (touches_refl ..) (touches_setTodAt ..).le) ?_)
  split
  · exact touches_refl ..
  · rename_i sec _
    have hmark : State.touches [.clk, .tim] s { s with tim := { s.tim with
        alignErr := s.alignError (s.rowOfSecond sec) phase, alignMark := some (sec, s.rowOfSecond sec) } } := (touches_refl ..).set_tim
    generalize s.alignError (s.rowOfSecond sec) phase = err at hmark ⊢
    generalize s.rowOfSecond sec = k at hmark ⊢
    have htod := (touches_setTodAt { s with tim := { s.tim with alignErr := err, alignMark := some (sec, k) } } sec phase).after hmark
    exact touches_ite _ (touches_ite _ hmark htod).set_clk.set_tim
      (touches_ite _ (touches_ite _ hmark hmark.set_tim) hmark.set_tim)

theorem touches_execPpsEdge (pps : Fin 2) (m : PpsMeas) (s : State) : nextTouches [.clk, .tim] s (execPpsEdge pps m s) := by
  unfold execPpsEdge
  extract_lets s1
  have h1 : State.touches [.clk, .tim] s s1 := (touches_ppsStep ..).le
  exact touches_ite _ ((touches_alignEdge ..).after h1) h1

theorem touches_slewSecond (s : State) : State.touches [.tim] s (s.slewSecond) := by
  unfold State.slewSecond
  extract_lets _ _ _ _ _ _
  exact touches_ite _ ((touches_refl _ _).set_tim) (touches_refl _ _)

theorem touches_execPpsLoss (pps : Fin 2) (s : State) : nextTouches [.tim] s (execPpsLoss pps s) := by
  unfold execPpsLoss
  exact (touches_modPpsIn ..).le

theorem touches_execPpsQualified (pps : Fin 2) (s : State) : nextTouches [.tim] s (execPpsQualified pps s) := by
  unfold execPpsQualified
  extract_lets _
  exact nextTouches_ite _ ((touches_modPpsIn ..).le) (touches_refl _ _)

theorem touches_execTodMessage (m : TodFrame) (msAfterEdge : Nat) (s : State) :
    nextTouches [.counts, .tim, .log] s (execTodMessage m msAfterEdge s) := by
  unfold execTodMessage
  extract_lets _ _ _ _
  exact nextTouches_ite _ ((touches_refl _ _).set_tim) ((tells_bump ..).touches.after ((touches_refl _ _).set_tim))

theorem touches_execTodError (s : State) : nextTouches [.tim] s (execTodError s) := by
  unfold execTodError
  extract_lets _
  exact nextTouches_ite _ ((touches_refl _ _).set_tim) (touches_refl _ _)

theorem touches_facetStep (s : State) (n : Rsn) : State.touches [.obs] s (s.facetStep n) := by
  unfold State.facetStep
  extract_lets _ _ _
  exact (touches_refl _ _).set_obs

theorem touches_shiftDue (s : State) (d : Rsn) : State.touches [.mode, .par, .prot, .tim, .pair] s (s.shiftDue d) := by
  unfold State.shiftDue
  extract_lets _ _ _ _ _ _ _
  exact touches_upd

theorem touches_stepTo (s : State) (rsn : Rsn) (tod : Nat) (adj : Int) :
    State.touches [.clk, .mode, .dev, .par, .counts, .com, .prot, .obs, .tim, .pair, .log] s (s.stepTo rsn tod adj) := by
  unfold State.stepTo
  extract_lets s1 _ _ s2 s3
  have h1 : State.touches [.clk, .mode, .dev, .par, .counts, .com, .prot, .obs, .tim, .pair, .log] s s1 := (touches_facetStep ..).after
    ((touches_shiftDue ..).le)
  have h2 : State.touches [.clk, .mode, .dev, .par, .counts, .com, .prot, .obs, .tim, .pair, .log] s s2 := h1.upd
  have h3 : State.touches [.clk, .mode, .dev, .par, .counts, .com, .prot, .obs, .tim, .pair, .log] s s3 := touches_ite _
    ((touches_abortCaravan ..).after h2) h2
  exact (tells_bump ..).touches.after h3

theorem touches_step1 (s : State) (ref : Option CmdRef) :
    State.touches (allBut [.free, .lanes, .tribs, .sw, .gen, .jcc, .pow, .flt, .sec, .pending]) s (s.step1 ref) := by
  unfold State.step1
  dsimp only
  split
  · exact (touches_stepTo ..).after (tells_journalAuto ..).touches.le
  · exact (touches_complete ..).after ((touches_stepTo ..).after ((tells_journalCmd ..).touches.after (touches_unreserve ..).le))

theorem touches_doStep (s : State) :
    State.touches (allBut [.free, .lanes, .tribs, .sw, .gen, .jcc, .pow, .flt, .sec, .pending]) s (s.doStep) := by
  unfold State.doStep
  extract_lets _ _ s1
  have h1 : State.touches (allBut [.free, .lanes, .tribs, .sw, .gen, .jcc, .pow, .flt, .sec, .pending]) s s1 := (touches_refl _ _).set_tim
  exact touches_foldl h1 _ fun u a => (touches_step1 ..).le

/-- Where its second comes, the pulse of PPS_OUT is set out once (R295). The second stands apart from its arithmetic, which the kernel
would unfold. -/
theorem touches_pulse (s : State) (o : Nat) : State.touches [.tim] s (s.pulse o) := by
  obtain ⟨due, hdue⟩ : ∃ due, due = State.edgeDue := ⟨_, rfl⟩
  obtain ⟨F, hF⟩ : ∃ F, F = State.pulse := ⟨_, rfl⟩
  rw [← hF]
  delta State.pulse at hF
  rw [← hdue] at hF
  subst hF
  dsimp only
  split
  · exact touches_refl ..
  · exact touches_ite _ (touches_refl ..) (touches_refl ..).set_tim

theorem touches_execPpsOutPulse (s : State) : nextTouches [.tim] s (execPpsOutPulse s) := by
  unfold execPpsOutPulse
  exact nextTouches_ite _ (touches_refl _ _) ((touches_pulse ..).after ((touches_pulse ..).le))

theorem touches_execTodOutMessage (s : State) : nextTouches [.tim] s (execTodOutMessage s) := by
  unfold execTodOutMessage
  extract_lets _
  split
  · exact nextTouches_ite _ ((touches_refl _ _).set_tim) (touches_refl _ _)
  · exact touches_refl _ _

theorem touches_acceptTiming (s : State) (kind i rank : Nat) (c : CmdRef) : (acceptTiming s kind i rank c).touches [.tim] s := by
  unfold acceptTiming
  extract_lets _
  exact (touches_refl _ _).set_tim

theorem touches_timingForceBody (input : Nat) (c : CmdRef) (s : State) : (timingForceBody input c s).touches [.tim] s := by
  unfold timingForceBody
  exact touches_guarded _ ((touches_acceptTiming ..).le)

theorem touches_execTimingForce (e : Entry) (input : Nat) (s : State) :
    nextTouches [.host, .counts, .tim, .log] s (execTimingForce e input s) := by
  unfold execTimingForce
  exact touches_serve fun c u => (touches_timingForceBody ..).le

theorem touches_timingManualBody (input : Nat) (c : CmdRef) (s : State) : (timingManualBody input c s).touches [.tim] s := by
  unfold timingManualBody
  exact touches_guarded _ ((touches_acceptTiming ..).le)

theorem touches_execTimingManual (e : Entry) (input : Nat) (s : State) :
    nextTouches [.host, .counts, .tim, .log] s (execTimingManual e input s) := by
  unfold execTimingManual
  exact touches_serve fun c u => (touches_timingManualBody ..).le

theorem touches_timingHoldoverBody (c : CmdRef) (s : State) : (timingHoldoverBody c s).touches [.tim] s := by
  unfold timingHoldoverBody
  exact touches_guarded _ ((touches_acceptTiming ..).le)

theorem touches_execTimingHoldover (e : Entry) (s : State) : nextTouches [.host, .counts, .tim, .log] s (execTimingHoldover e s) := by
  unfold execTimingHoldover
  exact touches_serve fun c u => (touches_timingHoldoverBody ..).le

theorem touches_timingClearBody (c : CmdRef) (s : State) : (timingClearBody c s).touches [.tim] s := by
  unfold timingClearBody
  exact touches_guarded _ ((touches_acceptTiming ..).le)

theorem touches_execTimingClear (e : Entry) (s : State) : nextTouches [.host, .counts, .tim, .log] s (execTimingClear e s) := by
  unfold execTimingClear
  exact touches_serve fun c u => (touches_timingClearBody ..).le

theorem touches_timingSetQlBody (input rank : Nat) (c : CmdRef) (s : State) : (timingSetQlBody input rank c s).touches [.tim] s := by
  unfold timingSetQlBody
  exact touches_guarded _ ((touches_acceptTiming ..).le)

theorem touches_execTimingSetQl (e : Entry) (input rank : Nat) (s : State) :
    nextTouches [.host, .counts, .tim, .log] s (execTimingSetQl e input rank s) := by
  unfold execTimingSetQl
  exact touches_serve fun c u => (touches_timingSetQlBody ..).le

theorem touches_timingStepBody (c : CmdRef) (s : State) : (timingStepBody c s).touches [.tim, .pair, .log] s := by
  unfold timingStepBody
  exact touches_guarded _ (touches_acceptReserved fun u => touches_ite _ ((touches_forwardCmd ..).after ((touches_refl _ _).set_tim))
    ((touches_refl _ _).set_tim))

theorem touches_execTimingStep (e : Entry) (s : State) : nextTouches [.host, .counts, .tim, .pair, .log] s (execTimingStep e s) := by
  unfold execTimingStep
  exact touches_serve fun c u => (touches_timingStepBody ..).le

theorem touches_timingSetTodBody (seconds : Nat) (_c : CmdRef) (s : State) : (timingSetTodBody seconds _c s).touches [.clk] s := by
  unfold timingSetTodBody
  extract_lets _ _
  exact touches_guarded _ ((touches_refl _ _).set_clk)

theorem touches_execTimingSetTod (e : Entry) (seconds : Nat) (s : State) :
    nextTouches [.clk, .host, .counts, .log] s (execTimingSetTod e seconds s) := by
  unfold execTimingSetTod
  exact touches_serve fun c u => (touches_timingSetTodBody ..).le

/-! ### The link of the pair -/

theorem touches_perfCells (s : State) (event : Nat) (cells : Table (BitVec 128)) :
    State.touches [.counts, .log] s (s.perfCells event cells) := by
  unfold State.perfCells
  exact touches_foldl (touches_refl _ _) _ fun u a => (tells_perf ..).touches.le

theorem touches_saredSend (s : State) : State.touches [.counts, .pair, .log] s (s.saredSend) := by
  unfold State.saredSend
  extract_lets _ _
  exact touches_ite _ ((touches_refl _ _).set_pair) ((touches_perfCells ..).after ((touches_refl _ _).set_pair))

theorem touches_modSared (s : State) (n : Nat) (f : SaredLane → SaredLane) : State.touches [.pair] s (s.modSared n f) := by
  unfold State.modSared
  extract_lets _
  exact (touches_refl _ _).set_pair

theorem touches_execSaredRowReceived (n : Fin 4) (row : SaredRow) (s : State) :
    nextTouches [.counts, .pair, .log] s (execSaredRowReceived n row s) := by
  unfold execSaredRowReceived
  extract_lets _
  exact nextTouches_ite _ (touches_refl _ _) (nextTouches_ite _ (((tells_bump ..).touches.after ((tells_bump ..).touches.after
    ((touches_modSared ..).le.set_pair))).set_pair) ((tells_bump ..).touches.after ((tells_bump ..).touches.after
    ((touches_modSared ..).le.set_pair))))

theorem touches_saredMessages (s : State) : State.touches [.counts, .pair, .log] s (s.saredMessages) := by
  unfold State.saredMessages
  extract_lets s1 _
  have h1 : State.touches [.counts, .pair, .log] s s1 := (touches_perfCells ..).le
  exact touches_ite _ h1.set_pair ((touches_refl _ _).set_pair)

theorem touches_saredBoundary (s : State) : State.touches [.counts, .sw, .com, .pair, .jcc, .log] s (s.saredBoundary) := by
  unfold State.saredBoundary
  extract_lets _ _ _ s1 _ _ s2 s3 _
  have h1 : State.touches [.counts, .sw, .com, .pair, .jcc, .log] s s1 := (touches_saredMessages ..).le
  have h2 : State.touches [.counts, .sw, .com, .pair, .jcc, .log] s s2 := h1.set_pair
  have h3 : State.touches [.counts, .sw, .com, .pair, .jcc, .log] s s3 := (tells_tornWrites ..).touches.after
    ((touches_dropSems ..).after ((touches_abandonCopy ..).after h2))
  exact touches_ite _ ((tells_bump ..).touches.after h3.set_pair) h2

theorem touches_execSaredLinkUp (s : State) : nextTouches [.pair] s (execSaredLinkUp s) := by
  unfold execSaredLinkUp
  extract_lets _ _ s1
  have h1 : State.touches [.pair] s s1 := (touches_refl _ _).set_pair
  exact nextTouches_ite _ (touches_ite _ ((touches_tell ..).after h1) h1) (touches_refl _ _)

/-! ### The pair -/

theorem touches_strapCheck (s : State) (f : LeaseFrame) : State.touches [.pair] s (s.strapCheck f) := by
  unfold State.strapCheck
  extract_lets _
  exact touches_ite _ ((touches_refl _ _).set_pair) ((touches_refl _ _).set_pair)

theorem touches_leaseAck (s : State) (f : LeaseFrame) : State.touches [.pair] s (s.leaseAck f) := by
  unfold State.leaseAck
  extract_lets _ _ _
  exact (touches_refl _ _).set_pair

theorem touches_holdHeard (s : State) (f : LeaseFrame) :
    State.touches [.mode, .host, .counts, .sw, .com, .tim, .pair, .log] s (s.holdHeard f) := by
  unfold State.holdHeard
  extract_lets _ _ s1 s2 _ s3
  have h1 : State.touches [.mode, .host, .counts, .sw, .com, .tim, .pair, .log] s s1 := touches_upd
  have h2 : State.touches [.mode, .host, .counts, .sw, .com, .tim, .pair, .log] s s2 := (touches_sendFrame ..).after h1
  have h3 : State.touches [.mode, .host, .counts, .sw, .com, .tim, .pair, .log] s s3 := h2.set_pair
  exact touches_ite _ h2 (touches_ite _ ((touches_doRelease ..).after ((touches_releaseSoon ..).after h3)) h3)

theorem touches_announceHeard (s : State) (f : LeaseFrame) :
    State.touches [.mode, .counts, .sw, .com, .pair, .log] s (s.announceHeard f) := by
  unfold State.announceHeard
  extract_lets _
  exact touches_ite _ ((tells_journalAuto ..).touches.after ((touches_acquire ..).le)) (touches_refl _ _)

theorem touches_frameHeard (s : State) (path : LeasePath) (f : LeaseFrame) :
    State.touches [.mode, .dev, .host, .counts, .sw, .com, .tim, .pair, .log] s (s.frameHeard path f) := by
  unfold State.frameHeard
  extract_lets _ _ s1 s2 s3
  have h1 : State.touches [.mode, .dev, .host, .counts, .sw, .com, .tim, .pair, .log] s s1 := (touches_refl _ _).set_pair
  have h2 : State.touches [.mode, .dev, .host, .counts, .sw, .com, .tim, .pair, .log] s s2 := (touches_learnGen ..).after
    ((touches_leaseAck ..).after ((touches_strapCheck ..).after h1))
  have h3 : State.touches [.mode, .dev, .host, .counts, .sw, .com, .tim, .pair, .log] s s3 := touches_ite _
    ((touches_peerAbort ..).after h2) h2
  exact touches_ite _ ((touches_holdHeard ..).after h3) ((touches_announceHeard ..).after h3)

theorem touches_execClaspFrameHeard (path : LeasePath) (f : LeaseFrame) (s : State) :
    nextTouches [.mode, .dev, .host, .counts, .sw, .com, .tim, .pair, .log] s (execClaspFrameHeard path f s) := by
  unfold execClaspFrameHeard
  extract_lets _
  exact nextTouches_ite _ (touches_refl _ _) (nextTouches_ite _ ((touches_refl _ _).set_pair) ((touches_frameHeard ..).le))

theorem touches_execClaspFrameSend (s : State) : nextTouches [.pair] s (execClaspFrameSend s) := by
  unfold execClaspFrameSend
  exact nextTouches_ite _ (touches_refl _ _) ((touches_sendFrame ..).le)

theorem touches_execHolderLeaseExpiry (s : State) :
    nextTouches [.mode, .host, .counts, .sw, .com, .pair, .log] s (execHolderLeaseExpiry s) := by
  unfold execHolderLeaseExpiry
  exact nextTouches_ite _ ((touches_giveUp ..).le) (touches_refl _ _)

theorem touches_execSilenceAcquisition (s : State) :
    nextTouches [.mode, .counts, .sw, .com, .pair, .log] s (execSilenceAcquisition s) := by
  unfold execSilenceAcquisition
  exact nextTouches_ite _ ((tells_journalAuto ..).touches.after ((touches_acquire ..).le)) (touches_refl _ _)

theorem touches_execPairDefectIntegration (d : PairDefect) (s : State) : nextTouches [.pair] s (execPairDefectIntegration d s) := by
  unfold execPairDefectIntegration
  extract_lets _ put _
  have put_touches x0 : nextTouches [.pair] s (put x0) := (touches_refl _ _).set_pair
  split
  · exact put_touches ..
  · exact put_touches ..
  · exact put_touches ..
  · exact nextTouches_ite _ (put_touches ..) (put_touches ..)
  · exact put_touches ..
  · exact nextTouches_ite _ (put_touches ..) (put_touches ..)
  · exact put_touches ..
  · split
    · exact nextTouches_ite _ (put_touches ..) (put_touches ..)
    · exact put_touches ..
  · exact put_touches ..

theorem touches_storeCkpt (s : State) (x : Ckpt) : State.touches [.counts, .pair, .log] s (s.storeCkpt x) := by
  unfold State.storeCkpt
  extract_lets _ _ s1
  have h1 : State.touches [.counts, .pair, .log] s s1 := (touches_refl _ _).set_pair
  exact (tells_lifeAdd ..).touches.after h1

theorem touches_writeCkpt (s : State) : State.touches [.counts, .pair, .log] s (s.writeCkpt) := by
  unfold State.writeCkpt
  extract_lets _ s1 _ s2 s3
  have h1 : State.touches [.counts, .pair, .log] s s1 := (touches_storeCkpt ..).le
  have h2 : State.touches [.counts, .pair, .log] s s2 := h1.set_pair
  have h3 : State.touches [.counts, .pair, .log] s s3 := (tells_bump ..).touches.after h2
  exact touches_ite _ ((touches_tell ..).after h3) h3

theorem touches_execCheckpointWrite (s : State) : nextTouches [.counts, .pair, .log] s (execCheckpointWrite s) := by
  unfold execCheckpointWrite
  extract_lets _
  exact nextTouches_ite _ ((touches_writeCkpt ..).le) (touches_refl _ _)

theorem touches_execCheckpointReceived (seq format : Nat) (parts : CkptParts) (s : State) :
    nextTouches [.counts, .pair, .log] s (execCheckpointReceived seq format parts s) := by
  unfold execCheckpointReceived
  exact nextTouches_ite _ ((touches_storeCkpt ..).le) (touches_refl _ _)

theorem touches_restoreSession (s : State) (x : CkptSession) : State.touches [.host] s (s.restoreSession x) := by
  unfold State.restoreSession
  extract_lets _
  exact touches_ite _ ((touches_setSession ..).le) (touches_refl _ _)

theorem touches_loadCkpt (s : State) (x : Ckpt) : State.touches [.host, .com, .pair] s (s.loadCkpt x) := by
  unfold State.loadCkpt
  extract_lets s1 _ _ _
  have h1 : State.touches [.host, .com, .pair] s s1 := touches_foldl (touches_refl _ _) _ fun u a => (touches_restoreSession ..).le
  exact h1.upd

theorem touches_execTakeoverLoadComplete (s : State) :
    nextTouches [.host, .counts, .com, .pair, .log] s (execTakeoverLoadComplete s) := by
  unfold execTakeoverLoadComplete
  extract_lets _ s1 _ s2
  have h1 : State.touches [.host, .counts, .com, .pair, .log] s s1 := by
      unfold s1
      split
      · exact touches_ite _ ((touches_loadCkpt ..).le) (touches_refl _ _)
      · exact touches_refl _ _
  have h2 : State.touches [.host, .counts, .com, .pair, .log] s s2 := h1.set_pair
  exact nextTouches_ite _ ((tells_journalRestart ..).touches.after h2) (touches_refl _ _)

theorem touches_claspReleaseBody (force : Nat) (c : CmdRef) (s : State) :
    (claspReleaseBody force c s).touches [.host, .counts, .pair, .log] s := by
  unfold claspReleaseBody
  extract_lets _ _
  exact touches_guarded _ (touches_acceptReserved fun u => (touches_releaseSoon ..).after ((touches_writeCkpt ..).le))

theorem touches_execClaspRelease (e : Entry) (force : Nat) (s : State) :
    nextTouches [.host, .counts, .pair, .log] s (execClaspRelease e force s) := by
  unfold execClaspRelease
  exact touches_serve fun c u => (touches_claspReleaseBody ..).le

theorem touches_claspSeizeBody (_c : CmdRef) (s : State) : (claspSeizeBody _c s).touches [.mode, .counts, .sw, .com, .pair, .log] s := by
  unfold claspSeizeBody
  exact touches_guarded _ ((touches_acquire ..).le)

theorem touches_execClaspSeize (e : Entry) (s : State) :
    nextTouches [.mode, .host, .counts, .sw, .com, .pair, .log] s (execClaspSeize e s) := by
  unfold execClaspSeize
  exact touches_serve fun c u => (touches_claspSeizeBody ..).le

theorem touches_claspClearBody (_c : CmdRef) (s : State) : (claspClearBody _c s).touches [.pair] s := by
  unfold claspClearBody
  extract_lets _ s1
  have h1 : State.touches [.pair] s s1 := (touches_refl _ _).set_pair
  exact touches_guarded _ (touches_ite _ ((touches_sendFrame ..).after h1) h1)

theorem touches_execClaspClear (e : Entry) (s : State) : nextTouches [.host, .counts, .pair, .log] s (execClaspClear e s) := by
  unfold execClaspClear
  exact touches_serve fun c u => (touches_claspClearBody ..).le

theorem touches_claspCheckpointBody (_c : CmdRef) (s : State) : (claspCheckpointBody _c s).touches [.counts, .pair, .log] s := by
  unfold claspCheckpointBody
  exact touches_guarded _ ((touches_writeCkpt ..).le)

theorem touches_execClaspCheckpoint (e : Entry) (s : State) : nextTouches [.host, .counts, .pair, .log] s (execClaspCheckpoint e s) := by
  unfold execClaspCheckpoint
  exact touches_serve fun c u => (touches_claspCheckpointBody ..).le

theorem touches_takeForward (s : State) (h : ForwardHead) (c : Forwarded) :
    State.touches [.counts, .com, .prot, .pair, .log] s (s.takeForward h c) := by
  unfold State.takeForward
  extract_lets _ _ _ _
  split
  · exact (touches_enterProt ..).after ((tells_journalCmd ..).touches.le)
  · exact (touches_addPair ..).after ((tells_journalCmd ..).touches.le)
  · exact (touches_endPair ..).after ((tells_journalCmd ..).touches.le)
  · exact (touches_refl _ _).set_pair
  · exact (touches_refl _ _).set_pair
  · exact (touches_refl _ _).set_com
  · exact (touches_refl _ _).set_com

theorem touches_execForwardedCommand (h : ForwardHead) (c : Forwarded) (s : State) :
    nextTouches [.counts, .com, .prot, .pair, .log] s (execForwardedCommand h c s) := by
  unfold execForwardedCommand
  exact nextTouches_ite _ ((touches_takeForward ..).le) (touches_refl _ _)

theorem touches_adoptStates (s : State) (xs : List (Nat × Nat × Bool)) (alts : Option (List Nat)) :
    State.touches [.counts, .prot, .log] s (s.adoptStates xs alts) := by
  unfold State.adoptStates
  extract_lets _ _ _ s1 s2 s3 _ note
  have h1 : State.touches [.counts, .prot, .log] s s1 := (touches_refl _ _).set_prot
  have h2 : State.touches [.counts, .prot, .log] s s2 := touches_foldl h1 _ fun u a => (touches_modGroup ..).le
  have h3 : State.touches [.counts, .prot, .log] s s3 := touches_foldl h2 _ fun u a => (touches_modGroup ..).le
  have note_touches u x1 : State.touches [.counts, .prot, .log] u (note u x1) := (touches_noteSwitch ..).le
  exact (tells_journalAuto ..).touches.after (touches_foldl h3 _ fun u a => note_touches ..)

theorem touches_actForward (s : State) (h : ForwardHead) (c : Forwarded) :
    State.touches [.clk, .mode, .dev, .par, .counts, .com, .prot, .obs, .tim, .pair, .log] s (s.actForward h c) := by
  unfold State.actForward
  split
  · exact (touches_stepTo ..).after ((tells_journalCmd ..).touches.le)
  · exact (touches_adoptStates ..).le
  · exact touches_refl _ _

theorem touches_forwardBoundary (s : State) :
    State.touches [.clk, .mode, .dev, .par, .counts, .com, .prot, .obs, .tim, .pair, .log] s (s.forwardBoundary) := by
  unfold State.forwardBoundary
  extract_lets _ _ s1
  have h1 : State.touches [.clk, .mode, .dev, .par, .counts, .com, .prot, .obs, .tim, .pair, .log] s s1 := (touches_refl _ _).set_pair
  exact touches_foldl h1 _ fun u a => (touches_actForward ..).le

theorem touches_copyBank (s : State) (b : Bank) : State.touches [.sw, .com] s (s.copyBank b) := by
  unfold State.copyBank
  extract_lets _ s1 _
  have h1 : State.touches [.sw, .com] s s1 := (touches_setShadow ..).le
  exact h1.set_com

theorem touches_copyFollower (s : State) (j : Nat) :
    State.touches (allBut [.free, .host, .lanes, .tribs, .gen, .jcc, .pow, .flt, .sec, .pending]) s (s.copyFollower j) := by
  unfold State.copyFollower
  extract_lets _ s1 _ _ s2 s3 _ _ _ _ _
  have h1 : State.touches (allBut [.free, .host, .lanes, .tribs, .gen, .jcc, .pow, .flt, .sec, .pending]) s s1 :=
    (touches_refl _ _).set_pair
  have h2 : State.touches (allBut [.free, .host, .lanes, .tribs, .gen, .jcc, .pow, .flt, .sec, .pending]) s s2 := by
      unfold s2
      split
      · exact (touches_stepTo ..).after ((tells_journalAuto ..).touches.after h1.upd)
      · exact h1
  have h3 : State.touches (allBut [.free, .host, .lanes, .tribs, .gen, .jcc, .pow, .flt, .sec, .pending]) s s3 :=
    (touches_setShadow ..).after h2
  exact touches_ite _ h3.set_com (touches_ite _ h1.set_com h1)

theorem touches_copyCaravan (s : State) : State.touches [.sw, .com, .gen, .pair] s s.copyCaravan := by
  unfold State.copyCaravan
  dsimp only
  split
  · rename_i e c p _ _
    have hbank : State.touches [.sw, .com, .gen, .pair] s (s.copyBank (s.shadow.writeAll e.recs)) := (touches_copyBank ..).le
    generalize s.copyBank (s.shadow.writeAll e.recs) = u at hbank ⊢
    exact touches_ite _ (touches_fields rfl rfl hbank) (touches_refl ..)
  · exact touches_refl ..

theorem touches_copyHolder (s : State) (j : Nat) : State.touches [.pair] s (s.copyHolder j) := by
  unfold State.copyHolder
  extract_lets _ s1 s2 s3 _ _ s4 _
  have h1 : State.touches [.pair] s s1 := (touches_refl _ _).set_pair
  have h2 : State.touches [.pair] s s2 := (touches_tell ..).after ((touches_tell ..).after h1)
  have h3 : State.touches [.pair] s s3 := (touches_tell ..).after h2
  have h4 : State.touches [.pair] s s4 := (touches_tell ..).after h1.set_pair
  split
  · exact (touches_tell ..).after h3
  · exact touches_ite _ h4 ((touches_tell ..).after h4)
  · exact (touches_tell ..).after h1
  · exact h1

theorem touches_copyEnd (s : State) : State.touches [.pair] s (s.copyEnd) := by
  unfold State.copyEnd
  extract_lets _ _
  exact touches_ite _ ((touches_tell ..).after ((touches_tell ..).le)) (touches_refl _ _)

theorem touches_copyBoundary (s : State) :
    State.touches (allBut [.free, .host, .lanes, .tribs, .jcc, .pow, .flt, .sec, .pending]) s (s.copyBoundary) := by
  unfold State.copyBoundary
  extract_lets _ _
  exact touches_ite _ (touches_ite _ ((touches_abandonCopy ..).le) (touches_refl _ _)) (touches_ite _ ((touches_copyEnd ..).after
    ((touches_copyCaravan ..).le)) (by
    split
    · exact (touches_refl _ _).set_pair
    · exact (touches_copyHolder ..).le
    · exact touches_refl _ _
    · exact (touches_refl _ _).set_pair
    · exact (touches_copyCaravan ..).after ((touches_copyFollower ..).le)
    · exact (touches_copyHolder ..).le))

/-! ### Resets and boot -/

/-- A reset spares host memory, the fuses, the free values and the queue (R493, R495). -/
theorem touches_cleared (s : State) (por : Bool) : State.touches (allBut [.free, .pending]) s (s.cleared por) :=
  touches_of_having rfl ⟨fun hw => ⟨hw.1, empty_wf⟩, le_rfl, fun _ h => h⟩

theorem touches_restoreTime (s : State) : State.touches [.clk, .pow] s s.restoreTime := by
  unfold State.restoreTime
  split
  · exact touches_refl ..
  · exact (touches_refl _ s).set_clk.set_pow

theorem touches_beginBoot (s : State) (kind cause : Nat) :
    State.touches [.clk, .mode, .dev, .counts, .pow, .log] s (s.beginBoot kind cause) := by
  unfold State.beginBoot
  extract_lets s1 _ _ s2
  have h1 : State.touches [.clk, .mode, .dev, .counts, .pow, .log] s s1 := (touches_restoreTime ..).le
  have h2 : State.touches [.clk, .mode, .dev, .counts, .pow, .log] s s2 := h1.set_devMode
  exact (tells_journalRestart ..).touches.after ((tells_lifeAdd ..).touches.after h2)

theorem touches_leaveClasp (s : State) : State.touches [.mode, .host, .counts, .sw, .com, .pair, .log] s (s.leaveClasp) := by
  unfold State.leaveClasp
  exact touches_ite _ ((touches_giveUp ..).le) (touches_refl _ _)

theorem touches_fullReset (s : State) (kind cause : Nat) : State.touches (allBut [.free, .pending]) s (s.fullReset kind cause) := by
  unfold State.fullReset
  exact (touches_beginBoot ..).after ((touches_cleared ..).after (touches_ite _ ((touches_leaveClasp ..).le) (touches_refl _ _)))

theorem touches_latch (s : State) (x : Straps) : State.touches [.dev] s (s.latch x) := by
  unfold State.latch
  extract_lets _
  exact (touches_refl _ _).set_dev

theorem touches_execPowerOn (straps : Straps) (s : State) : nextTouches (allBut [.free, .pending]) s (execPowerOn straps s) := by
  unfold execPowerOn
  extract_lets _ s1
  have h1 : State.touches (allBut [.free, .pending]) s s1 := (touches_refl _ _).set_dev
  exact (touches_fullReset ..).after ((touches_latch ..).after h1)

theorem touches_execVaonBrownout (straps : Straps) (s : State) :
    nextTouches (allBut [.free, .pending]) s (execVaonBrownout straps s) := by
  unfold execVaonBrownout
  extract_lets _ s1
  have h1 : State.touches (allBut [.free, .pending]) s s1 := (touches_refl _ _).set_dev
  exact (touches_fullReset ..).after ((touches_latch ..).after h1)

theorem touches_execResetNAssert (s : State) : nextTouches (allBut [.free, .pending]) s (execResetNAssert s) := by
  unfold execResetNAssert
  extract_lets _ s1 _
  have h1 : State.touches (allBut [.free, .pending]) s s1 := (touches_refl _ _).set_dev
  exact nextTouches_ite _ h1.set_dev ((touches_cleared ..).after ((touches_leaveClasp ..).after h1))

theorem touches_execResetNRelease (straps : Straps) (s : State) :
    nextTouches [.clk, .mode, .dev, .counts, .pow, .log] s (execResetNRelease straps s) := by
  unfold execResetNRelease
  extract_lets _ s1
  have h1 : State.touches [.clk, .mode, .dev, .counts, .pow, .log] s s1 := (touches_latch ..).after ((touches_refl _ _).set_dev)
  exact nextTouches_ite _ (touches_refl _ _) (nextTouches_ite _ h1 ((touches_beginBoot ..).after h1))

theorem touches_tripRecord (s : State) (cause : Nat) : State.touches [.free, .flt] s (s.tripRecord cause) := by
  unfold State.tripRecord
  extract_lets _ _ s1 _
  have h1 : State.touches [.free, .flt] s s1 := (touches_drawn ..).after ((touches_drawn ..).le)
  exact touches_ite _ (touches_refl _ _) h1.set_flt

theorem touches_fatal (s : State) (cause : Nat) : State.touches (allBut [.pending]) s (s.fatal cause) := by
  unfold State.fatal
  extract_lets _ _ s1 s2 _ s3 s4 _
  have h1 : State.touches (allBut [.pending]) s s1 := (touches_tripRecord ..).le
  have h2 : State.touches (allBut [.pending]) s s2 := touches_ite _ ((touches_giveUp ..).after h1) h1
  have h3 : State.touches (allBut [.pending]) s s3 := h2.set_flt
  have h4 : State.touches (allBut [.pending]) s s4 := (touches_cleared ..).after h3
  dsimp only
  split
  · exact touches_upd
  · exact h4.set_dev

theorem touches_execFatalCauseClear (ticks : Nat) (s : State) :
    nextTouches [.clk, .mode, .dev, .counts, .pow, .log] s (execFatalCauseClear ticks s) := by
  unfold execFatalCauseClear
  extract_lets _ _ _ s1
  have h1 : State.touches [.clk, .mode, .dev, .counts, .pow, .log] s s1 := touches_upd
  split
  · exact touches_refl _ _
  · exact nextTouches_ite _ h1 (touches_ite _ ((touches_beginBoot ..).after h1) ((touches_beginBoot ..).after h1))

theorem touches_restartEvent (s : State) (kind cause obj : Nat) : State.touches [.counts, .log] s (s.restartEvent kind cause obj) := by
  unfold State.restartEvent
  extract_lets _ _
  exact (tells_alarmEvent ..).touches.le

theorem touches_domainReset (s : State) (cause q : Nat) : State.touches [.counts, .log] s (s.domainReset cause q) := by
  unfold State.domainReset
  exact (tells_lifeAdd ..).touches.after ((touches_restartEvent ..).le)

theorem touches_setSlot (s : State) (k : Nat) (x : ImageSlot) : State.touches [.counts, .log, .sec] s (s.setSlot k x) := by
  unfold State.setSlot
  extract_lets _
  exact (tells_lifeAdd ..).touches.after (touches_ite _ ((touches_refl _ _).set_sec) ((touches_refl _ _).set_sec))

theorem touches_trialFails (s : State) : State.touches [.counts, .log, .sec] s (s.trialFails) := by
  unfold State.trialFails
  split
  · exact touches_refl _ _
  · exact (tells_journalRestart ..).touches.after ((touches_setSlot ..).le)

theorem touches_jccRestart (s : State) (kind cause : Nat) (bursts : List Burst) :
    State.touches (allBut [.clk, .free, .tribs, .sw, .gen, .obs, .flt, .pending]) s (s.jccRestart kind cause bursts) := by
  unfold State.jccRestart
  extract_lets s1 s2 s3 s4 s5 _ _ _ _ _ _ _ _ s6
  have h1 : State.touches (allBut [.clk, .free, .tribs, .sw, .gen, .obs, .flt, .pending]) s s1 := (touches_restartEvent ..).le
  have h2 : State.touches (allBut [.clk, .free, .tribs, .sw, .gen, .obs, .flt, .pending]) s s2 := (touches_forget ..).after h1
  have h3 : State.touches (allBut [.clk, .free, .tribs, .sw, .gen, .obs, .flt, .pending]) s s3 := (touches_suspendSessions ..).after h2
  have h4 : State.touches (allBut [.clk, .free, .tribs, .sw, .gen, .obs, .flt, .pending]) s s4 := (touches_dropSems ..).after h3
  have h5 : State.touches (allBut [.clk, .free, .tribs, .sw, .gen, .obs, .flt, .pending]) s s5 := (tells_tornWrites ..).touches.after h4
  have h6 : State.touches (allBut [.clk, .free, .tribs, .sw, .gen, .obs, .flt, .pending]) s s6 := h5.upd
  exact (tells_journalRestart ..).touches.after ((tells_lifeAdd ..).touches.after h6)

theorem touches_modeAfterRestart (s : State) :
    State.touches [.mode, .host, .par, .counts, .lanes, .sw, .com, .pair, .pow, .log] s (s.modeAfterRestart) := by
  unfold State.modeAfterRestart
  extract_lets _
  split
  · exact (touches_autoMode ..).le
  · exact (tells_journalAuto ..).touches.after ((touches_refl _ _).set_mode)
  · exact touches_refl _ _

theorem touches_countRestart (s : State) (watchdog : Bool) :
    State.touches [.dev, .host, .counts, .pair, .log] s (s.countRestart watchdog) := by
  unfold State.countRestart
  extract_lets _ _ _ s1 _ s2
  have h1 : State.touches [.dev, .host, .counts, .pair, .log] s s1 := (touches_refl _ _).set_dev
  have h2 : State.touches [.dev, .host, .counts, .pair, .log] s s2 := touches_ite _ ((tells_bump ..).touches.after h1.set_dev) h1
  exact touches_ite _ ((touches_faultRelease ..).after (touches_ite _ ((tells_bump ..).touches.after h2) h2)) h2

theorem touches_noImage (s : State) :
    State.touches [.mode, .dev, .host, .par, .counts, .lanes, .sw, .com, .pair, .pow, .log] s (s.noImage) := by
  unfold State.noImage
  extract_lets _
  exact touches_ite _ ((touches_autoMode ..).le) ((touches_refl _ _).set_dev)

theorem touches_candFails (s : State) (k : Nat) :
    State.touches (allBut [.clk, .free, .tribs, .gen, .prot, .obs, .tim, .jcc, .flt, .pending]) s (s.candFails k) := by
  unfold State.candFails
  extract_lets s1 _ s2
  have h1 : State.touches (allBut [.clk, .free, .tribs, .gen, .prot, .obs, .tim, .jcc, .flt, .pending]) s s1 := touches_ite _
    ((touches_trialFails ..).le) (touches_refl _ _)
  have h2 : State.touches (allBut [.clk, .free, .tribs, .gen, .prot, .obs, .tim, .jcc, .flt, .pending]) s s2 := h1.set_dev
  exact touches_ite _ ((touches_noImage ..).after h2) h2

/-- The boot ROM's copy of an image keeps the working SRAM in canonical form (R554). -/
theorem touches_execBootVerifyDone (s : State) :
    nextTouches [.mode, .dev, .host, .par, .counts, .lanes, .sw, .com, .gen, .pair, .jcc, .pow, .log, .sec] s (execBootVerifyDone s) := by
  unfold execBootVerifyDone
  extract_lets _ s1
  have h1 : State.touches [.mode, .dev, .host, .par, .counts, .lanes, .sw, .com, .gen, .pair, .jcc, .pow, .log, .sec] s s1 := touches_ite
    _ (touches_refl ..) (touches_refl ..).set_dev
  refine nextTouches_ite _ (touches_refl ..) ?_
  clear_value s1
  split
  · exact (touches_noImage ..).after h1
  · dsimp only
    split
    · exact (touches_candFails ..).after h1.set_dev
    · split
      · exact (touches_candFails ..).after h1.set_dev
      · refine State.touches.after (m := [.dev, .jcc]) (touches_of_having rfl ?_) h1
        exact ⟨fun hw => ⟨hw.1, imageLoad_wf _ _ hw.2⟩, le_rfl, fun _ h => h⟩

theorem touches_execFirmwareStartTimeout (s : State) :
    nextTouches (allBut [.clk, .free, .tribs, .gen, .prot, .obs, .tim, .jcc, .flt, .pending]) s (execFirmwareStartTimeout s) := by
  unfold execFirmwareStartTimeout
  extract_lets _
  split
  · exact touches_refl _ _
  · exact nextTouches_ite _ ((touches_candFails ..).after ((touches_refl _ _).set_dev)) (touches_refl _ _)

/-- A confirmation burns fuses, and burns none back (R550, R557). -/
theorem touches_finishConfirm (s : State) : State.touches [.counts, .log, .sec] s s.finishConfirm := by
  unfold State.finishConfirm
  split
  · exact touches_refl ..
  · rename_i floor key _
    extract_lets _ s1
    have h1 : State.touches [.counts, .log, .sec] s s1 :=
      touches_of_having rfl ⟨fun hw => hw, le_max_left _ _, fun k hk => by simp [s1, Nat.testBit_or, hk]⟩
    clear_value s1
    split
    · exact h1
    · split
      · exact (touches_setSlot ..).after h1
      · exact touches_ite _ ((touches_setSlot ..).after h1) h1

theorem touches_confirmImage (s : State) (k : Nat) : State.touches [.counts, .log, .sec] s (s.confirmImage k) := by
  unfold State.confirmImage
  extract_lets s1 _ s2 _
  have h1 : State.touches [.counts, .log, .sec] s s1 := by
      unfold s1
      split
      · exact (touches_setSlot ..).le
      · exact touches_refl _ _
  have h2 : State.touches [.counts, .log, .sec] s s2 := (touches_setSlot ..).after h1
  dsimp only
  split
  · exact touches_refl _ _
  · exact (touches_finishConfirm ..).after ((tells_journalAuto ..).touches.after h2.set_sec)

theorem touches_execTrialConfirmation (s : State) : nextTouches [.counts, .log, .sec] s (execTrialConfirmation s) := by
  unfold execTrialConfirmation
  split
  · exact touches_refl _ _
  · exact nextTouches_ite _ ((touches_confirmImage ..).le) (touches_refl _ _)

theorem touches_startLanes (s : State) : State.touches [.lanes, .tribs, .obs] s (s.startLanes) := by
  unfold State.startLanes
  extract_lets _ s1
  have h1 : State.touches [.lanes, .tribs, .obs] s s1 := touches_foldl (touches_refl _ _) _ fun u a => touches_ite _ (touches_refl _ _)
    ((touches_laneTxOn ..).le)
  exact touches_foldl h1 _ fun u a => touches_ite _ (touches_refl _ _) ((touches_laneRxOn ..).le)

theorem touches_applyStore (s : State) (keeps : Nat → Bool) :
    State.touches [.par, .counts, .lanes, .tribs, .obs, .log] s (s.applyStore keeps) := by
  unfold State.applyStore
  extract_lets _ _ _ s1 s2
  have h1 : State.touches [.par, .counts, .lanes, .tribs, .obs, .log] s s1 := (touches_refl _ _).set_par
  have h2 : State.touches [.par, .counts, .lanes, .tribs, .obs, .log] s s2 := touches_ite _ h1 ((tells_info ..).touches.after h1)
  exact (touches_startLanes ..).after h2

theorem touches_execFirmwareStarted (s : State) :
    nextTouches (allBut [.clk, .free, .gen, .prot, .tim, .jcc, .flt, .pending]) s (execFirmwareStarted s) := by
  unfold execFirmwareStarted
  extract_lets s1 _ _
  have h1 : State.touches (allBut [.clk, .free, .gen, .prot, .tim, .jcc, .flt, .pending]) s s1 := (touches_finishConfirm ..).le
  dsimp only
  split
  · exact touches_refl _ _
  · exact touches_ite _ ((touches_autoMode ..).after ((touches_applyStore ..).after (touches_ite _ ((touches_defaultPerf ..).after
      (touches_ite _ ((touches_confirmImage ..).after h1.upd) h1.upd)) (touches_ite _
      ((touches_confirmImage ..).after h1.upd) h1.upd)))) (touches_ite _ ((touches_defaultPerf ..).after (touches_ite _
      ((touches_confirmImage ..).after h1.upd) h1.upd)) (touches_ite _ ((touches_confirmImage ..).after h1.upd) h1.upd))

theorem touches_fwRecoverBody (c : CmdRef) (s : State) : (fwRecoverBody c s).touches [.mode, .host, .pair, .log] s := by
  unfold fwRecoverBody
  exact touches_guarded _ ((touches_acceptMode ..).le)

theorem touches_execFwRecover (e : Entry) (s : State) : nextTouches [.mode, .host, .counts, .pair, .log] s (execFwRecover e s) := by
  unfold execFwRecover
  exact touches_serve fun c u => (touches_fwRecoverBody ..).le

theorem touches_execModeChangeEffect (s : State) : nextTouches (allBut [.free, .pending]) s (execModeChangeEffect s) := by
  unfold execModeChangeEffect
  extract_lets _ _ s1
  have h1 : State.touches (allBut [.free, .pending]) s s1 := (touches_refl _ _).set_mode
  dsimp only
  split
  · exact (touches_autoModeBy ..).le
  · exact touches_refl _ _
  · exact nextTouches_ite _ (touches_refl _ _) (nextTouches_ite _ ((touches_fullReset ..).after (by
      split
      · exact (tells_journalCmd ..).touches.after ((touches_unreserve ..).after h1)
      · exact h1)) (by
      split
      · exact (touches_effectOf ..).after ((touches_enterMode ..).after h1)
      · exact (touches_enterMode ..).after h1))

/-! ### Power -/

theorem touches_stopDomain (s : State) (q : Nat) : State.touches [.host, .lanes, .tribs, .pow] s (s.stopDomain q) := by
  unfold State.stopDomain
  extract_lets s1
  have h1 : State.touches [.host, .lanes, .tribs, .pow] s s1 := touches_ite _ (touches_foldl (touches_refl _ _) _ fun u a =>
    (touches_laneRxOff ..).le) (touches_ite _ (touches_foldl (touches_refl _ _) _ fun u a => (touches_laneTxOff ..).le)
    (touches_refl _ _))
  exact (touches_setDomain ..).after h1

theorem touches_restartOctet (s : State) (q : Nat) : State.touches [.lanes, .tribs, .obs, .pair] s (s.restartOctet q) := by
  unfold State.restartOctet
  extract_lets _ s1
  have h1 : State.touches [.lanes, .tribs, .obs, .pair] s s1 := touches_ite _ ((touches_refl _ _).set_pair) (touches_refl _ _)
  exact touches_ite _ (touches_foldl h1 _ fun u a => touches_ite _ ((touches_laneRxOn ..).le) (touches_refl _ _)) (touches_ite _
    (touches_foldl h1 _ fun u a => touches_ite _ ((touches_laneTxOn ..).le) (touches_refl _ _)) h1)

theorem touches_unstop (s : State) (x : Nat) : State.touches [.lanes, .tribs, .obs, .pair, .pow] s (s.unstop x) := by
  unfold State.unstop
  extract_lets s1
  have h1 : State.touches [.lanes, .tribs, .obs, .pair, .pow] s s1 := (touches_setDomain ..).le
  exact touches_ite _ ((touches_restartOctet ..).after h1) h1

theorem touches_rollBack (s : State) (r : SleepReq) (q reason : Nat) (posted : Bool) :
    State.touches [.host, .counts, .lanes, .tribs, .obs, .pair, .pow, .log] s (s.rollBack r q reason posted) := by
  unfold State.rollBack
  extract_lets s1 _ s2 s3 _
  have h1 : State.touches [.host, .counts, .lanes, .tribs, .obs, .pair, .pow, .log] s s1 := touches_foldl
    (touches_refl _ _) _ fun u a => (touches_unstop ..).le
  have h2 : State.touches [.host, .counts, .lanes, .tribs, .obs, .pair, .pow, .log] s s2 := h1.set_pow
  have h3 : State.touches [.host, .counts, .lanes, .tribs, .obs, .pair, .pow, .log] s s3 := (tells_bump ..).touches.after h2
  split
  · exact h3
  · exact touches_ite _ ((touches_complete ..).after ((touches_unreserve ..).after h3)) ((touches_unreserve ..).after h3)

theorem touches_allAccept (s : State) (r : SleepReq) :
    State.touches [.mode, .host, .par, .counts, .lanes, .com, .prot, .tim, .pair, .pow, .log] s (s.allAccept r) := by
  unfold State.allAccept
  extract_lets _ s1 s2 _ s3 s4 s5
  have h1 : State.touches [.mode, .host, .par, .counts, .lanes, .com, .prot, .tim, .pair, .pow, .log] s s1 := (touches_refl _ _).set_pow
  have h2 : State.touches [.mode, .host, .par, .counts, .lanes, .com, .prot, .tim, .pair, .pow, .log] s s2 := by
    unfold s2
    split
    · exact (touches_effectOf ..).after h1
    · exact h1
  have h3 : State.touches [.mode, .host, .par, .counts, .lanes, .com, .prot, .tim, .pair, .pow, .log] s s3 := h2.set_mode
  have h4 : State.touches [.mode, .host, .par, .counts, .lanes, .com, .prot, .tim, .pair, .pow, .log] s s4 := (touches_forget ..).after
    ((touches_lifeSlot ..).after
    (touches_foldl h3 _ fun u a => touches_ite _ (touches_refl ..) (touches_closeSession ..).le))
  have h5 : State.touches [.mode, .host, .par, .counts, .lanes, .com, .prot, .tim, .pair, .pow, .log] s s5 :=
    (touches_freeMail ..).after h4
  clear_value s5
  exact touches_ite _ h1 h5.set_host

theorem touches_answer1 (s : State) (r : SleepReq) (timeout : Bool) :
    State.touches (allBut [.clk, .free, .dev, .sw, .gen, .jcc, .flt, .sec, .pending]) s (s.answer1 r timeout) := by
  unfold State.answer1
  dsimp only
  split
  · exact touches_refl _ _
  · exact touches_ite _ ((touches_rollBack ..).le) (touches_ite _ ((touches_allAccept ..).after ((touches_stopDomain ..).le.set_pow))
      ((touches_stopDomain ..).le.set_pow))

theorem touches_execDomainQuiesceAnswer (s : State) :
    nextTouches (allBut [.clk, .free, .dev, .sw, .gen, .jcc, .flt, .sec, .pending]) s (execDomainQuiesceAnswer s) := by
  unfold execDomainQuiesceAnswer
  split
  · exact nextTouches_ite _ (touches_refl _ _) ((touches_answer1 ..).le)
  · exact touches_refl _ _

theorem touches_execQuiesceTimeout (s : State) :
    nextTouches (allBut [.clk, .free, .dev, .sw, .gen, .jcc, .flt, .sec, .pending]) s (execQuiesceTimeout s) := by
  unfold execQuiesceTimeout
  split
  · exact nextTouches_ite _ ((touches_answer1 ..).le) (touches_refl _ _)
  · exact touches_refl _ _

theorem touches_beginSleep (s : State) (quiescent : Bool) (es : List DomainEntry) (c : CmdRef) :
    State.touches [.counts, .pow, .log] s (s.beginSleep quiescent es c) := by
  unfold State.beginSleep
  extract_lets _ _ _ _ _
  exact (tells_bump ..).touches.after ((touches_refl _ _).set_pow)

theorem touches_quiescentBody (c : CmdRef) (s : State) : (quiescentBody c s).touches [.counts, .pow, .log] s := by
  unfold quiescentBody
  exact touches_guarded _ (touches_acceptReserved fun u => (touches_beginSleep ..).le)

theorem touches_powerModeBody (mode : Nat) (c : CmdRef) (s : State) :
    (powerModeBody mode c s).touches [.mode, .host, .counts, .pair, .pow, .log] s := by
  unfold powerModeBody
  split
  · exact (touches_configureBody ..).le
  · exact (touches_transportBody ..).le
  · exact (touches_quiescentBody ..).le
  · exact trivial

theorem touches_execPowerMode (e : Entry) (mode : Nat) (s : State) :
    nextTouches [.mode, .host, .counts, .pair, .pow, .log] s (execPowerMode e mode s) := by
  unfold execPowerMode
  exact touches_serve fun c u => (touches_powerModeBody ..).le

theorem touches_powerDomainBody (b : Buf) (count : Nat) (entries : List DomainEntry) (c : CmdRef) (s : State) :
    (powerDomainBody b count entries c s).touches [.counts, .pow, .log] s := by
  unfold powerDomainBody
  extract_lets es act
  refine reply_touches_ite _ trivial (touches_guarded _ (touches_checkItems _ _ _ (touches_guarded _ (reply_touches_ite _
    (touches_refl ..)
    (touches_acceptReserved fun u => touches_ite _ ?_ (touches_beginSleep ..).le)))))
  have hwake : State.touches [.counts, .pow, .log] u (act.foldl (fun s e => s.setDomain e.domain 3) u) :=
    touches_foldl (touches_refl ..) _ fun v e => (touches_setDomain ..).le
  generalize act.foldl (fun s e => s.setDomain e.domain 3) u = v at hwake ⊢
  exact hwake.set_pow

theorem touches_execPowerDomain (e : Entry) (b : Buf) (count : Nat) (entries : List DomainEntry) (s : State) :
    nextTouches [.host, .counts, .pow, .log] s (execPowerDomain e b count entries s) := by
  unfold execPowerDomain
  exact touches_serve fun c u => (touches_powerDomainBody ..).le

theorem touches_wakeDomains (s : State) (p : Nat → Bool) : State.touches [.lanes, .tribs, .obs, .pair, .pow] s (s.wakeDomains p) := by
  unfold State.wakeDomains
  exact touches_foldl (touches_refl _ _) _ fun u a => (touches_restartOctet ..).after ((touches_setDomain ..).le)

theorem touches_execDomainWakeDone (s : State) :
    nextTouches [.host, .counts, .lanes, .tribs, .obs, .pair, .pow, .log] s (execDomainWakeDone s) := by
  unfold execDomainWakeDone
  dsimp only
  split
  · exact touches_refl _ _
  · split
    · exact (touches_effectOf ..).after (((touches_wakeDomains ..).after (touches_foldl (touches_refl _ _) _ fun u a =>
        (touches_domainReset ..).le)).set_pow)
    · exact ((touches_wakeDomains ..).after (touches_foldl (touches_refl _ _) _ fun u a => (touches_domainReset ..).le)).set_pow

theorem touches_mapsLost (s : State) : State.touches [.tribs, .sw, .com, .gen, .prot] s (s.mapsLost) := by
  unfold State.mapsLost
  exact touches_upd

theorem touches_domainLost (s : State) (q : Nat) : State.touches [.par, .counts, .lanes, .sw, .com, .obs, .flt] s (s.domainLost q) := by
  unfold State.domainLost
  extract_lets _ s1 _ _ _ _
  have h1 : State.touches [.par, .counts, .lanes, .sw, .com, .obs, .flt] s s1 := (touches_refl _ _).set_parCounts
  exact touches_ite _ (touches_foldl h1 _ fun u a => (touches_modLane ..).le) (touches_ite _ (touches_foldl h1 _ fun u a =>
    (touches_modLane ..).le) (touches_ite _ h1.upd (touches_ite _ h1.set_obs h1)))

theorem touches_lower1 (s : State) (r : SleepReq) (q : Nat) : State.touches [.pow] s (s.lower1 r q) := by
  unfold State.lower1
  extract_lets _
  exact touches_ite _ ((touches_setDomain ..).le) (touches_refl _ _)

theorem touches_lowerAll (s : State) (r : SleepReq) : State.touches [.pow] s (s.lowerAll r) := by
  unfold State.lowerAll
  exact touches_foldl (touches_refl _ _) _ fun u a => (touches_lower1 ..).le

theorem touches_quietData (s : State) : State.touches [.host, .par, .counts, .lanes, .obs] s (s.quietData) := by
  unfold State.quietData
  exact touches_upd

theorem touches_enterQuiet (s : State) (r : SleepReq) :
    State.touches (allBut [.clk, .free, .mode, .tim, .pair, .jcc, .sec, .pending]) s (s.enterQuiet r) := by
  unfold State.enterQuiet
  have h1 : State.touches (allBut [.clk, .free, .mode, .tim, .pair, .jcc, .sec, .pending]) s (s.lowerAll r).quietData :=
    (touches_quietData ..).after (touches_lowerAll ..).le
  generalize (s.lowerAll r).quietData = u at h1 ⊢
  have h2 := h1.set_dev (x := { u.dev with jcc := if u.domain 2 = 1 then .retained else .off })
  have h3 := h2.set_pow (x := { u.pow with sleep := none, dvfsJcc := 0, dvfsFac := 0, vctl := 900, markersLost := [] })
  have h4 := h3.set_flt (x := { u.flt with log := if (if u.domain 2 = 1 then JccRun.retained else .off) = JccRun.off then [] else
    u.flt.log })
  have h5 := h4.set_log (x := { u.log with filters := [], perfDefault := true })
  exact touches_ite _ ((touches_mapsLost ..).after h5) h5

theorem touches_beginWake (s : State) (cause : Nat) :
    State.touches [.dev, .counts, .tribs, .sw, .com, .gen, .prot, .jcc, .pow, .log] s (s.beginWake cause) := by
  unfold State.beginWake
  extract_lets lost retained _ s1 s2 s3 code digest good _ s4
  have h1 : State.touches [.dev, .counts, .tribs, .sw, .com, .gen, .prot, .jcc, .pow, .log] s s1 := (touches_refl _ _).set_pow
  have h2 : State.touches [.dev, .counts, .tribs, .sw, .com, .gen, .prot, .jcc, .pow, .log] s s2 :=
    (tells_bump s1 .powerPmWakes 0 1).touches.after h1
  have h3 : State.touches [.dev, .counts, .tribs, .sw, .com, .gen, .prot, .jcc, .pow, .log] s s3 := touches_ite _
    ((tells_info ..).touches.after ((touches_mapsLost ..).after h2)) h2
  have h4 : State.touches [.dev, .jcc] s3 s4 := touches_of_having rfl ⟨fun hw => ⟨hw.1, empty_wf⟩, le_rfl, fun _ h => h⟩
  clear_value s3
  exact touches_ite _ (touches_refl ..) <| touches_ite _ (touches_refl _ _).set_pow <|
    touches_ite _ h3.set_dev ((tells_lifeAdd ..).touches.after (h4.after h3))

theorem touches_execPowerActionDone (s : State) :
    nextTouches (allBut [.clk, .free, .mode, .tim, .pair, .sec, .pending]) s (execPowerActionDone s) := by
  unfold execPowerActionDone
  extract_lets lost
  have lost_touches u x1 : State.touches (allBut [.clk, .free, .mode, .tim, .pair, .sec, .pending]) u (lost u x1) := touches_ite _
    ((touches_domainLost ..).le) (touches_refl _ _)
  dsimp only
  split
  · exact touches_refl _ _
  · exact nextTouches_ite _ (touches_refl _ _) (nextTouches_ite _ (nextTouches_ite _ (by
      split
      · exact (touches_beginWake ..).after ((touches_enterQuiet ..).le)
      · exact (touches_enterQuiet ..).le) (touches_refl _ _)) (by
      split
      · exact (touches_effectOf ..).after ((touches_foldl (touches_refl _ _) _ fun u a => (touches_setDomain ..).after
          (lost_touches ..)).set_pow)
      · exact (touches_foldl (touches_refl _ _) _ fun u a => (touches_setDomain ..).after (lost_touches ..)).set_pow))

theorem touches_execWakeComplete (s : State) :
    nextTouches (allBut [.clk, .free, .dev, .gen, .prot, .tim, .jcc, .flt, .sec, .pending]) s (execWakeComplete s) := by
  unfold execWakeComplete
  extract_lets _ _ s1 s2 s3 s4 _ s5
  have h1 : State.touches (allBut [.clk, .free, .dev, .gen, .prot, .tim, .jcc, .flt, .sec, .pending]) s s1 := touches_foldl
    (touches_refl _ _) _ fun u a => (touches_domainReset ..).le
  have h2 : State.touches (allBut [.clk, .free, .dev, .gen, .prot, .tim, .jcc, .flt, .sec, .pending]) s s2 := touches_foldl h1 _ fun u a
    => (touches_setDomain ..).le
  have h3 : State.touches (allBut [.clk, .free, .dev, .gen, .prot, .tim, .jcc, .flt, .sec, .pending]) s s3 :=
    (touches_applyStore ..).after h2
  have h4 : State.touches (allBut [.clk, .free, .dev, .gen, .prot, .tim, .jcc, .flt, .sec, .pending]) s s4 := touches_ite _
    ((touches_defaultPerf ..).after h3) h3
  have h5 : State.touches (allBut [.clk, .free, .dev, .gen, .prot, .tim, .jcc, .flt, .sec, .pending]) s s5 := h4.set_pow
  exact nextTouches_ite _ ((tells_journalRestart ..).touches.after ((touches_autoMode ..).after h5)) (touches_refl _ _)

theorem touches_execI2cAddressMatch (s : State) :
    nextTouches [.dev, .counts, .tribs, .sw, .com, .gen, .prot, .jcc, .pow, .log] s (execI2cAddressMatch s) := by
  unfold execI2cAddressMatch
  exact (touches_beginWake ..).le

theorem touches_execI2cWake (s : State) :
    nextTouches [.dev, .counts, .tribs, .sw, .com, .gen, .prot, .jcc, .pow, .log] s (execI2cWake s) := by
  unfold execI2cWake
  exact (touches_beginWake ..).le

theorem touches_execPerstNDeassert (s : State) :
    nextTouches [.dev, .host, .counts, .tribs, .sw, .com, .gen, .prot, .jcc, .pow, .log] s (execPerstNDeassert s) := by
  unfold execPerstNDeassert
  extract_lets _
  exact (touches_beginWake ..).after ((touches_linkTrains ..).after ((touches_refl _ _).set_host))

theorem touches_execWakeTimerExpiry (s : State) :
    nextTouches [.dev, .counts, .tribs, .sw, .com, .gen, .prot, .jcc, .pow, .log] s (execWakeTimerExpiry s) := by
  unfold execWakeTimerExpiry
  extract_lets _
  exact nextTouches_ite _ ((touches_beginWake ..).le) (touches_refl _ _)

theorem touches_execSupplyRemoval (s : State) : nextTouches (allBut [.pending]) s (execSupplyRemoval s) := by
  unfold execSupplyRemoval
  extract_lets _ _
  exact nextTouches_ite _ touches_upd ((touches_fatal ..).after ((touches_refl _ _).set_dev))

theorem touches_execSupplyRestore (ticks : Nat) (s : State) : nextTouches (allBut [.free, .pending]) s (execSupplyRestore ticks s) := by
  unfold execSupplyRestore
  extract_lets _ _ s1 _ _ s2 _ _ s3
  have h1 : State.touches (allBut [.free, .pending]) s s1 := (touches_refl _ _).set_clk
  have h2 : State.touches (allBut [.free, .pending]) s s2 := (touches_restoreTime ..).after ((touches_cleared ..).after h1)
  have h3 : State.touches (allBut [.free, .pending]) s s3 := h2.upd
  exact nextTouches_ite _ ((touches_refl _ _).set_dev) ((touches_beginWake ..).after ((touches_domainReset ..).after h3))

theorem touches_execSupplyTrip (rail : Rail) (s : State) : nextTouches (allBut [.pending]) s (execSupplyTrip rail s) := by
  unfold execSupplyTrip
  extract_lets _ _
  exact nextTouches_ite _ (touches_refl _ _) ((touches_fatal ..).le)

theorem touches_execThermalTrip (s : State) : nextTouches (allBut [.pending]) s (execThermalTrip s) := by
  unfold execThermalTrip
  exact (touches_fatal ..).le

theorem touches_sleepReset (s : State) : State.touches [.host, .counts, .lanes, .tribs, .obs, .pair, .pow, .log] s (s.sleepReset) := by
  unfold State.sleepReset
  split
  · exact touches_ite _ (touches_refl _ _) ((touches_rollBack ..).le)
  · exact touches_refl _ _

theorem touches_warm (s : State) (cause : Nat) (bursts : List Burst) :
    State.touches (allBut [.clk, .free, .gen, .flt, .pending]) s (s.warm cause bursts) := by
  unfold State.warm
  exact (touches_modeAfterRestart ..).after ((touches_jccRestart ..).after ((touches_sleepReset ..).le))

theorem touches_execPowerWarm (e : Entry) (bursts : List Burst) (s : State) :
    nextTouches (allBut [.clk, .free, .gen, .flt, .pending]) s (execPowerWarm e bursts s) := by
  unfold execPowerWarm
  exact touches_serve fun c u => fun u => (touches_warm ..).le

theorem touches_setDivider (s : State) (d p : Nat) : State.touches [.counts, .pow, .log] s (s.setDivider d p) := by
  unfold State.setDivider
  extract_lets _ _ s1
  have h1 : State.touches [.counts, .pow, .log] s s1 := touches_ite _ ((touches_refl _ _).set_pow) ((touches_refl _ _).set_pow)
  exact (tells_bump ..).touches.after h1

theorem touches_powerDvfsBody (d p : Nat) (c : CmdRef) (s : State) : (powerDvfsBody d p c s).touches [.counts, .pow, .log] s := by
  unfold powerDvfsBody
  extract_lets _ _ _ s1 _
  have h1 : State.touches [.counts, .pow, .log] s s1 := (touches_setDivider ..).le
  exact touches_guarded _ (reply_touches_ite _ h1.set_pow (reply_touches_ite _ ((touches_setDivider ..).le)
    (touches_acceptReserved fun u => (touches_refl _ _).set_pow)))

theorem touches_execPowerDvfs (e : Entry) (domain setpoint : Nat) (s : State) :
    nextTouches [.host, .counts, .pow, .log] s (execPowerDvfs e domain setpoint s) := by
  unfold execPowerDvfs
  exact touches_serve fun c u => (touches_powerDvfsBody ..).le

theorem touches_execAvsReport (s : State) : nextTouches [.host, .counts, .pow, .log] s (execAvsReport s) := by
  unfold execAvsReport
  extract_lets _
  dsimp only
  split
  · exact touches_refl _ _
  · split
    · exact (touches_effectOf ..).after ((touches_setDivider ..).after ((touches_refl _ _).set_pow))
    · exact (touches_setDivider ..).after ((touches_refl _ _).set_pow)

theorem touches_execAvsTimeout (s : State) : nextTouches [.host, .pow, .log] s (execAvsTimeout s) := by
  unfold execAvsTimeout
  extract_lets _
  split
  · exact touches_refl _ _
  · exact (touches_failRef ..).after ((touches_refl _ _).set_pow)

end Sys2Proof.Machine
end

section
/-!
PROOFS. What each operation may touch: faults, parameters, observation, the matrix and the row.
-/
namespace Sys2Proof.Machine

-- One theorem after the other: many at once need more stacks than the memory limit of the check allows.
set_option Elab.async false

/-! ### Faults -/

theorem touches_detect (s : State) (cls region location detail action : Nat) :
    State.touches (allBut [.pending]) s (s.detect cls region location detail action) := by
  unfold State.detect
  extract_lets s1
  have h1 : State.touches (allBut [.pending]) s s1 := (touches_report ..).le
  exact touches_ite _ ((touches_fatal ..).after h1) h1

theorem touches_setUncovered (s : State) (region : Nat) (on : Bool) : State.touches [.flt] s (s.setUncovered region on) := by
  unfold State.setUncovered
  extract_lets _ _
  exact (touches_refl _ _).set_flt

theorem touches_jccFault (s : State) (kind j : Nat) (bursts : List Burst) :
    State.touches (allBut [.pending]) s (s.jccFault kind j bursts) := by
  unfold State.jccFault
  extract_lets s1 s2 s3
  have h1 : State.touches (allBut [.pending]) s s1 := (touches_detect ..).le
  have h2 : State.touches (allBut [.pending]) s s2 := (touches_trialFails ..).after ((touches_sleepReset ..).after h1)
  have h3 : State.touches (allBut [.pending]) s s3 := (touches_modeAfterRestart ..).after ((touches_jccRestart ..).after h2)
  exact (touches_countRestart ..).after h3

theorem touches_execLockstepDivergence (j : Fin 2) (bursts : List Burst) (s : State) :
    nextTouches (allBut [.pending]) s (execLockstepDivergence j bursts s) := by
  unfold execLockstepDivergence
  exact nextTouches_ite _ ((touches_jccFault ..).le) (touches_refl _ _)

theorem touches_execWatchdogExpiry (j : Fin 2) (bursts : List Burst) (s : State) :
    nextTouches (allBut [.pending]) s (execWatchdogExpiry j bursts s) := by
  unfold execWatchdogExpiry
  exact touches_ite _ ((touches_jccFault ..).le) (touches_refl _ _)

theorem touches_commitMismatch (s : State) :
    State.touches [.mode, .dev, .host, .counts, .sw, .com, .pair, .log] s (s.commitMismatch) := by
  unfold State.commitMismatch
  extract_lets _
  dsimp only
  split
  · exact touches_refl _ _
  · exact touches_ite _ ((touches_abortCaravan ..).after ((touches_ite _ ((touches_refl _ _).set_sw) (touches_refl _ _)).set_com))
      (touches_ite _ ((touches_endCommit ..).after (touches_ite _ ((touches_ite _ ((touches_refl _ _).set_sw)
      (touches_refl _ _)).set_com) (touches_ite _ ((touches_refl _ _).set_sw) (touches_refl _ _)))) (touches_ite _
      ((touches_endCommit ..).after (touches_ite _ ((touches_refl _ _).set_sw) (touches_refl _ _))) ((touches_endCommit ..).after
      (touches_ite _ ((touches_refl _ _).set_sw) (touches_refl _ _)))))

theorem touches_engineDisputed (s : State) (g : Engine) :
    State.touches [.mode, .dev, .host, .counts, .sw, .com, .tim, .pair, .log] s (s.engineDisputed g) := by
  unfold State.engineDisputed
  extract_lets _
  split
  · exact (touches_commitMismatch ..).le
  · exact (touches_sendFrame ..).after ((touches_refl _ _).set_pair)
  · exact touches_refl _ _
  · exact (touches_holdOver ..).le

theorem touches_mismatch (s : State) (g : Engine) : State.touches (allBut [.pending]) s (s.mismatch g) := by
  unfold State.mismatch
  exact touches_ite _ ((touches_detect ..).le) ((touches_faultRelease ..).after (((touches_engineDisputed ..).after
    ((touches_detect ..).le)).set_flt))

theorem touches_execEngineMismatch (g : Engine) (s : State) : nextTouches (allBut [.pending]) s (execEngineMismatch g s) := by
  unfold execEngineMismatch
  exact (touches_mismatch ..).le

theorem touches_rootLoss (s : State) : State.touches (allBut [.pending]) s (s.rootLoss) := by
  unfold State.rootLoss
  extract_lets _ s1 _ s2 s3
  have h1 : State.touches (allBut [.pending]) s s1 := (touches_refl _ _).set_dev
  have h2 : State.touches (allBut [.pending]) s s2 := (touches_openFault ..).after h1
  have h3 : State.touches (allBut [.pending]) s s3 := h2.set_lanes
  exact (touches_fatal ..).after h3

theorem touches_execRootClockLoss (s : State) : nextTouches (allBut [.pending]) s (execRootClockLoss s) := by
  unfold execRootClockLoss
  exact (touches_rootLoss ..).le

theorem touches_linkFault (s : State) (lane grain : Nat) (lasting : Bool) :
    State.touches (allBut [.pending]) s (s.linkFault lane grain lasting) := by
  unfold State.linkFault
  extract_lets _ _ bad _ s1 s2
  have bad_touches x0 u : State.touches (allBut [.pending]) u (bad x0 u) := (touches_refl _ _).set_flt
  have h1 : State.touches (allBut [.pending]) s s1 := (touches_refl _ _).set_flt
  have h2 : State.touches (allBut [.pending]) s s2 := (tells_bump ..).touches.after (bad_touches ..)
  exact touches_ite _ ((touches_detect ..).after (bad_touches ..)) (touches_ite _ ((touches_detect ..).after
    ((tells_bump ..).touches.after ((bad_touches ..).after h1))) ((touches_detect ..).after ((touches_setUncovered ..).after h2)))

theorem touches_mramFault (s : State) (detail : Nat) : State.touches (allBut [.pending]) s (s.mramFault detail) := by
  unfold State.mramFault
  extract_lets _ _ _ _ _ _ _ _ s1
  have h1 : State.touches (allBut [.pending]) s s1 := by
      unfold s1
      split
      · exact (touches_refl _ _).set_pair
      · exact (touches_refl _ _).set_log
      · exact (touches_refl _ _).set_par
      · exact (touches_refl _ _).set_flt
      · exact touches_ite _ ((touches_refl _ _).set_sec) ((touches_refl _ _).set_sec)
      · exact touches_refl _ _
  exact (touches_detect ..).after h1

theorem touches_jsramFault (s : State) (word : Nat) : State.touches (allBut [.pending]) s (s.jsramFault word) := by
  unfold State.jsramFault
  extract_lets _ s1 _ _
  have h1 : State.touches (allBut [.pending]) s s1 := (touches_detect ..).le
  exact touches_ite _ h1.set_dev ((touches_refl _ _).set_jcc)

theorem touches_strike (s : State) (f : FaultSite) : State.touches (allBut [.pending]) s (s.strike f) := by
  unfold State.strike
  extract_lets _ _
  dsimp only
  split
  · exact touches_ite _ ((touches_ite _ ((touches_refl _ _).set_flt) (touches_refl _ _)).set_com) ((touches_maskedFault ..).after
      (touches_ite _ ((tells_perf ..).touches.after (touches_ite _ ((touches_refl _ _).set_flt) (touches_refl _ _))) (touches_ite _
      ((touches_refl _ _).set_flt) (touches_refl _ _))))
  · exact touches_ite _ ((touches_ite _ ((touches_refl _ _).set_flt) (touches_refl _ _)).set_com) ((touches_ite _
      ((touches_refl _ _).set_flt) (touches_refl _ _)).set_flt)
  · exact (touches_ite _ ((touches_refl _ _).set_flt) (touches_refl _ _)).set_flt
  · exact (touches_ite _ ((touches_refl _ _).set_flt) (touches_refl _ _)).set_com
  · exact (touches_ite _ ((touches_refl _ _).set_flt) (touches_refl _ _)).set_flt
  · exact touches_ite _ ((touches_ite _ ((touches_refl _ _).set_flt) (touches_refl _ _)).set_flt) ((touches_ite _
      ((touches_refl _ _).set_flt) (touches_refl _ _)).set_flt)
  · exact touches_ite _ ((touches_ite _ ((touches_refl _ _).set_flt) (touches_refl _ _)).set_flt) ((touches_ite _
      ((touches_refl _ _).set_flt) (touches_refl _ _)).set_flt)
  · exact touches_ite _ ((touches_jccFault ..).after (touches_ite _ ((touches_refl _ _).set_flt) (touches_refl _ _))) (touches_ite _
      ((touches_refl _ _).set_flt) (touches_refl _ _))
  · exact touches_ite _ ((touches_jccFault ..).after (touches_ite _ ((touches_refl _ _).set_flt) (touches_refl _ _))) (touches_ite _
      ((touches_refl _ _).set_flt) (touches_refl _ _))
  · exact (touches_jsramFault ..).after (touches_ite _ ((touches_refl _ _).set_flt) (touches_refl _ _))
  · exact (touches_mramFault ..).after (touches_ite _ ((touches_refl _ _).set_flt) (touches_refl _ _))
  · exact (touches_linkFault ..).after (touches_ite _ ((touches_refl _ _).set_flt) (touches_refl _ _))
  · exact (touches_mismatch ..).after (touches_ite _ ((touches_refl _ _).set_flt) (touches_refl _ _))
  · exact (touches_rootLoss ..).after (touches_ite _ ((touches_refl _ _).set_flt) (touches_refl _ _))
  · exact touches_ite _ (touches_ite _ ((touches_refl _ _).set_flt) (touches_refl _ _)) ((touches_maskedFault ..).after (touches_ite _
      ((touches_refl _ _).set_flt) (touches_refl _ _)))
  · exact touches_ite _ ((touches_refl _ _).set_flt) (touches_refl _ _)

theorem touches_execSingleInternalFault (f : FaultSite) (s : State) :
    nextTouches (allBut [.pending]) s (execSingleInternalFault f s) := by
  unfold execSingleInternalFault
  exact (touches_strike ..).le

theorem touches_execTmrScrub (s : State) : nextTouches [.counts, .flt, .log] s (execTmrScrub s) := by
  unfold execTmrScrub
  extract_lets _ _ s1 _
  have h1 : State.touches [.counts, .flt, .log] s s1 := touches_foldl (touches_refl _ _) _ fun u a => (touches_maskedFault ..).le
  exact h1.set_flt

theorem touches_parityFound (s : State) (x : Nat × Nat) : State.touches (allBut [.pending]) s (s.parityFound x) := by
  unfold State.parityFound
  extract_lets _ _ s1 _ s2
  have h1 : State.touches (allBut [.pending]) s s1 := (touches_detect ..).le
  have h2 : State.touches (allBut [.pending]) s s2 := h1.set_flt
  exact touches_ite _ h1 (touches_ite _ ((touches_faultRelease ..).after h2) h2)

theorem touches_parityCheck (s : State) (p : Nat × Nat → Bool) : State.touches (allBut [.pending]) s (s.parityCheck p) := by
  unfold State.parityCheck
  extract_lets _
  exact touches_foldl ((touches_refl _ _).set_flt) _ fun u a => (touches_parityFound ..).le

theorem touches_execParityScan (s : State) : nextTouches (allBut [.pending]) s (execParityScan s) := by
  unfold execParityScan
  exact (touches_parityCheck ..).le

theorem touches_checked (s : State) (failing : List Nat) (region : Nat) :
    State.touches (allBut [.pending]) s (s.checked failing region) := by
  unfold State.checked
  exact touches_ite _ ((touches_detect ..).after ((touches_setUncovered ..).le)) ((touches_setUncovered ..).le)

theorem touches_execCheckerSelfTest (failing : List Nat) (s : State) :
    nextTouches (allBut [.pending]) s (execCheckerSelfTest failing s) := by
  unfold execCheckerSelfTest
  exact touches_foldl (touches_refl _ _) _ fun u a => (touches_checked ..).le

theorem touches_execFaultRecordClose (fseq : Nat) (s : State) : nextTouches [.flt] s (execFaultRecordClose fseq s) := by
  unfold execFaultRecordClose
  extract_lets _
  split
  · exact touches_refl _ _
  · exact nextTouches_ite _ ((touches_refl _ _).set_flt) (touches_refl _ _)

theorem touches_faultReadBody (b : Buf) (first : Nat) (_c : CmdRef) (s : State) : (faultReadBody b first _c s).touches [.host] s := by
  unfold faultReadBody
  extract_lets _
  exact touches_guarded _ ((touches_hostWrite ..).le)

theorem touches_execDiagFaultRead (e : Entry) (b : Buf) (first : Nat) (s : State) :
    nextTouches [.host, .counts, .log] s (execDiagFaultRead e b first s) := by
  unfold execDiagFaultRead
  exact touches_serve fun c u => (touches_faultReadBody ..).le

theorem touches_testFails (s : State) (test item : Nat) : State.touches (allBut [.pending]) s (s.testFails test item) := by
  unfold State.testFails
  split
  · exact (touches_detect ..).le
  · exact (touches_detect ..).le
  · exact (touches_detect ..).le
  · exact (touches_detect ..).le
  · exact (touches_detect ..).le

theorem touches_selftestBody (test : Nat) (failing : List Nat) (_c : CmdRef) (s : State) :
    (selftestBody test failing _c s).touches (allBut [.pending]) s := by
  unfold selftestBody
  extract_lets _
  exact touches_guarded _ (touches_foldl (touches_refl _ _) _ fun u a => (touches_testFails ..).le)

theorem touches_execDiagSelftest (e : Entry) (test : Nat) (failing : List Nat) (s : State) :
    nextTouches (allBut [.pending]) s (execDiagSelftest e test failing s) := by
  unfold execDiagSelftest
  exact touches_serve fun c u => (touches_selftestBody ..).le

theorem touches_faultInjectBody (cls : Nat) (bursts : List Burst) (_c : CmdRef) (s : State) :
    (faultInjectBody cls bursts _c s).touches (allBut [.pending]) s := by
  unfold faultInjectBody
  exact touches_guarded _ (by
    split
    · exact trivial
    · exact touches_guarded _ (reply_touches_ite _ (fun u => touches_ite _ ((touches_strike ..).le) ((touches_strike ..).after
        ((touches_refl _ _).set_flt))) (touches_ite _ ((touches_strike ..).le) ((touches_strike ..).after ((touches_refl _ _).set_flt)))))

theorem touches_execDiagFaultInject (e : ResetEntry) (cls : Nat) (s : State) :
    nextTouches (allBut [.pending]) s (execDiagFaultInject e cls s) := by
  unfold execDiagFaultInject
  exact touches_serve fun c u => (touches_faultInjectBody ..).le

/-! ### The registers that the control complex sees -/

theorem touches_granted (s : State) (m a : Nat) : State.touches [.counts, .log] s (s.granted m a) := by
  unfold State.granted
  extract_lets _
  exact (tells_perf ..).touches.le

theorem touches_latchRsn (s : State) : State.touches [.host] s (s.latchRsn) := by
  unfold State.latchRsn
  extract_lets _
  exact (touches_refl _ _).set_host

theorem touches_barRead (s : State) (off n : Nat) : State.touches [.host] s (s.barRead off n).2 := by
  unfold State.barRead
  split
  · exact touches_ite _ (touches_latchRsn ..) (touches_refl ..)
  · exact touches_refl ..

theorem touches_execRsnLoRead (s : State) : nextTouches [.host] s (execRsnLoRead s) := by
  unfold execRsnLoRead
  exact (touches_barRead ..).le

theorem touches_unlockReg (s : State) (v : BitVec 32) : State.touches [.host] s (s.unlockReg v) := by
  unfold State.unlockReg
  extract_lets _
  exact touches_ite _ ((touches_refl _ _).set_host) ((touches_refl _ _).set_host)

theorem touches_lock (s : State) : State.touches [.host] s (s.lock) := by
  unfold State.lock
  extract_lets _
  exact (touches_refl _ _).set_host

theorem touches_recoverReg (s : State) (v : BitVec 32) : State.touches (allBut [.free, .pending]) s (s.recoverReg v) := by
  unfold State.recoverReg
  exact touches_ite _ (touches_refl _ _) (touches_ite _ ((touches_fullReset ..).after ((touches_lock ..).le)) ((touches_lock ..).le))

theorem nextTouches_nextOf {l : List Part} {s : State} {o : Host.Outcome State Fault Refusal} (h : nextTouches l s o) :
    State.touches l s (nextOf s o) := by
  cases o
  case next => exact h
  all_goals exact touches_refl ..

theorem touches_msixWrite (s : State) (w : Nat) (v : BitVec 32) : State.touches [.host] s (s.msixWrite w v) := by
  unfold State.msixWrite
  extract_lets _ s1 _ _
  have h1 : State.touches [.host] s s1 := (touches_refl _ _).set_host
  exact touches_ite _ ((touches_signal ..).after h1.set_host) h1

theorem touches_cmdWrite (s : State) (m o : Nat) (v : BitVec 32) : State.touches [.host] s (s.cmdWrite m o v) := by
  unfold State.cmdWrite
  extract_lets _ _
  exact touches_ite _ (touches_refl _ _) ((touches_setMailbox ..).le)

theorem touches_execUnlockWrite (v : BitVec 32) (s : State) : nextTouches [.host] s (execUnlockWrite v s) := by
  unfold execUnlockWrite
  exact touches_ite _ ((touches_unlockReg ..).le) (touches_refl _ _)

theorem touches_execRecoverWrite (v : BitVec 32) (s : State) : nextTouches (allBut [.free, .pending]) s (execRecoverWrite v s) := by
  unfold execRecoverWrite
  exact touches_ite _ ((touches_recoverReg ..).le) (touches_refl _ _)

theorem touches_execUnlockExpiry (s : State) : nextTouches [.host] s (execUnlockExpiry s) := by
  unfold execUnlockExpiry
  exact nextTouches_ite _ ((touches_lock ..).le) (touches_refl _ _)

/-! ### Tributaries -/

theorem touches_doCentre (s : State) (k j : Nat) : State.touches [.tribs] s (s.doCentre k j) := by
  unfold State.doCentre
  extract_lets _
  split
  · exact touches_refl _ _
  · exact (touches_setTrib ..).le
  · exact (touches_setTrib ..).le

theorem touches_slip (s : State) (k j : Nat) : State.touches [.counts, .tribs, .log] s (s.slip k j) := by
  unfold State.slip
  extract_lets _ _ _ _
  exact (tells_perf ..).touches.after ((tells_bump ..).touches.after ((touches_setTrib ..).le))

theorem touches_resolve (s : State) (k m : Nat) : State.touches [.tribs] s (s.resolve k m) := by
  unfold State.resolve
  extract_lets _ _
  exact touches_ite _ (touches_refl _ _) (by
    split
    · exact touches_ite _ ((touches_setTrib ..).le) (touches_ite _ ((touches_setTrib ..).le) ((touches_setTrib ..).le))
    · exact (touches_setTrib ..).le)

theorem touches_startEgress (s : State) (k m : Nat) : State.touches [.counts, .tribs, .log] s (s.startEgress k m) := by
  unfold State.startEgress
  extract_lets s1 t ex expect p ais new ann _ t' s2
  have h1 : State.touches [.counts, .tribs, .log] s s1 := (touches_doCentre ..).after (touches_resolve ..).le
  have h2 : State.touches [.counts, .tribs, .log] s s2 := (touches_setTrib ..).after h1
  clear_value s2 ex
  refine touches_ite _ h2 ?_
  split
  · exact h2
  · exact (tells_perf ..).touches.after ((tells_bump ..).touches.after h2)
  · exact (tells_perf ..).touches.after ((tells_bump ..).touches.after h2)

theorem touches_egressAis (s : State) (k : Nat) : State.touches [.tribs] s (s.egressAis k) := by
  unfold State.egressAis
  extract_lets _
  exact touches_ite _ ((touches_setTrib ..).le) (touches_ite _ ((touches_setTrib ..).le) (touches_refl _ _))

theorem touches_tribEgress (s : State) (k : Nat) (rsn : Rsn) : State.touches [.counts, .tribs, .log] s (s.tribEgress k rsn) := by
  unfold State.tribEgress
  extract_lets _ s1 s2 _ _ s3
  have h1 : State.touches [.counts, .tribs, .log] s s1 := (touches_egressAis ..).le
  have h2 : State.touches [.counts, .tribs, .log] s s2 := touches_ite _ ((touches_startEgress ..).after h1)
    ((touches_doCentre ..).after h1)
  have h3 : State.touches [.counts, .tribs, .log] s s3 := touches_ite _ ((touches_setTrib ..).after h2) (touches_ite _
    ((touches_slip ..).after h2) h2)
  exact (touches_setTrib ..).after h3

theorem touches_tribsEgress_go (rsn : Rsn) (ts : List (Nat × Trib)) (s : State) :
    State.touches [.counts, .tribs, .log] s (State.tribsEgress.go rsn ts s) := by
  induction ts generalizing rsn s with
  | nil =>
    rw [State.tribsEgress.go]
    exact touches_refl _ _
  | cons x r ih =>
    rw [State.tribsEgress.go]
    exact (ih ..).after (touches_ite _ ((touches_perfOccupancy ..).after ((touches_tribEgress ..).le)) (touches_refl _ _))

theorem touches_tribsEgress (s : State) (rsn : Rsn) : State.touches [.counts, .tribs, .log] s (s.tribsEgress rsn) := by
  unfold State.tribsEgress
  exact (touches_tribsEgress_go ..).le

theorem touches_sendDecision (s : State) (trib m code toStart : Nat) : State.touches [.pair] s (s.sendDecision trib m code toStart) := by
  unfold State.sendDecision
  exact (touches_tell ..).le

theorem touches_execPointerSample (trib : Nat) (s : State) : nextTouches [.tribs, .pair] s (execPointerSample trib s) := by
  unfold execPointerSample
  extract_lets _ _ _ s1
  have h1 : State.touches [.tribs, .pair] s s1 := (touches_setTrib ..).le
  exact nextTouches_ite _ (touches_ite _ ((touches_sendDecision ..).after h1) h1) (touches_refl _ _)

theorem touches_takeDecision (s : State) (m : Nat) (d : PtrDecision) : State.touches [.tribs] s (s.takeDecision m d) := by
  unfold State.takeDecision
  extract_lets _
  exact touches_ite _ ((touches_setTrib ..).le) (touches_refl _ _)

theorem touches_execLockstepDecision (pmf : Nat) (ds : List PtrDecision) (s : State) :
    nextTouches [.tribs] s (execLockstepDecision pmf ds s) := by
  unfold execLockstepDecision
  extract_lets _
  exact nextTouches_ite _ (touches_foldl (touches_refl _ _) _ fun u a => (touches_takeDecision ..).le) (touches_refl _ _)

theorem touches_comparePtr (s : State) (x : Nat × Nat × Nat) : State.touches [.counts, .tribs, .log] s (s.comparePtr x) := by
  unfold State.comparePtr
  exact touches_ite _ (touches_refl _ _) (touches_ite _ ((touches_setTrib ..).le) (touches_ite _ ((tells_journalAuto ..).touches.after
    ((touches_setTrib ..).le)) ((touches_setTrib ..).le)))

theorem touches_compareSel (s : State) (x : Nat × Bool × Nat × Bool) : State.touches [.prot] s (s.compareSel x) := by
  unfold State.compareSel
  exact (touches_modGroup ..).le

theorem touches_execLockstepComparison (f : LockFrame) (s : State) :
    nextTouches [.counts, .tribs, .com, .prot, .pair, .log] s (execLockstepComparison f s) := by
  unfold execLockstepComparison
  extract_lets s1 s2
  have h1 : State.touches [.counts, .tribs, .com, .prot, .pair, .log] s s1 := (touches_learnGen ..).le
  have h2 : State.touches [.counts, .tribs, .com, .prot, .pair, .log] s s2 := touches_foldl h1 _ fun u a => (touches_comparePtr ..).le
  exact nextTouches_ite _ (touches_foldl h2 _ fun u a => (touches_compareSel ..).le) (touches_refl _ _)

theorem touches_tribCreateBody (b : Buf) (grains : List Nat) (trib lane count mode : Nat) (_c : CmdRef) (s : State) :
    (tribCreateBody b grains trib lane count mode _c s).touches [.free, .tribs] s := by
  unfold tribCreateBody
  extract_lets _ _
  exact touches_guarded _ (touches_checkItems _ _ _ (touches_guarded _ ((touches_makeTrib ..).le)))

theorem touches_execTribCreate (e : Entry) (b : Buf) (grains : List Nat) (trib lane count mode : Nat) (s : State) :
    nextTouches [.free, .host, .counts, .tribs, .log] s (execTribCreate e b grains trib lane count mode s) := by
  unfold execTribCreate
  exact touches_serve fun c u => (touches_tribCreateBody ..).le

theorem touches_tribDeleteBody (trib : Nat) (_c : CmdRef) (s : State) : (tribDeleteBody trib _c s).touches [.tribs] s := by
  unfold tribDeleteBody
  extract_lets _
  exact touches_guarded _ ((touches_setTrib ..).le)

theorem touches_execTribDelete (e : Entry) (trib : Nat) (s : State) :
    nextTouches [.host, .counts, .tribs, .log] s (execTribDelete e trib s) := by
  unfold execTribDelete
  exact touches_serve fun c u => (touches_tribDeleteBody ..).le

theorem touches_tribRealignBody (trib : Nat) (_c : CmdRef) (s : State) : (tribRealignBody trib _c s).touches [.tribs] s := by
  unfold tribRealignBody
  extract_lets _ _
  exact touches_guarded _ (reply_touches_ite _ trivial ((touches_setTrib ..).le))

theorem touches_execTribRealign (e : Entry) (trib : Nat) (s : State) :
    nextTouches [.host, .counts, .tribs, .log] s (execTribRealign e trib s) := by
  unfold execTribRealign
  exact touches_serve fun c u => (touches_tribRealignBody ..).le

/-! ### Observation -/

theorem touches_latchInterp (s : State) : State.touches [.obs] s (s.latchInterp) := by
  unfold State.latchInterp
  extract_lets _ _
  exact (touches_refl _ _).set_obs

/-- A facet record takes a row of its lane, where the lane is in scope. -/
theorem touches_facetRow (s : State) (c : Prop) {_ : Decidable c} (l : Nat) (f : FacetLane → FacetLane) :
    State.touches [.obs] s (if c then s.modFacetLane l f else s) :=
  touches_ite _ ((touches_modFacetLane ..).le) (touches_refl _ _)

theorem touches_facetDoubt (s : State) (l : Nat) (entry : Rsn) (gs : List Nat) : State.touches [.obs] s (s.facetDoubt l entry gs) := by
  unfold State.facetDoubt
  exact touches_ite _ (touches_refl _ _) ((touches_modFacetLane ..).le)

theorem touches_formPlesio (s : State) (l : Nat) (gap : Bool) : State.touches [.counts, .obs, .log] s (s.formPlesio l gap) := by
  unfold State.formPlesio
  extract_lets _ _ _ s1
  have h1 : State.touches [.counts, .obs, .log] s s1 := touches_ite _ ((tells_bump ..).touches.le) (touches_refl _ _)
  split
  · exact (touches_modFacetLane ..).after h1
  · exact (touches_modFacetLane ..).le

theorem touches_formRecords (s : State) (f : Nat) : State.touches [.counts, .obs, .log] s (s.formRecords f) := by
  unfold State.formRecords
  extract_lets _
  exact touches_foldl (touches_refl _ _) _ fun u a => touches_ite _ ((touches_formPlesio ..).le) ((touches_modFacetLane ..).le)

theorem touches_modFacet (s : State) (f : Facet → Facet) : State.touches [.obs] s (s.modFacet f) := by
  unfold State.modFacet
  extract_lets _
  exact (touches_refl _ _).set_obs

theorem touches_startLoupe (s : State) (x : FacetSrc) : State.touches [.obs] s (s.startLoupe x) := by
  unfold State.startLoupe
  extract_lets _
  exact (touches_modFacet ..).le

theorem touches_dropFacet (s : State) (sf : Nat) : State.touches [.counts, .obs, .log] s (s.dropFacet sf) := by
  unfold State.dropFacet
  extract_lets s1
  have h1 : State.touches [.counts, .obs, .log] s s1 := (touches_modFacet ..).le
  exact (tells_info ..).touches.after ((tells_bump ..).touches.after h1)

theorem touches_startFacet (s : State) (x : FacetSrc) : State.touches [.counts, .obs, .log] s (s.startFacet x) := by
  unfold State.startFacet
  extract_lets _ _
  exact touches_ite _ ((touches_dropFacet ..).le) ((touches_modFacet ..).le)

theorem touches_execFacetWindowOpen (s : State) : nextTouches [.counts, .obs, .log] s (execFacetWindowOpen s) := by
  unfold execFacetWindowOpen
  extract_lets _ s1 s2 _ _ s3
  have h1 : State.touches [.counts, .obs, .log] s s1 := (touches_modFacet ..).le
  have h2 : State.touches [.counts, .obs, .log] s s2 := (touches_formRecords ..).after ((touches_modFacet ..).after h1)
  have h3 : State.touches [.counts, .obs, .log] s s3 := touches_ite _ h2 ((touches_startLoupe ..).after h2)
  exact nextTouches_ite _ (by
    split
    · exact h1
    · exact nextTouches_ite _ (touches_ite _ ((touches_modFacet ..).after h3) ((touches_startFacet ..).after h3)) h1) (touches_refl _ _)

theorem touches_putFacet (s : State) (bytes : Nat → List Byte) (records : Nat) :
    State.touches [.host, .counts, .log] s (s.putFacet bytes records) := by
  unfold State.putFacet
  extract_lets _ s1 _ s2
  have h1 : State.touches [.host, .counts, .log] s s1 := (touches_hostWrite ..).le
  have h2 : State.touches [.host, .counts, .log] s s2 := h1.set_host
  exact (touches_interrupt ..).after ((tells_perf ..).touches.after ((tells_perf ..).touches.after h2))

theorem touches_execFacetEntryWrite (s : State) : nextTouches [.host, .counts, .obs, .log] s (execFacetEntryWrite s) := by
  unfold execFacetEntryWrite
  dsimp only
  split
  · exact touches_refl _ _
  · exact nextTouches_ite _ (by
      split
      · exact (touches_modFacet ..).after ((touches_putFacet ..).le)
      · exact nextTouches_ite _ ((touches_modFacet ..).after ((touches_putFacet ..).le)) ((tells_bump ..).touches.after
          ((touches_modFacet ..).after ((touches_putFacet ..).le)))) (touches_refl _ _)

theorem touches_facetConfigBody (addr log2 vector : Nat) (_c : CmdRef) (s : State) :
    (facetConfigBody addr log2 vector _c s).touches [.host] s := by
  unfold facetConfigBody
  extract_lets _ _ _
  exact touches_guarded _ ((touches_refl _ _).set_host)

theorem touches_execFacetConfig (e : Entry) (addr log2 vector : Nat) (s : State) :
    nextTouches [.host, .counts, .log] s (execFacetConfig e addr log2 vector s) := by
  unfold execFacetConfig
  exact touches_serve fun c u => (touches_facetConfigBody ..).le

theorem touches_facetOn (s : State) : State.touches [.obs] s (s.facetOn) := by
  unfold State.facetOn
  exact (touches_modFacet ..).le

theorem touches_facetOff (s : State) : State.touches [.obs] s (s.facetOff) := by
  unfold State.facetOff
  exact (touches_modFacet ..).le

theorem touches_cutSwitch (s : State) (d : Nat) (v : Bool) : State.touches [.obs] s (s.cutSwitch d v) := by
  unfold State.cutSwitch
  exact (touches_modCut ..).le

theorem touches_execCutEnableEffect (dune : Fin 64) (s : State) : nextTouches [.obs] s (execCutEnableEffect dune s) := by
  unfold execCutEnableEffect
  exact nextTouches_ite _ ((touches_modCut ..).le) (touches_refl _ _)

theorem touches_countCut (s : State) (d : Nat) (x : CutWord) : State.touches [.counts, .log] s (s.countCut d x) := by
  unfold State.countCut
  extract_lets _ _
  exact touches_ite _ ((tells_bump ..).touches.le) ((tells_perf ..).touches.after ((tells_perf ..).touches.after
    ((tells_bump ..).touches.after ((tells_bump ..).touches.after ((tells_bump ..).touches.le)))))

theorem touches_runCut (s : State) (d : Nat) (ws : List CutWord) (mis : List (Nat × Nat × Nat × Nat)) :
    State.touches [.counts, .obs, .log] s (s.runCut d ws mis) := by
  unfold State.runCut
  extract_lets _ _ _ _ _ _ s1
  have h1 : State.touches [.counts, .obs, .log] s s1 := touches_foldl (touches_refl _ _) _ fun u a => (touches_countCut ..).le
  exact (touches_modCut ..).after h1

theorem touches_swapSat (s : State) : State.touches [.obs] s (s.swapSat) := by
  unfold State.swapSat
  extract_lets _
  exact (touches_refl _ _).set_obs

theorem touches_cutReadSatBody (b : Buf) (first count dune : Nat) (_c : CmdRef) (s : State) :
    (cutReadSatBody b first count dune _c s).touches [.host] s := by
  unfold cutReadSatBody
  extract_lets _
  exact reply_touches_ite _ trivial (touches_guarded _ ((touches_hostWrite ..).le))

theorem touches_execCutReadSat (e : Entry) (b : Buf) (first count dune : Nat) (s : State) :
    nextTouches [.host, .counts, .log] s (execCutReadSat e b first count dune s) := by
  unfold execCutReadSat
  exact touches_serve fun c u => (touches_cutReadSatBody ..).le

theorem touches_loupeListBody (b : Buf) (lane : Nat) (_c : CmdRef) (s : State) : (loupeListBody b lane _c s).touches [.host] s := by
  unfold loupeListBody
  extract_lets _
  exact touches_guarded _ ((touches_hostWrite ..).le)

theorem touches_execLoupeList (e : Entry) (b : Buf) (lane : Nat) (s : State) :
    nextTouches [.host, .counts, .log] s (execLoupeList e b lane s) := by
  unfold execLoupeList
  exact touches_serve fun c u => (touches_loupeListBody ..).le

/-! ### Status registers -/

theorem touches_watch1 (s : State) (n : Pn) (obj : Nat) : State.touches [.counts, .log] s (s.watch1 n obj) := by
  unfold State.watch1
  extract_lets _ _ _ _ _ _
  exact touches_ite _ (touches_refl _ _) ((tells_info ..).touches.after ((touches_refl _ _).set_log))

theorem touches_watchAll (s : State) (n : Pn) (objs : List Nat) : State.touches [.counts, .log] s (s.watchAll n objs) := by
  unfold State.watchAll
  exact touches_foldl (touches_refl _ _) _ fun u a => (touches_watch1 ..).le

theorem touches_watchStatus (s : State) : State.touches [.counts, .log] s (s.watchStatus) := by
  unfold State.watchStatus
  extract_lets lanes s1 cfg s2 s3 s4 s5 s6 s7 s8 s9 s10 s11 s12
  have lanes_touches x0 u : State.touches [.counts, .log] u (lanes x0 u) := (touches_watchAll ..).le
  have h1 : State.touches [.counts, .log] s s1 := (lanes_touches ..).after (lanes_touches ..)
  have cfg_touches x0 u : State.touches [.counts, .log] u (cfg x0 u) := (touches_watchAll ..).le
  have h2 : State.touches [.counts, .log] s s2 := (cfg_touches ..).after ((cfg_touches ..).after h1)
  have h3 : State.touches [.counts, .log] s s3 := (touches_watchAll ..).after h2
  have h4 : State.touches [.counts, .log] s s4 := (touches_watchAll ..).after h3
  have h5 : State.touches [.counts, .log] s s5 := (touches_watch1 ..).after h4
  have h6 : State.touches [.counts, .log] s s6 := (touches_watchAll ..).after h5
  have h7 : State.touches [.counts, .log] s s7 := (touches_watchAll ..).after h6
  have h8 : State.touches [.counts, .log] s s8 := (touches_watch1 ..).after h7
  have h9 : State.touches [.counts, .log] s s9 := (touches_watchAll ..).after h8
  have h10 : State.touches [.counts, .log] s s10 := (cfg_touches ..).after h9
  have h11 : State.touches [.counts, .log] s s11 := (cfg_touches ..).after ((touches_watch1 ..).after h10)
  have h12 : State.touches [.counts, .log] s s12 := (cfg_touches ..).after ((touches_watchAll ..).after h11)
  exact touches_foldl h12 _ fun u a => (touches_watch1 ..).le

theorem touches_writeGets (s : State) (addr k : Nat) (ps : List PId) : State.touches (allBut [.pending]) s (s.writeGets addr k ps) := by
  induction ps generalizing s addr k with
  | nil =>
    rw [State.writeGets]
    exact touches_refl _ _
  | cons x r ih =>
    rw [State.writeGets]
    exact (ih ..).after ((touches_hostWrite ..).after ((touches_parityCheck ..).le))

/-! ### Parameters -/

theorem touches_paramGetBody (b : Buf) (count : Nat) (ids : List PId) (_c : CmdRef) (s : State) :
    (paramGetBody b count ids _c s).touches (allBut [.pending]) s := by
  unfold paramGetBody
  extract_lets _ s1 _
  have h1 : State.touches (allBut [.pending]) s s1 := (touches_writeGets ..).le
  exact reply_touches_ite _ trivial (touches_guarded _ h1.set_free)

theorem touches_execParamGet (e : Entry) (b : Buf) (count : Nat) (ids : List PId) (s : State) :
    nextTouches (allBut [.pending]) s (execParamGet e b count ids s) := by
  unfold execParamGet
  exact touches_serve fun c u => (touches_paramGetBody ..).le

theorem touches_paramDescribeBody (b : Buf) (count : Nat) (ids : List PId) (_c : CmdRef) (s : State) :
    (paramDescribeBody b count ids _c s).touches [.host] s := by
  unfold paramDescribeBody
  extract_lets _
  exact reply_touches_ite _ trivial (touches_guarded _ (touches_checkItems _ _ _ (touches_guarded _ ((touches_hostWrite ..).le))))

theorem touches_execParamDescribe (e : Entry) (b : Buf) (count : Nat) (ids : List PId) (s : State) :
    nextTouches [.host, .counts, .log] s (execParamDescribe e b count ids s) := by
  unfold execParamDescribe
  exact touches_serve fun c u => (touches_paramDescribeBody ..).le

theorem touches_paramSaveBody (_c : CmdRef) (s : State) : (paramSaveBody _c s).touches [.par, .counts, .log] s := by
  unfold paramSaveBody
  extract_lets _
  exact (tells_lifeAdd ..).touches.after ((touches_refl _ _).set_par)

theorem touches_execParamSave (e : Entry) (s : State) : nextTouches [.host, .par, .counts, .log] s (execParamSave e s) := by
  unfold execParamSave
  exact touches_serve fun c u => (touches_paramSaveBody ..).le

theorem touches_putMode (s : State) (l v : Nat) : State.touches [.host, .par, .lanes] s (s.putMode l v) := by
  unfold State.putMode
  exact touches_ite _ (touches_refl _ _) ((touches_setCur ..).after ((touches_modLane ..).after ((touches_stopTests ..).le)))

theorem touches_putRwd (s : State) (n : Pn) (obj v : Nat) : State.touches [.host, .par, .lanes] s (s.putRwd n obj v) := by
  unfold State.putRwd
  extract_lets s1
  have h1 : State.touches [.host, .par, .lanes] s s1 := (touches_setCur ..).le
  split
  · exact (touches_putMode ..).le
  · exact touches_ite _ h1 ((touches_modLane ..).after h1)
  · exact (touches_setCur ..).le

theorem touches_restartBlock (s : State) (b : Block) (obj : Nat) :
    State.touches [.host, .counts, .lanes, .tribs, .obs, .tim, .log] s (s.restartBlock b obj) := by
  unfold State.restartBlock
  extract_lets tx rx
  have tx_touches u : State.touches [.host, .counts, .lanes, .tribs, .obs, .tim, .log] u (tx u) := touches_ite _ (touches_refl _ _)
    ((touches_laneTxOn ..).after ((touches_laneTxOff ..).le))
  have rx_touches u : State.touches [.host, .counts, .lanes, .tribs, .obs, .tim, .log] u (rx u) := touches_ite _ (touches_refl _ _)
    ((touches_laneRxOn ..).after ((touches_laneRxOff ..).le))
  split
  · exact touches_refl _ _
  · exact tx_touches ..
  · exact rx_touches ..
  · exact (rx_touches ..).after (tx_touches ..)
  · exact (touches_disqualify ..).le
  · exact touches_ite _ (touches_refl _ _) ((touches_facetOn ..).after ((touches_facetOff ..).le))
  · exact touches_ite _ (touches_refl _ _) ((touches_cutSwitch ..).after ((touches_modCut ..).le))

theorem touches_bufferedDone (s : State) (id : Nat) (rs : List (CmdRef × Nat)) :
    State.touches [.host, .counts, .log] s (s.bufferedDone id rs) := by
  induction rs generalizing s id with
  | nil =>
    rw [State.bufferedDone]
    exact touches_refl _ _
  | cons x r ih =>
    rw [State.bufferedDone]
    exact (ih ..).after ((touches_settle ..).after ((tells_journalCmd ..).touches.after ((touches_unreserve ..).le)))

theorem touches_applyBuffered (s : State) (b : Buffered) :
    State.touches [.host, .par, .counts, .lanes, .tribs, .obs, .tim, .log] s (s.applyBuffered b) := by
  unfold State.applyBuffered
  extract_lets _ s1 _ s2 s3
  have h1 : State.touches [.host, .par, .counts, .lanes, .tribs, .obs, .tim, .log] s s1 := (touches_refl _ _).set_par
  have h2 : State.touches [.host, .par, .counts, .lanes, .tribs, .obs, .tim, .log] s s2 := (touches_putRwd ..).after h1
  have h3 : State.touches [.host, .par, .counts, .lanes, .tribs, .obs, .tim, .log] s s3 := touches_ite _
    ((touches_restartBlock ..).after h2) h2
  exact (touches_bufferedDone ..).after h3

theorem touches_flushBuffered (s : State) (p : Buffered → Bool) :
    State.touches [.host, .par, .counts, .lanes, .tribs, .obs, .tim, .log] s (s.flushBuffered p) := by
  unfold State.flushBuffered
  exact touches_foldl (touches_refl _ _) _ fun u a => (touches_applyBuffered ..).le

theorem touches_flushDisabled (s : State) :
    State.touches [.host, .par, .counts, .lanes, .tribs, .obs, .tim, .log] s (s.flushDisabled) := by
  unfold State.flushDisabled
  exact (touches_flushBuffered ..).le

theorem touches_putTx (s : State) (l v : Nat) :
    State.touches [.host, .par, .counts, .lanes, .tribs, .obs, .tim, .log] s (s.putTx l v) := by
  unfold State.putTx
  extract_lets s1
  have h1 : State.touches [.host, .par, .counts, .lanes, .tribs, .obs, .tim, .log] s s1 := (touches_setCur ..).le
  exact touches_ite _ (touches_refl _ _) (touches_ite _ ((touches_flushDisabled ..).after ((touches_laneTxOff ..).after h1))
    ((touches_laneTxOn ..).after h1))

theorem touches_putRx (s : State) (l v : Nat) :
    State.touches [.host, .par, .counts, .lanes, .tribs, .obs, .tim, .log] s (s.putRx l v) := by
  unfold State.putRx
  extract_lets s1
  have h1 : State.touches [.host, .par, .counts, .lanes, .tribs, .obs, .tim, .log] s s1 := (touches_setCur ..).le
  exact touches_ite _ (touches_refl _ _) (touches_ite _ ((touches_flushDisabled ..).after ((touches_laneRxOff ..).after h1))
    ((touches_laneRxOn ..).after h1))

theorem touches_putFacetEnable (s : State) (v : Nat) :
    State.touches [.host, .par, .counts, .lanes, .tribs, .obs, .tim, .log] s (s.putFacetEnable v) := by
  unfold State.putFacetEnable
  extract_lets s1
  have h1 : State.touches [.host, .par, .counts, .lanes, .tribs, .obs, .tim, .log] s s1 := (touches_setCur ..).le
  exact touches_ite _ (touches_refl _ _) (touches_ite _ ((touches_flushDisabled ..).after ((touches_facetOff ..).after h1))
    ((touches_facetOn ..).after h1))

theorem touches_putCutEnable (s : State) (d v : Nat) :
    State.touches [.host, .par, .counts, .lanes, .tribs, .obs, .tim, .log] s (s.putCutEnable d v) := by
  unfold State.putCutEnable
  extract_lets s1
  have h1 : State.touches [.host, .par, .counts, .lanes, .tribs, .obs, .tim, .log] s s1 := (touches_cutSwitch ..).after
    ((touches_setCur ..).le)
  exact touches_ite _ (touches_refl _ _) (touches_ite _ ((touches_flushDisabled ..).after h1) h1)

theorem touches_putPairEnable (s : State) (v : Nat) :
    State.touches [.mode, .host, .par, .counts, .sw, .com, .pair, .log] s (s.putPairEnable v) := by
  unfold State.putPairEnable
  extract_lets s1 s2 _ _ s3
  have h1 : State.touches [.mode, .host, .par, .counts, .sw, .com, .pair, .log] s s1 := touches_ite _ ((touches_giveUp ..).le)
    (touches_refl _ _)
  have h2 : State.touches [.mode, .host, .par, .counts, .sw, .com, .pair, .log] s s2 := (touches_setCur ..).after h1
  have h3 : State.touches [.mode, .host, .par, .counts, .sw, .com, .pair, .log] s s3 := h2.upd
  exact touches_ite _ (touches_refl _ _) ((touches_sendFrame ..).after h3)

theorem touches_retrace (s : State) (l : Nat) : State.touches [.lanes, .tribs] s (s.retrace l) := by
  unfold State.retrace
  extract_lets s1
  have h1 : State.touches [.lanes, .tribs] s s1 := (touches_evalTrace ..).le
  exact touches_ite _ ((touches_laneTais ..).after h1) h1

theorem touches_putValue (s : State) (n : Pn) (obj v : Nat) :
    State.touches (allBut [.clk, .free, .dev, .gen, .prot, .jcc, .pow, .flt, .sec, .pending]) s (s.putValue n obj v) := by
  unfold State.putValue
  extract_lets s1 s2
  have h1 : State.touches (allBut [.clk, .free, .dev, .gen, .prot, .jcc, .pow, .flt, .sec, .pending]) s s1 := (touches_setLate ..).le
  have h2 : State.touches (allBut [.clk, .free, .dev, .gen, .prot, .jcc, .pow, .flt, .sec, .pending]) s s2 := (touches_setCur ..).le
  split
  · exact (touches_putTx ..).le
  · exact (touches_putRx ..).le
  · exact (touches_putFacetEnable ..).le
  · exact (touches_putCutEnable ..).le
  · exact (touches_putPairEnable ..).le
  · exact touches_ite _ ((touches_flushDisabled ..).after h1) h1
  · exact (touches_setCur ..).after (touches_ite _ ((touches_flushBuffered ..).le) (touches_refl _ _))
  · exact (touches_retrace ..).after ((touches_setCur ..).le)
  · exact (touches_retrace ..).after ((touches_setCur ..).le)
  · exact (touches_evalTtim ..).after ((touches_setCur ..).le)
  · exact (touches_evalTtim ..).after ((touches_setCur ..).le)
  · exact touches_ite _ ((touches_modLane ..).after h2) h2
  · exact (touches_setLate ..).le
  · exact (touches_setLate ..).le
  · exact (touches_setLate ..).le
  · split
    · exact (touches_load ..).le
    · exact (touches_putRwd ..).le
    · split
      · exact (touches_setLate ..).le
      · exact (touches_setLate ..).le
      · exact (touches_setLate ..).le
      · exact (touches_setCur ..).le

theorem touches_bufferWrite (s : State) (n : Pn) (obj v : Nat) (c : CmdRef) : State.touches [.par, .log] s (s.bufferWrite n obj v c) := by
  unfold State.bufferWrite
  extract_lets _ _ s1 _
  have h1 : State.touches [.par, .log] s s1 := (touches_reserve ..).le
  exact h1.set_par

theorem touches_markEnabled (s : State) (n : Pn) (obj : Nat) : State.touches [.par, .counts, .log] s (s.markEnabled n obj) := by
  unfold State.markEnabled
  extract_lets _
  exact (tells_info ..).touches.after ((touches_refl _ _).set_par)

/-- What a run over the entries of a PARAM.SET leaves, with the marks of a refusal, touches what the values touch. -/
def SetRun.touching (s : State) {ε : Type} (stop : ε → State) (x : Except ε SetRun) : Prop :=
  match x with
  | .error e => State.touches [.mode, .host, .par, .counts, .lanes, .tribs, .sw, .com, .gen, .prot, .obs, .tim, .pair, .log] s (stop e)
  | .ok r => State.touches [.mode, .host, .par, .counts, .lanes, .tribs, .sw, .com, .gen, .prot, .obs, .tim, .pair, .log] s r.s

theorem touching_apply {s : State} (r : SetRun) (base : State) (c : CmdRef) (n : Pn) (obj v : Nat)
    (hr : State.touches [.mode, .host, .par, .counts, .lanes, .tribs, .sw, .com, .gen, .prot, .obs, .tim, .pair, .log] s r.s)
    (hb : State.touches [.mode, .host, .par, .counts, .lanes, .tribs, .sw, .com, .gen, .prot, .obs, .tim, .pair, .log] s base) :
    SetRun.touching s SetStop.s (r.apply base c n obj v) := by
  unfold SetRun.apply
  dsimp only
  split
  · exact hb
  · split
    · exact (touches_markEnabled ..).after hb
    · split
      · exact hb
      · split
        · exact hb
        · split
          · exact (touches_bufferWrite ..).after hr
          · exact (touches_putValue ..).after hr

theorem touching_entry {s : State} (r : SetRun) (base : State) (c : CmdRef) (e : ParamEntry)
    (hr : State.touches [.mode, .host, .par, .counts, .lanes, .tribs, .sw, .com, .gen, .prot, .obs, .tim, .pair, .log] s r.s)
    (hb : State.touches [.mode, .host, .par, .counts, .lanes, .tribs, .sw, .com, .gen, .prot, .obs, .tim, .pair, .log] s base) :
    SetRun.touching s SetStop.s (r.entry base c e) := by
  have hlock := (touches_lock base).after hb
  have hmark : State.touches [.mode, .host, .par, .counts, .lanes, .tribs, .sw, .com, .gen, .prot, .obs, .tim, .pair, .log] s
    (if r.keyed then base.lock else base) := touches_ite _ hlock hb
  unfold SetRun.entry
  dsimp only
  generalize (if r.keyed then base.lock else base) = b at hmark
  split
  · exact hmark
  · split
    · exact hmark
    · split
      · exact hmark
      · split
        · exact hmark
        · split
          · split
            · exact hmark
            · split
              · exact hlock
              · exact touching_apply _ _ _ _ _ _ ((touches_lock ..).after hr) hlock
          · exact touching_apply _ _ _ _ _ _ hr hmark

theorem touching_all {s : State} (r : SetRun) (base : State) (c : CmdRef) (k : Nat) (es : List ParamEntry)
    (hr : State.touches [.mode, .host, .par, .counts, .lanes, .tribs, .sw, .com, .gen, .prot, .obs, .tim, .pair, .log] s r.s)
    (hb : State.touches [.mode, .host, .par, .counts, .lanes, .tribs, .sw, .com, .gen, .prot, .obs, .tim, .pair, .log] s base) :
    SetRun.touching s (fun x => x.1.s) (r.all base c k es) := by
  induction es generalizing r k with
  | nil => exact hr
  | cons e rest ih =>
    have hentry := touching_entry r base c e hr hb
    rw [SetRun.all]
    split
    · next h => rw [h] at hentry; exact hentry
    · next h => rw [h] at hentry; exact ih _ _ hentry

theorem touches_setParams (es : List ParamEntry) (c : CmdRef) (s : State) :
    (setParams es c s).touches [.mode, .host, .par, .counts, .lanes, .tribs, .sw, .com, .gen, .prot, .obs, .tim, .pair, .log] s := by
  have hall := touching_all { s := { s with prot := { s.prot with waits := (s.clk.rsn, c, 0) :: s.prot.waits } } } s c 0 es
    touches_upd (touches_refl ..)
  unfold setParams
  dsimp only
  split
  · next h => rw [h] at hall; exact hall
  · next r h =>
    rw [h] at hall
    refine reply_touches_ite _ ?_ (reply_touches_ite _ hall.upd hall.upd)
    exact touches_ite _ (touches_lock ..).le (touches_refl ..)

theorem touches_paramSetBody (b : Buf) (count : Nat) (entries : List ParamEntry) (c : CmdRef) (s : State) :
    (paramSetBody b count entries c s).touches (allBut [.clk, .free, .dev, .jcc, .pow, .flt, .sec, .pending]) s := by
  unfold paramSetBody
  exact reply_touches_ite _ trivial (touches_guarded _ ((touches_setParams ..).le))

theorem touches_execParamSet (e : Entry) (b : Buf) (count : Nat) (entries : List ParamEntry) (s : State) :
    nextTouches (allBut [.clk, .free, .dev, .jcc, .pow, .flt, .sec, .pending]) s (execParamSet e b count entries s) := by
  unfold execParamSet
  exact touches_serve fun c u => (touches_paramSetBody ..).le

theorem touches_execLaneTxEnable (e : Entry) (lane v : Nat) (s : State) :
    nextTouches (allBut [.clk, .free, .dev, .jcc, .pow, .flt, .sec, .pending]) s (execLaneTxEnable e lane v s) := by
  unfold execLaneTxEnable
  exact touches_serve fun c u => (touches_setParams ..).le

theorem touches_execLaneRxEnable (e : Entry) (lane v : Nat) (s : State) :
    nextTouches (allBut [.clk, .free, .dev, .jcc, .pow, .flt, .sec, .pending]) s (execLaneRxEnable e lane v s) := by
  unfold execLaneRxEnable
  exact touches_serve fun c u => (touches_setParams ..).le

theorem touches_execRxAdaptRestart (e : Entry) (lane : Nat) (s : State) :
    nextTouches (allBut [.clk, .free, .dev, .jcc, .pow, .flt, .sec, .pending]) s (execRxAdaptRestart e lane s) := by
  unfold execRxAdaptRestart
  exact touches_serve fun c u => (touches_setParams ..).le

theorem touches_execFacetEnable (e : Entry) (v : Nat) (s : State) :
    nextTouches (allBut [.clk, .free, .dev, .jcc, .pow, .flt, .sec, .pending]) s (execFacetEnable e v s) := by
  unfold execFacetEnable
  exact touches_serve fun c u => (touches_setParams ..).le

theorem touches_execCutEnable (e : Entry) (dune v : Nat) (s : State) :
    nextTouches (allBut [.clk, .free, .dev, .jcc, .pow, .flt, .sec, .pending]) s (execCutEnable e dune v s) := by
  unfold execCutEnable
  exact touches_serve fun c u => (touches_setParams ..).le

theorem touches_execPairEnableWrite (e : Entry) (v : Nat) (s : State) :
    nextTouches (allBut [.clk, .free, .dev, .jcc, .pow, .flt, .sec, .pending]) s (execPairEnableWrite e v s) := by
  unfold execPairEnableWrite
  exact touches_serve fun c u => (touches_setParams ..).le

theorem touches_execLegacyWriteApply (n : Pn) (obj : Nat) (s : State) :
    nextTouches [.host, .par, .counts, .lanes, .tribs, .obs, .tim, .log] s (execLegacyWriteApply n obj s) := by
  unfold execLegacyWriteApply
  extract_lets _
  split
  · exact (touches_applyBuffered ..).le
  · exact touches_refl _ _

/-! ### The live copy -/

theorem touches_copyTribs (s : State) (ts : List (Nat × Nat × List Nat × Bool)) : State.touches [.free, .tribs] s (s.copyTribs ts) := by
  unfold State.copyTribs
  extract_lets s1
  have h1 : State.touches [.free, .tribs] s s1 := (touches_refl _ _).set_tribs
  exact touches_foldl h1 _ fun u a => touches_ite _ (touches_refl _ _) ((touches_makeTrib ..).le)

theorem touches_copyParam (s : State) (vals : Table Nat) (key : Nat) :
    State.touches (allBut [.clk, .free, .dev, .gen, .prot, .jcc, .pow, .flt, .sec, .pending]) s (s.copyParam vals key) := by
  unfold State.copyParam
  extract_lets _ _ _
  exact touches_ite _ (touches_refl _ _) ((touches_putValue ..).le)

theorem touches_copyParams (s : State) (vals : Table Nat) :
    State.touches (allBut [.clk, .free, .dev, .gen, .prot, .jcc, .pow, .flt, .sec, .pending]) s (s.copyParams vals) := by
  unfold State.copyParams
  extract_lets _ _ _ _
  exact touches_foldl (touches_refl _ _) _ fun u a => (touches_copyParam ..).le

theorem touches_execLiveCopyMessage (m : LiveMsg) (s : State) :
    nextTouches (allBut [.clk, .dev, .gen, .jcc, .pow, .flt, .sec, .pending]) s (execLiveCopyMessage m s) := by
  unfold execLiveCopyMessage
  extract_lets _ s1 _
  have h1 : State.touches (allBut [.clk, .dev, .gen, .jcc, .pow, .flt, .sec, .pending]) s s1 := (touches_refl _ _).set_prot
  dsimp only
  split
  · split
    · exact nextTouches_ite _ ((touches_copyParams ..).le) (touches_refl _ _)
    · exact nextTouches_ite _ ((touches_copyTribs ..).le) (touches_refl _ _)
    · exact nextTouches_ite _ (touches_foldl h1 _ fun u a => (touches_addPair ..).le) (touches_refl _ _)
    · exact nextTouches_ite _ ((touches_refl _ _).set_pair) (touches_refl _ _)
    · exact nextTouches_ite _ (touches_refl _ _) ((touches_copyBank ..).le)
    · exact nextTouches_ite _ (touches_refl _ _) ((touches_copyBank ..).after ((touches_refl _ _).set_pair))
    · exact nextTouches_ite _ (touches_refl _ _) ((touches_storeTable ..).le.set_com)
  · exact touches_refl _ _

/-! ### Security -/

theorem touches_fwInfoBody (b : Buf) (c : CmdRef) (s : State) : (fwInfoBody b c s).touches [.host] s := by
  unfold fwInfoBody
  exact reply_touches_ite _ ((touches_respond ..).le) (touches_guarded _ ((touches_hostWrite ..).le))

theorem touches_execFwInfo (e : Entry) (b : Buf) (s : State) : nextTouches [.host, .counts, .log] s (execFwInfo e b s) := by
  unfold execFwInfo
  exact touches_serve fun c u => (touches_fwInfoBody ..).le

theorem touches_fwLoadBody (b : Buf) (offset total : Nat) (image : Image) (c : CmdRef) (s : State) :
    (fwLoadBody b offset total image c s).touches [.counts, .log, .sec] s := by
  unfold fwLoadBody
  extract_lets _ s1 _ s2 s3 _ _
  have h1 : State.touches [.counts, .log, .sec] s s1 := touches_ite _ ((touches_setSlot ..).le) ((tells_lifeAdd ..).touches.le)
  have h2 : State.touches [.counts, .log, .sec] s s2 := h1.set_sec
  have h3 : State.touches [.counts, .log, .sec] s s3 := (touches_setSlot ..).after h2
  exact touches_guarded _ (reply_touches_ite _ h1.set_sec (by
    split
    · exact h2
    · exact h3.set_sec))

theorem touches_execFwLoad (e : Entry) (b : Buf) (offset total : Nat) (image : Image) (s : State) :
    nextTouches [.host, .counts, .log, .sec] s (execFwLoad e b offset total image s) := by
  unfold execFwLoad
  exact touches_serve fun c u => (touches_fwLoadBody ..).le

theorem touches_makeTrial (s : State) (k : Nat) : State.touches [.counts, .log, .sec] s (s.makeTrial k) := by
  unfold State.makeTrial
  extract_lets _ s1 _
  have h1 : State.touches [.counts, .log, .sec] s s1 := (touches_setSlot ..).le
  exact h1.set_sec

theorem touches_fwActivateBody (bursts : List Burst) (_c : CmdRef) (s : State) :
    (fwActivateBody bursts _c s).touches (allBut [.clk, .free, .gen, .flt, .pending]) s := by
  unfold fwActivateBody
  split
  · exact trivial
  · split
    · exact trivial
    · exact touches_guarded _ (by
        split
        · exact trivial
        · exact fun u => (touches_autoMode ..).after ((touches_warm ..).after ((touches_makeTrial ..).le)))

theorem touches_execFwActivate (e : ResetEntry) (s : State) :
    nextTouches (allBut [.clk, .free, .gen, .flt, .pending]) s (execFwActivate e s) := by
  unfold execFwActivate
  exact touches_serve fun c u => (touches_fwActivateBody ..).le

theorem touches_fwRestartBody (_c : CmdRef) (s : State) : (fwRestartBody _c s).touches (allBut [.free, .pending]) s := by
  unfold fwRestartBody
  split
  · exact trivial
  · exact reply_touches_ite _ (fun u => (touches_fullReset ..).after ((touches_makeTrial ..).le)) trivial

theorem touches_execFwRestart (e : Entry) (s : State) : nextTouches (allBut [.free, .pending]) s (execFwRestart e s) := by
  unfold execFwRestart
  exact touches_serve fun c u => (touches_fwRestartBody ..).le

theorem touches_secIdentityBody (b : Buf) (_c : CmdRef) (s : State) : (secIdentityBody b _c s).touches [.host] s := by
  unfold secIdentityBody
  exact touches_guarded _ ((touches_hostWrite ..).le)

theorem touches_execSecIdentity (e : Entry) (b : Buf) (s : State) : nextTouches [.host, .counts, .log] s (execSecIdentity e b s) := by
  unfold execSecIdentity
  exact touches_serve fun c u => (touches_secIdentityBody ..).le

theorem touches_secHallmarkBody (b : Buf) (nonce : List Byte) (_c : CmdRef) (s : State) :
    (secHallmarkBody b nonce _c s).touches [.host] s := by
  unfold secHallmarkBody
  exact touches_guarded _ ((touches_hostWrite ..).le)

theorem touches_execSecHallmark (e : Entry) (b : Buf) (nonce : List Byte) (s : State) :
    nextTouches [.host, .counts, .log] s (execSecHallmark e b nonce s) := by
  unfold execSecHallmark
  exact touches_serve fun c u => (touches_secHallmarkBody ..).le

theorem touches_closeOthers (s : State) (role : Nat) (c : CmdRef) :
    State.touches [.mode, .host, .par, .counts, .lanes, .com, .prot, .tim, .pair, .pow, .log] s (s.closeOthers role c) := by
  unfold State.closeOthers
  exact touches_foldl (touches_refl _ _) _ fun u a => touches_ite _ ((touches_closeSession ..).le) (touches_refl _ _)

theorem touches_setKey (s : State) (role : Nat) (key : BitVec 384) : State.touches [.sec] s (s.setKey role key) := by
  unfold State.setKey
  extract_lets _
  exact (touches_refl _ _).set_sec

theorem touches_secKeySetBody (b : Buf) (role : Nat) (masked confirm : BitVec 384) (c : CmdRef) (s : State) :
    (secKeySetBody b role masked confirm c s).touches (allBut [.clk, .free, .dev, .tribs, .sw, .gen, .obs, .jcc, .flt, .pending]) s := by
  unfold secKeySetBody
  dsimp only
  split
  · exact trivial
  · exact touches_guarded _ ((touches_closeOthers ..).after ((touches_setKey ..).le))

theorem touches_execSecKeySet (e : Entry) (b : Buf) (role : Nat) (masked confirm : BitVec 384) (s : State) :
    nextTouches (allBut [.clk, .free, .dev, .tribs, .sw, .gen, .obs, .jcc, .flt, .pending]) s
      (execSecKeySet e b role masked confirm s) := by
  unfold execSecKeySet
  exact touches_reapAfter (touches_serve fun c u => (touches_secKeySetBody ..).le)

theorem touches_execBoundaryScanInstruction (op : ScanOp) (s : State) : nextTouches [.dev] s (execBoundaryScanInstruction op s) := by
  unfold execBoundaryScanInstruction
  extract_lets _
  exact (touches_refl _ _).set_dev

theorem touches_execJtagPortReset (bursts : List Burst) (s : State) :
    nextTouches [.dev, .counts, .jcc, .log] s (execJtagPortReset bursts s) := by
  unfold execJtagPortReset
  extract_lets _ s1
  have h1 : State.touches [.dev, .counts, .jcc, .log] s s1 := (touches_refl _ _).set_dev
  exact (tells_tornWrites ..).touches.after ((touches_dropSems ..).after h1)

/-! ### Egress rows -/

theorem touches_modInst (s : State) (key : Nat) (f : InstTx → InstTx) : State.touches [.sw] s (s.modInst key f) := by
  unfold State.modInst
  extract_lets _
  exact (touches_refl _ _).set_sw

theorem touches_reloadPathTrace (s : State) (due : Bool) : State.touches [.tribs] s (s.reloadPathTrace due) := by
  unfold State.reloadPathTrace
  extract_lets _
  exact (touches_refl _ _).set_tribs

theorem touches_startInsts (s : State) : State.touches [.lanes, .sw] s (s.startInsts) := by
  unfold State.startInsts
  extract_lets _ _
  exact touches_upd

theorem touches_sentNew (s : State) (k m : Nat) : State.touches [.counts, .tribs, .log] s (s.sentNew k m) := by
  unfold State.sentNew
  extract_lets _
  exact touches_ite _ (touches_refl _ _) ((tells_bump ..).touches.after ((touches_setTrib ..).le))

theorem touches_runInst (s : State) (n : Rsn) (i : Inst) (quiet : Bool) (torn : List Nat) :
    State.touches [.counts, .tribs, .sw, .log] s (s.runInst n i quiet torn).1 := by
  unfold State.runInst
  dsimp only
  split
  · exact (touches_modInst ..).after (touches_ite _ (touches_sentNew ..).le (touches_refl ..))
  · exact touches_refl ..

theorem touches_runInsts (s : State) (n : Rsn) (is : List Inst) (quiet : Bool) (torn : List Nat) (t : Table (BitVec 64)) :
    State.touches [.counts, .tribs, .sw, .log] s (s.runInsts n is quiet torn t).1 := by
  induction is generalizing s t with
  | nil => exact touches_refl ..
  | cons i r ih => exact (ih ..).after (touches_runInst ..)

theorem touches_loadTraces (s : State) : State.touches [.lanes, .tribs] s (s.loadTraces) := by
  unfold State.loadTraces
  extract_lets _ _ s1
  have h1 : State.touches [.lanes, .tribs] s s1 := touches_ite _ (touches_foldl (touches_refl _ _) _ fun u a => (touches_modLane ..).le)
    (touches_refl _ _)
  exact touches_ite _ ((touches_reloadPathTrace ..).after h1) h1

theorem touches_sendRow (s : State) (l : Nat) (n : Rsn) (validity : Byte) (slots : Table (BitVec 64)) (c : RowContent) :
    State.touches [.counts, .lanes, .log] s (s.sendRow l n validity slots c) := by
  unfold State.sendRow
  extract_lets _ _ _
  exact (tells_perf ..).touches.after ((tells_perf ..).touches.after ((touches_setLane ..).le))

theorem touches_contentRow (s : State) (n : Rsn) (l : Nat) (aiso : Bool) (gs : List (Nat × GrainOut)) :
    State.touches [.counts, .lanes, .tribs, .sw, .log] s (s.contentRow n l aiso gs) := by
  unfold State.contentRow
  dsimp only
  have h1 : State.touches [.counts, .lanes, .tribs, .sw, .log] s
      (s.runInsts n (s.instsOf l) (aiso || s.txDoubt l) ((gs.filter fun x => x.2.torn).map (·.1)) []).1 := (touches_runInsts ..).le
  have h2 := (touches_modLane _ l fun x => { x with test := { x.test with gen := 0 } }).after h1
  exact touches_ite _ ((tells_perf ..).touches.after ((touches_sendRow ..).after h2)) ((touches_sendRow ..).after h2)

theorem touches_lineRow (s : State) (n : Rsn) (l : Nat) : State.touches [.lanes] s (s.lineRow n l) := by
  unfold State.lineRow
  extract_lets _ _ _
  exact (touches_modLane ..).le

theorem touches_payloadRow (s : State) (n : Rsn) (l : Nat) : State.touches [.counts, .lanes, .log] s (s.payloadRow n l) := by
  unfold State.payloadRow
  extract_lets _
  exact (touches_sendRow ..).after ((touches_modLane ..).le)

theorem touches_farRow (s : State) (n : Rsn) (l : Nat) : State.touches [.lanes] s (s.farRow n l) := by
  unfold State.farRow
  extract_lets _ _ _ _
  dsimp only
  split
  · exact (touches_setLane ..).le
  · exact (touches_setLane ..).le

theorem touches_egressLane (s : State) (n : Rsn) (l : Nat) (gs : List (Nat × GrainOut)) :
    State.touches [.counts, .lanes, .tribs, .sw, .log] s (s.egressLane n l gs) := by
  unfold State.egressLane
  split
  · exact (touches_contentRow ..).le
  · exact (touches_contentRow ..).le
  · exact (touches_payloadRow ..).le
  · exact (touches_lineRow ..).le
  · exact (touches_farRow ..).le

theorem touches_misEvent (s : State) (d : Nat) (m : Mismatch) : State.touches [.counts, .log] s (s.misEvent d m) := by
  unfold State.misEvent
  exact (tells_alarmEvent ..).touches.le

theorem touches_misEvents (s : State) (d : Nat) (ms : List Mismatch) : State.touches [.counts, .log] s (s.misEvents d ms) := by
  unfold State.misEvents
  extract_lets s1
  have h1 : State.touches [.counts, .log] s s1 := touches_foldl (touches_refl _ _) _ fun u a => (touches_misEvent ..).le
  exact touches_ite _ ((tells_alarmEvent ..).touches.after h1) h1

theorem touches_misPersist (s : State) (d : Nat) : State.touches [.counts, .flt, .log] s (s.misPersist d) := by
  unfold State.misPersist
  exact touches_ite _ ((tells_bump ..).touches.after ((touches_markRec ..).le)) (touches_refl _ _)

theorem touches_duneRow (s : State) (d : Nat) (ms : List Mismatch) (fqWords : Nat) (misRow fqRow : Bool) :
    State.touches (allBut [.pending]) s (s.duneRow d ms fqWords misRow fqRow) := by
  unfold State.duneRow
  extract_lets _ _ _ _ s1 s2 s3 s4 _ s5 s6
  have h1 : State.touches (allBut [.pending]) s s1 := (touches_modDune ..).le
  have h2 : State.touches (allBut [.pending]) s s2 := (tells_bump ..).touches.after ((tells_bump ..).touches.after h1)
  have h3 : State.touches (allBut [.pending]) s s3 := (tells_bump ..).touches.after ((tells_bump ..).touches.after h2)
  have h4 : State.touches (allBut [.pending]) s s4 := (touches_misEvents ..).after ((tells_perf ..).touches.after
    ((tells_perf ..).touches.after h3))
  have h5 : State.touches (allBut [.pending]) s s5 := touches_ite _ ((touches_detect ..).after h4) h4
  have h6 : State.touches (allBut [.pending]) s s6 := touches_ite _ ((touches_detect ..).after h5) h5
  exact (touches_misPersist ..).after h6

theorem touches_silentInsts (s : State) (ls : List Nat) : State.touches [.lanes, .sw] s (s.silentInsts ls) := by
  unfold State.silentInsts
  extract_lets _ _ _
  exact touches_upd

theorem touches_countReads (s : State) (l : Nat) : State.touches [.counts, .log] s (s.countReads l) := by
  unfold State.countReads
  extract_lets _ _
  exact (tells_perf ..).touches.after ((tells_perf ..).touches.le)

theorem touches_holdAnnounce (s : State) (m k : Nat) : State.touches [.tribs] s (s.holdAnnounce m k) := by
  unfold State.holdAnnounce
  extract_lets _
  exact (touches_setTrib ..).le

theorem touches_startPmfOut (s : State) (n : Rsn) (ls : List Nat) : State.touches [.lanes, .tribs, .sw] s (s.startPmfOut n ls) := by
  unfold State.startPmfOut
  extract_lets s1
  have h1 : State.touches [.lanes, .tribs, .sw] s s1 := (touches_startInsts ..).le
  exact touches_ite _ (touches_foldl h1 _ fun u a => (touches_holdAnnounce ..).le) (touches_refl _ _)

theorem touches_duneRows (s : State) (ls : List Nat) (mis : List Mismatch) (fq : List (Nat × Nat)) :
    State.touches (allBut [.pending]) s (s.duneRows ls mis fq) := by
  unfold State.duneRows
  extract_lets _ _
  exact touches_foldl (touches_refl _ _) _ fun u a => (touches_duneRow ..).le

theorem touches_egressRow (s : State) (n : Rsn) : State.touches (allBut [.pending]) s (s.egressRow n) := by
  unfold State.egressRow
  extract_lets _ s1 _ _ _ s2 s3 _ _ s4
  have h1 : State.touches (allBut [.pending]) s s1 := (touches_reloadPathTrace ..).after ((touches_silentInsts ..).after
    ((touches_startPmfOut ..).le))
  have h2 : State.touches (allBut [.pending]) s s2 := touches_foldl h1 _ fun u a => (touches_countReads ..).le
  have h3 : State.touches (allBut [.pending]) s s3 := touches_foldl h2 _ fun u a => (touches_egressLane ..).le
  have h4 : State.touches (allBut [.pending]) s s4 := h3.set_obs
  exact (touches_duneRows ..).after h4

theorem touches_execMisrouteDefectClear (dune : Fin 64) (unselected : Bool) (s : State) :
    nextTouches [.sw] s (execMisrouteDefectClear dune unselected s) := by
  unfold execMisrouteDefectClear
  extract_lets _
  exact nextTouches_ite _ (touches_ite _ ((touches_modDune ..).le) (touches_refl _ _)) (touches_ite _ ((touches_modDune ..).le)
    (touches_refl _ _))

/-! ### The matrix -/

theorem touches_paramWord (s : State) (n : Pn) (obj k : Nat) (v : BitVec 32) :
    State.touches (allBut [.clk, .free, .dev, .gen, .prot, .jcc, .pow, .flt, .sec, .pending]) s (s.paramWord n obj k v) := by
  unfold State.paramWord
  extract_lets _ _
  exact touches_ite _ (touches_refl _ _) ((touches_putValue ..).le)

theorem touches_portWord (s : State) (k : Nat) (v : BitVec 32) : State.touches [.counts, .jcc, .log] s (s.portWord k v) := by
  unfold State.portWord
  extract_lets _ _ s1 _
  have h1 : State.touches [.counts, .jcc, .log] s s1 := (touches_refl _ _).set_jcc
  exact touches_ite _ ((tells_pushRec ..).touches.after h1) h1

theorem touches_segWrite (s : State) (m k : Nat) (f : Segment → Segment) : State.touches [.jcc] s (s.segWrite m k f) := by
  unfold State.segWrite
  extract_lets _ _
  exact touches_ite _ ((touches_refl _ _).set_jcc) (touches_refl _ _)

theorem touches_innerWrite (s : State) (m : Nat) (r : InnerReg) (v : BitVec 32) :
    State.touches (allBut [.clk, .free, .dev, .gen, .prot, .pow, .flt, .sec, .pending]) s (s.innerWrite m r v) := by
  unfold State.innerWrite
  extract_lets _
  split
  · exact touches_ite _ ((touches_refl _ _).set_jcc) (touches_refl _ _)
  · exact (touches_segWrite ..).le
  · exact (touches_segWrite ..).le
  · exact (touches_segWrite ..).le
  · exact (touches_portWord ..).le
  · exact (touches_paramWord ..).le
  · exact touches_refl _ _
  · exact touches_refl _ _
  · exact touches_refl _ _
  · exact touches_refl _ _

theorem touches_semWrite (s : State) (m k : Nat) : State.touches [.jcc] s (s.semWrite m k) := by
  unfold State.semWrite
  extract_lets _
  exact touches_ite _ ((touches_refl _ _).set_jcc) (touches_refl _ _)

theorem touches_regWrite (s : State) (m off : Nat) (v : BitVec 32) : State.touches (allBut [.free, .pending]) s (s.regWrite m off v) := by
  unfold State.regWrite
  exact touches_ite _ ((touches_unlockReg ..).le) (touches_ite _ ((touches_recoverReg ..).le) (touches_ite _ (nextTouches_nextOf
    ((touches_execEvtHeadWrite ..).le)) (touches_ite _ (nextTouches_nextOf ((touches_execJrnHeadWrite ..).le)) (touches_ite _
    (nextTouches_nextOf ((touches_execFacHeadWrite ..).le)) (touches_ite _ (touches_refl _ _) (touches_ite _ (nextTouches_nextOf
    ((touches_execDoorbellWrite ..).le)) (touches_ite _ (touches_ite _ ((touches_cmdWrite ..).le) (touches_ite _ (nextTouches_nextOf
    ((touches_execMailboxGo ..).le)) (touches_refl _ _))) (touches_ite _ ((touches_msixWrite ..).le) (touches_ite _
    ((touches_semWrite ..).le) (touches_ite _ ((touches_innerWrite ..).le) (touches_refl _ _)))))))))))

theorem touches_applyBatch (s : State) (j : Nat) : State.touches (allBut [.free, .pending]) s (s.applyBatch j) := by
  unfold State.applyBatch
  extract_lets _ _ _ _ s1
  have h1 : State.touches (allBut [.free, .pending]) s s1 := (touches_refl _ _).set_jcc
  exact touches_ite _ ((touches_errorTo ..).after h1) (touches_foldl h1 _ fun u a => (touches_regWrite ..).le)

theorem touches_queueWrite (s : State) (j : Nat) (w : RegWrite) : State.touches [.jcc] s (s.queueWrite j w) := by
  unfold State.queueWrite
  extract_lets _
  exact (touches_refl _ _).set_jcc

theorem touches_spaceWrite (s : State) (m off : Nat) (v : BitVec 32) :
    State.touches (allBut [.free, .pending]) s (s.spaceWrite m off v) := by
  unfold State.spaceWrite
  extract_lets _ _
  exact touches_ite _ (by
    split
    · exact (touches_refl _ _).set_jcc
    · exact (touches_queueWrite ..).le
    · exact (touches_applyBatch ..).le
    · exact touches_refl _ _) ((touches_regWrite ..).le)

theorem touches_sramError (s : State) (m off : Nat) : State.touches (allBut [.pending]) s (s.sramError m off) := by
  unfold State.sramError
  exact (touches_detect ..).after ((touches_errorTo ..).le)

theorem touches_semAcquire (s : State) (m k : Nat) : State.touches [.jcc] s (s.semAcquire m k) := by
  unfold State.semAcquire
  extract_lets _
  exact touches_ite _ (touches_refl _ _) ((touches_refl _ _).set_jcc)

theorem touches_spaceRead (s : State) (m off : Nat) : State.touches [.free, .host, .jcc] s (s.spaceRead m off) := by
  unfold State.spaceRead
  exact touches_ite _ ((touches_latchRsn ..).le) (touches_ite _ ((touches_semAcquire ..).le) (touches_ite _ ((touches_drawn ..).le)
    (touches_refl _ _)))

theorem touches_readByte (s : State) (m a : Nat) : State.touches (allBut [.pending]) s (s.readByte m a).2 := by
  have hhit : State.touches (allBut [.pending]) s (s.defaultHit m a) := (touches_defaultHit ..).le
  unfold State.readByte
  dsimp only
  split
  · exact hhit
  · split
    · exact touches_refl ..
    · split
      · exact (touches_sramError ..).le
      · exact touches_refl ..
    · exact touches_refl ..
    · exact touches_refl ..
    · split
      · exact hhit
      · split
        · exact touches_refl ..
        · exact (tells_bump ..).touches.after hhit
    · exact (touches_drawn ..).le

theorem touches_endWord (s : State) (m a n : Nat) : State.touches [.free, .host, .jcc] s (s.endWord m a n) := by
  unfold State.endWord
  split
  · exact touches_ite _ ((touches_spaceRead ..).le) (touches_refl _ _)
  · exact touches_refl _ _

theorem touches_readBytes (s : State) (m a n : Nat) : State.touches (allBut [.pending]) s (s.readBytes m a n).2 := by
  induction n generalizing s a with
  | zero => exact touches_refl ..
  | succ k ih =>
    have hbyte := touches_readByte s m a
    rw [State.readBytes]
    split
    · next h => rw [h] at hbyte; exact hbyte
    · next u h =>
      rw [h] at hbyte
      have hrest := (ih (u.endWord m a k) (a + 1)).after ((touches_endWord ..).after hbyte)
      split
      · next h => rw [h] at hrest; exact hrest
      · next h => rw [h] at hrest; exact hrest

theorem touches_sramWrite (s : State) (m al off : Nat) (bs : List Byte) :
    State.touches (allBut [.pending]) s (s.sramWrite m al off bs).2 := by
  unfold State.sramWrite
  dsimp only
  split
  · exact (touches_sramError ..).le
  · exact touches_of_having rfl ⟨fun hw => ⟨hw.1, Table.wf_setRun _ _ hw.2⟩, le_rfl, fun _ h => h⟩

theorem touches_regWords (s : State) (m off : Nat) (bs : List Byte) :
    State.touches (allBut [.pending]) s (s.regWords m off bs) := by
  fun_induction State.regWords s m off bs with
  | case1 s off a b c d r ih => exact ih.after (touches_spaceWrite ..).le
  | case2 => exact touches_refl ..

theorem touches_writeBeat (s : State) (m a : Nat) (bs : List Byte) : State.touches (allBut [.pending]) s (s.writeBeat m a bs).2 := by
  have hhit : State.touches (allBut [.pending]) s (s.defaultHit m a) := (touches_defaultHit ..).le
  unfold State.writeBeat
  dsimp only
  split
  · exact hhit
  · split
    · exact hhit
    · exact hhit
    · exact hhit
    · exact touches_sramWrite ..
    · split
      · exact (touches_regWords ..).le
      · exact touches_refl ..
    · split
      · exact hhit
      · split
        · exact (touches_hostWrite ..).le
        · exact (tells_bump ..).touches.after hhit
    · exact touches_refl ..

theorem touches_request (s : State) : State.touches [.jcc] s (s.request) := by
  unfold State.request
  extract_lets _
  exact (touches_refl _ _).set_jcc

theorem touches_execRegisterWrite (master : Fin 14) (addr : Nat) (bytes : List Byte) (s : State) :
    nextTouches (allBut [.pending]) s (execRegisterWrite master addr bytes s) := by
  unfold execRegisterWrite
  extract_lets _ _ _ _
  exact nextTouches_ite _ ((touches_writeBeat ..).after ((touches_request ..).after ((touches_granted ..).le))) (touches_refl _ _)

theorem touches_execSemaphoreRead (master : Fin 14) (sem : Fin 64) (s : State) :
    nextTouches [.counts, .pair, .jcc, .log] s (execSemaphoreRead master sem s) := by
  unfold execSemaphoreRead
  extract_lets _ _ s1 s2 _ s3 _
  have h1 : State.touches [.counts, .pair, .jcc, .log] s s1 := touches_ite _ ((touches_granted ..).le) (touches_refl _ _)
  have h2 : State.touches [.counts, .pair, .jcc, .log] s s2 := (touches_request ..).after h1
  have h3 : State.touches [.counts, .pair, .jcc, .log] s s3 := (touches_semAcquire ..).after h2
  exact nextTouches_ite _ h1 (nextTouches_ite _ ((touches_defaultHit ..).after ((touches_request ..).after h1)) h3.set_jcc)

theorem touches_execSemaphoreWrite (master : Fin 14) (sem : Fin 64) (s : State) :
    nextTouches [.counts, .pair, .jcc, .log] s (execSemaphoreWrite master sem s) := by
  unfold execSemaphoreWrite
  extract_lets _ s1
  have h1 : State.touches [.counts, .pair, .jcc, .log] s s1 := touches_ite _ ((touches_granted ..).le) (touches_refl _ _)
  exact nextTouches_ite _ h1 (nextTouches_ite _ ((touches_defaultHit ..).after ((touches_request ..).after h1))
    ((touches_semWrite ..).after ((touches_request ..).after h1)))

theorem touches_execApplyBatch (j : Fin 2) (writes : List RegWrite) (s : State) :
    nextTouches (allBut [.free, .pending]) s (execApplyBatch j writes s) := by
  unfold execApplyBatch
  exact nextTouches_ite _ ((touches_applyBatch ..).after (touches_foldl ((touches_request ..).after
    ((touches_granted ..).le)) _ fun u a => (touches_queueWrite ..).le)) (touches_refl _ _)

theorem touches_execRemapWrite (j : Fin 2) (fromRom : Bool) (s : State) : nextTouches [.jcc] s (execRemapWrite j fromRom s) := by
  unfold execRemapWrite
  extract_lets _
  exact nextTouches_ite _ ((touches_refl _ _).set_jcc) (touches_refl _ _)

theorem touches_dmaBeats (s : State) (m src dst i n : Nat) : State.touches (allBut [.pending]) s (s.dmaBeats m src dst i n).2 := by
  induction n generalizing s src dst i with
  | zero => exact touches_refl ..
  | succ k ih =>
    rw [State.dmaBeats]
    have h1 : State.touches (allBut [.pending]) s (if i % 16 = 0 then (s.granted m src).granted m dst else s) :=
      touches_ite _ ((touches_granted ..).after (touches_granted ..).le) (touches_refl ..)
    generalize (if i % 16 = 0 then (s.granted m src).granted m dst else s) = u at h1
    have hread := (touches_readBytes u m src 16).after h1
    split
    · next h => rw [h] at hread; exact hread
    · next bs v h =>
      rw [h] at hread
      have hwrite := (touches_writeBeat v m dst bs).after hread
      split
      · next h => rw [h] at hwrite; exact hwrite
      · next h =>
        rw [h] at hwrite
        exact (ih ..).after ((tells_perf ..).touches.after hwrite)

theorem touches_execDmaTransfer (ch : Fin 8) (src dst : Nat) (run : DmaRun) (s : State) :
    nextTouches (allBut [.pending]) s (execDmaTransfer ch src dst run s) := by
  have hbeats : ∀ n, State.touches (allBut [.pending]) s (s.request.dmaBeats (ch.val + 2) src dst 0 n).2 := fun n =>
    (touches_dmaBeats ..).after (touches_request ..).le
  unfold execDmaTransfer
  dsimp only
  refine nextTouches_ite _ ?_ (touches_refl ..)
  split
  · exact hbeats _
  · exact nextTouches_ite _ ((tells_tornWrites ..).touches.after ((touches_dropSems ..).after (hbeats _))) (hbeats _)

theorem touches_badLine (s : State) (off : Nat) : State.touches (allBut [.pending]) s (s.badLine off) := by
  unfold State.badLine
  extract_lets _ _ _ s1 s2
  have h1 : State.touches (allBut [.pending]) s s1 := (touches_refl _ _).set_jcc
  have h2 : State.touches (allBut [.pending]) s s2 := (tells_bump ..).touches.after h1
  exact touches_ite _ (touches_ite _ ((touches_setUncovered ..).after h2) h2) ((touches_detect ..).le)

theorem touches_execMarchTestSlice (failing : BitVec 4) (s : State) :
    nextTouches (allBut [.pending]) s (execMarchTestSlice failing s) := by
  unfold execMarchTestSlice
  extract_lets _ _ _ s1 _ _ s2
  have h1 : State.touches (allBut [.pending]) s s1 := touches_foldl (touches_refl _ _) _ fun u a => (touches_badLine ..).le
  have h2 : State.touches (allBut [.pending]) s s2 := h1.set_jcc
  exact nextTouches_ite _ (touches_refl _ _) (nextTouches_ite _ (touches_refl _ _) (touches_ite _ ((tells_bump ..).touches.after h2) h2))

theorem touches_memReadBody (b : Buf) (address : Nat) (c : CmdRef) (s : State) :
    (memReadBody b address c s).touches (allBut [.pending]) s := by
  have hread := touches_readBytes s 0 address b.len
  unfold memReadBody
  refine touches_guarded _ ?_
  split
  · next h => rw [h] at hread; exact hread
  · next h => rw [h] at hread; exact (touches_hostWrite ..).after hread

theorem touches_execDiagMemRead (e : Entry) (b : Buf) (address : Nat) (s : State) :
    nextTouches (allBut [.pending]) s (execDiagMemRead e b address s) := by
  unfold execDiagMemRead
  exact touches_serve fun c u => (touches_memReadBody ..).le

/-! ### Storing and merging rows -/

theorem touches_openSlot (s : State) (e : Rsn) : State.touches [.sw] s (s.openSlot e) := by
  unfold State.openSlot
  extract_lets _
  exact (touches_refl _ _).set_sw

theorem touches_writeRing (s : State) (e : Rsn) (l : Nat) (c : RowContent) : State.touches [.sw] s (s.writeRing e l c) := by
  unfold State.writeRing
  extract_lets _
  exact (touches_refl _ _).set_sw

theorem touches_storeRow (s : State) (e : Rsn) (l : Nat) (k : Rsn) (ais attr : Bool) (c : RowContent) :
    State.touches [.counts, .sw, .obs, .log] s (s.storeRow e l k ais attr c) := by
  unfold State.storeRow
  extract_lets _ s1
  have h1 : State.touches [.counts, .sw, .obs, .log] s s1 := touches_ite _ (touches_refl _ _) ((touches_writeRing ..).le)
  exact (tells_perf ..).touches.after (touches_ite _ ((touches_facetRow ..).after h1) h1)

theorem touches_lockedRow (s : State) (e : Rsn) (l : Nat) : State.touches [.counts, .sw, .obs, .log] s (s.lockedRow e l) := by
  unfold State.lockedRow
  extract_lets _ _
  exact touches_ite _ (touches_refl _ _) (by
    split
    · exact (touches_storeRow ..).le
    · exact (touches_storeRow ..).le)

theorem touches_plesioRows (s : State) (e : Rsn) (l : Nat) : State.touches [.lanes, .obs] s (s.plesioRows e l) := by
  unfold State.plesioRows
  extract_lets _ s1
  have h1 : State.touches [.lanes, .obs] s s1 := (touches_modLane ..).le
  exact touches_foldl h1 _ fun u a => touches_ite _ ((touches_facetRow ..).le) (touches_refl _ _)

theorem touches_mergeAps (s : State) (l : Nat) (r : Judged) : State.touches [.counts, .prot, .log] s (s.mergeAps l r) := by
  unfold State.mergeAps
  exact touches_ite _ ((touches_apsRecords ..).le) (touches_refl _ _)

theorem touches_mergeRow (s : State) (m : Merge) (e k : Rsn) (a b : Option Judged) (attr : Option Judged → Bool) :
    State.touches [.par, .counts, .tribs, .sw, .prot, .obs, .log] s (s.mergeRow m e k a b attr) := by
  unfold State.mergeRow
  extract_lets va vb take differ s1 one s2 s3 s4 taken s5
  have h1 : State.touches [.par, .counts, .tribs, .sw, .prot, .obs, .log] s s1 := (touches_modPair ..).le
  have h2 : State.touches [.par, .counts, .tribs, .sw, .prot, .obs, .log] s s2 :=
    (tells_bump ..).touches.after ((tells_bump ..).touches.after h1)
  have h3 : State.touches [.par, .counts, .tribs, .sw, .prot, .obs, .log] s s3 :=
    (tells_bump ..).touches.after ((tells_bump ..).touches.after h2)
  have h4 : State.touches [.par, .counts, .tribs, .sw, .prot, .obs, .log] s s4 := (tells_bump ..).touches.after h3
  have h5 : State.touches [.par, .counts, .tribs, .sw, .prot, .obs, .log] s s5 := (touches_tribRows ..).after h4
  clear_value taken
  split
  · exact (touches_storeRow ..).after ((touches_tribRows ..).after ((touches_mergeAps ..).after h4))
  · exact (touches_storeRow ..).after h5

theorem touches_mergeLocked (s : State) (m : Merge) (e : Rsn) :
    State.touches [.par, .counts, .tribs, .sw, .prot, .obs, .log] s (s.mergeLocked m e) := by
  unfold State.mergeLocked
  extract_lets _
  exact (touches_mergeRow ..).le

theorem touches_mergePlesio (s : State) (low : Nat) (e : Rsn) (n : Nat) :
    State.touches [.par, .counts, .lanes, .tribs, .sw, .prot, .obs, .log] s (s.mergePlesio low e n) := by
  induction n generalizing s low e with
  | zero =>
    rw [State.mergePlesio]
    exact touches_refl _ _
  | succ m ih =>
    rw [State.mergePlesio]
    dsimp only
    split
    · exact touches_refl _ _
    · split
      · exact touches_refl _ _
      · exact (ih ..).after ((touches_mergeRow ..).after ((touches_modLane ..).after ((touches_modLane ..).le)))

theorem touches_mergePair (s : State) (m : Merge) (e : Rsn) :
    State.touches [.par, .counts, .lanes, .tribs, .sw, .prot, .obs, .log] s (s.mergePair m e) := by
  unfold State.mergePair
  exact touches_ite _ ((touches_mergePlesio ..).le) ((touches_mergeLocked ..).le)

theorem touches_ingressLane (s : State) (e : Rsn) (l : Nat) :
    State.touches [.par, .counts, .lanes, .tribs, .sw, .prot, .obs, .log] s (s.ingressLane e l) := by
  unfold State.ingressLane
  split
  · exact touches_ite _ ((touches_mergePair ..).le) (touches_refl _ _)
  · exact touches_ite _ ((touches_plesioRows ..).le) ((touches_lockedRow ..).le)

theorem touches_doubtTais (s : State) : State.touches [.tribs] s (s.doubtTais) := by
  unfold State.doubtTais
  exact touches_foldl (touches_refl _ _) _ fun u a => (touches_laneTais ..).le

theorem touches_ingressRow (s : State) (e : Rsn) :
    State.touches [.par, .counts, .lanes, .tribs, .sw, .prot, .obs, .log] s (s.ingressRow e) := by
  unfold State.ingressRow
  extract_lets s1
  have h1 : State.touches [.par, .counts, .lanes, .tribs, .sw, .prot, .obs, .log] s s1 := (touches_openSlot ..).after
    ((touches_doubtTais ..).le)
  exact touches_foldl h1 _ fun u a => (touches_ingressLane ..).le

theorem touches_moveRow (s : State) (n : Rsn) : State.touches [.sw] s (s.moveRow n) := by
  unfold State.moveRow
  extract_lets _ _ _ _
  exact (touches_refl _ _).set_sw

theorem touches_countMoved (s : State) : State.touches [.counts, .log] s (s.countMoved) := by
  unfold State.countMoved
  extract_lets _
  exact touches_foldl (touches_refl _ _) _ fun u a => (tells_perf ..).touches.le

theorem touches_cutRow (s : State) (n : Rsn) : State.touches [.counts, .obs, .log] s (s.cutRow n) := by
  unfold State.cutRow
  exact touches_foldl (touches_refl _ _) _ fun u a => (touches_runCut ..).le

theorem touches_readMaps (s : State) : State.touches (allBut [.pending]) s (s.readMaps) := by
  unfold State.readMaps
  extract_lets _ _ s1
  have h1 : State.touches (allBut [.pending]) s s1 := (touches_refl _ _).set_flt
  exact touches_foldl h1 _ fun u a => (touches_detect ..).le

theorem touches_readWords (s : State) (n : Rsn) : State.touches (allBut [.pending]) s (s.readWords n) := by
  unfold State.readWords
  extract_lets _ s1
  have h1 : State.touches (allBut [.pending]) s s1 := touches_foldl (touches_refl _ _) _ fun u a => (touches_detect ..).le
  exact touches_foldl h1 _ fun u a => (touches_facetDoubt ..).le

theorem touches_endRowFaults (s : State) : State.touches [.flt] s (s.endRowFaults) := by
  unfold State.endRowFaults
  extract_lets _ _
  exact (touches_refl _ _).set_flt

theorem touches_dataRow (s : State) (n : Rsn) : State.touches (allBut [.pending]) s (s.dataRow n) := by
  unfold State.dataRow
  extract_lets s1 s2 s3
  have h1 : State.touches (allBut [.pending]) s s1 := (touches_egressRow ..).after ((touches_readMaps ..).le)
  have h2 : State.touches (allBut [.pending]) s s2 := (touches_readWords ..).after ((touches_ingressRow ..).after h1)
  have h3 : State.touches (allBut [.pending]) s s3 := (touches_countMoved ..).after ((touches_moveRow ..).after
    ((touches_tribsEgress ..).after h2))
  exact (touches_endRowFaults ..).after ((touches_cutRow ..).after h3)

/-! ### The row -/

theorem touches_latchRow (s : State) : State.touches [.lanes, .tim] s (s.latchRow) := by
  unfold State.latchRow
  extract_lets latch
  have latch_touches u x1 : State.touches [.lanes, .tim] u (latch u x1) := (touches_setLane ..).le
  exact (touches_qlLatch ..).after (touches_foldl (touches_refl _ _) _ fun u a => latch_touches ..)

theorem touches_perfRow (s : State) : State.touches [.counts, .log] s (s.perfRow) := by
  unfold State.perfRow
  extract_lets s1 s2 s3
  have h1 : State.touches [.counts, .log] s s1 := (tells_perf ..).touches.after ((tells_perf ..).touches.le)
  have h2 : State.touches [.counts, .log] s s2 := (touches_perfOccupancy ..).after ((touches_perfOccupancy ..).after h1)
  have h3 : State.touches [.counts, .log] s s3 := (touches_perfOccupancy ..).after h2
  exact touches_foldl h3 _ fun u a => (touches_perfOccupancy ..).le

theorem touches_dropRows (s : State) : State.touches [.sw] s (s.dropRows) := by
  unfold State.dropRows
  extract_lets _
  exact (touches_refl _ _).set_sw

theorem touches_endRow (s : State) : State.touches (allBut [.pending]) s (s.endRow) := by
  unfold State.endRow
  extract_lets s1 s2
  have h1 : State.touches (allBut [.pending]) s s1 := touches_ite _ ((touches_dataRow ..).after ((touches_apsSend ..).le))
    ((touches_dropRows ..).le)
  have h2 : State.touches (allBut [.pending]) s s2 := (touches_saredSend ..).after ((touches_latchRow ..).after h1)
  exact (touches_perfRow ..).after h2.set_clkFree

theorem touches_released (s old : State) (n : Pn) (obj : Nat) :
    State.touches [.counts, .lanes, .tribs, .log] s (s.released old n obj) := by
  unfold State.released
  extract_lets s1
  have h1 : State.touches [.counts, .lanes, .tribs, .log] s s1 := touches_ite _ (touches_refl _ _) ((touches_modLane ..).le)
  split
  · exact (touches_retrace ..).le
  · exact (touches_retrace ..).le
  · exact (touches_checkerFrom ..).after h1
  · exact (touches_checkerFrom ..).after h1
  · exact touches_refl _ _

theorem touches_release1 (s : State) (n : Pn) (obj : Nat) : State.touches [.par, .counts, .lanes, .tribs, .log] s (s.release1 n obj) := by
  unfold State.release1
  exact (touches_released ..).after ((touches_release ..).le)

theorem touches_releaseDue (s : State) : State.touches [.par, .counts, .lanes, .tribs, .log] s (s.releaseDue) := by
  unfold State.releaseDue
  exact touches_foldl (touches_refl _ _) _ fun u a => (touches_release1 ..).le

theorem touches_clearEnabledWrite (s : State) : State.touches [.par] s (s.clearEnabledWrite) := by
  unfold State.clearEnabledWrite
  extract_lets _
  exact (touches_refl _ _).set_par

theorem touches_noteTraced (s : State) : State.touches [.clk] s (s.noteTraced) := by
  unfold State.noteTraced
  extract_lets _
  exact touches_ite _ ((touches_refl _ _).set_clk) (touches_refl _ _)

theorem touches_stepRow (s : State) :
    State.touches (allBut [.free, .lanes, .tribs, .gen, .jcc, .pow, .flt, .sec, .pending]) s (s.stepRow) := by
  unfold State.stepRow
  extract_lets s1
  have h1 : State.touches (allBut [.free, .lanes, .tribs, .gen, .jcc, .pow, .flt, .sec, .pending]) s s1 := (touches_doStep ..).le
  exact touches_ite _ h1 ((touches_dropRows ..).after h1)

theorem touches_lockstep (s : State) : State.touches [.pair] s (s.lockstep) := by
  unfold State.lockstep
  extract_lets _
  exact touches_ite _ ((touches_tell ..).le) (touches_refl _ _)

theorem touches_startRow (s : State) (m : RowMeas) : State.touches (allBut [.free, .pow, .sec, .pending]) s (s.startRow m) := by
  unfold State.startRow
  extract_lets s1 s2 s3 s4
  have h1 : State.touches (allBut [.free, .pow, .sec, .pending]) s s1 := (touches_clearEnabledWrite ..).after ((touches_releaseDue ..).le)
  have h2 : State.touches (allBut [.free, .pow, .sec, .pending]) s s2 := (touches_protBoundary ..).after
    ((touches_forwardBoundary ..).after ((touches_copyBoundary ..).after ((touches_saredBoundary ..).after
    ((touches_doRelease ..).after h1))))
  have h3 : State.touches (allBut [.free, .pow, .sec, .pending]) s s3 := (touches_lockstep ..).after ((touches_commitRow ..).after
    ((touches_stepRow ..).after ((touches_timingBoundary ..).after h2)))
  have h4 : State.touches (allBut [.free, .pow, .sec, .pending]) s s4 := touches_ite _ ((touches_latchInterp ..).after h3) h3
  exact (touches_watchStatus ..).after ((touches_updateAlarms ..).after ((touches_loadTraces ..).after ((touches_noteTraced ..).after
    ((touches_applyPerf ..).after h4))))

theorem touches_execRowBoundary (m : RowMeas) (s : State) : nextTouches (allBut [.pending]) s (execRowBoundary m s) := by
  unfold execRowBoundary
  extract_lets s1 _
  have h1 : State.touches (allBut [.pending]) s s1 := touches_ite _ ((touches_parityCheck ..).le) (touches_refl _ _)
  exact nextTouches_ite _ ((touches_startRow ..).after ((touches_endRow ..).after h1)) h1.set_clk

theorem touches_execSuperframeBoundary (s : State) : nextTouches [.counts, .com, .obs, .pow, .log] s (execSuperframeBoundary s) := by
  unfold execSuperframeBoundary
  extract_lets _ s1
  have h1 : State.touches [.counts, .com, .obs, .pow, .log] s s1 := (touches_refl _ _).set_pow
  exact nextTouches_ite _ ((touches_flushCoalesced ..).after ((touches_flushCaravan ..).after ((touches_swapSat ..).after h1)))
    (touches_refl _ _)

theorem touches_unbump (s : State) (n : Pn) (obj k : Nat) : State.touches [.counts] s (s.unbump n obj k) := by
  unfold State.unbump
  exact touches_ite _ (touches_refl _ _) ((touches_load ..).le)

theorem touches_countSecond (s : State) (l : Nat) : State.touches [.counts, .log] s (s.countSecond l) := by
  unfold State.countSecond
  extract_lets _
  exact touches_ite _ ((tells_bump ..).touches.le) (touches_ite _ ((tells_bump ..).touches.after (touches_ite _
    ((tells_bump ..).touches.le) (touches_refl _ _))) (touches_ite _ ((tells_bump ..).touches.le) (touches_refl _ _)))

theorem touches_closeSecond (s : State) (l : Nat) : State.touches [.counts, .lanes, .log] s (s.closeSecond l) := by
  unfold State.closeSecond
  extract_lets _ _ s1 _
  have h1 : State.touches [.counts, .lanes, .log] s s1 := touches_ite _ ((tells_bump ..).touches.after ((touches_unbump ..).le))
    ((tells_bump ..).touches.after ((touches_unbump ..).after ((touches_unbump ..).le)))
  exact touches_ite _ ((touches_setLane ..).after h1) ((touches_setLane ..).le)

theorem touches_timingSecond (s : State) : State.touches [.counts, .log] s (s.timingSecond) := by
  unfold State.timingSecond
  split
  · exact (tells_bump ..).touches.le
  · exact (tells_bump ..).touches.le
  · exact (tells_bump ..).touches.le
  · exact touches_refl _ _

theorem touches_execSecondBoundary (s : State) : nextTouches [.par, .counts, .lanes, .tim, .log] s (execSecondBoundary s) := by
  unfold execSecondBoundary
  extract_lets _ _ s1 _ s2
  have h1 : State.touches [.par, .counts, .lanes, .tim, .log] s s1 := (touches_slewSecond ..).after ((touches_timingSecond ..).after
    (touches_foldl (touches_refl _ _) _ fun u a => (touches_countSecond ..).le))
  have h2 : State.touches [.par, .counts, .lanes, .tim, .log] s s2 := h1.set_par
  exact nextTouches_ite _ ((tells_softEvent ..).touches.after (touches_foldl h2 _ fun u a => (touches_closeSecond ..).le))
    (touches_refl _ _)

end Sys2Proof.Machine
end

section
/-!
PROOFS. Every step keeps the canonical form of the memories and the one way of OTP, and takes the front command from the queue (O60).
-/
namespace Sys2Proof.Machine

-- One theorem after the other: many at once need more stacks than the memory limit of the check allows.
set_option Elab.async false

/-- No command touches the queue, and every one keeps the invariant of a step: each by the rule of its own operation. -/
theorem exec_touches (i : Instr) (s : State) : nextTouches (allBut [.pending]) s (exec i s) := by
  cases i with
  | sessionHello => exact (touches_execSessionHello ..).le
  | sessionProve => exact (touches_execSessionProve ..).le
  | sessionClose => exact (touches_execSessionClose ..).le
  | sessionRingCreate => exact (touches_execSessionRingCreate ..).le
  | sessionRingDelete => exact (touches_execSessionRingDelete ..).le
  | sessionList => exact (touches_execSessionList ..).le
  | paramGet => exact (touches_execParamGet ..).le
  | paramSet => exact (touches_execParamSet ..).le
  | paramDescribe => exact (touches_execParamDescribe ..).le
  | paramSave => exact (touches_execParamSave ..).le
  | laneEyeScan => exact (touches_execLaneEyeScan ..).le
  | laneMgmtSend => exact (touches_execLaneMgmtSend ..).le
  | laneMgmtRecv => exact (touches_execLaneMgmtRecv ..).le
  | tribCreate => exact (touches_execTribCreate ..).le
  | tribDelete => exact (touches_execTribDelete ..).le
  | tribRealign => exact (touches_execTribRealign ..).le
  | mapStage => exact (touches_execMapStage ..).le
  | mapProbe => exact (touches_execMapProbe ..).le
  | mapDiscard => exact (touches_execMapDiscard ..).le
  | mapRead => exact (touches_execMapRead ..).le
  | commitNow => exact (touches_execCommitNow ..).le
  | commitAt => exact (touches_execCommitAt ..).le
  | commitCancel => exact (touches_execCommitCancel ..).le
  | caravanLoad => exact (touches_execCaravanLoad ..).le
  | caravanStart => exact (touches_execCaravanStart ..).le
  | caravanStop => exact (touches_execCaravanStop ..).le
  | protLockout => exact (touches_execProtLockout ..).le
  | protForce => exact (touches_execProtForce ..).le
  | protManual => exact (touches_execProtManual ..).le
  | protClear => exact (touches_execProtClear ..).le
  | mergeCreate => exact (touches_execMergeCreate ..).le
  | mergeDelete => exact (touches_execMergeDelete ..).le
  | timingForce => exact (touches_execTimingForce ..).le
  | timingManual => exact (touches_execTimingManual ..).le
  | timingHoldover => exact (touches_execTimingHoldover ..).le
  | timingClear => exact (touches_execTimingClear ..).le
  | timingSetQl => exact (touches_execTimingSetQl ..).le
  | timingStep => exact (touches_execTimingStep ..).le
  | timingSetTod => exact (touches_execTimingSetTod ..).le
  | loupeMirror => exact (touches_execLoupeMirror ..).le
  | loupeList => exact (touches_execLoupeList ..).le
  | facetConfig => exact (touches_execFacetConfig ..).le
  | cutStage => exact (touches_execCutStage ..).le
  | cutReadSat => exact (touches_execCutReadSat ..).le
  | testEnter => exact (touches_execTestEnter ..).le
  | testExit => exact (touches_execTestExit ..).le
  | testLane => exact (touches_execTestLane ..).le
  | testInject => exact (touches_execTestInject ..).le
  | testLoop => exact (touches_execTestLoop ..).le
  | powerMode => exact (touches_execPowerMode ..).le
  | powerDomain => exact (touches_execPowerDomain ..).le
  | powerDvfs => exact (touches_execPowerDvfs ..).le
  | powerWarm => exact (touches_execPowerWarm ..).le
  | logEventRing => exact (touches_execLogEventRing ..).le
  | logJournalRing => exact (touches_execLogJournalRing ..).le
  | logFilter => exact (touches_execLogFilter ..).le
  | logAlarms => exact (touches_execLogAlarms ..).le
  | perfProgram => exact (touches_execPerfProgram ..).le
  | perfRead => exact (touches_execPerfRead ..).le
  | fwInfo => exact (touches_execFwInfo ..).le
  | fwLoad => exact (touches_execFwLoad ..).le
  | fwActivate => exact (touches_execFwActivate ..).le
  | fwMaintain => exact (touches_execFwMaintain ..).le
  | fwResume => exact (touches_execFwResume ..).le
  | fwRecover => exact (touches_execFwRecover ..).le
  | fwRestart => exact (touches_execFwRestart ..).le
  | secIdentity => exact (touches_execSecIdentity ..).le
  | secHallmark => exact (touches_execSecHallmark ..).le
  | secKeySet => exact (touches_execSecKeySet ..).le
  | claspRelease => exact (touches_execClaspRelease ..).le
  | claspSeize => exact (touches_execClaspSeize ..).le
  | claspClear => exact (touches_execClaspClear ..).le
  | claspCheckpoint => exact (touches_execClaspCheckpoint ..).le
  | diagFaultRead => exact (touches_execDiagFaultRead ..).le
  | diagSelftest => exact (touches_execDiagSelftest ..).le
  | diagMemRead => exact (touches_execDiagMemRead ..).le
  | diagFaultInject => exact (touches_execDiagFaultInject ..).le
  | laneTxEnable => exact (touches_execLaneTxEnable ..).le
  | laneRxEnable => exact (touches_execLaneRxEnable ..).le
  | rxAdaptRestart => exact (touches_execRxAdaptRestart ..).le
  | facetEnable => exact (touches_execFacetEnable ..).le
  | cutEnable => exact (touches_execCutEnable ..).le
  | pairEnableWrite => exact (touches_execPairEnableWrite ..).le
  | legacyWriteApply => exact (touches_execLegacyWriteApply ..).le
  | unlockWrite => exact (touches_execUnlockWrite ..).le
  | recoverWrite => exact (touches_execRecoverWrite ..).le
  | doorbellWrite => exact (touches_execDoorbellWrite ..).le
  | evtHeadWrite => exact (touches_execEvtHeadWrite ..).le
  | jrnHeadWrite => exact (touches_execJrnHeadWrite ..).le
  | facHeadWrite => exact (touches_execFacHeadWrite ..).le
  | mailboxGo => exact (touches_execMailboxGo ..).le
  | rsnLoRead => exact (touches_execRsnLoRead ..).le
  | semaphoreRead => exact (touches_execSemaphoreRead ..).le
  | semaphoreWrite => exact (touches_execSemaphoreWrite ..).le
  | applyBatch => exact (touches_execApplyBatch ..).le
  | remapWrite => exact (touches_execRemapWrite ..).le
  | registerWrite => exact (touches_execRegisterWrite ..).le
  | dmaTransfer => exact (touches_execDmaTransfer ..).le
  | i2cStatus => exact (touches_execI2cStatus ..).le
  | i2cWake => exact (touches_execI2cWake ..).le
  | i2cSubmit => exact (touches_execI2cSubmit ..).le
  | i2cResult => exact (touches_execI2cResult ..).le
  | i2cAddressMatch => exact (touches_execI2cAddressMatch ..).le
  | powerOn => exact (touches_execPowerOn ..).le
  | vaonBrownout => exact (touches_execVaonBrownout ..).le
  | resetNAssert => exact (touches_execResetNAssert ..).le
  | resetNRelease => exact (touches_execResetNRelease ..).le
  | perstNAssert => exact (touches_execPerstNAssert ..).le
  | perstNDeassert => exact (touches_execPerstNDeassert ..).le
  | functionLevelReset => exact (touches_execFunctionLevelReset ..).le
  | supplyRemoval => exact (touches_execSupplyRemoval ..).le
  | supplyRestore => exact (touches_execSupplyRestore ..).le
  | supplyTrip => exact (touches_execSupplyTrip ..).le
  | thermalTrip => exact (touches_execThermalTrip ..).le
  | fatalCauseClear => exact (touches_execFatalCauseClear ..).le
  | rootClockLoss => exact (touches_execRootClockLoss ..).le
  | ocxoFailure => exact (touches_execOcxoFailure ..).le
  | oxfClear => exact (touches_execOxfClear ..).le
  | refSignalLoss => exact (touches_execRefSignalLoss ..).le
  | ppsEdge => exact (touches_execPpsEdge ..).le
  | ppsLoss => exact (touches_execPpsLoss ..).le
  | todMessage => exact (touches_execTodMessage ..).le
  | todError => exact (touches_execTodError ..).le
  | laneSignalLoss => exact (touches_execLaneSignalLoss ..).le
  | wiringFault => exact (touches_execWiringFault ..).le
  | laneRowReceived => exact (touches_execLaneRowReceived ..).le
  | saredRowReceived => exact (touches_execSaredRowReceived ..).le
  | claspFrameHeard => exact (touches_execClaspFrameHeard ..).le
  | propose => exact (touches_execPropose ..).le
  | ready => exact (touches_execReady ..).le
  | refuse => exact (touches_execRefuse ..).le
  | arm => exact (touches_execArm ..).le
  | abort => exact (touches_execAbort ..).le
  | lockstepDecision => exact (touches_execLockstepDecision ..).le
  | lockstepComparison => exact (touches_execLockstepComparison ..).le
  | forwardedCommand => exact (touches_execForwardedCommand ..).le
  | stageRecords => exact (touches_execStageRecords ..).le
  | apsForward => exact (touches_execApsForward ..).le
  | caravanAbort => exact (touches_execCaravanAbort ..).le
  | checkpointReceived => exact (touches_execCheckpointReceived ..).le
  | rowBoundary => exact (touches_execRowBoundary ..).le
  | superframeBoundary => exact (touches_execSuperframeBoundary ..).le
  | secondBoundary => exact (touches_execSecondBoundary ..).le
  | pointerSample => exact (touches_execPointerSample ..).le
  | facetWindowOpen => exact (touches_execFacetWindowOpen ..).le
  | facetEntryWrite => exact (touches_execFacetEntryWrite ..).le
  | laneDefectIntegration => exact (touches_execLaneDefectIntegration ..).le
  | tribDefectIntegration => exact (touches_execTribDefectIntegration ..).le
  | mergeDefectIntegration => exact (touches_execMergeDefectIntegration ..).le
  | apsDefectIntegration => exact (touches_execApsDefectIntegration ..).le
  | misrouteDefectClear => exact (touches_execMisrouteDefectClear ..).le
  | pairDefectIntegration => exact (touches_execPairDefectIntegration ..).le
  | anchorRechoose => exact (touches_execAnchorRechoose ..).le
  | offsetBarExpiry => exact (touches_execOffsetBarExpiry ..).le
  | holdoffExpiry => exact (touches_execHoldoffExpiry ..).le
  | wtrExpiry => exact (touches_execWtrExpiry ..).le
  | switchComplete => exact (touches_execSwitchComplete ..).le
  | dpllLockAchieved => exact (touches_execDpllLockAchieved ..).le
  | pulledRecovery => exact (touches_execPulledRecovery ..).le
  | histValidSet => exact (touches_execHistValidSet ..).le
  | ocxoSensorRead => exact (touches_execOcxoSensorRead ..).le
  | refMeanUpdate => exact (touches_execRefMeanUpdate ..).le
  | refVote => exact (touches_execRefVote ..).le
  | refWaitExpiry => exact (touches_execRefWaitExpiry ..).le
  | lockTimeout => exact (touches_execLockTimeout ..).le
  | ppsQualified => exact (touches_execPpsQualified ..).le
  | commitArming => exact (touches_execCommitArming ..).le
  | commitIngressSwitch => exact (touches_execCommitIngressSwitch ..).le
  | commitEgressSwitch => exact (touches_execCommitEgressSwitch ..).le
  | commitReplayDone => exact (touches_execCommitReplayDone ..).le
  | catchUpCommit => exact (touches_execCatchUpCommit ..).le
  | caravanEntryCommit => exact (touches_execCaravanEntryCommit ..).le
  | modeChangeEffect => exact (touches_execModeChangeEffect ..).le
  | mergeEntryEffect => exact (touches_execMergeEntryEffect ..).le
  | cutEnableEffect => exact (touches_execCutEnableEffect ..).le
  | shadowScrub => exact (touches_execShadowScrub ..).le
  | shadowRewrite => exact (touches_execShadowRewrite ..).le
  | mapShadowRepair => exact (touches_execMapShadowRepair ..).le
  | mapDatabaseRepair => exact (touches_execMapDatabaseRepair ..).le
  | checkerSelfTest => exact (touches_execCheckerSelfTest ..).le
  | tmrScrub => exact (touches_execTmrScrub ..).le
  | parityScan => exact (touches_execParityScan ..).le
  | marchTestSlice => exact (touches_execMarchTestSlice ..).le
  | lockstepDivergence => exact (touches_execLockstepDivergence ..).le
  | watchdogExpiry => exact (touches_execWatchdogExpiry ..).le
  | engineMismatch => exact (touches_execEngineMismatch ..).le
  | faultRecordClose => exact (touches_execFaultRecordClose ..).le
  | claspFrameSend => exact (touches_execClaspFrameSend ..).le
  | holderLeaseExpiry => exact (touches_execHolderLeaseExpiry ..).le
  | silenceAcquisition => exact (touches_execSilenceAcquisition ..).le
  | saredLinkUp => exact (touches_execSaredLinkUp ..).le
  | checkpointWrite => exact (touches_execCheckpointWrite ..).le
  | takeoverLoadComplete => exact (touches_execTakeoverLoadComplete ..).le
  | provisionalHandleExpiry => exact (touches_execProvisionalHandleExpiry ..).le
  | sessionIdleTimeout => exact (touches_execSessionIdleTimeout ..).le
  | resumeWindowExpiry => exact (touches_execResumeWindowExpiry ..).le
  | authLockExpiry => exact (touches_execAuthLockExpiry ..).le
  | unlockExpiry => exact (touches_execUnlockExpiry ..).le
  | irqHoldoffEnd => exact (touches_execIrqHoldoffEnd ..).le
  | longCommandYield => exact (touches_execLongCommandYield ..).le
  | eventRingWrite => exact (touches_execEventRingWrite ..).le
  | journalRingWrite => exact (touches_execJournalRingWrite ..).le
  | heartbeat => exact (touches_execHeartbeat ..).le
  | tjUpdate => exact (touches_execTjUpdate ..).le
  | lifetimeSample => exact (touches_execLifetimeSample ..).le
  | lifetimeSlotWrite => exact (touches_execLifetimeSlotWrite ..).le
  | laneTxStart => exact (touches_execLaneTxStart ..).le
  | equaliserConverged => exact (touches_execEqualiserConverged ..).le
  | loopEffect => exact (touches_execLoopEffect ..).le
  | injectionEnd => exact (touches_execInjectionEnd ..).le
  | eyeScanDone => exact (touches_execEyeScanDone ..).le
  | bootVerifyDone => exact (touches_execBootVerifyDone ..).le
  | firmwareStarted => exact (touches_execFirmwareStarted ..).le
  | firmwareStartTimeout => exact (touches_execFirmwareStartTimeout ..).le
  | trialConfirmation => exact (touches_execTrialConfirmation ..).le
  | domainQuiesceAnswer => exact (touches_execDomainQuiesceAnswer ..).le
  | quiesceTimeout => exact (touches_execQuiesceTimeout ..).le
  | powerActionDone => exact (touches_execPowerActionDone ..).le
  | domainWakeDone => exact (touches_execDomainWakeDone ..).le
  | wakeTimerExpiry => exact (touches_execWakeTimerExpiry ..).le
  | wakeComplete => exact (touches_execWakeComplete ..).le
  | avsReport => exact (touches_execAvsReport ..).le
  | avsTimeout => exact (touches_execAvsTimeout ..).le
  | singleInternalFault => exact (touches_execSingleInternalFault ..).le
  | refFrequencyGate => exact (touches_execRefFrequencyGate ..).le
  | ppsOutPulse => exact (touches_execPpsOutPulse ..).le
  | todOutMessage => exact (touches_execTodOutMessage ..).le
  | liveCopyMessage => exact (touches_execLiveCopyMessage ..).le
  | caravanStoreCopy => exact (touches_execCaravanStoreCopy ..).le
  | boundaryScanInstruction => exact (touches_execBoundaryScanInstruction ..).le
  | jtagPortReset => exact (touches_execJtagPortReset ..).le

theorem State.touches.pending {l : List Part} {s t : State} (h : State.touches l s t) (hl : l.contains Part.pending = false := by rfl) :
    t.pending = s.pending := h.1 .pending hl

/-- Settles O60: a step is its front command, run with the queue's rest. -/
theorem keptByEveryStep : Obligations.KeptByEveryStep := by
  intro s t hmem hstep
  unfold step at hstep
  split at hstep
  · next hq =>
    obtain rfl : s = t := by simpa using hstep
    exact ⟨hmem, (keeps_refl s).2, by rw [hq]; rfl⟩
  · next c rest hq =>
    have hexec := exec_touches c { s with pending := rest }
    rw [hstep] at hexec
    have hnext : State.touches (allBut [.pending]) { s with pending := rest } t := hexec
    obtain ⟨hwf, hotp⟩ := hnext.2
    exact ⟨hwf hmem, hotp, hnext.pending.trans (by rw [hq]; rfl)⟩

end Sys2Proof.Machine
end

section
/-!
PROOFS. What each part reads where an operation leaves it, and what a release of the clasp, a mode change and a reset do to the device, the
host interface and the security state.
-/
namespace Sys2Proof.Machine

-- One theorem after the other: many at once need more stacks than the memory limit of the check allows.
set_option Elab.async false

/-! ### The parts that are left -/

section
variable {l : List Part} {s t : State} (h : State.touches l s t)
include h

theorem State.touches.host (hl : l.contains Part.host = false := by rfl) : t.host = s.host := h.1 .host hl
theorem State.touches.lanes (hl : l.contains Part.lanes = false := by rfl) : t.lanes = s.lanes := h.1 .lanes hl
theorem State.touches.tribs (hl : l.contains Part.tribs = false := by rfl) : t.tribs = s.tribs := h.1 .tribs hl
theorem State.touches.sw (hl : l.contains Part.sw = false := by rfl) : t.sw = s.sw := h.1 .sw hl
theorem State.touches.prot (hl : l.contains Part.prot = false := by rfl) : t.prot = s.prot := h.1 .prot hl
theorem State.touches.obs (hl : l.contains Part.obs = false := by rfl) : t.obs = s.obs := h.1 .obs hl
theorem State.touches.tim (hl : l.contains Part.tim = false := by rfl) : t.tim = s.tim := h.1 .tim hl
theorem State.touches.pair (hl : l.contains Part.pair = false := by rfl) : t.pair = s.pair := h.1 .pair hl
theorem State.touches.jcc (hl : l.contains Part.jcc = false := by rfl) : t.jcc = s.jcc := h.1 .jcc hl
theorem State.touches.pow (hl : l.contains Part.pow = false := by rfl) : t.pow = s.pow := h.1 .pow hl
theorem State.touches.flt (hl : l.contains Part.flt = false := by rfl) : t.flt = s.flt := h.1 .flt hl
theorem State.touches.log (hl : l.contains Part.log = false := by rfl) : t.log = s.log := h.1 .log hl
theorem State.touches.sec (hl : l.contains Part.sec = false := by rfl) : t.sec = s.sec := h.1 .sec hl
theorem State.touches.counts (hl : l.contains Part.counts = false := by rfl) : t.par.counts = s.par.counts := h.1 .counts hl

theorem State.touches.clk (hl : l.contains Part.clk = false := by rfl) (hf : l.contains Part.free = false := by rfl) : t.clk = s.clk := by
  have hclk : ({ t.clk with free := s.clk.free } : Clock) = s.clk := h.1 .clk hl
  have hfree : t.clk.free = s.clk.free := h.1 .free hf
  rw [← hfree] at hclk
  exact hclk

theorem State.touches.rsn (hl : l.contains Part.clk = false := by rfl) : t.clk.rsn = s.clk.rsn :=
  (congrArg Clock.rsn (h.1 .clk hl) :)

theorem State.touches.tick (hl : l.contains Part.clk = false := by rfl) : t.clk.tick = s.clk.tick :=
  (congrArg Clock.tick (h.1 .clk hl) :)

theorem State.touches.com (hl : l.contains Part.com = false := by rfl) (hg : l.contains Part.gen = false := by rfl) : t.com = s.com := by
  have hcom : ({ t.com with gen := s.com.gen } : Commit) = s.com := h.1 .com hl
  rw [← h.gen hg] at hcom
  exact hcom

theorem State.touches.comBut (hl : l.contains Part.com = false := by rfl) : { t.com with gen := s.com.gen } = s.com := h.1 .com hl

theorem State.touches.parBut (hl : l.contains Part.par = false := by rfl) : { t.par with counts := s.par.counts } = s.par := h.1 .par hl

theorem State.touches.vals (hl : l.contains Part.par = false := by rfl) : t.par.vals = s.par.vals :=
  (congrArg Params.vals (h.1 .par hl) :)

theorem State.touches.cur (n : Pn) (o : Nat) (hl : l.contains Part.par = false := by rfl) : t.cur n o = s.cur n o := by
  unfold State.cur; rw [h.vals hl]

theorem State.touches.modes (hl : l.contains Part.mode = false := by rfl) : t.dev.modes = s.dev.modes := h.1 .mode hl

theorem State.touches.mode (hl : l.contains Part.mode = false := by rfl) : t.dev.mode = s.dev.mode :=
  (congrArg Device.mode (h.modes hl) :)

theorem State.touches.role (hl : l.contains Part.mode = false := by rfl) : t.dev.role = s.dev.role :=
  (congrArg Device.role (h.modes hl) :)

theorem State.touches.devBut (hl : l.contains Part.dev = false := by rfl) : t.dev.withModes s.dev = s.dev := h.1 .dev hl

theorem State.touches.runs (hl : l.contains Part.dev = false := by rfl) : t.dev.jcc = s.dev.jcc :=
  (congrArg Device.jcc (h.devBut hl) :)

theorem State.touches.resetKind (hl : l.contains Part.dev = false := by rfl) : t.dev.resetKind = s.dev.resetKind :=
  (congrArg Device.resetKind (h.devBut hl) :)

theorem State.touches.resetCause (hl : l.contains Part.dev = false := by rfl) : t.dev.resetCause = s.dev.resetCause :=
  (congrArg Device.resetCause (h.devBut hl) :)

theorem State.touches.dev (hl : l.contains Part.dev = false := by rfl) (hm : l.contains Part.mode = false := by rfl) : t.dev = s.dev := by
  have hdev := h.devBut hl
  have hmodes := h.modes hm
  calc t.dev = t.dev.withModes t.dev := rfl
    _ = t.dev.withModes s.dev := (congrArg (fun x : Device => t.dev.withModes x) hmodes :)
    _ = s.dev := hdev

end

/-! ### FATAL resets (R491, R514, R578, R588) -/

/-- The device is held in a FATAL reset that u had come to. -/
def State.heldBy (u : State) (cause : Nat) : State :=
  { u.cleared false with dev := { (u.cleared false).dev with fatalHeld := some cause } }

/-- A FATAL reset of a device that none holds: the record, the release of the clasp by a holder, and the reset. -/
theorem fatal_heldBy {s : State} (cause : Nat) (h : s.dev.fatalHeld = none) :
    ∃ u : State, State.touches [.free, .mode, .host, .counts, .sw, .com, .gen, .pair, .flt, .log] s u ∧
      (s.dev.role ≠ .holder → u.host = s.host) ∧ s.fatal cause = u.heldBy cause := by
  have htrip := touches_tripRecord s cause
  have hrecord : ∀ v : State, State.touches [.flt] v { v with flt := { v.flt with mram :=
      (v.flt.log ++ v.flt.mram.filter fun (r : FaultRec) => !v.flt.log.any fun x => x.fseq == r.fseq).take 64 } } :=
    fun v => (touches_refl _ v).set_flt
  unfold State.fatal
  rw [h]
  by_cases hrole : s.dev.role = .holder
  · refine ⟨_, (hrecord _).after ((touches_giveUp (s.tripRecord cause) 1).after htrip.le), fun hne => absurd hrole hne, ?_⟩
    simp only [htrip.role, hrole, if_true]
    rfl
  · refine ⟨_, (hrecord _).after htrip.le, fun _ => htrip.host, ?_⟩
    simp only [htrip.role, hrole, if_false]
    rfl

theorem exec_supplyTrip {rail : Rail} {s : State} (h : s.dev.mode ≠ .quiescent ∨ rail = .vio ∨ s.pow.waking = true ∨ s.domain 3 ≠ 2 ∨
    s.domain 2 ≠ 2 ∨ ∃ k, k < 8 ∧ s.domain (4 + k) ≠ 2) : exec (.supplyTrip rail) s = .next (s.fatal 2) := by
  refine if_neg ?_
  simp only [Bool.and_eq_true, beq_iff_eq, List.all_eq_true, List.mem_range, Bool.not_eq_true', bne_iff_ne]
  rintro ⟨⟨⟨⟨⟨hmode, hoff⟩, h3⟩, h2⟩, hwaking⟩, hrail⟩
  obtain h | h | h | h | h | ⟨k, hk, h⟩ := h
  · exact h hmode
  · exact hrail h
  · rw [hwaking] at h; cases h
  · exact h h3
  · exact h h2
  · exact h (hoff k hk)

/-- The device as a boot begins (R38, R491). -/
def Device.boots (d : Device) (kind cause : Nat) (tmr : Bool) : Device :=
  { d with
    mode := if kind = 2 ∧ (cause = 2 ∨ cause = 3) then .recovery else .boot
    jcc := .bootRom, resetKind := kind, resetCause := cause, tmr := tmr }

/-- The time restored: another row, another time of day, and its uncertainty (R490). -/
theorem restoreTime_eq (s : State) : s.restoreTime = s ∨ ∃ (rsn : Rsn) (tod unc : Nat), s.restoreTime =
    { s with clk := { s.clk with rsn := rsn, tod := tod, todSet := true, estimated := true }, pow := { s.pow with todUnc := unc } } := by
  unfold State.restoreTime
  cases s.pow.snap with
  | none => exact .inl rfl
  | some x => exact .inr ⟨_, _, _, rfl⟩

theorem restoreTime_tick (s : State) : s.restoreTime.clk.tick = s.clk.tick := by
  obtain h | ⟨rsn, tod, unc, h⟩ := restoreTime_eq s <;> rw [h]

theorem tells_recordedBoot (s : State) (a k o v : Nat) : s.tells ((s.lifeAdd accResets a k).journalRestart o v) :=
  (tells_lifeAdd ..).trans (tells_journalRestart ..)

theorem beginBoot_dev (s : State) (kind cause : Nat) : ∃ tmr, (s.beginBoot kind cause).dev = s.dev.boots kind cause tmr := by
  refine ⟨if kind = 6 then s.restoreTime.dev.tmr else s.restoreTime.chosenTmr, ?_⟩
  rw [← (touches_restoreTime s).dev]
  exact (tells_recordedBoot ..).quiet.dev

theorem beginBoot_clk (s : State) (kind cause : Nat) : (s.beginBoot kind cause).clk = s.restoreTime.clk :=
  (tells_recordedBoot ..).quiet.clk

/-- The cause of a FATAL reset has gone after n ticks (R588). -/
def State.causeGone (s : State) (n : Nat) : State :=
  { s with
    clk := { s.clk with tick := s.clk.tick + n }
    dev := { s.dev with fatalHeld := none, pinWaiting := false, rootLost := false } }

theorem exec_fatalCauseClear {n cause : Nat} {s : State} (hheld : s.dev.fatalHeld = some cause) (hlow : s.dev.resetLow = false) :
    exec (.fatalCauseClear n) s =
      .next (if s.dev.pinWaiting then (s.causeGone n).beginBoot 2 0 else (s.causeGone n).beginBoot 6 cause) := by
  change execFatalCauseClear n s = _
  unfold execFatalCauseClear
  rw [hheld]
  exact if_neg (by simp [hlow])

/-- The lanes after the loss of the root clock, before the reset (R514). -/
def State.clockless (s : State) : State :=
  let t := ({ s with dev := { s.dev with rootLost := true } }).openFault 0x0E 1 0 0 (if s.dev.role = Role.holder then 0x2C else 0x24) true false
  { t with lanes := Table.mapVals {} (fun _ (x : Lane) => { x with tx := {} }) t.lanes }

theorem clockless_dev (s : State) : s.clockless.dev = { s.dev with rootLost := true } := by
  have hfault := touches_openFault { s with dev := { s.dev with rootLost := true } } 0x0E 1 0 0
    (if s.dev.role = Role.holder then 0x2C else 0x24) true false
  exact hfault.dev

/-- Settles O41: each trip holds the device in the reset, and the end of its cause starts the boot. -/
theorem fatalResets : Obligations.FatalResets := by
  refine ⟨fun rail s hfree hactive => ?supply, fun s hfree => ?thermal, fun s hfree => ?clock, fun n cause s hheld hlow => ?clear⟩
  case supply =>
    obtain ⟨u, hu, hhost, hfatal⟩ := fatal_heldBy 2 hfree
    have hcounter : u.sec.counter = s.sec.counter := congrArg Sec.counter hu.sec
    have hmem : s.dev.role ≠ .holder → u.host.mem = s.host.mem := fun hrole => congrArg HostIf.mem (hhost hrole)
    exact ⟨_, (exec_supplyTrip hactive).trans (congrArg _ hfatal), rfl, rfl, rfl, rfl, hcounter, hmem⟩
  case thermal =>
    obtain ⟨u, -, -, hfatal⟩ := fatal_heldBy 1 hfree
    exact ⟨u.heldBy 1, congrArg Host.Outcome.next hfatal, rfl, rfl, rfl⟩
  case clock =>
    have hdark := clockless_dev s
    have hheld : s.clockless.dev.fatalHeld = none := by rw [hdark]; exact hfree
    obtain ⟨u, hu, -, hfatal⟩ := fatal_heldBy 0 hheld
    have hlost : u.dev.rootLost = true := (congrArg Device.rootLost hu.devBut).trans (congrArg Device.rootLost hdark)
    exact ⟨u.heldBy 0, congrArg Host.Outcome.next hfatal, rfl, hlost, rfl, rfl⟩
  case clear =>
    have hbegin : ∀ k c, ((s.causeGone n).beginBoot k c).clk.tick = s.clk.tick + n := fun k c => by
      rw [beginBoot_clk, restoreTime_tick]; rfl
    refine ⟨_, exec_fatalCauseClear hheld hlow, ?_⟩
    cases s.dev.pinWaiting with
    | true =>
      obtain ⟨tmr, hdev⟩ := beginBoot_dev (s.causeGone n) 2 0
      refine ⟨?_, ?_, ?_, ?_, ?_, hbegin 2 0⟩ <;> · simp only [if_true, hdev]; rfl
    | false =>
      obtain ⟨tmr, hdev⟩ := beginBoot_dev (s.causeGone n) 6 cause
      refine ⟨?_, ?_, ?_, ?_, ?_, hbegin 6 cause⟩ <;> · simp only [Bool.false_eq_true, if_false, hdev]; rfl

end Sys2Proof.Machine
end

section
/-!
PROOFS. Releases, mode changes and restarts: what they leave of the host interface, the mode they lead to, and the resets that are recorded.
-/
namespace Sys2Proof.Machine

-- One theorem after the other: many at once need more stacks than the memory limit of the check allows.
set_option Elab.async false

/-! ### What a release and a mode change leave of the host interface -/

/-- Of the host interface, from s to t at most what completing writes changes. -/
def State.hostKept (s t : State) : Prop := s.host.kept t.host

theorem State.hostKept.trans {s t u : State} (h : s.hostKept t) (k : t.hostKept u) : s.hostKept u := HostIf.kept.trans h k

theorem hostKept_of_host {s t : State} (h : t.host = s.host) : s.hostKept t := HostIf.kept_of_eq h

theorem hostKept_ite {s a b : State} (p : Prop) [Decidable p] (h : s.hostKept a) (k : s.hostKept b) : s.hostKept (if p then a else b) := by
  split <;> assumption

theorem State.hostKept.session {s t : State} (h : s.hostKept t) (k : Nat) : t.session k = s.session k := by
  unfold State.session
  rw [State.hostKept, HostIf.kept] at h
  rw [h]

theorem State.hostKept.unlocked {s t : State} (h : s.hostKept t) : t.host.unlocked = s.host.unlocked := by
  rw [State.hostKept, HostIf.kept] at h
  rw [h]

theorem hostKept_complete (s : State) (c : CmdRef) (st r d : Nat) (b : Bool) : s.hostKept (s.complete c st r d b) := complete_kept ..

theorem hostKept_failRef (s : State) (c : Option CmdRef) (st detail : Nat) : s.hostKept (s.failRef c st detail) := by
  unfold State.failRef
  split
  · exact (hostKept_of_host (touches_unreserve s).host).trans (hostKept_complete ..)
  · exact hostKept_of_host rfl

theorem hostKept_endCommit (s : State) (st detail : Nat) : s.hostKept (s.endCommit st detail) := by
  unfold State.endCommit
  split
  · exact hostKept_of_host rfl
  · extract_lets _ s1 s2
    have h2 : s.hostKept s2 := hostKept_ite _ (hostKept_of_host (tells_bump s1 ..).host) (hostKept_of_host rfl)
    exact hostKept_ite _ (hostKept_of_host rfl) (h2.trans (hostKept_failRef ..))

theorem hostKept_abortUnarmed (s : State) : s.hostKept s.abortUnarmed := by
  unfold State.abortUnarmed
  split
  · exact hostKept_ite _ (hostKept_of_host rfl) (hostKept_endCommit ..)
  · exact hostKept_of_host rfl

/-- A release of the clasp changes of the host interface what the abort of a commit posts. -/
theorem hostKept_giveUp (s : State) (kind : Nat) : s.hostKept (s.giveUp kind) := by
  unfold State.giveUp
  extract_lets s1 _ _ s2 s3 s4 s5
  have h1 : s.hostKept s1 := hostKept_of_host (touches_abandonCopy s).host
  have h2 : s.hostKept s2 := h1
  have h3 : s.hostKept s3 := h2.trans (hostKept_abortUnarmed s2)
  have h4 : s.hostKept s4 := hostKept_ite _ (h3.trans (hostKept_of_host (tells_bump ..).host))
    (h3.trans (hostKept_of_host ((tells_bump ..).trans (tells_lifeAdd ..)).host))
  have h5 : s.hostKept s5 := by
    unfold s5
    split
    · exact h4.trans (hostKept_of_host (tells_journalAuto ..).host)
    · exact h4.trans (hostKept_of_host (tells_journalAuto ..).host)
    · exact h4.trans (hostKept_of_host (tells_journalAuto ..).host)
    · exact h4
  exact h5.trans (hostKept_of_host (touches_sendFrame s5).host)

theorem hostKept_endLoop (s : State) (l : Nat) : s.hostKept (s.endLoop l) := by
  unfold State.endLoop
  extract_lets x _ s1
  have h1 : s.hostKept s1 := hostKept_of_host (touches_setLane ..).host
  clear_value s1
  split
  · exact h1.trans (hostKept_complete ..)
  · exact h1

theorem hostKept_stopTests (s : State) (l : Nat) (all : Bool) : s.hostKept (s.stopTests l all) := by
  unfold State.stopTests
  extract_lets s1 rx ends s2 s3
  have h2 : s.hostKept s2 := hostKept_ite _ (hostKept_of_host rfl) (hostKept_of_host rfl)
  have h3 : s.hostKept s3 := h2.trans (hostKept_of_host (touches_modLane ..).host)
  exact h3.trans (hostKept_endLoop s3 l)

theorem hostKept_foldl {α : Type} {s t : State} (h : s.hostKept t) {f : State → α → State} (xs : List α)
    (hf : ∀ u a, State.hostKept u (f u a)) : s.hostKept (xs.foldl f t) := by
  induction xs generalizing t with
  | nil => exact h
  | cons a r ih => exact ih (h.trans (hf t a))

theorem hostKept_emptyTestSet (s : State) : s.hostKept s.emptyTestSet :=
  hostKept_foldl (hostKept_of_host rfl) _ fun u l => (hostKept_stopTests u l false).trans (hostKept_of_host (touches_modLane ..).host)

theorem hostKept_enterMode (s : State) (m : Mode) : s.hostKept (s.enterMode m) := by
  unfold State.enterMode
  extract_lets s1 s2 s3 s4 role changed _ _ _ s5
  have h1 : s.hostKept s1 := hostKept_ite _ (hostKept_emptyTestSet s) (hostKept_of_host rfl)
  have h2 : s.hostKept s2 := hostKept_ite _ (h1.trans (hostKept_giveUp s1 0)) h1
  have h3 : s.hostKept s3 := hostKept_ite _ h2 (h2.trans (hostKept_of_host (touches_abandonCopy s2).host))
  have h4 : s.hostKept s4 := hostKept_ite _ (h3.trans (hostKept_of_host (touches_joinCaravan s3).host))
    (hostKept_ite _ (h3.trans (hostKept_of_host (touches_endTimetable s3).host)) h3)
  have h5 : s.hostKept s5 := h4
  exact hostKept_ite _ (h5.trans (hostKept_of_host (touches_sendFrame s5).host)) h5

theorem hostKept_autoModeBy (s : State) (m : Mode) (by' : Option CmdRef) : s.hostKept (s.autoModeBy m by') := by
  unfold State.autoModeBy
  extract_lets old s1 s2
  have h2 : s.hostKept s2 := by
    unfold s2
    split
    · exact (hostKept_enterMode s m).trans (hostKept_of_host (tells_journalCmd ..).host)
    · exact (hostKept_enterMode s m).trans (hostKept_of_host (tells_journalAuto ..).host)
  clear_value s2
  split
  · exact h2
  · refine hostKept_ite _ h2 ?_
    split
    · exact hostKept_ite _ h2 (h2.trans (hostKept_of_host rfl))
    · exact hostKept_ite _ ((State.hostKept.trans h2 (hostKept_of_host rfl)).trans (hostKept_complete ..))
        ((State.hostKept.trans h2 (hostKept_of_host rfl)).trans (hostKept_failRef ..))

/-! ### The mode that a mode change leads to -/

theorem enterMode_modes (s : State) (m : Mode) : (s.enterMode m).dev.mode = m := by
  unfold State.enterMode
  extract_lets s1 s2 s3 s4 role changed _ _ _ s5
  have h5 : s5.dev.mode = m := rfl
  split
  · rw [(touches_sendFrame s5).mode, h5]
  · exact h5

theorem autoModeBy_mode (s : State) (m : Mode) (by' : Option CmdRef) : (s.autoModeBy m by').dev.mode = m := by
  unfold State.autoModeBy
  extract_lets old s1 s2 _ s3
  have h2 : s2.dev.mode = m := by
    unfold s2
    split
    · rw [(tells_journalCmd ..).quiet.dev]; exact enterMode_modes s m
    · rw [(tells_journalAuto ..).quiet.dev]; exact enterMode_modes s m
  have h3 : s3.dev.mode = m := h2
  clear_value s3 s2
  split
  · exact h2
  · split
    · exact h2
    · split
      · split
        · exact h3
        · rw [(touches_unreserve s3).mode]; exact h3
      · split
        · rw [(touches_complete ..).mode, (touches_unreserve s3).mode]; exact h3
        · rw [(touches_failRef ..).mode]; exact h3

/-! ### A restart of the Jaray complex (R36, R393, R493) -/

/-- The device after a restart. -/
def Device.restarts (d : Device) (kind cause : Nat) : Device :=
  { d with
    jcc := .bootRom, resetKind := kind, resetCause := cause, cands := [], candsSet := false, starting := none,
    imageVerified := false, rollback := false }

/-- Commands under way forgotten, sessions suspended, semaphores free and bursts torn: what precedes the loss of the complex's own state. -/
def State.beforeRestart (s : State) (kind cause : Nat) (bursts : List Burst) : State :=
  ((((s.restartEvent kind cause).forget fun _ => true).suspendSessions fun _ => true).dropSems fun m => decide (m < 10)).tornWrites kind
    (bursts.filter fun b => decide (b.master < 10))

theorem beforeRestart_dev (s : State) (kind cause : Nat) (bursts : List Burst) :
    (s.beforeRestart kind cause bursts).dev = { s.dev with pend := s.dev.pend.map fun p => { p with ref := p.ref.map fun c => { c with ring := 255 } } } := by
  have htell : (s.restartEvent kind cause).dev = s.dev := (tells_alarmEvent ..).quiet.dev
  unfold State.beforeRestart
  rw [(tells_tornWrites ..).quiet.dev]
  change ((s.restartEvent kind cause).forget fun _ => true).dev = _
  unfold State.forget State.mapRefs
  rw [htell]
  rfl

theorem beforeRestart_session (s : State) (kind cause : Nat) (bursts : List Burst) (k : Nat) :
    ((s.beforeRestart kind cause bursts).session k).state = .free ∨ ((s.beforeRestart kind cause bursts).session k).state = .suspended := by
  have hsession : (s.beforeRestart kind cause bursts).session k =
      (((s.restartEvent kind cause).forget fun _ => true).suspendSessions fun _ => true).session k := by
    unfold State.session State.beforeRestart
    rw [(tells_tornWrites ..).host]
    rfl
  rw [hsession, suspendSessions_session]
  simp only [Bool.not_true, Bool.false_eq_true, if_false]
  generalize ((s.restartEvent kind cause).forget fun _ => true).session k = x
  cases hx : x.state <;> simp [hx]

theorem beforeRestart_touches (s : State) (kind cause : Nat) (bursts : List Burst) :
    State.touches (allBut [.clk, .free, .dev, .tribs, .sw, .gen, .obs, .flt, .sec, .pending]) s (s.beforeRestart kind cause bursts) :=
  (tells_tornWrites ..).touches.after ((touches_dropSems ..).after ((touches_suspendSessions ..).after ((touches_forget ..).after
    (tells_alarmEvent ..).touches.le)))

/-- The complex's own state is at its reset values. -/
def State.restarted (w : State) (kind cause : Nat) : State :=
  { w with
    host := { w.host with
      pairs := Table.mapVals {} (fun _ p => if p.on then p.discard else p) w.host.pairs
      mail := Table.mapVals {} (fun _ m => if m.state = 1 then { m with state := 0, taken := false } else m) w.host.mail
      sb := if w.host.sb.state = 1 then { w.host.sb with state := 0, taken := false } else w.host.sb
      unlocked := false }
    log := { w.log with filters := [], perfDefault := true }
    pow := { w.pow with dvfsJcc := 0, dvfsFac := 0, vctl := 900, dvfs := none }
    jcc := { w.jcc with remap := false, j1 := false, batch := [], batchAddr := [], busError := [] }
    sec := { w.sec with load := none }
    dev := w.dev.restarts kind cause }

theorem tells_jccRestart (s : State) (kind cause : Nat) (bursts : List Burst) :
    ((s.beforeRestart kind cause bursts).restarted kind cause).tells (s.jccRestart kind cause bursts) :=
  tells_recordedBoot ..

/-- What a restart leaves and brings: the boot ROM and the reset recorded, the generation, OTP and the slots, no unlock, and every
session free or suspended. -/
structure State.Restarted (s t : State) (kind cause : Nat) : Prop where
  runs : t.dev.jcc = .bootRom
  kind : t.dev.resetKind = kind
  cause : t.dev.resetCause = cause
  gen : t.com.gen = s.com.gen
  slots : t.sec = { s.sec with load := none }
  locked : t.host.unlocked = false
  sessions : ∀ k, (t.session k).state = .free ∨ (t.session k).state = .suspended

theorem jccRestart_restarted (s : State) (kind cause : Nat) (bursts : List Burst) :
    State.Restarted s (s.jccRestart kind cause bursts) kind cause := by
  have htell := tells_jccRestart s kind cause bursts
  have hdev : (s.jccRestart kind cause bursts).dev = (s.beforeRestart kind cause bursts).dev.restarts kind cause := htell.quiet.dev
  have htouch := beforeRestart_touches s kind cause bursts
  rw [beforeRestart_dev] at hdev
  refine ⟨?_, ?_, ?_, ?_, ?_, ?_, fun k => ?_⟩
  · rw [hdev]; rfl
  · rw [hdev]; rfl
  · rw [hdev]; rfl
  · rw [htell.quiet.com]; exact htouch.gen
  · rw [htell.quiet.sec]; exact (congrArg (fun x : Sec => { x with load := none }) htouch.sec :)
  · rw [htell.host]; rfl
  · unfold State.session; rw [htell.host]; exact beforeRestart_session s kind cause bursts k

/-- The mode after a WARM or WATCHDOG reset (R39). -/
def Mode.afterRestart (m : Mode) : Mode :=
  match m with
  | .test => .configure
  | .recovery => .boot
  | m => m

theorem modeAfterRestart_mode (s : State) : s.modeAfterRestart.dev.mode = s.dev.mode.afterRestart := by
  unfold State.modeAfterRestart
  split
  · next h => rw [h]; exact autoModeBy_mode ..
  · next h => rw [h, (tells_journalAuto ..).quiet.dev]; rfl
  · next hne hne' => 
    cases hm : s.dev.mode <;> simp_all [Mode.afterRestart]

theorem hostKept_modeAfterRestart (s : State) : s.hostKept s.modeAfterRestart := by
  unfold State.modeAfterRestart
  split
  · exact hostKept_autoModeBy ..
  · exact hostKept_of_host (tells_journalAuto ..).host
  · exact hostKept_of_host rfl

theorem jccRestart_mode (s : State) (kind cause : Nat) (bursts : List Burst) : (s.jccRestart kind cause bursts).dev.mode = s.dev.mode := by
  rw [(tells_jccRestart s kind cause bursts).quiet.dev]
  exact (congrArg Device.mode (beforeRestart_dev s kind cause bursts) :)

/-- A restart's marks stay where no more than the mode changes after it. -/
theorem State.Restarted.then {s t u : State} {l : List Part} {kind cause : Nat} (h : State.Restarted s t kind cause)
    (hu : State.touches l t u) (hk : t.hostKept u)
    (hl : (l.contains .dev || l.contains .gen || l.contains .sec) = false := by rfl) : State.Restarted s u kind cause := by
  simp only [Bool.or_eq_false_iff] at hl
  obtain ⟨⟨hdev, hgen⟩, hsec⟩ := hl
  exact ⟨(hu.runs hdev).trans h.runs, (hu.resetKind hdev).trans h.kind, (hu.resetCause hdev).trans h.cause, (hu.gen hgen).trans h.gen,
    (hu.sec hsec).trans h.slots, hk.unlocked.trans h.locked, fun k => by rw [hk.session]; exact h.sessions k⟩

/-- What WARM leaves and brings (R39). -/
theorem warm_restarted (s : State) (cause : Nat) (bursts : List Burst) : State.Restarted s (s.warm cause bursts) 3 cause := by
  have hsleep := touches_sleepReset s
  have h := jccRestart_restarted s.sleepReset 3 cause bursts
  have hrestart : State.Restarted s (s.sleepReset.jccRestart 3 cause bursts) 3 cause :=
    { h with gen := h.gen.trans hsleep.gen, slots := h.slots.trans (by rw [hsleep.sec]) }
  exact hrestart.then (touches_modeAfterRestart _) (hostKept_modeAfterRestart _)

theorem warm_mode (s : State) (cause : Nat) (bursts : List Burst) : (s.warm cause bursts).dev.mode = s.dev.mode.afterRestart := by
  unfold State.warm
  rw [modeAfterRestart_mode, jccRestart_mode, (touches_sleepReset s).mode]

end Sys2Proof.Machine
end

section
/-!
PROOFS. The resets that are recorded (O42), the boot and the trial of an image (O43).
-/
namespace Sys2Proof.Machine

-- One theorem after the other: many at once need more stacks than the memory limit of the check allows.
set_option Elab.async false

/-! ### Commands that are taken, by the state that they leave -/

/-- A command that serve serves leaves what its reply finishes with. -/
theorem accepts_of_finish {i : Instr} {e : Entry} {d : CmdDesc} {n : Nat} {pre : State → Prop} {post : CmdRef → State → State → Prop}
    {body : CmdRef → State → Reply} (hx : ∀ s, exec i s = serve (d.of i) e s body)
    (hb : ∀ s c, s.journalRoom n = true → pre s → post c s (s.finish c e.submitSeq (body c s))) : accepts i e d n pre post := by
  intro s ha hj hp
  refine ⟨_, ?_, hb (s.served d e) (s.servedRef d e) hj hp⟩
  rw [hx, serve_admits (d.of i) e s body ha]
  rfl

/-- A reset by command: the command is taken, and the reset follows. -/
theorem finish_restart {s : State} (c : CmdRef) (seq : Nat) (f : State → State) {recs : List (Nat × Nat × Nat)}
    (h : s.journalRoom recs.length = true) : ∃ u, s.quiet u ∧ s.finish c seq (.restart f recs) = f u :=
  ⟨_, (quiet_journalAll c recs s).trans (quiet_accepted ..), if_pos h⟩

/-- A command that keeps room for the record of its effect. -/
theorem finish_acceptReserved {s : State} (c : CmdRef) (seq : Nat) (f : State → State) (h : s.journalRoom 1 = true) :
    (f s.reserve).quiet (s.finish c seq (acceptReserved s f)) := by
  have hreply : acceptReserved s f = .accept (f s.reserve) [] := if_pos h
  rw [hreply]
  exact quiet_accepted ..

/-! ### POR and the PIN reset (R491, R493) -/

/-- A full reset finds AON and the time as they are, or at 0 after a POR. -/
theorem fullReset_por (s : State) (cause : Nat) : s.fullReset 1 cause = (s.cleared true).beginBoot 1 cause := rfl

theorem cleared_por_noSnap (s : State) : (s.cleared true).restoreTime = s.cleared true := rfl

theorem fullReset_pin (s : State) (cause : Nat) : s.fullReset 2 cause = (s.leaveClasp.cleared false).beginBoot 2 cause := rfl

theorem powerOn_recorded (x : Straps) (s : State) : ∃ t, exec (.powerOn x) s = .next t ∧ t.dev.mode = .boot ∧ t.dev.jcc = .bootRom ∧
    t.dev.resetKind = 1 ∧ t.dev.resetCause = 0 ∧ t.dev.planeB = x.planeB ∧ t.dev.primary = x.primary ∧
    t.dev.serviceEn = x.serviceEn ∧ t.clk.rsn = 0 ∧ t.clk.tick = 0 ∧ t.clk.todSet = false ∧ t.lanes = [] ∧ t.par.vals = [] ∧
    t.sec.counter = s.sec.counter ∧ t.sec.slot0 = s.sec.slot0 ∧ t.sec.slot1 = s.sec.slot1 := by
  obtain ⟨k, o, v, hexec⟩ := exec_powerOn x s
  have htell := (tells_powerOn hexec).quiet
  refine ⟨_, hexec, ?_⟩
  simp only [htell.dev, htell.clk, htell.lanes, htell.vals, htell.sec]
  exact ⟨rfl, rfl, rfl, rfl, rfl, rfl, rfl, rfl, rfl, rfl, rfl, rfl, rfl, rfl, rfl⟩

theorem brownout_recorded (x : Straps) (s : State) : ∃ t, exec (.vaonBrownout x) s = .next t ∧ t.dev.mode = .boot ∧
    t.dev.jcc = .bootRom ∧ t.dev.resetKind = 1 ∧ t.dev.resetCause = 1 ∧ t.dev.planeB = x.planeB ∧ t.clk.rsn = 0 ∧ t.clk.tick = 0 := by
  let u := ({ s with dev := { s.dev with fatalHeld := none, pinWaiting := false } } : State).latch x
  obtain ⟨tmr, hdev⟩ := beginBoot_dev (u.cleared true) 1 1
  refine ⟨(u.cleared true).beginBoot 1 1, rfl, ?_⟩
  rw [hdev, beginBoot_clk, cleared_por_noSnap]
  exact ⟨rfl, rfl, rfl, rfl, rfl, rfl, rfl⟩

theorem leaveClasp_store (s : State) : s.leaveClasp.par.store = s.par.store :=
  (congrArg Params.store (touches_leaveClasp s).parBut :)

theorem resetNAssert_recorded (s : State) (hfree : s.dev.fatalHeld = none) : ∃ t, exec .resetNAssert s = .next t ∧
    t.dev.resetLow = true ∧ t.dev.jcc = .off ∧ t.lanes = [] ∧ t.par.store = s.par.store ∧ t.clk.tick = s.clk.tick := by
  let u : State := { s with dev := { s.dev with resetLow := true } }
  have hleave := touches_leaveClasp u
  have hlow : u.leaveClasp.dev.resetLow = true := (congrArg Device.resetLow hleave.devBut :)
  have hexec : exec .resetNAssert s = .next (u.leaveClasp.cleared false) := by
    change execResetNAssert s = _
    unfold execResetNAssert
    exact if_neg (by simp [hfree])
  exact ⟨_, hexec, hlow, rfl, rfl, leaveClasp_store u, hleave.tick⟩

theorem resetNRelease_recorded (x : Straps) (s : State) (hlow : s.dev.resetLow = true) (hfree : s.dev.fatalHeld = none) :
    ∃ t, exec (.resetNRelease x) s = .next t ∧ t.dev.resetLow = false ∧ t.dev.mode = .boot ∧ t.dev.jcc = .bootRom ∧
      t.dev.resetKind = 2 ∧ t.dev.resetCause = 0 ∧ t.dev.primary = x.primary := by
  let u := ({ s with dev := { s.dev with resetLow := false } } : State).latch x
  obtain ⟨tmr, hdev⟩ := beginBoot_dev u 2 0
  have hexec : exec (.resetNRelease x) s = .next (u.beginBoot 2 0) := by
    change execResetNRelease x s = _
    unfold execResetNRelease
    rw [if_neg (by simp [hlow])]
    exact if_neg (by simp [State.latch, hfree])
  refine ⟨_, hexec, ?_⟩
  rw [hdev]
  exact ⟨rfl, rfl, rfl, rfl, rfl, rfl⟩

/-! ### The resets of the complex by command -/

theorem powerWarm_recorded (e : Entry) (bursts : List Burst) :
    accepts (.powerWarm e bursts) e ⟨0x0F04, 3, false, false, []⟩ 1 (fun _ => True)
      (fun _ s t => t.dev.jcc = .bootRom ∧ t.dev.resetKind = 3 ∧ t.dev.resetCause = 0 ∧ t.com.gen = s.com.gen ∧
        (s.dev.mode = .test → t.dev.mode = .configure) ∧ (s.dev.mode.traffic = true ∨ s.dev.mode = .configure → t.dev.mode = s.dev.mode) ∧
        t.host.unlocked = false ∧ ∀ k, (t.session k).state = .free ∨ (t.session k).state = .suspended) := by
  refine accepts_of_finish (body := fun _ _ => .restart (fun s => s.warm 0 bursts) [(0, 1, 0)]) (fun _ => rfl) fun s c hroom _ => ?_
  obtain ⟨u, hquiet, hfinish⟩ := finish_restart c e.submitSeq (fun s => s.warm 0 bursts) (recs := [(0, 1, 0)]) hroom
  have h := warm_restarted u 0 bursts
  have hmode := warm_mode u 0 bursts
  rw [hquiet.dev] at hmode
  rw [hfinish]
  refine ⟨h.runs, h.kind, h.cause, by rw [h.gen, hquiet.com], fun htest => ?_, fun hstay => ?_, h.locked, h.sessions⟩
  · rw [hmode, htest]; rfl
  · rw [hmode]
    cases hm : s.dev.mode <;> simp [hm, Mode.traffic] at hstay <;> rfl

theorem makeTrial_slot (s : State) {k : Nat} (hk : k ≤ 1) : (s.makeTrial k).slotOf k = { s.slotOf k with state := .trial } :=
  (slotOf_setSlot s _ hk).1

theorem slotIn_le {s : State} {x : SlotState} {k : Nat} (h : s.slotIn x = some k) : k ≤ 1 ∧ (s.slotOf k).state = x := by
  unfold State.slotIn at h
  split at h
  · next h0 => cases h; exact ⟨by omega, h0⟩
  · split at h
    · next h1 => cases h; exact ⟨by omega, h1⟩
    · cases h

theorem slotIn_of_sec {s t : State} (h : t.sec = s.sec) (x : SlotState) : t.slotIn x = s.slotIn x := by
  unfold State.slotIn; rw [h]

/-- The slots after a reset of the complex. -/
theorem State.Restarted.slotOf {s t : State} {kind cause : Nat} (h : State.Restarted s t kind cause) (k : Nat) : t.slotOf k = s.slotOf k := by
  unfold State.slotOf; rw [h.slots]

theorem fwActivate_recorded (e : Entry) (bursts : List Burst) (k : Nat) (i : Image) :
    accepts (.fwActivate ⟨e, bursts⟩) e ⟨0x1203, 3, true, false, []⟩ 1
      (fun s => s.slotIn .valid = some k ∧ (s.slotOf k).image = some i ∧ s.dev.mode = .maintain ∧ s.powerBusy = false ∧
        s.pow.dvfs = none)
      (fun _ s t => (s.verifyImage i = none → t.dev.mode = s.dev.prevMode ∧ t.dev.jcc = .bootRom ∧ t.dev.resetKind = 3 ∧
        t.dev.resetCause = 1 ∧ t.slotOf k = ⟨.trial, some i⟩) ∧ (s.verifyImage i ≠ none → s.quiet t)) := by
  refine accepts_of_finish (body := fwActivateBody bursts) (fun _ => rfl) fun s c hroom ⟨hvalid, himage, hmaintain, hidle, hdvfs⟩ => ?_
  have hbody : fwActivateBody bursts c s = match s.verifyImage i with
      | some (st, detail) => .refuse st 0xFFFFFFFF detail
      | none => .restart (fun s => ((s.makeTrial k).warm 1 bursts).autoMode s.dev.prevMode) [(k, 1, i.version)] := by
    simp only [fwActivateBody, hvalid, himage, guarded, hmaintain, hidle, hdvfs, Option.isSome_none, bne_self_eq_false, Bool.or_self,
      Bool.false_eq_true, if_false] <;> rfl
  rw [hbody]
  cases hverify : s.verifyImage i with
  | some x => exact ⟨nofun, fun _ => quiet_refuseCmd ..⟩
  | none =>
    refine ⟨fun _ => ?_, fun hne => absurd rfl hne⟩
    obtain ⟨u, hquiet, hfinish⟩ := finish_restart c e.submitSeq (fun s => ((s.makeTrial k).warm 1 bursts).autoMode s.dev.prevMode)
      (recs := [(k, 1, i.version)]) hroom
    have hwarm := warm_restarted (u.makeTrial k) 1 bursts
    have h := hwarm.then (touches_autoModeBy _ u.dev.prevMode none) (hostKept_autoModeBy _ u.dev.prevMode none)
    obtain ⟨hk, -⟩ := slotIn_le hvalid
    have hslot : (u.makeTrial k).slotOf k = ⟨.trial, some i⟩ := by
      rw [makeTrial_slot u hk, slotOf_of_sec hquiet.sec, ← himage]
    dsimp only
    rw [hfinish]
    exact ⟨(autoModeBy_mode ..).trans (by rw [hquiet.dev]), h.runs, h.kind, h.cause, (h.slotOf k).trans hslot⟩

theorem fwRestart_recorded (e : Entry) (k : Nat) :
    accepts (.fwRestart e) e ⟨0x1207, 0, false, false, []⟩ 1
      (fun s => k < 2 ∧ s.sec.verified = some k ∧ (s.slotOf k).state = .valid)
      (fun _ s t => t.dev.mode = .boot ∧ t.dev.jcc = .bootRom ∧ t.dev.resetKind = 2 ∧ t.dev.resetCause = 1 ∧
        t.slotOf k = { s.slotOf k with state := .trial }) := by
  refine accepts_of_finish (body := fwRestartBody) (fun _ => rfl) fun s c hroom ⟨hk, hverified, hvalid⟩ => ?_
  have hbody : fwRestartBody c s = .restart (fun s => (s.makeTrial k).fullReset 2 1) [(k, 1, (s.slotOf k).version)] := by
    simp only [fwRestartBody, hverified, hvalid, if_true] <;> rfl
  obtain ⟨u, hquiet, hfinish⟩ := finish_restart c e.submitSeq (fun s => (s.makeTrial k).fullReset 2 1)
    (recs := [(k, 1, (s.slotOf k).version)]) hroom
  obtain ⟨tmr, hdev⟩ := beginBoot_dev ((u.makeTrial k).leaveClasp.cleared false) 2 1
  have hsec : ((u.makeTrial k).fullReset 2 1).sec = { (u.makeTrial k).sec with running := none, load := none, verified := none } := by
    rw [fullReset_pin, (touches_beginBoot ..).sec]
    exact (congrArg (fun x : Sec => { x with running := none, load := none, verified := none }) (touches_leaveClasp _).sec :)
  have hslot : ((u.makeTrial k).fullReset 2 1).slotOf k = { s.slotOf k with state := .trial } := by
    have hkeep : ((u.makeTrial k).fullReset 2 1).slotOf k = (u.makeTrial k).slotOf k := by unfold State.slotOf; rw [hsec]
    rw [hkeep, makeTrial_slot u (by omega), slotOf_of_sec hquiet.sec]
  rw [hbody, hfinish]
  refine ⟨?_, ?_, ?_, ?_, hslot⟩
  all_goals rw [fullReset_pin, hdev]; rfl

/-- FW.RECOVER: RECOVERY waits for the second boundary, and a holder releases (R38). -/
theorem fwRecover_recorded (e : Entry) :
    accepts (.fwRecover e) e ⟨0x1206, 3, false, false, []⟩ 1 (fun s => s.modePending = false ∧ s.powerBusy = false)
      (fun c s t => t.dev = { s.dev with pend := some ⟨.recovery, s.clk.rsn + 2, some c⟩ } ∧
        (s.dev.role = .holder → s.pair.release = none → t.pair.release = some (0, none))) := by
  refine accepts_of_finish (body := fwRecoverBody) (fun _ => rfl) fun s c hroom ⟨hpend, hidle⟩ => ?_
  have hbody : fwRecoverBody c s = acceptReserved s fun s =>
      { s.releaseSoon 0 none with dev := { (s.releaseSoon 0 none).dev with pend := some ⟨.recovery, (s.releaseSoon 0 none).clk.rsn + 2, some c⟩ } } := by
    simp only [fwRecoverBody, State.modeChecks, hpend, hidle, guarded, Bool.or_self, Bool.not_true, Bool.false_eq_true, if_false] <;> rfl
  have hquiet := finish_acceptReserved c e.submitSeq (fun s : State =>
    { s.releaseSoon 0 none with dev := { (s.releaseSoon 0 none).dev with
      pend := some ⟨.recovery, (s.releaseSoon 0 none).clk.rsn + 2, some c⟩ } }) hroom
  have hsoon := touches_releaseSoon s.reserve 0 none
  rw [hbody]
  refine ⟨?_, fun hrole hrelease => ?_⟩
  · rw [hquiet.dev]
    dsimp only
    rw [hsoon.dev, hsoon.rsn]
    rfl
  · rw [hquiet.pair]
    have hhold : s.reserve.dev.role = .holder := hrole
    have hnone : s.reserve.pair.release = none := hrelease
    simp only [State.releaseSoon, hhold, hnone, ne_eq, not_true_eq_false, if_false]

/-- Settles O42: each reset is recorded with its kind and cause. -/
theorem resetsRecorded : Obligations.ResetsRecorded :=
  ⟨powerOn_recorded, brownout_recorded, resetNAssert_recorded, resetNRelease_recorded, powerWarm_recorded, fwRecover_recorded,
    fwActivate_recorded, fwRestart_recorded⟩

/-! ### Slots and the confirmation of an image (R557) -/

theorem slotOf_setSlot_other (s : State) (x : ImageSlot) {j k : Nat} (hj : j ≤ 1) (hk : k ≤ 1) (hjk : j ≠ k) :
    (s.setSlot j x).slotOf k = s.slotOf k := by
  obtain rfl : k = 1 - j := by omega
  exact (slotOf_setSlot s x hj).2

/-- Of the security engine, only the slots differ. -/
def Sec.slotsOnly (x y : Sec) : Prop := y = { x with slot0 := y.slot0, slot1 := y.slot1 }

theorem setSlot_slotsOnly (s : State) (k : Nat) (x : ImageSlot) : s.sec.slotsOnly (s.setSlot k x).sec := (setSlot_sec s k x).1

theorem Sec.slotsOnly.trans {x y z : Sec} (h : x.slotsOnly y) (k : y.slotsOnly z) : x.slotsOnly z := by
  rw [Sec.slotsOnly] at *; rw [k, h]

/-- The fuses burnt and the key of older images revoked, before the VALID slot is looked at. -/
def State.fused (s : State) (floor key : Nat) : State :=
  { s with sec := { s.sec with counter := max s.sec.counter floor, revoked := s.sec.revoked ||| (2 ^ key - 1), confirm := none } }

/-- After the fuses, a confirmation writes no more than a slot, and no slot but a VALID one. -/
theorem finishConfirm_fused {s : State} {floor key : Nat} (h : s.sec.confirm = some (floor, key)) :
    (s.fused floor key).sec.slotsOnly s.finishConfirm.sec ∧
      ∀ k, k ≤ 1 → (s.slotOf k).state ≠ .valid → s.finishConfirm.slotOf k = s.slotOf k := by
  have hsame : ∀ k, (s.fused floor key).slotOf k = s.slotOf k := fun _ => rfl
  have hfinish : s.finishConfirm = s.fused floor key ∨
      ∃ j, (s.fused floor key).slotIn .valid = some j ∧ s.finishConfirm = (s.fused floor key).setSlot j {} := by
    unfold State.finishConfirm
    rw [h]
    dsimp only
    split
    · exact .inl rfl
    · next j hj =>
      split
      · exact .inr ⟨j, hj, rfl⟩
      · split
        · exact .inr ⟨j, hj, rfl⟩
        · exact .inl rfl
  obtain hf | ⟨j, hj, hf⟩ := hfinish
  · rw [hf]
    exact ⟨rfl, fun k _ _ => hsame k⟩
  · rw [hf]
    obtain ⟨hle, hvalid⟩ := slotIn_le hj
    refine ⟨setSlot_slotsOnly .., fun k hk hne => slotOf_setSlot_other _ _ hle hk ?_⟩
    rintro rfl
    exact hne hvalid

theorem finishConfirm_running (s : State) : s.finishConfirm.sec.running = s.sec.running := by
  cases h : s.sec.confirm with
  | none => unfold State.finishConfirm; rw [h]
  | some x =>
    have hslots := (finishConfirm_fused (s := s) (floor := x.1) (key := x.2) h).1
    rw [Sec.slotsOnly] at hslots
    rw [hslots]
    rfl

/-- What the confirmation of slot k leaves. -/
structure State.Confirmed (s t : State) (k : Nat) (i : Image) : Prop where
  slot : t.slotOf k = ⟨.active, some i⟩
  counter : t.sec.counter = max s.sec.counter i.floor
  revoked : t.sec.revoked = s.sec.revoked ||| (2 ^ i.keyIndex - 1)
  confirm : t.sec.confirm = none
  running : t.sec.running = s.sec.running

/-- The image of slot k is confirmed, whatever stood ACTIVE before it. -/
theorem confirmImage_confirmed {s : State} {k : Nat} {i : Image} (hk : k ≤ 1) (h : (s.slotOf k).image = some i)
    (hstate : (s.slotOf k).state ≠ .active) : State.Confirmed s (s.confirmImage k) k i := by
  obtain ⟨u, hslots, hkeep, hu⟩ : ∃ u : State, s.sec.slotsOnly u.sec ∧ u.slotOf k = s.slotOf k ∧
      (match s.slotIn .active with | some a => s.setSlot a { s.slotOf a with state := .valid } | none => s) = u := by
    refine ⟨_, ?_, ?_, rfl⟩
    · split
      · exact setSlot_slotsOnly ..
      · exact rfl
    · split
      · next a ha =>
        obtain ⟨hle, hactive⟩ := slotIn_le ha
        refine slotOf_setSlot_other _ _ hle hk ?_
        rintro rfl
        exact hstate hactive
      · rfl
  let v := u.setSlot k { u.slotOf k with state := .active }
  let w : State := { v with sec := { v.sec with confirm := some (i.floor, i.keyIndex) } }
  have hconfirm : s.confirmImage k = (w.journalAuto 0xA00E k i.version).finishConfirm := by
    unfold State.confirmImage
    rw [h]
    exact congrArg (fun x : State => (({ x.setSlot k { x.slotOf k with state := .active } with
      sec := { (x.setSlot k { x.slotOf k with state := .active }).sec with confirm := some (i.floor, i.keyIndex) } } : State).journalAuto
        0xA00E k i.version).finishConfirm) hu
  have hsec : (w.journalAuto 0xA00E k i.version).sec = w.sec := (tells_journalAuto ..).quiet.sec
  have hslot : (w.journalAuto 0xA00E k i.version).slotOf k = ⟨.active, some i⟩ := by
    rw [slotOf_of_sec hsec]
    have hactive : w.slotOf k = { u.slotOf k with state := .active } := (slotOf_setSlot u _ hk).1
    rw [hactive, hkeep]
    exact congrArg (ImageSlot.mk .active) h
  obtain ⟨hfused, hothers⟩ := finishConfirm_fused (s := w.journalAuto 0xA00E k i.version) (floor := i.floor) (key := i.keyIndex)
    (by rw [hsec])
  have hv : s.sec.slotsOnly v.sec := hslots.trans (setSlot_slotsOnly ..)
  rw [Sec.slotsOnly] at hfused hv
  rw [hconfirm]
  refine ⟨(hothers k hk (by rw [hslot]; nofun)).trans hslot, ?_, ?_, ?_, ?_⟩
  · rw [hfused]; simp only [State.fused, hsec]; rw [show w.sec.counter = v.sec.counter from rfl, hv]
  · rw [hfused]; simp only [State.fused, hsec]; rw [show w.sec.revoked = v.sec.revoked from rfl, hv]
  · rw [hfused]; rfl
  · rw [hfused]; simp only [State.fused, hsec]; rw [show w.sec.running = v.sec.running from rfl, hv]

theorem confirmImage_running (s : State) (k : Nat) : (s.confirmImage k).sec.running = s.sec.running := by
  unfold State.confirmImage
  split
  · rfl
  · dsimp only
    rw [finishConfirm_running, (tells_journalAuto ..).quiet.sec]
    have hset : ∀ (t : State) j x, (t.setSlot j x).sec.running = t.sec.running := fun t j x => by
      have := setSlot_slotsOnly t j x
      rw [Sec.slotsOnly] at this
      rw [this]
    dsimp only
    rw [hset]
    split
    · exact hset ..
    · rfl

/-! ### The boot ROM (R554, R555) -/

/-- No candidate is left: RECOVERY from BOOT, and J0 and J1 held in reset from another mode (R555). -/
theorem State.touches.starting {l : List Part} {s t : State} (h : State.touches l s t)
    (hl : l.contains Part.dev = false := by rfl) : t.dev.starting = s.dev.starting :=
  (congrArg Device.starting (h.devBut hl) :)

theorem noImage_starting (s : State) : s.noImage.dev.starting = s.dev.starting := by
  unfold State.noImage
  split
  · exact (touches_autoMode s .recovery).starting
  · rfl

theorem noImage_boot {s : State} (h : s.dev.mode = .boot) : s.noImage.dev.mode = .recovery := by
  rw [State.noImage, if_pos h]
  exact autoModeBy_mode ..

theorem noImage_held {s : State} (h : s.dev.mode ≠ .boot) : s.noImage.dev.jcc = .held := by
  rw [State.noImage, if_neg h]

/-- A candidate that fails: its slot aside, no candidate starts, and the next one is tried or none is left. -/
theorem candFails_eq (s : State) (k : Nat) : ∃ u, State.touches [.counts, .log, .sec] s u ∧
    s.candFails k = if s.dev.cands.isEmpty then ({ u with dev := { s.dev with starting := none } } : State).noImage
      else { u with dev := { s.dev with starting := none } } := by
  have htrial : State.touches [.counts, .log, .sec] s (if (s.slotOf k).state = .trial then s.trialFails else s) :=
    touches_ite _ (touches_trialFails s) (touches_refl ..)
  refine ⟨_, htrial, ?_⟩
  unfold State.candFails
  dsimp only
  rw [htrial.dev]

theorem candFails_starting (s : State) (k : Nat) : (s.candFails k).dev.starting = none := by
  obtain ⟨u, -, h⟩ := candFails_eq s k
  rw [h]
  split
  · exact noImage_starting _
  · rfl

theorem candFails_next {s : State} (k : Nat) (h : s.dev.cands ≠ []) : (s.candFails k).dev = { s.dev with starting := none } := by
  obtain ⟨u, -, hu⟩ := candFails_eq s k
  rw [hu, if_neg (by simpa using h)]

theorem candFails_last {s : State} (k : Nat) (h : s.dev.cands = []) :
    (s.dev.mode = .boot → (s.candFails k).dev.mode = .recovery) ∧ (s.dev.mode ≠ .boot → (s.candFails k).dev.jcc = .held) := by
  obtain ⟨u, -, hu⟩ := candFails_eq s k
  rw [hu, if_pos (by rw [h]; rfl)]
  exact ⟨fun hb => noImage_boot hb, fun hb => noImage_held hb⟩

/-- The boot ROM has verified the next candidate. -/
theorem bootVerifyDone_taken {k : Nat} {rest : List Nat} {i : Image} {s : State} (hrom : s.dev.jcc = .bootRom) (hmode : s.dev.mode ≠ .recovery)
    (hidle : s.dev.starting = none) (hset : s.dev.candsSet = true) (hcands : s.dev.cands = k :: rest) (himage : (s.slotOf k).image = some i) :
    exec .bootVerifyDone s = match s.verifyImage i with
      | some (st, _) => .next (({ s with dev := { s.dev with cands := rest, rollback := s.dev.rollback || st == 0x0902 } } : State).candFails k)
      | none => .next { s with
          dev := { s.dev with cands := rest, jcc := .starting, starting := some k, startTick := s.clk.tick, imageVerified := true }
          jcc := { s.jcc with remap := true, sram := Table.setRun 0 s.jcc.sram 0 i.code } } := by
  have hopen : ¬(s.dev.jcc ≠ .bootRom ∨ s.dev.mode = .recovery ∨ s.dev.starting.isSome = true) := by
    simp [hrom, hmode, hidle]
  have hsame : (({ s with dev := { s.dev with cands := rest } } : State).verifyImage i) = s.verifyImage i := verifyImage_of_sec rfl rfl i
  refine (if_neg hopen).trans ?_
  dsimp only
  rw [if_pos hset, hcands]
  dsimp only
  rw [show ({ s with dev := { s.dev with cands := rest } } : State).slotOf k = s.slotOf k from rfl, himage]
  dsimp only
  rw [hsame] <;> rfl

theorem bootVerifyDone_settled (k : Nat) (rest : List Nat) (i : Image) (s : State) (hrom : s.dev.jcc = .bootRom)
    (hmode : s.dev.mode ≠ .recovery) (hidle : s.dev.starting = none) (hset : s.dev.candsSet = true) (hcands : s.dev.cands = k :: rest)
    (himage : (s.slotOf k).image = some i) :
    ∃ t, exec .bootVerifyDone s = .next t ∧
      (s.verifyImage i = none → t.dev.jcc = .starting ∧ t.dev.starting = some k ∧ t.dev.cands = rest ∧
        t.dev.imageVerified = true ∧ t.jcc.remap = true ∧ Table.getRun 0 t.jcc.sram 0 i.code.length = i.code) ∧
      (s.verifyImage i ≠ none → t.dev.starting = none ∧ (rest ≠ [] → t.dev.cands = rest ∧ t.dev.jcc = .bootRom)) := by
  have hexec := bootVerifyDone_taken hrom hmode hidle hset hcands himage
  cases hverify : s.verifyImage i with
  | none =>
    rw [hverify] at hexec
    exact ⟨_, hexec, fun _ => ⟨rfl, rfl, rfl, rfl, rfl, Table.getRun_setRun ..⟩, fun h => absurd rfl h⟩
  | some x =>
    obtain ⟨st, detail⟩ := x
    rw [hverify] at hexec
    refine ⟨_, hexec, nofun, fun _ => ⟨candFails_starting .., fun hrest => ?_⟩⟩
    have hnext := candFails_next (s := { s with dev := { s.dev with cands := rest, rollback := s.dev.rollback || st == 0x0902 } }) k hrest
    rw [hnext]
    exact ⟨rfl, hrom⟩

theorem firmwareStarted_settled (k : Nat) (s : State) (hstart : s.dev.starting = some k) (hboot : s.dev.mode = .boot) :
    ∃ t, exec .firmwareStarted s = .next t ∧ t.dev.mode = .configure ∧ t.dev.jcc = .running ∧ t.dev.starting = none ∧
      t.sec.running = some k := by
  change ∃ t, execFirmwareStarted s = .next t ∧ _
  unfold execFirmwareStarted
  rw [hstart]
  split
  · next hnone => cases hnone
  next k' hk =>
  cases hk
  extract_lets _ s1 _ _ s2 s3 s4
  have hconfirm := touches_finishConfirm s
  have hrunning2 : s2.sec.running = some k := rfl
  have hruns2 : s2.dev.jcc = .running := rfl
  have hstarting2 : s2.dev.starting = none := rfl
  have hmode2 : s2.dev.mode = .boot := hconfirm.mode.trans hboot
  have h3 : State.touches [.counts, .log, .sec] s2 s3 := touches_ite _ ((touches_confirmImage s2 k).le) (touches_refl ..)
  have hrunning3 : s3.sec.running = some k := by
    unfold s3
    split
    · rw [confirmImage_running, hrunning2]
    · exact hrunning2
  have h4 : State.touches [.counts, .log] s3 s4 := touches_ite _ ((touches_defaultPerf s3).le) (touches_refl ..)
  have hstore := touches_applyStore s4 fun _ => false
  rw [if_pos (by rw [h4.mode, h3.mode, hmode2])]
  generalize s4.applyStore (fun _ => false) = s5 at hstore ⊢
  have hauto := touches_autoMode s5 .configure
  refine ⟨_, rfl, autoModeBy_mode .., ?_, ?_, ?_⟩
  · rw [hauto.runs, hstore.runs, h4.runs, h3.runs, hruns2]
  · rw [hauto.starting, hstore.starting, h4.starting, h3.starting, hstarting2]
  · rw [hauto.sec, hstore.sec, h4.sec, hrunning3]

theorem firmwareStartTimeout_settled (k : Nat) (s : State) (hstart : s.dev.starting = some k)
    (hdue : s.dev.startTick + 50000000 ≤ s.clk.tick) :
    ∃ t, exec .firmwareStartTimeout s = .next t ∧ t.dev.starting = none ∧ t.jcc.remap = s.jcc.remap ∧
      (s.dev.cands = [] → s.dev.mode = .boot → t.dev.mode = .recovery) ∧
      (s.dev.cands = [] → s.dev.mode ≠ .boot → t.dev.jcc = .held) := by
  let u : State := { s with dev := { s.dev with jcc := .bootRom } }
  have hexec : exec .firmwareStartTimeout s = .next (u.candFails k) := by
    change execFirmwareStartTimeout s = _
    unfold execFirmwareStartTimeout
    rw [hstart]
    exact if_pos (elapsed_true hdue)
  refine ⟨_, hexec, candFails_starting .., ?_, fun h => (candFails_last (s := u) k h).1, fun h => (candFails_last (s := u) k h).2⟩
  rw [(touches_candFails u k).jcc]

theorem trialConfirmation_settled (k : Nat) (i : Image) (s : State) (hrunning : s.sec.running = some k) (hjcc : s.dev.jcc = .running)
    (hk : k < 2) (hslot : s.slotOf k = ⟨.trial, some i⟩) (htrial : s.sec.trialS ≠ 0)
    (hdue : s.elapsed s.sec.trialTick (s.sec.trialS * secTicks) = true) :
    ∃ t, exec .trialConfirmation s = .next t ∧ (t.slotOf k).state = .active ∧ (t.slotOf k).image = some i ∧
      t.sec.counter = max s.sec.counter i.floor ∧ t.sec.revoked = s.sec.revoked ||| (2 ^ i.keyIndex - 1) ∧ t.sec.confirm = none := by
  have hexec : exec .trialConfirmation s = .next (s.confirmImage k) := by
    change execTrialConfirmation s = _
    unfold execTrialConfirmation
    rw [hrunning]
    exact if_pos ⟨hjcc, by rw [hslot], htrial, hdue⟩
  have h : State.Confirmed s (s.confirmImage k) k i := confirmImage_confirmed (by omega) (by rw [hslot]) (by rw [hslot]; nofun)
  exact ⟨_, hexec, by rw [h.slot], by rw [h.slot], h.counter, h.revoked, h.confirm⟩

/-- Settles O43: the candidate that verifies, the firmware that starts or not, and the trial that ends. -/
theorem bootAndTrial : Obligations.BootAndTrial :=
  ⟨bootVerifyDone_settled, firmwareStarted_settled, firmwareStartTimeout_settled, trialConfirmation_settled⟩

end Sys2Proof.Machine
end

section
/-!
PROOFS. Mode changes: the commands that ask for one (R32, R33, R38) and the changes themselves (R43 to R45).
-/
namespace Sys2Proof.Machine
-- One theorem after the other: many at once need more stacks than the memory limit of the check allows.
set_option Elab.async false

/-! ### The commands (R32, R38) -/

theorem modeChecks_pass {s : State} {ok : Bool} (hpend : s.modePending = false) (hbusy : s.powerBusy = false) (hok : ok = true) :
    ∀ x ∈ s.modeChecks ok, x.1 = false := by
  simp [State.modeChecks, hpend, hbusy, hok]

theorem commitBars_pass {s : State} (h : s.commitPending = false) : ∀ x ∈ s.commitBars, x.1 = false := by
  simp [State.commitBars, h]

theorem checks_append {l k : List (Bool × Nat × Nat)} (hl : ∀ x ∈ l, x.1 = false) (hk : ∀ x ∈ k, x.1 = false) :
    ∀ x ∈ l ++ k, x.1 = false := by
  intro x hx
  exact (List.mem_append.mp hx).elim (hl x) (hk x)

theorem releaseSoon_first {s : State} (hrole : s.dev.role = .holder) (hnone : s.pair.release = none) :
    (s.releaseSoon 0 none).pair.release = some (0, none) := by
  simp only [State.releaseSoon, hrole, hnone, ne_eq, not_true_eq_false, if_false]

/-- A mode command that is accepted: the change at the second boundary, and a release first where it is asked for (R33, R38). -/
theorem finish_acceptMode {s : State} (c : CmdRef) (seq : Nat) (target : Mode) (release : Bool) (hroom : s.journalRoom 1 = true) :
    (s.finish c seq (acceptMode s c target release)).dev = { s.dev with pend := some ⟨target, s.clk.rsn + 2, some c⟩ } ∧
    (release = true → s.dev.role = .holder → s.pair.release = none →
      (s.finish c seq (acceptMode s c target release)).pair.release = some (0, none)) := by
  let u := if release then s.reserve.releaseSoon 0 none else s.reserve
  have hquiet := finish_acceptReserved c seq (fun s : State =>
    { (if release then s.releaseSoon 0 none else s) with
      dev := { (if release then s.releaseSoon 0 none else s).dev with
        pend := some ⟨target, (if release then s.releaseSoon 0 none else s).clk.rsn + 2, some c⟩ } }) hroom
  have hu : State.touches [.host, .pair, .log] s.reserve u := touches_ite _ ((touches_releaseSoon ..).le) (touches_refl ..)
  refine ⟨hquiet.dev.trans ?_, fun hrel hrole hnone => ?_⟩
  · calc { u.dev with pend := some ⟨target, u.clk.rsn + 2, some c⟩ }
        = { s.reserve.dev with pend := some ⟨target, s.reserve.clk.rsn + 2, some c⟩ } := by rw [hu.dev, hu.rsn]
      _ = _ := rfl
  · subst hrel
    exact (congrArg Pair.release hquiet.pair).trans (releaseSoon_first (s := s.reserve) hrole hnone)

theorem powerMode_configure (e : Entry) :
    accepts (.powerMode e 2) e ⟨0x0F01, 3, false, false, []⟩ 1
      (fun s => s.modePending = false ∧ s.powerBusy = false ∧ s.dev.mode = .transport ∧ s.commitPending = false)
      (fun c s t => t.dev = { s.dev with pend := some ⟨.configure, s.clk.rsn + 2, some c⟩ } ∧
        (s.dev.role = .holder → s.peerCarries = true → s.pair.release = none → t.pair.release = some (0, none))) := by
  refine accepts_of_finish (body := configureBody) (fun _ => rfl) fun s c hroom ⟨hpend, hbusy, hmode, hcommit⟩ => ?_
  have hbody : configureBody c s = acceptMode s c .configure s.peerCarries :=
    guarded_pass _ (checks_append (modeChecks_pass hpend hbusy (by rw [hmode]; rfl)) (commitBars_pass hcommit))
  obtain ⟨hdev, hrelease⟩ := finish_acceptMode c e.submitSeq .configure s.peerCarries hroom
  rw [hbody]
  exact ⟨hdev, fun hrole hcarries => hrelease hcarries hrole⟩

theorem powerMode_transport (e : Entry) :
    accepts (.powerMode e 3) e ⟨0x0F01, 3, false, false, []⟩ 1
      (fun s => s.modePending = false ∧ s.powerBusy = false ∧ s.dev.mode = .configure ∧ s.com.gen ≠ 0 ∧ s.dpllReady = true ∧
        (s.dev.role = .follower → s.dev.joined = true))
      (fun c s t => t.dev = { s.dev with pend := some ⟨s.transportTarget, s.clk.rsn + 2, some c⟩ }) := by
  refine accepts_of_finish (body := transportBody) (fun _ => rfl) fun s c hroom ⟨hpend, hbusy, hmode, hgen, hdpll, hjoined⟩ => ?_
  have hready : ∀ x ∈ s.transportChecks, x.1 = false := by
    simpa [State.transportChecks, hgen, hdpll] using hjoined
  have hbody : transportBody c s = acceptMode s c s.transportTarget false :=
    guarded_pass _ (checks_append (modeChecks_pass hpend hbusy (by rw [hmode]; rfl)) hready)
  rw [hbody]
  exact (finish_acceptMode c e.submitSeq s.transportTarget false hroom).1

theorem powerMode_quiescent (e : Entry) :
    accepts (.powerMode e 7) e ⟨0x0F01, 3, false, false, []⟩ 1
      (fun s => s.modePending = false ∧ s.powerBusy = false ∧ s.dev.mode = .configure ∧ s.commitPending = false)
      (fun c s t => t.dev = s.dev ∧ t.pow.dom = s.pow.dom ∧
        (t.pow.sleep.map fun r => (r.quiescent, r.accepted, r.stopped, r.ref)) = some (true, false, [], some c)) := by
  refine accepts_of_finish (body := quiescentBody) (fun _ => rfl) fun s c hroom ⟨hpend, hbusy, hmode, hcommit⟩ => ?_
  have hbody : quiescentBody c s = acceptReserved s fun s => s.beginSleep true [] c :=
    guarded_pass _ (checks_append (modeChecks_pass hpend hbusy (by rw [hmode]; rfl)) (commitBars_pass hcommit))
  have hquiet := finish_acceptReserved c e.submitSeq (fun s : State => s.beginSleep true [] c) hroom
  have hsleep := touches_beginSleep s.reserve true [] c
  have hpow : (s.reserve.beginSleep true [] c).pow = _ := (tells_bump ..).quiet.pow
  rw [hbody]
  refine ⟨hquiet.dev.trans hsleep.dev, ?_, ?_⟩
  · rw [hquiet.pow, hpow]; rfl
  · rw [hquiet.pow, hpow]; rfl

theorem testEnter_pends (e : Entry) :
    accepts (.testEnter e) e ⟨0x0E01, 3, false, false, []⟩ 1
      (fun s => s.modePending = false ∧ s.powerBusy = false ∧ (s.dev.mode = .configure ∨ s.dev.mode = .transport) ∧
        s.commitPending = false)
      (fun c s t => t.dev = { s.dev with pend := some ⟨.test, s.clk.rsn + 2, some c⟩ } ∧
        (s.dev.role = .holder → s.pair.release = none → t.pair.release = some (0, none))) := by
  refine accepts_of_finish (body := testEnterBody) (fun _ => rfl) fun s c hroom ⟨hpend, hbusy, hmode, hcommit⟩ => ?_
  have hbody : testEnterBody c s = acceptMode s c .test true :=
    guarded_pass _ (checks_append (modeChecks_pass hpend hbusy (by obtain h | h := hmode <;> rw [h] <;> rfl)) (commitBars_pass hcommit))
  obtain ⟨hdev, hrelease⟩ := finish_acceptMode c e.submitSeq .test true hroom
  rw [hbody]
  exact ⟨hdev, hrelease rfl⟩

theorem testExit_pends (e : Entry) :
    accepts (.testExit e) e ⟨0x0E02, 3, false, false, []⟩ 1
      (fun s => s.modePending = false ∧ s.powerBusy = false ∧ s.dev.mode = .test ∧ s.commitPending = false)
      (fun c s t => t.dev = { s.dev with pend := some ⟨.configure, s.clk.rsn + 2, some c⟩ }) := by
  refine accepts_of_finish (body := testExitBody) (fun _ => rfl) fun s c hroom ⟨hpend, hbusy, hmode, hcommit⟩ => ?_
  have hbody : testExitBody c s = acceptMode s c .configure false :=
    guarded_pass _ (checks_append (modeChecks_pass hpend hbusy (by rw [hmode]; rfl)) (commitBars_pass hcommit))
  rw [hbody]
  exact (finish_acceptMode c e.submitSeq .configure false hroom).1

theorem fwMaintain_pends (e : Entry) :
    accepts (.fwMaintain e) e ⟨0x1204, 3, false, false, []⟩ 1
      (fun s => s.modePending = false ∧ s.powerBusy = false ∧ (s.dev.mode = .configure ∨ s.dev.mode = .transport) ∧
        s.commitPending = false ∧ (s.dev.role = .follower → s.dev.joined = true))
      (fun c s t => t.dev = { s.dev with pend := some ⟨.maintain, s.clk.rsn + 2, some c⟩ }) := by
  refine accepts_of_finish (body := maintainBody) (fun _ => rfl) fun s c hroom ⟨hpend, hbusy, hmode, hcommit, hjoined⟩ => ?_
  have hfollows : ∀ x ∈ [(s.dev.role == .follower && !s.dev.joined, 0x0204, 0)], x.1 = false := by simpa using hjoined
  have hbody : maintainBody c s = acceptMode s c .maintain false :=
    guarded_pass _ (checks_append (checks_append (modeChecks_pass hpend hbusy (by obtain h | h := hmode <;> rw [h] <;> rfl))
      (commitBars_pass hcommit)) hfollows)
  rw [hbody]
  exact (finish_acceptMode c e.submitSeq .maintain false hroom).1

theorem fwResume_pends (e : Entry) :
    accepts (.fwResume e) e ⟨0x1205, 3, false, false, []⟩ 1
      (fun s => s.modePending = false ∧ s.powerBusy = false ∧ s.dev.mode = .maintain)
      (fun c s t => t.dev = { s.dev with pend := some ⟨s.dev.prevMode, s.clk.rsn + 2, some c⟩ }) := by
  refine accepts_of_finish (body := resumeBody) (fun _ => rfl) fun s c hroom ⟨hpend, hbusy, hmode⟩ => ?_
  have hbody : resumeBody c s = acceptMode s c s.dev.prevMode false :=
    guarded_pass _ (modeChecks_pass hpend hbusy (by rw [hmode]; rfl))
  rw [hbody]
  exact (finish_acceptMode c e.submitSeq s.dev.prevMode false hroom).1

/-! ### The change itself (R43 to R45) -/

theorem abandonCopy_pair (s : State) : s.abandonCopy.pair = { s.pair with live := none, liveTime := none } := by
  unfold State.abandonCopy
  extract_lets _ _ _ s1 pend
  split
  · rfl
  · exact (touches_setShadow ..).pair

theorem abandonCopy_car (s : State) : s.abandonCopy.com.car = s.com.car := by
  unfold State.abandonCopy
  extract_lets _ _ _ s1 pend
  split
  · rfl
  · rfl

theorem setShadow_egrB (s : State) (b : Bank) : (s.setShadow b).egrB = s.egrB := by
  unfold State.setShadow State.egrB
  by_cases h : s.sw.egrBank = true <;> simp [h]

theorem abandonCopy_egrB (s : State) : s.abandonCopy.egrB = s.egrB := by
  unfold State.abandonCopy
  extract_lets _ _ _ s1 pend
  split
  · rfl
  · exact setShadow_egrB s1 s1.egrB

theorem abandonCopy_idle {s : State} (h : s.pair.live = none) : s.abandonCopy.sw = s.sw := by
  unfold State.abandonCopy
  extract_lets armed filled _ s1 pend
  have hfilled : filled = false := by simp [filled, h]
  rw [if_pos (by simp [hfilled])]

theorem egrB_of_sw {s t : State} (h : t.sw = s.sw) : t.egrB = s.egrB := by
  unfold State.egrB; rw [h]

theorem sendFrame_live (s : State) : s.sendFrame.pair.live = s.pair.live := rfl

/-- The clasp is given up; the release is still to be told (R355, R358). -/
def State.claspGiven (s : State) (kind : Nat) : State :=
  { s with
    dev := { s.dev with role := .follower, joined := s.pair.peerJoined && s.dev.mode != Mode.configure }
    pair := { s.pair with
      freedTick := some s.clk.tick
      followTick := s.clk.tick
      seized := false
      takeover := false
      cdual := false
      release := none
      faultAnn := s.pair.faultAnn || kind == 1
      announce := if kind = 0 ∨ kind = 2 then 3 else 0
      repeats := if kind = 3 then 0 else 3 } }

/-- A release: a live copy is given up, then the clasp; a commit that is not armed ends, and the release is told. -/
theorem giveUp_stages (s : State) (kind : Nat) : ∃ u, State.touches [.host, .counts, .com, .log] (s.abandonCopy.claspGiven kind) u ∧
    s.giveUp kind = u.sendFrame := by
  unfold State.giveUp
  extract_lets s1 _ _ s2 s3 s4 s5
  have h3 : State.touches [.host, .counts, .com, .log] s2 s3 := (touches_abortUnarmed s2).le
  have h4 : State.touches [.host, .counts, .com, .log] s2 s4 :=
    touches_ite _ ((tells_bump ..).touches.after h3) (((tells_bump ..).trans (tells_lifeAdd ..)).touches.after h3)
  have h5 : State.touches [.host, .counts, .com, .log] s2 s5 := by
    unfold s5
    split
    · exact (tells_journalAuto ..).touches.after h4
    · exact (tells_journalAuto ..).touches.after h4
    · exact (tells_journalAuto ..).touches.after h4
    · exact h4
  exact ⟨s5, h5, rfl⟩

theorem giveUp_dev (s : State) (kind : Nat) : (s.giveUp kind).dev =
    { s.dev with role := .follower, joined := s.pair.peerJoined && s.dev.mode != .configure } := by
  obtain ⟨u, hu, h⟩ := giveUp_stages s kind
  rw [h, (touches_sendFrame u).dev, hu.dev]
  unfold State.claspGiven
  rw [(touches_abandonCopy s).dev, abandonCopy_pair]

theorem giveUp_live (s : State) (kind : Nat) : (s.giveUp kind).pair.live = none := by
  obtain ⟨u, hu, h⟩ := giveUp_stages s kind
  rw [h, sendFrame_live, hu.pair]
  exact (congrArg Pair.live (abandonCopy_pair s) :)

theorem giveUp_sw (s : State) (kind : Nat) : (s.giveUp kind).sw = s.abandonCopy.sw := by
  obtain ⟨u, hu, h⟩ := giveUp_stages s kind
  rw [h, (touches_sendFrame u).sw, hu.sw]
  rfl

/-- What a device leaves behind before it enters mode m: its test set, the clasp, a live copy, the timetable. -/
def State.leavesMode (s : State) (m : Mode) : State :=
  let s := if s.dev.mode = .test ∧ m ≠ .test then s.emptyTestSet else s
  let s := if s.dev.role = .holder ∧ m.mayHold = false then s.giveUp 0 else s
  let s := if m = .configure then s else s.abandonCopy
  if m = .caravan then s.joinCaravan
  else if s.dev.mode = .caravan ∨ m.outOfService = true then s.endTimetable
  else s

/-- The record of the mode that is entered. -/
def State.modeEntered (s : State) (m : Mode) : State :=
  { s with
    dev := { s.dev with
      mode := m
      prevMode := s.dev.mode
      toTransport := none
      role := s.roleIn m
      joined := if m = .configure ∨ m = .test then false else s.dev.joined }
    pair := { s.pair with
      heard := false
      modeTick := s.clk.tick
      followTick := if s.roleIn m ≠ s.dev.role ∧ s.roleIn m = .follower then s.clk.tick else s.pair.followTick
      holdSince := if m = .configure then false else s.pair.holdSince }
    pow := { s.pow with quietTick := if m = .quiescent then s.clk.tick else s.pow.quietTick } }

theorem enterMode_eq (s : State) (m : Mode) : s.enterMode m =
    if (s.leavesMode m).roleIn m ≠ (s.leavesMode m).dev.role then ((s.leavesMode m).modeEntered m).sendFrame
    else (s.leavesMode m).modeEntered m := rfl

theorem enterMode_touches (s : State) (m : Mode) : State.touches [.pair] ((s.leavesMode m).modeEntered m) (s.enterMode m) := by
  rw [enterMode_eq]
  exact touches_ite _ (touches_sendFrame _) (touches_refl ..)

/-- What the way out of a mode keeps. -/
structure State.Left (s u : State) (m : Mode) : Prop where
  touches : State.touches [.mode, .host, .par, .counts, .lanes, .sw, .com, .pair, .log] s u
  mode : u.dev.mode = s.dev.mode
  role : u.dev.role = if s.dev.role = .holder ∧ m.mayHold = false then .follower else s.dev.role
  noPend : s.dev.pend = none → u.dev.pend = none
  pend : ∀ q, u.dev.pend = some q → ∃ p, s.dev.pend = some p ∧ (q.target = .recovery → p.target = .recovery)
  start : ∀ r, m = .caravan → s.com.car.start = some r → u.com.car.start = some r
  lanes : s.dev.mode ≠ .test → u.lanes = s.lanes
  egrB : u.egrB = s.egrB
  sw : s.pair.live = none → u.sw = s.sw

theorem dropEntry_dev (s : State) : s.dropEntry.dev = s.dev := (touches_dropEntry s).dev

theorem endTimetable_dev (s : State) : s.endTimetable.dev = { s.dev with pend := s.dev.pend.map fun p =>
    if p.target = .caravan ∧ s.dev.role = .follower then { p with target := .transport } else p } := by
  rw [← dropEntry_dev s]
  rfl

/-- A change into CARAVAN that is turned back does not become one into RECOVERY. -/
theorem turned_recovery (p : ModeChange) (c : Prop) [Decidable c] :
    (if c then { p with target := .transport } else p : ModeChange).target = .recovery → p.target = .recovery := by
  split
  · intro h; cases h
  · exact id

theorem leavesMode_left (s : State) (m : Mode) : State.Left s (s.leavesMode m) m := by
  unfold State.leavesMode
  extract_lets s1 s2 s3
  have h1 : State.touches [.host, .par, .lanes] s s1 := touches_ite _ (touches_emptyTestSet s) (touches_refl ..)
  have hlanes1 : s.dev.mode ≠ .test → s1.lanes = s.lanes := fun h => by
    unfold s1
    rw [if_neg fun k => h k.1]
  clear_value s1
  have h2 : State.touches [.mode, .host, .counts, .sw, .com, .pair, .log] s1 s2 := touches_ite _ (touches_giveUp ..) (touches_refl ..)
  have hdev2 : ∃ j, s2.dev = { s.dev with role := if s.dev.role = .holder ∧ m.mayHold = false then .follower else s.dev.role, joined := j } := by
    unfold s2
    rw [h1.role]
    split
    · rw [giveUp_dev, h1.dev]; exact ⟨_, rfl⟩
    · rw [h1.dev]; exact ⟨_, rfl⟩
  have hsw2 : s2.egrB = s.egrB ∧ (s.pair.live = none → s2.sw = s.sw ∧ s2.pair.live = none) := by
    unfold s2
    split
    · refine ⟨(egrB_of_sw (giveUp_sw s1 0)).trans ((abandonCopy_egrB s1).trans (egrB_of_sw h1.sw)), fun hlive => ⟨?_, giveUp_live ..⟩⟩
      rw [giveUp_sw, abandonCopy_idle (by rw [h1.pair]; exact hlive), h1.sw]
    · exact ⟨egrB_of_sw h1.sw, fun hlive => ⟨h1.sw, by rw [h1.pair]; exact hlive⟩⟩
  have hcar2 : m = .caravan → s2.com.car = s.com.car := by
    rintro rfl
    unfold s2
    rw [if_neg fun h => by simp [Mode.mayHold] at h, h1.com]
  clear_value s2
  have h3 : State.touches [.sw, .com, .pair] s2 s3 := touches_ite _ (touches_refl ..) (touches_abandonCopy s2)
  have hsw3 : s3.egrB = s2.egrB ∧ (s2.pair.live = none → s3.sw = s2.sw) := by
    unfold s3
    split
    · exact ⟨rfl, fun _ => rfl⟩
    · exact ⟨abandonCopy_egrB s2, abandonCopy_idle⟩
  have hcar3 : s3.com.car = s2.com.car := by
    unfold s3
    split
    · rfl
    · exact abandonCopy_car s2
  clear_value s3
  have h13 : State.touches [.mode, .host, .par, .counts, .lanes, .sw, .com, .pair, .log] s s3 := h3.after (h2.after h1.le)
  obtain ⟨j, hdev2⟩ := hdev2
  have hdev3 := h3.dev.trans hdev2
  have hegr : s3.egrB = s.egrB := hsw3.1.trans hsw2.1
  have hsw : s.pair.live = none → s3.sw = s.sw := fun h => (hsw3.2 (hsw2.2 h).2).trans (hsw2.2 h).1
  have hlanes : s.dev.mode ≠ .test → s3.lanes = s.lanes := fun h => by rw [h3.lanes, h2.lanes, hlanes1 h]
  split
  · next hm =>
    have hjoin := touches_joinCaravan s3
    refine ⟨hjoin.after h13, ?_, ?_, ?_, ?_, ?_, ?_, ?_, ?_⟩
    · rw [hjoin.mode, hdev3]
    · rw [hjoin.role, hdev3]
    · rw [hjoin.dev, hdev3]; exact id
    · rw [hjoin.dev, hdev3]; exact fun q hq => ⟨q, hq, id⟩
    · intro r hm hr
      have hstart : s3.com.car.start = some r := by rw [hcar3, hcar2 hm, hr]
      unfold State.joinCaravan
      rw [hstart]
      exact hstart
    · rw [hjoin.lanes]; exact hlanes
    · exact (egrB_of_sw hjoin.sw).trans hegr
    · rw [hjoin.sw]; exact hsw
  next hm =>
  split
  · have hend := touches_endTimetable s3
    refine ⟨hend.after h13, ?_, ?_, ?_, ?_, fun _ h => absurd h hm, ?_, ?_, ?_⟩
    · rw [endTimetable_dev, hdev3]
    · rw [endTimetable_dev, hdev3]
    · rw [endTimetable_dev, hdev3]; intro h; dsimp only; rw [h]; rfl
    · rw [endTimetable_dev, hdev3]
      intro q hq
      obtain ⟨p, hp, rfl⟩ := Option.map_eq_some_iff.mp hq
      exact ⟨p, hp, turned_recovery p _⟩
    · rw [hend.lanes]; exact hlanes
    · exact (egrB_of_sw hend.sw).trans hegr
    · rw [hend.sw]; exact hsw
  · refine ⟨h13, ?_, ?_, ?_, ?_, fun _ h => absurd h hm, hlanes, hegr, hsw⟩
    · rw [hdev3]
    · rw [hdev3]
    · rw [hdev3]; exact id
    · rw [hdev3]; exact fun q hq => ⟨q, hq, id⟩

theorem enterMode_left (s : State) (m : Mode) : ∃ u, State.Left s u m ∧ State.touches [.pair] (u.modeEntered m) (s.enterMode m) :=
  ⟨s.leavesMode m, leavesMode_left s m, enterMode_touches s m⟩

/-- An autonomous change: the mode is entered, and what waited goes, but for a recovery. -/
theorem autoModeBy_entered (s : State) (m : Mode) (by' : Option CmdRef) :
    State.touches [.mode, .host, .counts, .log] (s.enterMode m) (s.autoModeBy m by') ∧
      ((s.autoModeBy m by').dev = { (s.enterMode m).dev with pend := none } ∨
        (s.autoModeBy m by').dev = (s.enterMode m).dev ∧
          ∀ p, (s.enterMode m).dev.pend = some p → p.target = .recovery ∧ m ≠ .recovery) := by
  unfold State.autoModeBy
  extract_lets old s1 s2 _ s3
  have h2 : State.touches [.mode, .host, .counts, .log] s1 s2 := by
    unfold s2
    split
    · exact (tells_journalCmd ..).touches.le
    · exact (tells_journalAuto ..).touches.le
  have hdev2 : s2.dev = s1.dev := by
    unfold s2
    split
    · exact (tells_journalCmd ..).quiet.dev
    · exact (tells_journalAuto ..).quiet.dev
  have hdev3 : s3.dev = { s1.dev with pend := none } := by rw [← hdev2]
  have h3 : State.touches [.mode, .host, .counts, .log] s1 s3 := h2.set_mode
  clear_value s3 s2
  split
  · next hpend =>
    exact ⟨h2, .inr ⟨hdev2, fun p hp => by rw [← hdev2, hpend] at hp; cases hp⟩⟩
  · next p hpend =>
    split
    · next hrec =>
      refine ⟨h2, .inr ⟨hdev2, fun q hq => ?_⟩⟩
      rw [← hdev2, hpend] at hq
      cases hq
      exact hrec
    · split
      · split
        · exact ⟨h3, .inl hdev3⟩
        · exact ⟨(touches_unreserve s3).after h3, .inl ((touches_unreserve s3).dev.trans hdev3)⟩
      · split
        · exact ⟨(touches_complete ..).after ((touches_unreserve s3).after h3),
            .inl ((touches_complete ..).dev.trans ((touches_unreserve s3).dev.trans hdev3))⟩
        · exact ⟨(touches_failRef ..).after h3, .inl ((touches_failRef ..).dev.trans hdev3)⟩

theorem exec_modeChangeEffect_auto {m : Mode} {c : Option CmdRef} {s : State} (h : s.autoDue = some (m, c)) :
    exec .modeChangeEffect s = .next (s.autoModeBy m c) := by
  change execModeChangeEffect s = _
  unfold execModeChangeEffect
  rw [h]

/-- The state as the change that was pending begins. -/
def State.unpended (s : State) : State := { s with dev := { s.dev with pend := none } }

theorem exec_modeChangeEffect_due {p : ModeChange} {s : State} (h : s.autoDue = none) (hp : s.dev.pend = some p)
    (hdue : rsnLe p.due s.clk.rsn = true) : exec .modeChangeEffect s = .next (if p.target = .recovery then
      (match p.ref with | some c => s.unpended.unreserve.journalCmd c 1 p.target.code 1 s.dev.mode.code | none => s.unpended).fullReset 2 3
      else match p.ref with
        | some c => (s.unpended.enterMode p.target).effectOf c p.target.code 1 s.dev.mode.code
        | none => s.unpended.enterMode p.target) := by
  change execModeChangeEffect s = _
  unfold execModeChangeEffect
  rw [h, hp]
  dsimp only
  rw [if_neg (by rw [hdue]; decide)]
  split
  · rfl
  · cases p.ref <;> rfl

theorem modeChangeEffect_none (s : State) (h : s.autoDue = none)
    (hp : ∀ p, s.dev.pend = some p → rsnLe p.due s.clk.rsn = false) : exec .modeChangeEffect s = .next s := by
  change execModeChangeEffect s = _
  unfold execModeChangeEffect
  rw [h]
  cases hpend : s.dev.pend with
  | none => rfl
  | some p => exact if_pos (hp p hpend)

theorem roleIn_serving {s : State} {m : Mode} (hm : m.mayHold = true) (hrole : s.dev.role ≠ .none) : s.roleIn m = s.dev.role := by
  cases m with
  | configure | transport | caravan | maintain => exact if_neg hrole
  | boot | recovery | test | quiescent => cases hm

theorem modeChangeEffect_mode (p : ModeChange) (s : State) (hauto : s.autoDue = none) (hp : s.dev.pend = some p)
    (hdue : rsnLe p.due s.clk.rsn = true) (htarget : p.target ≠ .recovery) :
    ∃ t, exec .modeChangeEffect s = .next t ∧ t.dev.mode = p.target ∧ t.dev.prevMode = s.dev.mode ∧ t.dev.pend = none ∧
      (p.target = .configure ∨ p.target = .test → t.dev.joined = false) ∧
      (p.target = .boot ∨ p.target = .quiescent → t.dev.role = .none) ∧
      (p.target = .test → s.dev.role = .holder → t.dev.role = .follower) ∧
      (p.target.mayHold = true → s.dev.role ≠ .none → t.dev.role = s.dev.role) ∧
      (s.dev.mode ≠ .test → t.lanes = s.lanes ∧ t.egrB = s.egrB ∧ (s.pair.live = none → t.sw = s.sw)) ∧ t.clk = s.clk := by
  obtain ⟨u, hleft, hpair⟩ := enterMode_left s.unpended p.target
  have heffect : State.touches [.host, .counts, .log] (s.unpended.enterMode p.target)
      (match p.ref with
        | some c => (s.unpended.enterMode p.target).effectOf c p.target.code 1 s.dev.mode.code
        | none => s.unpended.enterMode p.target) := by
    split
    · exact touches_effectOf ..
    · exact touches_refl ..
  have hexec := exec_modeChangeEffect_due hauto hp hdue
  rw [if_neg htarget] at hexec
  refine ⟨_, hexec, ?_⟩
  generalize (match p.ref with
    | some c => (s.unpended.enterMode p.target).effectOf c p.target.code 1 s.dev.mode.code
    | none => s.unpended.enterMode p.target) = t at heffect ⊢
  have ht : State.touches [.host, .counts, .pair, .log] (u.modeEntered p.target) t := heffect.after hpair.le
  rw [ht.dev, ht.lanes, egrB_of_sw ht.sw, ht.sw, ht.clk]
  refine ⟨rfl, hleft.mode, hleft.noPend rfl, fun h => if_pos h, ?_, ?_, ?_, ?_, hleft.touches.clk⟩
  · rintro (h | h) <;> simp only [State.modeEntered, h] <;> rfl
  · intro h hrole
    have hu := hleft.role
    rw [h, if_pos ⟨hrole, rfl⟩] at hu
    change u.roleIn p.target = _
    rw [h]
    simp only [State.roleIn, hu]
    rfl
  · intro h hrole
    have hu : u.dev.role = s.dev.role := hleft.role.trans (if_neg fun k => by rw [h] at k; exact absurd k.2 (by decide))
    exact (roleIn_serving h (hu ▸ hrole)).trans hu
  · exact fun hmode => ⟨hleft.lanes hmode, hleft.egrB, hleft.sw⟩

theorem modeChangeEffect_recovery (p : ModeChange) (s : State) (hauto : s.autoDue = none) (hp : s.dev.pend = some p)
    (hdue : rsnLe p.due s.clk.rsn = true) (htarget : p.target = .recovery) :
    ∃ t, exec .modeChangeEffect s = .next t ∧ t.dev.mode = .recovery ∧ t.dev.role = .none ∧ t.dev.jcc = .bootRom ∧
      t.dev.resetKind = 2 ∧ t.dev.resetCause = 3 ∧ t.dev.pend = none ∧ t.lanes = [] ∧ t.sec.counter = s.sec.counter := by
  have hexec := exec_modeChangeEffect_due hauto hp hdue
  rw [if_pos htarget] at hexec
  refine ⟨_, hexec, ?_⟩
  have hrecord : State.touches [.counts, .log] s.unpended (match p.ref with
      | some c => s.unpended.unreserve.journalCmd c 1 p.target.code 1 s.dev.mode.code
      | none => s.unpended) := by
    split
    · exact (tells_journalCmd ..).touches.after (touches_unreserve _).le
    · exact touches_refl ..
  generalize (match p.ref with
      | some c => s.unpended.unreserve.journalCmd c 1 p.target.code 1 s.dev.mode.code
      | none => s.unpended) = u at hrecord ⊢
  obtain ⟨tmr, hdev⟩ := beginBoot_dev (u.leaveClasp.cleared false) 2 3
  have hboot := touches_beginBoot (u.leaveClasp.cleared false) 2 3
  have hcounter : (u.leaveClasp.cleared false).sec.counter = s.sec.counter :=
    (congrArg Sec.counter (touches_leaveClasp u).sec).trans (congrArg Sec.counter hrecord.sec :)
  rw [fullReset_pin, hdev, hboot.lanes, hboot.sec, hcounter]
  exact ⟨rfl, rfl, rfl, rfl, rfl, rfl, rfl, rfl⟩

theorem modeChangeEffect_autonomous (m : Mode) (c : Option CmdRef) (s : State) (h : s.autoDue = some (m, c)) :
    ∃ t, exec .modeChangeEffect s = .next t ∧ t.dev.mode = m ∧ t.dev.prevMode = s.dev.mode ∧ t.dev.toTransport = none ∧
      (∀ p, s.dev.pend = some p → p.target ≠ .recovery → t.dev.pend = none) ∧ t.clk = s.clk := by
  obtain ⟨u, hleft, hpair⟩ := enterMode_left s m
  obtain ⟨ht, hdev⟩ := autoModeBy_entered s m c
  refine ⟨_, exec_modeChangeEffect_auto h, autoModeBy_mode .., ?_⟩
  rw [ht.clk, hpair.clk]
  obtain hdev | ⟨hdev, hrecovery⟩ := hdev
  · rw [hdev, hpair.dev]
    exact ⟨hleft.mode, rfl, fun _ _ _ => rfl, hleft.touches.clk⟩
  · rw [hdev, hpair.dev]
    refine ⟨hleft.mode, rfl, fun p hp hne => ?_, hleft.touches.clk⟩
    change u.dev.pend = none
    cases hu : u.dev.pend with
    | none => rfl
    | some q =>
      obtain ⟨p', hp', hsame⟩ := hleft.pend q hu
      obtain ⟨hq, -⟩ := hrecovery q (by rw [hpair.dev]; exact hu)
      rw [hp] at hp'
      cases hp'
      exact absurd (hsame hq) hne

theorem modeChangeEffect_caravan (r : Rsn) (s : State) (hto : s.dev.toTransport = none) (hrole : s.dev.role = .follower)
    (hmode : s.dev.mode = .transport) (hjoined : s.dev.joined = true) (hstart : s.com.car.start = some r) (hstop : s.com.car.stop = none)
    (hdue : rsnLe r s.clk.rsn = true) :
    ∃ t, exec .modeChangeEffect s = .next t ∧ t.dev.mode = .caravan ∧ t.com.car.start = some r := by
  have hauto : s.autoDue = some (.caravan, s.com.car.startRef) := by
    simp [State.autoDue, hto, hrole, hmode, hjoined, hstart, hstop, hdue]
  obtain ⟨u, hleft, hpair⟩ := enterMode_left s .caravan
  obtain ⟨ht, -⟩ := autoModeBy_entered s .caravan s.com.car.startRef
  refine ⟨_, exec_modeChangeEffect_auto hauto, autoModeBy_mode .., ?_⟩
  rw [ht.com, hpair.com]
  exact hleft.start r rfl hstart

/-- Settles O31: a mode command waits for the second boundary; the change leaves the mode behind and enters the other. -/
theorem modesChange : Obligations.ModesChange :=
  ⟨⟨powerMode_configure, powerMode_transport, powerMode_quiescent, testEnter_pends, testExit_pends, fwMaintain_pends, fwResume_pends⟩,
    modeChangeEffect_mode, modeChangeEffect_recovery, modeChangeEffect_autonomous, modeChangeEffect_caravan, modeChangeEffect_none⟩

end Sys2Proof.Machine
end

section
/-!
PROOFS. Power: voltage and frequency (R487), requests of domains (R475 to R477), the sleep handshake (R478 to R481), wakes and the
supplies (R482, R483).
-/
namespace Sys2Proof.Machine
-- One theorem after the other: many at once need more stacks than the memory limit of the check allows.
set_option Elab.async false

/-! ### Voltage and frequency (R487) -/

/-- A unit in CONFIGURE with an ADMIN session and a command in mailbox 0: the unit on which a refutation runs. -/
def bench (w : BitVec 512) : State := {
  dev := { mode := .configure, jcc := .running, role := .standalone, serviceEn := true, tmr := true, resetKind := 1 }
  host := {
    dmaOn := true
    mail := [(0, { state := 1, cmd := w })]
    sessions := [(1, { state := .opened, handle := 9, role := 3 })] }
  sec := { adminInitial := false, keys := [(3, 77), (4, 78)] } }

/-- The entry that spells command f from that mailbox under that session. -/
def benchEntry (f : Entry → Instr) : Entry := entryOf 16 9 7 0 (cmdOf (f ⟨16, 0⟩))

/-- What a quantity of the state is after one command. -/
def valueAfter {α : Type} (q : State → α) (i : Instr) (s : State) : Option α :=
  match exec i s with
  | .next t => some (q t)
  | _ => none

theorem valueAfter_next {α : Type} (q : State → α) {i : Instr} {s t : State} (h : exec i s = .next t) :
    valueAfter q i s = some (q t) := by
  unfold valueAfter; rw [h]

/-- Both setpoints at 1 already, and the rail 100 mV above what they need. -/
def equalSetpoints (e : Entry) : State := { bench e.word with pow := { dvfsJcc := 1, dvfsFac := 1, vctl := 900 } }

/-- Refutes O38: a setpoint that is asked for again leaves the rail where it stands, also where the rail is above need. -/
theorem not_voltageAndFrequency : ¬ Obligations.VoltageAndFrequency := by
  intro h
  obtain ⟨hdown, -⟩ := h
  let e := benchEntry fun e => .powerDvfs e 2 1
  obtain ⟨t, ht, -, -, -, hrail⟩ := hdown e 2 1 (equalSetpoints e) (by decide +kernel) (by decide +kernel)
    ⟨⟨by decide, by decide, by decide +kernel, by decide, by decide +kernel, by decide +kernel⟩, by decide +kernel⟩
  have hrun : valueAfter (·.pow.vctl) (.powerDvfs e 2 1) (equalSetpoints e) = some 900 := by decide +kernel
  have hneed : t.pow.vctl = 800 := hrail.trans (by decide +kernel)
  rw [valueAfter_next _ ht, hneed] at hrun
  exact absurd hrun (by decide)

/-! ### The states of domains (R471) -/

theorem domain_of_dom {s t : State} (h : t.pow.dom = s.pow.dom) (q : Nat) : t.domain q = s.domain q := by
  unfold State.domain; rw [h]

/-- A step over items puts the domain of its item in a state, and leaves the others. -/
def setsDomains {α : Type} (f : State → α → State) (g v : α → Nat) : Prop :=
  (∀ s a, (f s a).domain (g a) = v a) ∧ ∀ s a q, q ≠ g a → (f s a).domain q = s.domain q

section
variable {α : Type} {f : State → α → State} {g v : α → Nat} (hf : setsDomains f g v)
include hf

theorem foldl_domain_other (l : List α) (s : State) {q : Nat} (h : ∀ a ∈ l, g a ≠ q) : (l.foldl f s).domain q = s.domain q := by
  induction l generalizing s with
  | nil => rfl
  | cons a r ih =>
    rw [List.foldl_cons, ih _ fun b hb => h b (List.mem_cons_of_mem _ hb), hf.2 _ _ _ (Ne.symm (h a (List.mem_cons_self ..)))]

/-- Where every item of domain q asks for the same state, q has it in the end. -/
theorem foldl_domain_agreed (l : List α) (s : State) {q n : Nat} (h : ∀ a ∈ l, g a = q → v a = n) (hq : s.domain q = n ∨ ∃ a ∈ l, g a = q) :
    (l.foldl f s).domain q = n := by
  induction l generalizing s with
  | nil => exact hq.elim id fun ⟨a, ha, _⟩ => nomatch ha
  | cons a r ih =>
    refine ih _ (fun b hb => h b (List.mem_cons_of_mem _ hb)) ?_
    by_cases hqa : q = g a
    · exact .inl (by rw [hqa, hf.1, h a (List.mem_cons_self ..) hqa.symm])
    · rw [hf.2 _ _ _ hqa]
      refine hq.imp id fun ⟨b, hb, hbq⟩ => ⟨b, ?_, hbq⟩
      exact (List.mem_cons.mp hb).resolve_left fun k => hqa (by rw [← hbq, k])

end

/-! ### Requests (R475, R476) -/

/-- The entries of a request that are not met yet. -/
def State.unmet (s : State) (es : List DomainEntry) : List DomainEntry := es.filter fun x => s.domain x.domain != x.target

theorem mem_unmet {s : State} {es : List DomainEntry} {x : DomainEntry} : x ∈ s.unmet es ↔ x ∈ es ∧ s.domain x.domain ≠ x.target := by
  simp [State.unmet]

/-- The domains of these entries begin to wake, for command c. -/
def State.wakes (s : State) (xs : List DomainEntry) (c : CmdRef) : State :=
  let t := xs.foldl (fun s x => s.setDomain x.domain 3) s
  { t with pow := { t.pow with
    wake := some ⟨xs.map (·.domain), t.clk.tick, some c, (xs.map (·.domain)).filter fun q => s.domain q == 2⟩ } }

theorem powerDomain_pass {s : State} {b : Buf} {es : List DomainEntry} (c : CmdRef) (h : s.domainsOpen b es) :
    powerDomainBody b es.length es c s = if (s.unmet es).isEmpty then .done s 0 [(0, es.length, 0)]
      else acceptReserved s fun u => if (s.unmet es).all fun x => x.target == 0 then u.wakes (s.unmet es) c else u.beginSleep false es c := by
  obtain ⟨hne, hlen, hbuf, hfields, hbad, hread, hbusy, hmode⟩ := h
  have hpos : es.length ≠ 0 := fun h => hne (List.length_eq_zero_iff.mp h)
  unfold powerDomainBody
  rw [if_neg hpos]
  refine (guarded_pass _ ?_).trans ((checkItems_pass _ _ ?_).trans ((guarded_pass _ ?_).trans ?_))
  · simp only [List.mem_cons, List.not_mem_nil, or_false, forall_eq_or_imp, forall_eq, beq_eq_false_iff_ne, decide_eq_false_iff_not]
    omega
  · rw [List.take_length]
    intro x hx
    have := hfields x hx
    simp only [decide_eq_false_iff_not]
    omega
  · rw [List.take_length]
    simp [hbad, hread, hbusy, hmode]
  · rw [List.take_length]
    rfl

theorem wakes_tick (s : State) (xs : List DomainEntry) : (xs.foldl (fun s x => s.setDomain x.domain 3) s).clk = s.clk :=
  (touches_foldl (touches_refl [.pow] s) xs fun u x => touches_setDomain u x.domain 3).clk

theorem powerDomain_met (e : Entry) (b : Buf) (es : List DomainEntry) :
    completes (.powerDomain e b es.length es) e ⟨0x0F02, 3, false, false, []⟩ 1
      (fun s => s.domainsOpen b es ∧ ∀ x ∈ es, s.domain x.domain = x.target)
      (fun _ => 0)
      (fun s t => s.quiet t) := by
  refine completes_told (body := powerDomainBody b es.length es) (fun _ => rfl) fun s c _ ⟨hopen, hmet⟩ => ?_
  have hnone : s.unmet es = [] := List.eq_nil_iff_forall_not_mem.mpr fun x hx => (mem_unmet.mp hx).2 (hmet x (mem_unmet.mp hx).1)
  refine ⟨s, [(0, es.length, 0)], ?_, rfl, ownPlaceKept_of_host e rfl, fun u hu _ _ => hu.quiet⟩
  rw [powerDomain_pass c hopen, hnone]
  rfl

theorem powerDomain_wakes (e : Entry) (b : Buf) (es : List DomainEntry) :
    accepts (.powerDomain e b es.length es) e ⟨0x0F02, 3, false, false, []⟩ 1
      (fun s => s.domainsOpen b es ∧ (∃ x ∈ es, s.domain x.domain ≠ x.target) ∧ ∀ x ∈ es, x.target = 0)
      (fun c s t => t.pow.wake = some ⟨(es.filter fun x => s.domain x.domain != x.target).map (·.domain), s.clk.tick, some c,
          ((es.filter fun x => s.domain x.domain != x.target).map (·.domain)).filter fun q => s.domain q == 2⟩ ∧
        ∀ x ∈ es, s.domain x.domain ≠ 0 → t.domain x.domain = 3) := by
  refine accepts_of_finish (body := powerDomainBody b es.length es) (fun _ => rfl) fun s c hroom ⟨hopen, ⟨y, hy, hyne⟩, htargets⟩ => ?_
  have hsome : (s.unmet es).isEmpty = false := by
    rw [Bool.eq_false_iff]
    intro hempty
    rw [List.isEmpty_iff] at hempty
    have hmem := mem_unmet.mpr ⟨hy, hyne⟩
    rw [hempty] at hmem
    cases hmem
  have hall : ((s.unmet es).all fun x => x.target == 0) = true := by
    rw [List.all_eq_true]
    exact fun x hx => beq_iff_eq.mpr (htargets x (mem_unmet.mp hx).1)
  have hbody : powerDomainBody b es.length es c s = acceptReserved s fun u => u.wakes (s.unmet es) c := by
    rw [powerDomain_pass c hopen, hsome, hall]
    rfl
  have hquiet := finish_acceptReserved c e.submitSeq (fun u : State => u.wakes (s.unmet es) c) hroom
  rw [hbody]
  refine ⟨?_, fun x hx hne => ?_⟩
  · rw [hquiet.pow]
    unfold State.wakes
    dsimp only
    rw [wakes_tick]
    rfl
  · rw [domain_of_dom (congrArg Power.dom hquiet.pow)]
    refine foldl_domain_agreed (g := (·.domain)) (v := fun _ => 3) ⟨fun u a => domain_setDomain u a.domain 3, fun u a _ => domain_setDomain_other u a.domain 3⟩ (s.unmet es) s.reserve
      (fun _ _ _ => rfl) (.inr ⟨x, mem_unmet.mpr ⟨hx, ?_⟩, rfl⟩)
    rw [htargets x hx]
    exact hne

theorem powerDomain_sleeps (e : Entry) (b : Buf) (es : List DomainEntry) :
    accepts (.powerDomain e b es.length es) e ⟨0x0F02, 3, false, false, []⟩ 1
      (fun s => s.domainsOpen b es ∧ (∃ x ∈ es, s.domain x.domain ≠ x.target) ∧ ∀ x ∈ es, x.target ≠ 0)
      (fun c s t => t.pow.dom = s.pow.dom ∧ (t.pow.sleep.map fun r => (r.quiescent, r.entries, r.stopped, r.accepted, r.ref)) =
        some (false, es, [], false, some c) ∧
        t.pow.sleep.map (·.todo) = some (quiesceOrder.filter fun q => es.any fun x => x.domain == q && s.domain q != x.target)) := by
  refine accepts_of_finish (body := powerDomainBody b es.length es) (fun _ => rfl) fun s c hroom ⟨hopen, ⟨y, hy, hyne⟩, htargets⟩ => ?_
  have hmem : y ∈ s.unmet es := mem_unmet.mpr ⟨hy, hyne⟩
  have hsome : (s.unmet es).isEmpty = false := by
    rw [Bool.eq_false_iff]
    intro hempty
    rw [List.isEmpty_iff] at hempty
    rw [hempty] at hmem
    cases hmem
  have hall : ((s.unmet es).all fun x => x.target == 0) = false := by
    rw [Bool.eq_false_iff]
    intro hall
    exact htargets y hy (beq_iff_eq.mp (List.all_eq_true.mp hall y hmem))
  have hbody : powerDomainBody b es.length es c s = acceptReserved s fun u => u.beginSleep false es c := by
    rw [powerDomain_pass c hopen, hsome, hall]
    rfl
  have hquiet := finish_acceptReserved c e.submitSeq (fun u : State => u.beginSleep false es c) hroom
  have hpow : (s.reserve.beginSleep false es c).pow = _ := (tells_bump ..).quiet.pow
  rw [hbody, hquiet.pow, hpow]
  exact ⟨rfl, rfl, rfl⟩

/-- Settles O35: a request that is met already, a wake, and a sleep request. -/
theorem domainRequests : Obligations.DomainRequests := ⟨powerDomain_met, powerDomain_wakes, powerDomain_sleeps⟩

/-! ### The sleep handshake (R477 to R482) -/

theorem stopDomain_domain (s : State) (q : Nat) : (s.stopDomain q).domain q = 3 := by
  unfold State.stopDomain
  exact domain_setDomain _ q 3

theorem rollBack_ends (s : State) (r : SleepReq) (q reason : Nat) (posted : Bool) : (s.rollBack r q reason posted).pow.sleep = none ∧
    (s.rollBack r q reason posted).pow.lastSleep = (0x000F, q, reason, r.stopped.length) := by
  unfold State.rollBack
  extract_lets s1 _ s2 s3 idx
  have h3 : s3.pow = s2.pow := (tells_bump ..).quiet.pow
  have h2 : s2.pow.sleep = none ∧ s2.pow.lastSleep = (0x000F, q, reason, r.stopped.length) := ⟨rfl, rfl⟩
  rw [← h3] at h2
  clear_value s3
  split
  · exact h2
  · next c _ =>
    split
    · rw [(touches_complete s3.unreserve c ..).pow]; exact h2
    · exact h2

/-- How far the power state and the pending mode have come, without the commands that wait for them. -/
def State.progress (s : State) : Table Nat × Option (Bool × Rsn) × Option (Mode × Rsn) :=
  (s.pow.dom, s.pow.sleep.map fun r => (r.accepted, r.due), s.dev.pend.map fun p => (p.target, p.due))

theorem progress_of_eq {s t : State} (hp : t.pow = s.pow) (hd : t.dev = s.dev) : t.progress = s.progress := by
  unfold State.progress; rw [hp, hd]

theorem forget_progress (s : State) (p : CmdRef → Bool) : (s.forget p).progress = s.progress := by
  have hsleep : (s.forget p).pow.sleep.map (fun r => (r.accepted, r.due)) = s.pow.sleep.map fun r => (r.accepted, r.due) :=
    Option.map_map ..
  have hpend : (s.forget p).dev.pend.map (fun x => (x.target, x.due)) = s.dev.pend.map fun x => (x.target, x.due) := Option.map_map ..
  unfold State.progress
  rw [hsleep, hpend]
  rfl

theorem closeSession_progress (s : State) (k : Nat) (c : CmdRef) : (s.closeSession k c).progress = s.progress := by
  unfold State.closeSession
  extract_lets x s1 s2 s3 _ s4
  have h2 : s2.progress = s.progress :=
    progress_of_eq ((tells_journalSecurity ..).quiet.pow.trans (touches_freeMail ..).pow)
      ((tells_journalSecurity ..).quiet.dev.trans (touches_freeMail ..).dev)
  have h3 : s3.progress = s.progress := (forget_progress s2 _).trans h2
  have h4 : s4.progress = s.progress := by
    unfold s4
    split
    · exact h3
    · exact h3
  exact h4

theorem closeAll_progress (s : State) (l : List Nat) : (l.foldl (fun s k => if (s.session k).handle = 0 then s
    else s.closeSession k (internalRef 0x0F01)) s).progress = s.progress := by
  induction l generalizing s with
  | nil => rfl
  | cons k r ih =>
    rw [List.foldl_cons, ih]
    split
    · rfl
    · exact closeSession_progress ..

/-- Every domain has answered: the lowering is due at the second boundary, for QUIESCENT with the change of mode. -/
theorem allAccept_progress (s : State) (r : SleepReq) : ∃ m, (s.allAccept r).progress = (s.pow.dom, some (true, s.clk.rsn + 2), m) ∧
    (r.quiescent = true → m = some (.quiescent, s.clk.rsn + 2)) := by
  unfold State.allAccept
  extract_lets _ s1 s2 _ s3 s4 s5
  have h1 : s1.progress = (s.pow.dom, some (true, s.clk.rsn + 2), s.dev.pend.map fun p => (p.target, p.due)) := rfl
  by_cases hq : r.quiescent = true
  · rw [if_neg (by rw [hq]; decide)]
    have h2 : State.touches [.host, .counts, .log] s1 s2 := by
      unfold s2
      split
      · exact touches_effectOf ..
      · exact touches_refl ..
    have h3 : s3.progress = (s.pow.dom, some (true, s.clk.rsn + 2), some (.quiescent, s.clk.rsn + 2)) := by
      have hpow : s3.pow = s1.pow := h2.pow
      have hpend : s3.dev.pend = some ⟨.quiescent, s.clk.rsn + 2, none⟩ := by
        show some (ModeChange.mk .quiescent (s2.clk.rsn + 2) none) = _
        rw [h2.rsn]
      unfold State.progress
      rw [hpow, hpend]
      rfl
    have h4 : s4.progress = s3.progress := (forget_progress ..).trans
      ((progress_of_eq (touches_lifeSlot _).pow (touches_lifeSlot _).dev).trans (closeAll_progress s3 _))
    clear_value s4 s3
    have hfree := touches_freeMail s4 fun _ _ => true
    have h5 : s5.progress = s4.progress := progress_of_eq hfree.pow hfree.dev
    exact ⟨_, h5.trans (h4.trans h3), fun _ => rfl⟩
  · rw [if_pos (by simpa using hq)]
    exact ⟨_, h1, fun h => absurd h hq⟩

theorem answer1_refused {s : State} {r : SleepReq} {q reason : Nat} {rest : List Nat} {timeout : Bool} (htodo : r.todo = q :: rest)
    (hreason : (if timeout then 0x0D else s.refusal r.quiescent r.entries q (r.targetOf q)) = reason) (hne : reason ≠ 0) :
    s.answer1 r timeout = s.rollBack r q reason true := by
  unfold State.answer1
  rw [htodo]
  dsimp only
  rw [hreason, if_pos hne]

/-- The request after domain q has stopped. -/
def SleepReq.stops (r : SleepReq) (s : State) (q : Nat) (rest : List Nat) : SleepReq :=
  { r with todo := rest, stopped := r.stopped ++ [q * 4 + s.domain q], tick := s.clk.tick }

/-- A domain that has stopped. -/
def State.stopped (s : State) (r : SleepReq) (q : Nat) (rest : List Nat) : State :=
  { s.stopDomain q with pow := { (s.stopDomain q).pow with sleep := some (r.stops s q rest) } }

theorem answer1_stops {s : State} {r : SleepReq} {q : Nat} {rest : List Nat} (htodo : r.todo = q :: rest)
    (hreason : s.refusal r.quiescent r.entries q (r.targetOf q) = 0) :
    s.answer1 r false = if rest.isEmpty then (s.stopped r q rest).allAccept (r.stops s q rest) else s.stopped r q rest := by
  unfold State.answer1
  rw [htodo]
  dsimp only
  rw [if_neg (by rw [if_neg (by decide), hreason]; decide), (touches_stopDomain s q).tick]
  rfl

theorem stopped_domain (s : State) (r : SleepReq) (q : Nat) (rest : List Nat) : (s.stopped r q rest).domain q = 3 := stopDomain_domain s q

theorem progress_dom {s t : State} {x : Option (Bool × Rsn)} {y : Option (Mode × Rsn)} (h : t.progress = (s.pow.dom, x, y)) :
    t.pow.dom = s.pow.dom ∧ (t.pow.sleep.map fun r => (r.accepted, r.due)) = x ∧ (t.dev.pend.map fun p => (p.target, p.due)) = y := by
  obtain ⟨hdom, h⟩ := Prod.mk.inj h
  exact ⟨hdom, Prod.mk.inj h⟩

theorem domainQuiesceAnswer_settled (r : SleepReq) (q : Nat) (rest : List Nat) (s : State) (hsleep : s.pow.sleep = some r)
    (hopen : r.accepted = false) (htodo : r.todo = q :: rest) :
    ∃ t, exec .domainQuiesceAnswer s = .next t ∧
      (s.refusal r.quiescent r.entries q (r.targetOf q) ≠ 0 → t.pow.sleep = none ∧
        t.pow.lastSleep = (0x000F, q, s.refusal r.quiescent r.entries q (r.targetOf q), r.stopped.length)) ∧
      (s.refusal r.quiescent r.entries q (r.targetOf q) = 0 → rest ≠ [] → t.domain q = 3 ∧
        t.pow.sleep = some { r with
          todo := rest
          stopped := r.stopped ++ [q * 4 + s.domain q]
          tick := s.clk.tick }) ∧
      (s.refusal r.quiescent r.entries q (r.targetOf q) = 0 → rest = [] → t.domain q = 3 ∧
        (t.pow.sleep.map fun x => (x.accepted, x.due)) = some (true, s.clk.rsn + 2) ∧
        (r.quiescent = true → (t.dev.pend.map fun p => (p.target, p.due)) = some (.quiescent, s.clk.rsn + 2))) := by
  have hexec : exec .domainQuiesceAnswer s = .next (s.answer1 r false) := by
    change execDomainQuiesceAnswer s = _
    unfold execDomainQuiesceAnswer
    rw [hsleep]
    exact if_neg (by rw [hopen]; decide)
  refine ⟨_, hexec, fun hne => ?refused, fun hzero hrest => ?next, fun hzero hrest => ?last⟩
  case refused =>
    rw [answer1_refused htodo (if_neg (by decide)) hne]
    exact rollBack_ends ..
  case next =>
    rw [answer1_stops htodo hzero, if_neg (by simpa using hrest)]
    exact ⟨stopped_domain .., rfl⟩
  case last =>
    rw [answer1_stops htodo hzero, if_pos (by rw [hrest]; rfl)]
    obtain ⟨m, hprogress, hmode⟩ := allAccept_progress (s.stopped r q rest) (r.stops s q rest)
    obtain ⟨hdom, hdue, hpend⟩ := progress_dom hprogress
    have hrsn : (s.stopped r q rest).clk.rsn = s.clk.rsn := (touches_stopDomain s q).rsn
    rw [hrsn] at hdue hmode
    exact ⟨(domain_of_dom hdom q).trans (stopped_domain ..), hdue, fun hq => hpend.trans (hmode hq)⟩

theorem quiesceTimeout_settled (r : SleepReq) (q : Nat) (rest : List Nat) (s : State) (hsleep : s.pow.sleep = some r)
    (hopen : r.accepted = false) (htodo : r.todo = q :: rest) (hdue : s.elapsed r.tick msTicks = true) :
    ∃ t, exec .quiesceTimeout s = .next t ∧ t.pow.sleep = none ∧ t.pow.lastSleep = (0x000F, q, 0x0D, r.stopped.length) := by
  have hexec : exec .quiesceTimeout s = .next (s.answer1 r true) := by
    change execQuiesceTimeout s = _
    unfold execQuiesceTimeout
    rw [hsleep]
    exact if_pos ⟨hopen, hdue⟩
  refine ⟨_, hexec, ?_⟩
  rw [answer1_refused (reason := 0x0D) htodo rfl (by decide)]
  exact rollBack_ends ..

/-- What a domain loses on its way to OFF, then its new state. -/
theorem setsDomains_lowered : setsDomains (fun (s : State) (e : DomainEntry) =>
    ((if e.target = 2 ∧ s.domain e.domain ≠ 2 then s.domainLost e.domain else s).setDomain e.domain e.target)) (·.domain) (·.target) := by
  refine ⟨fun s e => domain_setDomain .., fun s e q h => (domain_setDomain_other _ _ _ h).trans ?_⟩
  split
  · exact domain_of_dom (congrArg Power.dom (touches_domainLost s e.domain).pow) q
  · rfl

theorem entry_agrees {es : List DomainEntry} (h : (es.map (·.domain)).Nodup) {x y : DomainEntry} (hx : x ∈ es) (hy : y ∈ es)
    (hxy : x.domain = y.domain) : x = y := List.inj_on_of_nodup_map h hx hy hxy

theorem powerActionDone_lowers (r : SleepReq) (s : State) (hsleep : s.pow.sleep = some r) (haccepted : r.accepted = true)
    (hquiescent : r.quiescent = false) (hdistinct : (r.entries.map (·.domain)).Nodup) :
    ∃ t, exec .powerActionDone s = .next t ∧ t.pow.sleep = none ∧ ∀ x ∈ r.entries, t.domain x.domain = x.target := by
  let f := fun (s : State) (e : DomainEntry) =>
    (if e.target = 2 ∧ s.domain e.domain ≠ 2 then s.domainLost e.domain else s).setDomain e.domain e.target
  let u : State := { r.entries.foldl f s with pow := { (r.entries.foldl f s).pow with sleep := none } }
  have hexec : exec .powerActionDone s = .next (match r.ref with | some c => u.effectOf c 0 r.stopped.length 0 | none => u) := by
    change execPowerActionDone s = _
    unfold execPowerActionDone
    rw [hsleep]
    dsimp only
    rw [haccepted, hquiescent]
    cases r.ref <;> rfl
  refine ⟨_, hexec, ?_⟩
  have heffect : State.touches [.host, .counts, .log] u (match r.ref with | some c => u.effectOf c 0 r.stopped.length 0 | none => u) := by
    split
    · exact touches_effectOf ..
    · exact touches_refl ..
  generalize (match r.ref with | some c => u.effectOf c 0 r.stopped.length 0 | none => u) = t at heffect ⊢
  refine ⟨by rw [heffect.pow], fun x hx => ?_⟩
  rw [domain_of_dom (congrArg Power.dom heffect.pow)]
  exact foldl_domain_agreed setsDomains_lowered r.entries s (fun y hy hxy => congrArg _ (entry_agrees hdistinct hy hx hxy)) (.inr ⟨x, hx, rfl⟩)

theorem ite_mapsLost (c : Prop) [Decidable c] (s : State) :
    State.touches [.tribs, .sw, .com, .gen, .prot] s (if c then s.mapsLost else s) := touches_ite _ (touches_mapsLost s) (touches_refl ..)

theorem lowerAll_wakeHeld (s : State) (r : SleepReq) : (s.lowerAll r).pow.wakeHeld = s.pow.wakeHeld := by
  unfold State.lowerAll
  induction quiesceOrder generalizing s with
  | nil => rfl
  | cons q l ih =>
    rw [List.foldl_cons, ih]
    unfold State.lower1
    split
    · rfl
    · rfl

/-- The entry into QUIESCENT: the maps apart, what is left of the device. -/
theorem enterQuiet_left (s : State) (r : SleepReq) : ∃ u, State.touches [.tribs, .sw, .com, .gen, .prot] u (s.enterQuiet r) ∧
    u.lanes = [] ∧ u.host = s.host.quiet ∧ u.pow.sleep = none ∧ u.pow.wakeHeld = s.pow.wakeHeld ∧ u.dev.mode = s.dev.mode ∧
    (u.dev.jcc = .retained ∨ u.dev.jcc = .off) := by
  unfold State.enterQuiet
  extract_lets s1 run _ _ _ _ s2
  have hdata : State.touches [.host, .par, .counts, .lanes, .obs] (s.lowerAll r) s1 := touches_quietData (s.lowerAll r)
  have hlanes : s1.lanes = [] := rfl
  have hhost : s1.host = (s.lowerAll r).host.quiet := rfl
  have hheld := lowerAll_wakeHeld s r
  have hlow := touches_lowerAll s r
  generalize s.lowerAll r = low at *
  clear_value s1
  refine ⟨s2, ite_mapsLost _ s2, hlanes, hhost.trans (congrArg HostIf.quiet hlow.host), rfl, ?_, ?_, ?_⟩
  · exact (congrArg Power.wakeHeld hdata.pow :).trans hheld
  · exact hdata.mode.trans hlow.mode
  · change run = .retained ∨ run = .off
    unfold run
    split
    · exact .inl rfl
    · exact .inr rfl

theorem powerActionDone_quiescent (r : SleepReq) (s : State) (hsleep : s.pow.sleep = some r) (haccepted : r.accepted = true)
    (hquiescent : r.quiescent = true) (hmode : s.dev.mode = .quiescent) (hheld : s.pow.wakeHeld = none) :
    ∃ t, exec .powerActionDone s = .next t ∧ t.pow.sleep = none ∧ t.lanes = [] ∧ t.host.pairs = [] ∧ t.host.sessions = [] ∧
      (t.dev.jcc = .retained ∨ t.dev.jcc = .off) ∧ t.dev.mode = .quiescent ∧ t.host.mem = s.host.mem := by
  obtain ⟨u, hu, hlanes, hhost, hsleep', hheld', hmode', hjcc⟩ := enterQuiet_left s r
  have hexec : exec .powerActionDone s = .next (s.enterQuiet r) := by
    change execPowerActionDone s = _
    unfold execPowerActionDone
    rw [hsleep]
    dsimp only
    rw [haccepted, hquiescent, if_neg (by decide), if_pos rfl, if_pos hmode, hu.pow, hheld', hheld]
  refine ⟨_, hexec, ?_⟩
  rw [hu.pow, hu.lanes, hu.host, hu.runs, hu.mode, hhost, hmode']
  exact ⟨hsleep', hlanes, rfl, rfl, hjcc, hmode, rfl⟩

theorem mem_wakeOrder {q : Nat} (h : 3 ≤ q) (k : q ≤ 139) : q ∈ wakeOrder := by
  have hcases : q = 3 ∨ (4 ≤ q ∧ q ≤ 11) ∨ (12 ≤ q ∧ q ≤ 75) ∨ 76 ≤ q := by omega
  simp only [wakeOrder, List.mem_append, List.mem_cons, List.mem_map, List.mem_range, List.not_mem_nil, or_false]
  obtain h | h | h | h := hcases
  · omega
  · omega
  · exact .inr ⟨q - 12, by omega, by omega⟩
  · exact .inl (.inr ⟨q - 76, by omega, by omega⟩)

theorem setsDomains_woken : setsDomains (fun (s : State) (q : Nat) => (s.setDomain q 0).restartOctet q) id (fun _ => 0) := by
  have hkeep : ∀ (s : State) q k, (s.restartOctet q).domain k = s.domain k := fun s q k =>
    domain_of_dom (congrArg Power.dom (touches_restartOctet s q).pow) k
  exact ⟨fun s q => (hkeep ..).trans (domain_setDomain ..), fun s q k h => (hkeep ..).trans (domain_setDomain_other _ _ _ h)⟩

theorem wakeDomains_domain (s : State) (p : Nat → Bool) {q : Nat} (h : q ∈ wakeOrder) (hp : p q = true) : (s.wakeDomains p).domain q = 0 :=
  foldl_domain_agreed setsDomains_woken (wakeOrder.filter p) s (fun _ _ _ => rfl) (.inr ⟨q, List.mem_filter.mpr ⟨h, hp⟩, rfl⟩)

theorem domainWakeDone_settled (w : WakeReq) (s : State) (hwake : s.pow.wake = some w) :
    ∃ t, exec .domainWakeDone s = .next t ∧ t.pow.wake = none ∧ ∀ q ∈ w.domains, 3 ≤ q → q ≤ 139 → t.domain q = 0 := by
  let v := ((wakeOrder.filter fun q => w.off.contains q).foldl (fun s q => s.domainReset 0 q) s).wakeDomains fun q => w.domains.contains q
  let u : State := { v with pow := { v.pow with wake := none } }
  have hexec : exec .domainWakeDone s = .next (match w.ref with | some c => u.effectOf c 0 w.domains.length 0 | none => u) := by
    change execDomainWakeDone s = _
    unfold execDomainWakeDone
    rw [hwake]
    dsimp only
    cases w.ref <;> rfl
  refine ⟨_, hexec, ?_⟩
  have heffect : State.touches [.host, .counts, .log] u (match w.ref with | some c => u.effectOf c 0 w.domains.length 0 | none => u) := by
    split
    · exact touches_effectOf ..
    · exact touches_refl ..
  generalize (match w.ref with | some c => u.effectOf c 0 w.domains.length 0 | none => u) = t at heffect ⊢
  refine ⟨by rw [heffect.pow], fun q hq h3 h139 => ?_⟩
  rw [domain_of_dom (congrArg Power.dom heffect.pow)]
  exact wakeDomains_domain _ _ (mem_wakeOrder h3 h139) (by simpa using hq)

/-- Settles O36: a domain refuses, stops or does not answer; the domains are lowered or woken. -/
theorem sleepHandshake : Obligations.SleepHandshake :=
  ⟨domainQuiesceAnswer_settled, quiesceTimeout_settled, powerActionDone_lowers, powerActionDone_quiescent, domainWakeDone_settled⟩

/-! ### Wakes and the supplies (R483, R485, R494) -/

/-- A wake begins where none runs, with the supplies there and no entry under way. -/
theorem beginWake_wakes {s : State} (cause : Nat) (hmode : s.dev.mode = .quiescent) (hwaking : s.pow.waking = false)
    (hremoved : s.pow.removed = false) (hsleep : s.pow.sleep = none) :
    (s.beginWake cause).pow.waking = true ∧ (s.beginWake cause).pow.wakeCause = cause ∧
      (s.beginWake cause).dev.supplies = s.dev.supplies ∧ (s.beginWake cause).dev.mode = s.dev.mode ∧
      (s.domain 2 ≠ 1 → (s.beginWake cause).dev.resetKind = 5 ∧ (s.beginWake cause).dev.resetCause = if cause = 4 then 2 else 1) := by
  unfold State.beginWake
  rw [if_neg (by simp [hmode, hwaking]), if_neg (by simp [hremoved, hsleep])]
  extract_lets lost retained _ s1 s2 s3 code digest good _ _ s4
  have h1 : s1.pow.waking = true ∧ s1.pow.wakeCause = cause := ⟨rfl, rfl⟩
  have hdev1 : s1.dev = s.dev := rfl
  have h2 : State.touches [.counts, .log] s1 s2 := (tells_bump ..).touches
  clear_value s1
  have h3 : State.touches [.counts, .log, .tribs, .sw, .com, .gen, .prot] s2 s3 :=
    touches_ite _ ((tells_info ..).touches.after (touches_mapsLost s2).le) (touches_refl ..)
  have hpow3 : s3.pow.waking = true ∧ s3.pow.wakeCause = cause := by rw [h3.pow, h2.pow]; exact h1
  have hdev3 : s3.dev = s.dev := h3.dev.trans (h2.dev.trans hdev1)
  clear_value s3
  split
  · next hgood =>
    refine ⟨hpow3.1, hpow3.2, (congrArg Device.supplies hdev3 :), (congrArg Device.mode hdev3 :), fun hne => ?_⟩
    have hretained : retained = true := (Bool.and_eq_true_iff.mp hgood).1
    exact absurd (beq_iff_eq.mp hretained) hne
  · rw [(tells_lifeAdd ..).quiet.pow, (tells_lifeAdd ..).quiet.dev]
    exact ⟨hpow3.1, hpow3.2, (congrArg Device.supplies hdev3 :), (congrArg Device.mode hdev3 :), fun _ => ⟨rfl, rfl⟩⟩

theorem quiescent_wakes (s : State) (hmode : s.dev.mode = .quiescent) (hwaking : s.pow.waking = false) (hremoved : s.pow.removed = false)
    (hsleep : s.pow.sleep = none) :
    (∃ t, exec .i2cAddressMatch s = .next t ∧ t.pow.waking = true ∧ t.pow.wakeCause = 1) ∧
    (∃ t, exec .i2cWake s = .next t ∧ t.pow.waking = true ∧ t.pow.wakeCause = 1) ∧
    (∃ t, exec .perstNDeassert s = .next t ∧ t.pow.waking = true ∧ t.pow.wakeCause = 2 ∧ t.host.linkUp = true) ∧
    (s.cur .powerWakeTimer 0 ≠ 0 → s.elapsed s.pow.quietTick (s.cur .powerWakeTimer 0 * secTicks) = true →
      ∃ t, exec .wakeTimerExpiry s = .next t ∧ t.pow.waking = true ∧ t.pow.wakeCause = 3) ∧
    exec .supplyRemoval s = .next { s with
      dev := { s.dev with supplies := false }
      pow := { s.pow with
        removed := true
        markersLost := [0, 1, 2, 3, 4, 5, 6, 7] } } := by
  have hwake := fun cause => beginWake_wakes cause hmode hwaking hremoved hsleep
  refine ⟨⟨_, rfl, (hwake 1).1, (hwake 1).2.1⟩, ⟨_, rfl, (hwake 1).1, (hwake 1).2.1⟩, ?_, fun htimer hdue => ?_, ?_⟩
  · let u := ({ s with host := { s.host with linkUp := true } } : State).linkTrains
    obtain ⟨hw, hc, -⟩ := beginWake_wakes (s := u) 2 hmode hwaking hremoved hsleep
    exact ⟨u.beginWake 2, rfl, hw, hc, congrArg HostIf.linkUp (touches_beginWake u 2).host⟩
  · exact ⟨_, if_pos ⟨hmode, htimer, hdue⟩, (hwake 3).1, (hwake 3).2.1⟩
  · exact if_pos ⟨hmode, hwaking, hsleep⟩

theorem autoModeBy_pow (s : State) (m : Mode) (by' : Option CmdRef) :
    (s.autoModeBy m by').pow = { s.pow with quietTick := (s.autoModeBy m by').pow.quietTick } := by
  obtain ⟨u, hleft, hpair⟩ := enterMode_left s m
  obtain ⟨ht, -⟩ := autoModeBy_entered s m by'
  have hpow : (s.autoModeBy m by').pow = (u.modeEntered m).pow := ht.pow.trans hpair.pow
  rw [hpow, ← hleft.touches.pow]
  rfl

theorem wakeComplete_wakes (s : State) (hwaking : s.pow.waking = true) (hjcc : s.dev.jcc = .running) :
    ∃ t, exec .wakeComplete s = .next t ∧ t.dev.mode = .configure ∧ t.pow.waking = false ∧ ∀ q ∈ quiesceOrder, t.domain q = 0 := by
  change ∃ t, execWakeComplete s = .next t ∧ _
  unfold execWakeComplete
  rw [if_pos ⟨hwaking, hjcc⟩]
  extract_lets kept off s1 s2 s3 s4 _ s5
  have hset : setsDomains (fun (s : State) (q : Nat) => s.setDomain q 0) id fun _ => 0 :=
    ⟨fun s q => domain_setDomain s q 0, fun s q k h => domain_setDomain_other s q 0 h⟩
  have hall : ∀ q ∈ quiesceOrder, s2.domain q = 0 := fun q hq =>
    foldl_domain_agreed hset quiesceOrder s1 (fun _ _ _ => rfl) (.inr ⟨q, hq, rfl⟩)
  clear_value s2
  have h3 : s3.pow = s2.pow := (touches_applyStore s2 kept).pow
  have h4 : s4.pow = s2.pow := by
    have hperf : State.touches [.counts, .log] s3 s4 := touches_ite _ ((touches_defaultPerf s3).le) (touches_refl ..)
    rw [hperf.pow, h3]
  clear_value s4
  have hdom5 : s5.pow.dom = s2.pow.dom := (congrArg Power.dom h4 :)
  have hwaking5 : s5.pow.waking = false := rfl
  clear_value s5
  have hjournal := (tells_journalRestart (s5.autoMode .configure) 0 s5.clk.rsn.toNat).quiet
  have hpow : (s5.autoMode .configure).pow = _ := autoModeBy_pow s5 .configure none
  refine ⟨_, rfl, ?_, ?_, fun q hq => ?_⟩
  · rw [hjournal.dev]
    exact autoModeBy_mode ..
  · rw [hjournal.pow]
    exact (congrArg Power.waking hpow).trans hwaking5
  · have hdom : (s5.autoMode .configure).pow.dom = s2.pow.dom := (congrArg Power.dom hpow :).trans hdom5
    rw [State.domain, hjournal.pow, hdom]
    exact hall q hq

/-- Every domain but AON OFF. -/
@[irreducible] def domainsOff (t : Table Nat) : Table Nat := (2 :: wakeOrder).foldl (fun t q => Table.put t q 2) t

/-- The device u as its supplies have returned, every domain OFF and no stripe with its markers; its last reset is that of s (R485, R493). -/
def State.resupplied (s u : State) : State :=
  { u with
    dev := { u.dev with supplies := true, mode := .quiescent, prevMode := .configure, resetKind := s.dev.resetKind, resetCause := s.dev.resetCause }
    pow := { u.pow with dom := domainsOff s.pow.dom, markersLost := [0, 1, 2, 3, 4, 5, 6, 7], removed := false } }

/-- What n ticks without supplies leave: AON has run on. -/
def State.unsupplied (s : State) (n : Nat) : State := ({ s with clk := { s.clk with tick := s.clk.tick + n } } : State).cleared false

theorem find_foldl_put (l : List Nat) (t : Table Nat) (v : Nat) {q : Nat} (h : Table.find t q = some v ∨ q ∈ l) :
    Table.find (l.foldl (fun t q => Table.put t q v) t) q = some v := by
  induction l generalizing t with
  | nil => exact h.resolve_right List.not_mem_nil
  | cons a r ih =>
    refine ih _ ?_
    by_cases hqa : q = a
    · exact .inl (by rw [hqa, Table.find_put_same])
    · rw [Table.find_put_other _ _ hqa]
      exact h.imp id fun hm => (List.mem_cons.mp hm).resolve_left hqa

theorem domainsOff_jcc (t : Table Nat) : Table.get 0 (domainsOff t) 2 = 2 := by
  have hfind : Table.find (domainsOff t) 2 = some 2 := by
    unfold domainsOff
    exact find_foldl_put (2 :: wakeOrder) t 2 (.inr (List.mem_cons_self ..))
  unfold Table.get
  rw [hfind]
  rfl

theorem restoreTime_pow (s : State) : s.restoreTime.pow = { s.pow with todUnc := s.restoreTime.pow.todUnc } := by
  obtain h | ⟨rsn, tod, unc, h⟩ := restoreTime_eq s <;> rw [h]

theorem resupplied_domain (s u : State) : (s.resupplied u).domain 2 = 2 := by
  have h := domainsOff_jcc s.pow.dom
  unfold State.domain State.resupplied
  dsimp only
  exact h

theorem resupplied_facts (s u : State) : (s.resupplied u).dev.mode = .quiescent ∧ (s.resupplied u).pow.waking = u.pow.waking ∧
    (s.resupplied u).pow.removed = false ∧ (s.resupplied u).pow.sleep = u.pow.sleep ∧ (s.resupplied u).dev.supplies = true ∧
    (s.resupplied u).lanes = u.lanes ∧ (s.resupplied u).clk = u.clk :=
  ⟨rfl, rfl, rfl, rfl, rfl, rfl, rfl⟩

theorem exec_supplyRestore {n : Nat} {s : State} (h : s.pow.removed = true) :
    exec (.supplyRestore n) s = .next (((s.resupplied (s.unsupplied n).restoreTime).domainReset 2 1).beginWake 4) := by
  change execSupplyRestore n s = _
  unfold execSupplyRestore
  rw [if_neg (by rw [h]; decide)]
  unfold State.resupplied domainsOff
  rfl

theorem supplyRestore_wakes (n : Nat) (s : State) (hremoved : s.pow.removed = true) :
    ∃ t, exec (.supplyRestore n) s = .next t ∧ t.pow.waking = true ∧ t.pow.wakeCause = 4 ∧ t.dev.mode = .quiescent ∧
      t.dev.supplies = true ∧ t.dev.resetKind = 5 ∧ t.dev.resetCause = 2 ∧ t.lanes = [] ∧ t.clk.tick = s.clk.tick + n := by
  have hexec := exec_supplyRestore (n := n) hremoved
  have hlanes : (s.unsupplied n).restoreTime.lanes = [] := (touches_restoreTime (s.unsupplied n)).lanes
  have htick : (s.unsupplied n).restoreTime.clk.tick = s.clk.tick + n := restoreTime_tick (s.unsupplied n)
  have hpow := restoreTime_pow (s.unsupplied n)
  have hwaking : (s.unsupplied n).restoreTime.pow.waking = false := by rw [hpow]; rfl
  have hsleep : (s.unsupplied n).restoreTime.pow.sleep = none := by rw [hpow]; rfl
  generalize (s.unsupplied n).restoreTime = u at *
  have hdomain := resupplied_domain s u
  obtain ⟨hmode, hdown, hthere, hidle, hsupplies, hdark, hrun⟩ := resupplied_facts s u
  generalize s.resupplied u = v at *
  have hreset := touches_domainReset v 2 1
  generalize v.domainReset 2 1 = w at *
  have hoff : w.domain 2 = 2 := (domain_of_dom (congrArg Power.dom hreset.pow) 2).trans hdomain
  obtain ⟨hup, hcause, hthere', hsame, hkind⟩ := beginWake_wakes (s := w) 4 (by rw [hreset.mode, hmode]) (by rw [hreset.pow, hdown, hwaking])
    (by rw [hreset.pow, hthere]) (by rw [hreset.pow, hidle, hsleep])
  obtain ⟨hkind, hwhy⟩ := hkind (by rw [hoff]; decide)
  have hwake := touches_beginWake w 4
  refine ⟨_, hexec, hup, hcause, ?_, ?_, hkind, hwhy, ?_, ?_⟩
  · rw [hsame, hreset.mode, hmode]
  · rw [hthere', hreset.dev, hsupplies]
  · rw [hwake.lanes, hreset.lanes, hdark, hlanes]
  · rw [hwake.tick, hreset.tick, hrun, htick]

theorem supplyRemoval_trips (s : State) (hmode : s.dev.mode ≠ .quiescent) (hheld : s.dev.fatalHeld = none) :
    ∃ t, exec .supplyRemoval s = .next t ∧ t.dev.fatalHeld = some 2 ∧ t.dev.supplies = false ∧ t.dev.jcc = .off := by
  obtain ⟨u, hu, -, hfatal⟩ := fatal_heldBy (s := { s with dev := { s.dev with supplies := false } }) 2 hheld
  have hsupplies : u.dev.supplies = false := (congrArg Device.supplies hu.devBut :)
  exact ⟨u.heldBy 2, (if_neg fun h => hmode h.1).trans (congrArg Host.Outcome.next hfatal), rfl, hsupplies, rfl⟩

/-- Settles O37: each source of a wake begins one; its end, and the supplies that go and come back. -/
theorem wakeAndSupplies : Obligations.WakeAndSupplies :=
  ⟨quiescent_wakes, wakeComplete_wakes, supplyRestore_wakes, supplyRemoval_trips⟩

end Sys2Proof.Machine
end

section
/-!
PROOFS. The boundaries of rows, superframes and seconds (R10, R119, R120, R272, R489).
-/
namespace Sys2Proof.Machine
-- One theorem after the other: many at once need more stacks than the memory limit of the check allows.
set_option Elab.async false

/-! ### Faults found in a row escalate only in AON and TIM (R513, R514) -/

theorem detect_outside {region : Nat} (h : 1 < region) (s : State) (cls location detail action : Nat) :
    s.detect cls region location detail action = s.report cls region location detail action :=
  if_neg fun k => by omega

theorem touches_detectDune (s : State) (cls d location detail action : Nat) :
    State.touches [.counts, .flt, .log] s (s.detect cls (regionOfDune d) location detail action) := by
  rw [detect_outside (by unfold regionOfDune; omega)]
  exact touches_report ..

theorem touches_readMaps_found (s : State) : State.touches [.counts, .flt, .log] s s.readMaps := by
  unfold State.readMaps
  extract_lets _ _ s1
  exact touches_foldl ((touches_refl _ _).set_flt) _ fun u a => touches_detectDune ..

theorem touches_readWords_found (s : State) (n : Rsn) : State.touches [.counts, .obs, .flt, .log] s (s.readWords n) := by
  unfold State.readWords
  extract_lets _ s1
  exact touches_foldl (touches_foldl (touches_refl _ _) _ fun u a => (touches_detectDune ..).le) _ fun u a => (touches_facetDoubt ..).le

theorem touches_duneRow_found (s : State) (d : Nat) (ms : List Mismatch) (fqWords : Nat) (misRow fqRow : Bool) :
    State.touches [.counts, .sw, .flt, .log] s (s.duneRow d ms fqWords misRow fqRow) := by
  unfold State.duneRow
  extract_lets _ _ hitR hitA s1 s2 s3 s4 _ s5 s6
  have h1 : State.touches [.counts, .sw, .flt, .log] s s1 := (touches_modDune ..).le
  have h2 : State.touches [.counts, .sw, .flt, .log] s s2 := (tells_bump ..).touches.after ((tells_bump ..).touches.after h1)
  have h3 : State.touches [.counts, .sw, .flt, .log] s s3 := (tells_bump ..).touches.after ((tells_bump ..).touches.after h2)
  have h4 : State.touches [.counts, .sw, .flt, .log] s s4 := (touches_misEvents ..).after ((tells_perf ..).touches.after
    ((tells_perf ..).touches.after h3))
  have h5 : State.touches [.counts, .sw, .flt, .log] s s5 := touches_ite _ ((touches_detectDune ..).after h4) h4
  have h6 : State.touches [.counts, .sw, .flt, .log] s s6 := touches_ite _ ((touches_detectDune ..).after h5) h5
  exact (touches_misPersist ..).after h6

theorem touches_egressRow_found (s : State) (n : Rsn) :
    State.touches [.counts, .lanes, .tribs, .sw, .obs, .flt, .log] s (s.egressRow n) := by
  unfold State.egressRow
  extract_lets _ s1 _ _ _ s2 s3 _ _ s4
  have h1 : State.touches [.counts, .lanes, .tribs, .sw, .obs, .flt, .log] s s1 :=
    (touches_reloadPathTrace ..).after ((touches_silentInsts ..).after (touches_startPmfOut ..).le)
  have h2 : State.touches [.counts, .lanes, .tribs, .sw, .obs, .flt, .log] s s2 := touches_foldl h1 _ fun u a => (touches_countReads ..).le
  have h3 : State.touches [.counts, .lanes, .tribs, .sw, .obs, .flt, .log] s s3 := touches_foldl h2 _ fun u a => (touches_egressLane ..).le
  have h4 : State.touches [.counts, .lanes, .tribs, .sw, .obs, .flt, .log] s s4 := h3.set_obs
  unfold State.duneRows
  exact touches_foldl h4 _ fun u a => (touches_duneRow_found ..).le

/-- The data path of a row leaves the time, the generation, timing and the pair as they are. -/
theorem touches_dataRow_found (s : State) (n : Rsn) :
    State.touches [.par, .counts, .lanes, .tribs, .sw, .prot, .obs, .flt, .log] s (s.dataRow n) := by
  unfold State.dataRow
  extract_lets s1 s2 s3
  have h1 : State.touches [.par, .counts, .lanes, .tribs, .sw, .prot, .obs, .flt, .log] s s1 :=
    (touches_egressRow_found ..).after (touches_readMaps_found ..).le
  have h2 : State.touches [.par, .counts, .lanes, .tribs, .sw, .prot, .obs, .flt, .log] s s2 :=
    (touches_readWords_found ..).after ((touches_ingressRow ..).after h1)
  have h3 : State.touches [.par, .counts, .lanes, .tribs, .sw, .prot, .obs, .flt, .log] s s3 :=
    (touches_countMoved ..).after ((touches_moveRow ..).after ((touches_tribsEgress ..).after h2))
  exact (touches_endRowFaults ..).after ((touches_cutRow ..).after h3)

/-! ### What a row keeps -/

/-- The time, the generation and the security engine are as they were; no step of the time, no forwarded action and no live copy has
come. -/
structure State.steady (s t : State) : Prop where
  clk : t.clk = s.clk
  gen : t.com.gen = s.com.gen
  sec : t.sec = s.sec
  step : s.tim.step = [] → t.tim.step = []
  fwd : s.pair.fwd = [] → t.pair.fwd = []
  live : s.pair.live = none → t.pair.live = none

theorem State.steady.trans {s t u : State} (h : s.steady t) (k : t.steady u) : s.steady u :=
  ⟨k.clk.trans h.clk, k.gen.trans h.gen, k.sec.trans h.sec, fun x => k.step (h.step x), fun x => k.fwd (h.fwd x), fun x => k.live (h.live x)⟩

theorem steady_refl (s : State) : s.steady s := ⟨rfl, rfl, rfl, id, id, id⟩

theorem steady_ite {s a b : State} (p : Prop) [Decidable p] (h : s.steady a) (k : s.steady b) : s.steady (if p then a else b) := by
  split <;> assumption

theorem steady_foldl {α : Type} {f : State → α → State} (hf : ∀ u a, State.steady u (f u a)) (l : List α) (s : State) :
    s.steady (l.foldl f s) := by
  induction l generalizing s with
  | nil => exact steady_refl s
  | cons a r ih => exact (hf s a).trans (ih _)

/-- What touches neither time, generation nor security keeps a row steady, with timing and the pair looked at on their own. -/
theorem steady_of_touches {l : List Part} {s t : State} (h : State.touches l s t) (hstep : s.tim.step = [] → t.tim.step = [])
    (hfwd : s.pair.fwd = [] → t.pair.fwd = []) (hlive : s.pair.live = none → t.pair.live = none)
    (hl : [Part.clk, .free, .gen, .sec].all (fun p => !l.contains p) = true := by rfl) : s.steady t := by
  simp only [List.all_cons, List.all_nil, Bool.and_true, Bool.and_eq_true, Bool.not_eq_true'] at hl
  obtain ⟨hclk, hfree, hgen, hsec⟩ := hl
  exact ⟨h.clk hclk hfree, h.gen hgen, h.sec hsec, hstep, hfwd, hlive⟩

theorem steady_aside {l : List Part} {s t : State} (h : State.touches l s t)
    (hl : [Part.clk, .free, .gen, .sec, .tim, .pair].all (fun p => !l.contains p) = true := by rfl) : s.steady t := by
  simp only [List.all_cons, List.all_nil, Bool.and_true, Bool.and_eq_true, Bool.not_eq_true'] at hl
  obtain ⟨hclk, hfree, hgen, hsec, htim, hpair⟩ := hl
  exact ⟨h.clk hclk hfree, h.gen hgen, h.sec hsec, by rw [h.tim htim]; exact id, by rw [h.pair hpair]; exact id, by rw [h.pair hpair]; exact id⟩

/-- Only timing is touched, and not its steps. -/
theorem steady_timing {l : List Part} {s t : State} (h : State.touches l s t) (hstep : t.tim.step = s.tim.step)
    (hl : [Part.clk, .free, .gen, .sec, .pair].all (fun p => !l.contains p) = true := by rfl) : s.steady t := by
  simp only [List.all_cons, List.all_nil, Bool.and_true, Bool.and_eq_true, Bool.not_eq_true'] at hl
  obtain ⟨hclk, hfree, hgen, hsec, hpair⟩ := hl
  exact ⟨h.clk hclk hfree, h.gen hgen, h.sec hsec, by rw [hstep]; exact id, by rw [h.pair hpair]; exact id, by rw [h.pair hpair]; exact id⟩

/-- Only the pair is touched, neither what it forwards nor a copy. -/
theorem steady_pair {l : List Part} {s t : State} (h : State.touches l s t) (hfwd : t.pair.fwd = s.pair.fwd)
    (hlive : s.pair.live = none → t.pair.live = none)
    (hl : [Part.clk, .free, .gen, .sec, .tim].all (fun p => !l.contains p) = true := by rfl) : s.steady t := by
  simp only [List.all_cons, List.all_nil, Bool.and_true, Bool.and_eq_true, Bool.not_eq_true'] at hl
  obtain ⟨hclk, hfree, hgen, hsec, htim⟩ := hl
  exact ⟨h.clk hclk hfree, h.gen hgen, h.sec hsec, by rw [h.tim htim]; exact id, by rw [hfwd]; exact id, hlive⟩

theorem steady_setPair {s : State} {p : Pair} (hfwd : s.pair.fwd = [] → p.fwd = []) (hlive : s.pair.live = none → p.live = none) :
    s.steady { s with pair := p } := ⟨rfl, rfl, rfl, id, hfwd, hlive⟩

theorem steady_tells {s t : State} (h : s.tells t) : s.steady t := steady_aside h.touches

/-! ### The parts of a row -/

theorem steady_tell (s : State) (m : PeerMsg) : s.steady (s.tell m) := steady_pair (touches_tell s m) rfl id

theorem steady_apsLane (s : State) (l : Nat) : s.steady (s.apsLane l) := by
  unfold State.apsLane
  extract_lets n s1 s2 s3
  have h1 : s.steady s1 := steady_aside (touches_modLane ..)
  have h2 : s.steady s2 := steady_ite _ h1 (h1.trans (steady_aside (touches_formAps ..)))
  have h3 : s.steady s3 := h2.trans (steady_aside (touches_formAps ..))
  exact steady_ite _ (h3.trans (steady_tell ..)) h2

theorem steady_apsSend (s : State) : s.steady s.apsSend := by
  unfold State.apsSend
  extract_lets s1
  have h1 : s.steady s1 := steady_foldl (fun u k => steady_aside (touches_apsUpdate u k)) s.liveGroups s
  exact h1.trans (steady_foldl steady_apsLane _ s1)

theorem steady_latchRow (s : State) : s.steady s.latchRow := by
  unfold State.latchRow
  extract_lets latch
  have hlatch : ∀ u l, State.steady u (latch u l) := fun u l => steady_aside (touches_setLane ..)
  exact (steady_foldl hlatch (s.lanes.map (·.1)) s).trans (steady_timing (touches_qlLatch _) rfl)

theorem encode_keeps (p : Pair) : p.encode.fwd = p.fwd ∧ p.encode.live = p.live := by
  unfold Pair.encode
  extract_lets one
  have hone : ∀ (xs : List PeerMsg) (p : Pair), (xs.foldl one p).fwd = p.fwd ∧ (xs.foldl one p).live = p.live := by
    intro xs
    induction xs with
    | nil => exact fun p => ⟨rfl, rfl⟩
    | cons m r ih => exact fun p => ih (one p m)
  exact hone p.out p

theorem steady_saredSend (s : State) : s.steady s.saredSend := by
  unfold State.saredSend
  split
  · exact steady_pair (l := [.pair]) touches_upd rfl id
  · obtain ⟨hfwd, hlive⟩ := encode_keeps s.pair
    refine State.steady.trans ?_ (steady_aside (touches_perfCells ..))
    exact steady_pair (l := [.pair]) touches_upd hfwd fun h => hlive.trans h

/-- A row ends: all is steady up to the clock, which moves on. -/
theorem endRow_steady (s : State) : ∃ u, s.steady u ∧ State.steady { u with clk := u.clk.nextRow } s.endRow := by
  unfold State.endRow
  extract_lets s1 s2 _
  have h1 : s.steady s1 := steady_ite _ ((steady_apsSend s).trans (steady_aside (touches_dataRow_found ..))) (steady_aside (touches_dropRows s))
  have h2 : s.steady s2 := h1.trans ((steady_latchRow s1).trans (steady_saredSend _))
  exact ⟨s2, h2, steady_aside (touches_perfRow _)⟩

theorem takeCells_keep (xs : List (Nat × BitVec 128)) (p : Pair) : (xs.foldl (fun p x => p.takeCell x.2) p).fwd = p.fwd ∧
    (xs.foldl (fun p x => p.takeCell x.2) p).live = p.live := by
  have hone : ∀ (p : Pair) x, (p.takeCell x).fwd = p.fwd ∧ (p.takeCell x).live = p.live := by
    intro p x
    unfold Pair.takeCell
    dsimp only
    split
    · exact ⟨rfl, rfl⟩
    · split
      · exact ⟨rfl, rfl⟩
      · exact ⟨rfl, rfl⟩
  induction xs generalizing p with
  | nil => exact ⟨rfl, rfl⟩
  | cons a r ih =>
    obtain ⟨hfwd, hlive⟩ := ih (p.takeCell a.2)
    obtain ⟨hf, hl⟩ := hone p a.2
    exact ⟨hfwd.trans hf, hlive.trans hl⟩

theorem steady_saredMessages (s : State) : s.steady s.saredMessages := by
  have h := touches_saredMessages s
  unfold State.saredMessages at h ⊢
  split at h
  · next hup =>
    obtain ⟨hfwd, hlive⟩ := takeCells_keep s.saredCells { s.pair with rxMsgs := [] }
    rw [if_pos hup]
    exact steady_pair h hfwd fun hnone => hlive.trans hnone
  · next hdown =>
    rw [if_neg hdown]
    exact steady_pair h rfl id

theorem steady_abandonCopy (s : State) : s.steady s.abandonCopy := by
  refine steady_pair (touches_abandonCopy s) ?_ fun _ => ?_
  · rw [abandonCopy_pair]
  · rw [abandonCopy_pair]

theorem steady_saredBoundary (s : State) : s.steady s.saredBoundary := by
  unfold State.saredBoundary
  extract_lets good run cut s1 clear _ s2 s3 _
  have h1 : s.steady s1 := steady_saredMessages s
  have h2 : s.steady s2 := h1.trans (steady_pair (l := [.pair]) touches_upd rfl id)
  have h3 : s.steady s3 := h2.trans ((steady_abandonCopy s2).trans
    ((steady_aside (touches_dropSems ..)).trans (steady_aside (tells_tornWrites ..).touches)))
  clear_value s3 s2
  refine steady_ite _ (h3.trans (State.steady.trans ?_ (steady_tells (tells_bump ..)))) h2
  exact steady_setPair id id

theorem steady_giveUp (s : State) (kind : Nat) : s.steady (s.giveUp kind) := by
  obtain ⟨u, hu, h⟩ := giveUp_stages s kind
  have hfwd : (s.giveUp kind).pair.fwd = s.pair.fwd := by
    have hsend : u.sendFrame.pair.fwd = u.pair.fwd := rfl
    rw [h, hsend, hu.pair]
    exact (congrArg Pair.fwd (abandonCopy_pair s) :)
  exact steady_pair (touches_giveUp s kind) hfwd fun _ => giveUp_live ..

theorem steady_doRelease (s : State) : s.steady s.doRelease := by
  unfold State.doRelease
  split
  · exact steady_refl s
  · extract_lets _ s1
    have h1 : s.steady s1 := steady_ite _ (steady_giveUp ..) (steady_pair (l := [.pair]) touches_upd rfl id)
    clear_value s1
    split
    · exact h1.trans (steady_aside (touches_effectOf ..))
    · exact h1

theorem copyCaravan_idle {s : State} (h : s.pair.live = none) : s.copyCaravan = s := by
  unfold State.copyCaravan
  rw [h]
  split
  · exact if_neg fun k => nomatch k.1
  · rfl

theorem copyEnd_idle {s : State} (h : s.pair.live = none) : s.copyEnd = s := by
  unfold State.copyEnd
  exact if_neg fun k => by rw [h] at k; exact nomatch k.2.1

theorem tell_fwd (s : State) (m : PeerMsg) : (s.tell m).pair.fwd = s.pair.fwd := rfl

theorem copyHolder_fwd (s : State) (j : Nat) : (s.copyHolder j).pair.fwd = s.pair.fwd := by
  unfold State.copyHolder
  dsimp only
  split
  · simp only [tell_fwd]
  · split
    · rfl
    · rfl
  · rfl
  · rfl

/-- Where no copy runs, a boundary starts at most one. -/
theorem copyBoundary_idle {s : State} (h : s.pair.live = none) : State.touches [.pair] s s.copyBoundary ∧ s.copyBoundary.pair.fwd = s.pair.fwd := by
  unfold State.copyBoundary
  extract_lets due
  rw [h, copyCaravan_idle h, copyEnd_idle h]
  split
  · rw [if_neg (by decide)]
    exact ⟨touches_refl .., rfl⟩
  · split
    · exact ⟨touches_refl .., rfl⟩
    · split
      · exact ⟨touches_upd, rfl⟩
      · exact ⟨touches_copyHolder .., copyHolder_fwd ..⟩
      all_goals contradiction

theorem steady_forwardBoundary {s : State} (h : s.pair.fwd = []) : s.steady s.forwardBoundary := by
  unfold State.forwardBoundary
  rw [h]
  exact steady_setPair (fun _ => rfl) id

/-! ### Timing at a boundary: no step of the time comes from here -/

theorem step_of_tim {s t : State} (h : t.tim = s.tim) : t.tim.step = s.tim.step := congrArg Timing.step h

theorem step_of_tells {s t : State} (h : s.tells t) : t.tim.step = s.tim.step := step_of_tim h.quiet.tim

theorem foldl_step {α : Type} {f : State → α → State} (hf : ∀ u a, (f u a).tim.step = u.tim.step) (l : List α) (s : State) :
    (l.foldl f s).tim.step = s.tim.step := by
  induction l generalizing s with
  | nil => rfl
  | cons a r ih => exact (ih (f s a)).trans (hf s a)

theorem setDpll_step (s : State) (x : Dpll) : (s.setDpll x).tim.step = s.tim.step := by
  unfold State.setDpll
  extract_lets old _ s1 s2
  have h1 : s1.tim.step = s.tim.step := rfl
  have h2 : s1.tells s2 := tells_ite _ (tells_bump ..) (tells_refl _)
  clear_value s1
  split
  · rfl
  · exact (step_of_tells (h2.trans (tells_journalAuto ..))).trans h1

theorem holdOver_step (s : State) : s.holdOver.tim.step = s.tim.step := setDpll_step ..

theorem selectRef_step (s : State) (i : Nat) : (s.selectRef i).tim.step = s.tim.step := by
  unfold State.selectRef
  extract_lets old _ s1 s2
  have h1 : s1.tim.step = s.tim.step := rfl
  have h2 : s2.tim.step = s.tim.step := (step_of_tells ((tells_bump ..).trans (tells_journalAuto ..))).trans h1
  split
  · rfl
  · split
    · exact setDpll_step ..
    · split
      · exact (setDpll_step ..).trans h2
      · exact h2

theorem evalRef_step (s : State) : s.evalRef.tim.step = s.tim.step := by
  unfold State.evalRef
  split
  · rfl
  · extract_lets lost _ s1
    have h1 : s1.tim.step = s.tim.step := by
      unfold s1
      split
      · exact (step_of_tells (tells_journalAuto ..)).trans rfl
      · rfl
    clear_value s1
    split
    · exact (selectRef_step ..).trans h1
    · split
      · exact h1
      · exact (holdOver_step s1).trans h1

theorem followRef_step (s : State) : s.followRef.tim.step = s.tim.step := by
  unfold State.followRef
  split
  · rfl
  · split
    · rfl
    · split
      · rfl
      · extract_lets ok lost _ s1
        have h1 : s1.tim.step = s.tim.step := rfl
        split
        · exact (selectRef_step ..).trans h1
        · split
          · exact h1
          · exact (holdOver_step s1).trans h1

theorem clampRow_step (s : State) (x : Int) : (s.clampRow x).tim.step = s.tim.step := by
  unfold State.clampRow
  extract_lets lim pull hit calm _ s1
  have h1 : s1.tim.step = s.tim.step := rfl
  clear_value s1
  split
  · exact (setDpll_step ..).trans h1
  · exact h1

theorem actTiming_step (s : State) (kind i rank : Nat) : (s.actTiming kind i rank).tim.step = s.tim.step := by
  unfold State.actTiming
  split
  · rfl
  · rfl
  · extract_lets _ s1
    have h1 : s1.tim.step = s.tim.step := rfl
    clear_value s1
    split
    · exact h1
    · exact (holdOver_step s1).trans h1
  · rfl
  · rfl

theorem timingCommands_step (s : State) (ql : Bool) : (s.timingCommands ql).tim.step = s.tim.step := by
  unfold State.timingCommands
  extract_lets mine due _ s1
  have h1 : s1.tim.step = s.tim.step := rfl
  clear_value s1
  exact (foldl_step (fun u a => (step_of_tim (touches_complete ..).tim).trans (actTiming_step ..)) due s1).trans h1

theorem disqualify_step (s : State) (i : Nat) : (s.disqualify i).tim.step = s.tim.step := by
  unfold State.disqualify
  split
  · rfl
  · exact (step_of_tells (tells_bump ..)).trans rfl

theorem tryWait_step (s : State) (i : Nat) : (s.tryWait i).tim.step = s.tim.step := by
  unfold State.tryWait
  extract_lets x w
  split
  · rfl
  · rfl

theorem lrefLoss_step (s : State) : s.lrefLoss.tim.step = s.tim.step := by
  unfold State.lrefLoss
  generalize (List.range 16).map (· + 8) = inputs
  refine foldl_step (fun u i => ?_) inputs s
  dsimp only
  split
  · exact (disqualify_step ..).trans rfl
  · split
    · exact (tryWait_step ..).trans rfl
    · rfl

theorem timingBoundary_step (s : State) (m : RowMeas) (h : s.tim.step = []) : (s.timingBoundary m).tim.step = [] := by
  unfold State.timingBoundary
  extract_lets s1 t same s2 s3 _
  have h1 : s1.tim.step = [] := by
    unfold s1
    rw [lrefLoss_step, timingCommands_step, h]
  clear_value s1
  have ht : t.tim.step = [] := (clampRow_step ..).trans ((evalRef_step _).trans ((followRef_step s1).trans h1))
  clear_value t
  have h2 : s2.tim.step = [] := by
    unfold s2
    split
    · exact (evalRef_step _).trans ((timingCommands_step t false).trans ht)
    · exact ht
  clear_value s2
  exact h2

theorem steady_timingBoundary (s : State) (m : RowMeas) : s.steady (s.timingBoundary m) := by
  have h := touches_timingBoundary s m
  exact steady_of_touches h (timingBoundary_step s m) (by rw [h.pair]; exact id) (by rw [h.pair]; exact id)

/-- No step of the time is due. -/
theorem stepRow_idle {s : State} (h : s.tim.step = []) : s.steady s.stepRow := by
  have hstep : s.doStep = { s with tim := { s.tim with step := [] } } := by
    unfold State.doStep
    rw [h]
    rfl
  unfold State.stepRow
  extract_lets t
  have ht : t = _ := hstep
  rw [if_pos (by rw [ht]), ht]
  exact ⟨rfl, rfl, rfl, fun _ => rfl, id, id⟩

/-! ### The start of a row -/

/-- The clock counts as in s, apart from its marks; generation and security are as they were. -/
structure State.timeKept (s t : State) : Prop where
  rsn : t.clk.rsn = s.clk.rsn
  tick : t.clk.tick = s.clk.tick
  tod : t.clk.tod = s.clk.tod
  gen : t.com.gen = s.com.gen
  sec : t.sec = s.sec

theorem State.timeKept.trans {s t u : State} (h : s.timeKept t) (k : t.timeKept u) : s.timeKept u :=
  ⟨k.rsn.trans h.rsn, k.tick.trans h.tick, k.tod.trans h.tod, k.gen.trans h.gen, k.sec.trans h.sec⟩

theorem State.steady.time {s t : State} (h : s.steady t) : s.timeKept t :=
  ⟨congrArg Clock.rsn h.clk, congrArg Clock.tick h.clk, congrArg Clock.tod h.clk, h.gen, h.sec⟩

theorem timeKept_aside {l : List Part} {s t : State} (h : State.touches l s t)
    (hl : [Part.clk, .free, .gen, .sec].all (fun p => !l.contains p) = true := by rfl) : s.timeKept t := by
  simp only [List.all_cons, List.all_nil, Bool.and_true, Bool.and_eq_true, Bool.not_eq_true'] at hl
  obtain ⟨hclk, hfree, hgen, hsec⟩ := hl
  have hc := h.clk hclk hfree
  exact ⟨congrArg Clock.rsn hc, congrArg Clock.tick hc, congrArg Clock.tod hc, h.gen hgen, h.sec hsec⟩

theorem timeKept_noteTraced (s : State) : s.timeKept s.noteTraced := by
  unfold State.noteTraced
  split
  · exact ⟨rfl, rfl, rfl, rfl, rfl⟩
  · exact ⟨rfl, rfl, rfl, rfl, rfl⟩

theorem startRow_time {s : State} (m : RowMeas) (hstep : s.tim.step = []) (hfwd : s.pair.fwd = []) (hlive : s.pair.live = none) :
    s.timeKept (s.startRow m) := by
  unfold State.startRow
  extract_lets s1 s2 s3 s4
  have h1 : s.steady s1 := (steady_aside (touches_releaseDue s)).trans (steady_aside (touches_clearEnabledWrite _))
  have hb : s.steady s1.doRelease.saredBoundary := h1.trans ((steady_doRelease s1).trans (steady_saredBoundary s1.doRelease))
  obtain ⟨hcopy, hkeep⟩ := copyBoundary_idle (hb.live hlive)
  have hc := hb.time.trans (timeKept_aside hcopy)
  have hstepc := (step_of_tim hcopy.tim).trans (hb.step hstep)
  have hd : State.steady _ s2 := (steady_forwardBoundary (hkeep.trans (hb.fwd hfwd))).trans (steady_aside (touches_protBoundary _))
  have he : s2.steady (s2.timingBoundary m) := steady_timingBoundary s2 m
  have hg := stepRow_idle (he.step (hd.step hstepc))
  have h3 : s.timeKept s3 := ((((hc.trans hd.time).trans he.time).trans hg.time).trans (timeKept_aside (touches_commitRow _))).trans
    (timeKept_aside (touches_lockstep _))
  clear_value s3
  have h4 : s.timeKept s4 := by
    unfold s4
    split
    · exact h3.trans (timeKept_aside (touches_latchInterp s3))
    · exact h3
  clear_value s4
  exact h4.trans ((timeKept_aside (touches_applyPerf s4)).trans ((timeKept_noteTraced _).trans ((timeKept_aside (touches_loadTraces _)).trans
    ((timeKept_aside (touches_updateAlarms _)).trans (timeKept_aside (touches_watchStatus _))))))

/-- No critical field is newly struck. -/
theorem parityCheck_idle {s : State} (h : s.flt.parityNew = []) :
    (s.parityCheck fun _ => true) = { s with flt := { s.flt with parityNew := [] } } := by
  unfold State.parityCheck
  rw [h]
  rfl

theorem rowBoundary_moves (m : RowMeas) (s : State) (hruns : s.timRuns = true) (hparity : s.flt.parityNew = []) (hstep : s.tim.step = [])
    (hfwd : s.pair.fwd = []) (hlive : s.pair.live = none) :
    ∃ t, exec (.rowBoundary m) s = .next t ∧ t.clk.rsn = s.clk.rsn + 1 ∧ t.clk.tick = s.clk.tick + 64 ∧
      t.clk.tod = s.clk.tod + 4096 ∧ t.com.gen = s.com.gen ∧ t.sec = s.sec := by
  let v : State := { s with flt := { s.flt with parityNew := [] } }
  have hexec : exec (.rowBoundary m) s = .next (v.endRow.startRow m) := by
    change execRowBoundary m s = _
    unfold execRowBoundary
    rw [if_pos hruns, parityCheck_idle hparity]
    exact if_pos hruns
  obtain ⟨u, hu, hend⟩ := endRow_steady v
  have ht := startRow_time (s := v.endRow) m (hend.step (hu.step hstep)) (hend.fwd (hu.fwd hfwd)) (hend.live (hu.live hlive))
  have hclk : v.endRow.clk = s.clk.nextRow := hend.clk.trans (congrArg Clock.nextRow hu.clk)
  refine ⟨_, hexec, ?_, ?_, ?_, ht.gen.trans (hend.gen.trans hu.gen), ht.sec.trans (hend.sec.trans hu.sec)⟩
  · rw [ht.rsn, hclk]; rfl
  · rw [ht.tick, hclk]; rfl
  · rw [ht.tod, hclk]; rfl

theorem rowBoundary_stopped (m : RowMeas) (s : State) (h : s.timRuns = false) :
    exec (.rowBoundary m) s = .next { s with clk := { s.clk with tick := s.clk.tick + 64 } } := by
  change execRowBoundary m s = _
  unfold execRowBoundary
  have hstopped : ¬(s.timRuns = true) := by rw [h]; decide
  rw [if_neg hstopped]
  exact if_neg hstopped

/-! ### Superframes and seconds -/

theorem find_map_snd {α : Type} (f : α → α) (t : Table α) (k : Nat) :
    Table.find (t.map fun x => (x.1, f x.2)) k = (Table.find t k).map f := by
  induction t with
  | nil => rfl
  | cons x r ih =>
    obtain ⟨j, v⟩ := x
    simp only [List.map_cons, Table.find, ih]
    split
    · rfl
    · rfl

theorem superframeBoundary_taken (s : State) (hruns : s.timRuns = true) (hsf : s.clk.rsn.toNat % 625 = 0) :
    ∃ t, exec .superframeBoundary s = .next t ∧ t.pow.snap = some (s.clk.rsn, s.clk.tod, s.tq, s.clk.tick) ∧ t.clk = s.clk ∧
      t.com.gen = s.com.gen ∧ ∀ d x, Table.find s.obs.cuts d = some x → (t.cut d).satLast = x.satNow ∧ (t.cut d).satNow = [] := by
  let u : State := { s with pow := { s.pow with snap := some (s.clk.rsn, s.clk.tod, s.tq, s.clk.tick) } }
  have hexec : exec .superframeBoundary s = .next u.swapSat.flushCaravan.flushCoalesced := by
    change execSuperframeBoundary s = _
    unfold execSuperframeBoundary
    rw [if_pos (by simp [hruns, hsf])]
  have hswap := touches_swapSat u
  have hflush : State.touches [.counts, .com, .log] u.swapSat u.swapSat.flushCaravan.flushCoalesced :=
    (touches_flushCoalesced _).after (touches_flushCaravan _).le
  refine ⟨_, hexec, ?_, hflush.clk.trans hswap.clk, (hflush.gen).trans hswap.gen, fun d x hx => ?_⟩
  · rw [hflush.pow, hswap.pow]
  · have hcut : u.swapSat.flushCaravan.flushCoalesced.cut d = { x with satLast := x.satNow, satNow := [] } := by
      unfold State.cut Table.get
      rw [hflush.obs]
      have hfind := find_map_snd (fun x : CutStage => { x with satLast := x.satNow, satNow := [] }) s.obs.cuts d
      rw [hx] at hfind
      exact congrArg (Option.getD · {}) hfind
    rw [hcut]
    exact ⟨rfl, rfl⟩

theorem superframeBoundary_none (s : State) (h : s.timRuns = false ∨ s.clk.rsn.toNat % 625 ≠ 0) :
    exec .superframeBoundary s = .next s :=
  if_neg (by obtain h | h := h <;> simp [h])

theorem secondBoundary_none (s : State) (h : s.timRuns = false ∨ s.clk.rsn.toNat % 390625 ≠ 0) : exec .secondBoundary s = .next s :=
  if_neg (by obtain h | h := h <;> simp [h])

/-- The counts of n are as they were. -/
def State.sameCounts (s t : State) (n : Pn) : Prop := ∀ o, o < 65536 → t.cnt n o = s.cnt n o

theorem key_injective {n m : Pn} {o p : Nat} (ho : o < 65536) (hp : p < 65536) (h : n.key o = m.key p) : n = m := by
  unfold Pn.key at h
  have hidx : n.ctorIdx = m.ctorIdx := by omega
  rw [← Pn.ofNat_ctorIdx n, hidx, Pn.ofNat_ctorIdx]

theorem sameCounts_bump {n m : Pn} (h : n ≠ m) (s : State) {p : Nat} (hp : p < 65536) (k : Nat) : s.sameCounts (s.bump m p k) n := by
  intro o ho
  unfold State.bump
  split
  · rfl
  · exact Table.get_set_other _ _ _ fun hkey => h (key_injective ho hp hkey)

theorem sameCounts_refl (s : State) (n : Pn) : s.sameCounts s n := fun _ _ => rfl

theorem State.sameCounts.trans {s t u : State} {n : Pn} (h : s.sameCounts t n) (k : t.sameCounts u n) : s.sameCounts u n :=
  fun o ho => (k o ho).trans (h o ho)

theorem sameCounts_of_counts {s t : State} (h : t.par.counts = s.par.counts) (n : Pn) : s.sameCounts t n := fun o _ => by
  unfold State.cnt; rw [h]

theorem sameCounts_ite {s a b : State} {n : Pn} (p : Prop) [Decidable p] (h : s.sameCounts a n) (k : s.sameCounts b n) :
    s.sameCounts (if p then a else b) n := by
  split <;> assumption

theorem sameCounts_countSecond {n : Pn} (hes : n ≠ .lanePmEs) (hses : n ≠ .lanePmSes) (huas : n ≠ .lanePmUas) (s : State) {l : Nat}
    (hl : l < 512) : s.sameCounts (s.countSecond l) n := by
  have he : s.sameCounts (if (s.lane l).second.1 then s.bump .lanePmEs l 1 else s) n :=
    sameCounts_ite _ (sameCounts_bump hes s (by omega) 1) (sameCounts_refl s n)
  unfold State.countSecond
  dsimp only
  exact sameCounts_ite _ (sameCounts_bump huas s (by omega) 1)
    (sameCounts_ite _ (he.trans (sameCounts_bump hses _ (by omega) 1)) he)

theorem sameCounts_timingSecond {n : Pn} (ho : n ≠ .timingPmOasisS) (hf : n ≠ .timingPmFreerunS) (s : State) :
    s.sameCounts s.timingSecond n := by
  unfold State.timingSecond
  split
  · exact sameCounts_bump ho s (by omega) 1
  · exact sameCounts_bump ho s (by omega) 1
  · exact sameCounts_bump hf s (by omega) 1
  · exact sameCounts_refl s n

theorem sameCounts_foldl {n : Pn} {f : State → Nat → State} {l : List Nat} (h : ∀ k ∈ l, ∀ u, State.sameCounts u (f u k) n) (s : State) :
    s.sameCounts (l.foldl f s) n := by
  induction l generalizing s with
  | nil => exact sameCounts_refl s n
  | cons k r ih => exact (h k (List.mem_cons_self ..) s).trans (ih (fun j hj => h j (List.mem_cons_of_mem _ hj)) (f s k))

theorem secondBoundary_taken (s : State) (hruns : s.timRuns = true) (hsec : s.clk.rsn.toNat % 390625 = 0) (hlanes : ∀ x ∈ s.lanes, x.1 < 512) :
    ∃ t, exec .secondBoundary s = .next t ∧ t.clk = s.clk ∧ t.com = s.com ∧ t.sw = s.sw ∧ ∀ n o, o < 65536 →
      n ∉ [.lanePmEs, .lanePmSes, .lanePmUas, .timingPmOasisS, .timingPmFreerunS] → Table.get 0 t.par.prev (n.key o) = s.cnt n o := by
  let ls := (s.lanes.filter fun x => x.2.rxOn).map (·.1)
  let bad := (ls.filter fun l => (s.lane l).second.1).length
  let u := ((ls.foldl State.countSecond s).timingSecond).slewSecond
  let v : State := { u with par := { u.par with prev := u.par.counts } }
  have hexec : exec .secondBoundary s = .next ((ls.foldl State.closeSecond v).softEvent 2 0x3002 0 bad) := by
    change execSecondBoundary s = _
    unfold execSecondBoundary
    rw [if_pos (by simp [hruns, hsec])]
  have hu : State.touches [.counts, .tim, .log] s u := (touches_slewSecond _).after ((touches_timingSecond _).after
    (touches_foldl (touches_refl _ _) _ fun w l => (touches_countSecond w l).le))
  have ht : State.touches [.counts, .lanes, .log] v ((ls.foldl State.closeSecond v).softEvent 2 0x3002 0 bad) :=
    (tells_softEvent ..).touches.after (touches_foldl (touches_refl _ _) _ fun w l => (touches_closeSecond w l).le)
  refine ⟨_, hexec, ht.clk.trans hu.clk, ht.com.trans hu.com, ht.sw.trans hu.sw, fun n o ho hn => ?_⟩
  simp only [List.mem_cons, List.not_mem_nil, or_false, not_or] at hn
  obtain ⟨hes, hses, huas, hoasis, hfree⟩ := hn
  have hprev : ((ls.foldl State.closeSecond v).softEvent 2 0x3002 0 bad).par.prev = u.par.counts := (congrArg Params.prev ht.parBut :)
  have hcount : s.sameCounts (ls.foldl State.countSecond s) n := by
    refine sameCounts_foldl (fun l hl w => sameCounts_countSecond hes hses huas w ?_) s
    obtain ⟨x, hx, rfl⟩ := List.mem_map.mp hl
    exact hlanes x (List.mem_filter.mp hx).1
  have hsame : s.sameCounts u n :=
    (hcount.trans (sameCounts_timingSecond hoasis hfree _)).trans (sameCounts_of_counts (touches_slewSecond _).counts n)
  rw [hprev]
  exact hsame o ho

/-- Settles O51: a row moves the clock and no more of the time; superframes and seconds take their snapshots. -/
theorem boundaries : Obligations.Boundaries :=
  ⟨rowBoundary_moves, rowBoundary_stopped, superframeBoundary_taken, superframeBoundary_none, secondBoundary_taken, secondBoundary_none⟩

end Sys2Proof.Machine
end

section
/-!
PROOFS. A PARAM.SET whose completion waits although nothing of its own waits: what refutes O5, O7, O15 and O32.
-/
namespace Sys2Proof.Machine
-- One theorem after the other: many at once need more stacks than the memory limit of the check allows.
set_option Elab.async false

/-! The completion of a PARAM.SET waits for every buffered write that names its reference. A reference does not tell two commands
of one session in one mailbox with the same CMD_ID apart, so a write that an earlier such command left in the buffer of an enabled
block holds the completion back. -/

/-- The bench on which an earlier command of the same reference as command i has left a write of lane.mode in the buffer. -/
def waitingUnder (i : Instr) (e : Entry) : State :=
  { bench e.word with par := { buffered := [⟨.laneMode, 0, 0, [((bench e.word).servedRef (cmdOf i) e, 0)], 0⟩] } }

/-- A command from mailbox 0 that leaves it taken has not completed. -/
theorem not_completes_of_taken {i : Instr} {e : Entry} {d : CmdDesc} {n : Nat} {pre : State → Prop} {res : State → Nat}
    {post : State → State → Prop} {s : State} (hring : e.ring = 16) (hadmits : s.admits (d.of i) e = true)
    (hroom : (s.served d e).journalRoom n = true) (hpre : pre (s.served d e))
    (htaken : valueAfter (fun t => (t.mailbox 0).state) i s = some 1) : ¬ completes i e d n pre res post := by
  intro h
  obtain ⟨t, ht, hposted, -⟩ := h s hadmits hroom hpre
  rw [valueAfter_next _ ht] at htaken
  unfold State.posted at hposted
  rw [hring, if_neg (by decide), if_pos (by decide)] at hposted
  have hdone : (t.mailbox 0).state = 2 := hposted.1
  rw [hdone] at htaken
  exact absurd htaken (by decide)

theorem pairEnableWrite_waits : valueAfter (fun t => (t.mailbox 0).state)
    (.pairEnableWrite (benchEntry fun e => .pairEnableWrite e 1) 1)
    (waitingUnder (.pairEnableWrite (benchEntry fun e => .pairEnableWrite e 1) 1) (benchEntry fun e => .pairEnableWrite e 1)) = some 1 := by
  decide +kernel

/-- Refutes O32: a write of pair.enable does not complete while a buffered write of the same reference waits. -/
theorem not_claspCommands : ¬ Obligations.ClaspCommands := by
  intro h
  obtain ⟨-, -, -, -, henable⟩ := h
  let e := benchEntry fun e => .pairEnableWrite e 1
  let s := waitingUnder (.pairEnableWrite e 1) e
  have hpre : 2 ≤ (s.served ⟨0x0202, 0, false, false, []⟩ e).callerRole e ∧ (s.served ⟨0x0202, 0, false, false, []⟩ e).dev.mode = .configure ∧
      (s.served ⟨0x0202, 0, false, false, []⟩ e).cur .pairEnable 0 ≠ 1 ∧ (s.served ⟨0x0202, 0, false, false, []⟩ e).com.pend = none := by
    decide +kernel
  obtain ⟨hrole, hmode, hcur, hpend⟩ := hpre
  exact not_completes_of_taken (s := s) (by decide +kernel) (by decide +kernel) (by decide +kernel)
    ⟨hrole, hmode, hcur, fun p c hp => by rw [hpend] at hp; cases hp⟩ pairEnableWrite_waits (henable e 1)

theorem laneTxEnable_waits : valueAfter (fun t => (t.mailbox 0).state)
    (.laneTxEnable (benchEntry fun e => .laneTxEnable e 3 1) 3 1)
    (waitingUnder (.laneTxEnable (benchEntry fun e => .laneTxEnable e 3 1) 3 1) (benchEntry fun e => .laneTxEnable e 3 1)) = some 1 := by
  decide +kernel

/-- Refutes O7: the enabling of a transmitter does not complete while a buffered write of the same reference waits. -/
theorem not_laneDirections : ¬ Obligations.LaneDirections := by
  intro h
  obtain ⟨henable, -⟩ := h
  exact not_completes_of_taken (s := waitingUnder (.laneTxEnable (benchEntry fun e => .laneTxEnable e 3 1) 3 1)
    (benchEntry fun e => .laneTxEnable e 3 1)) (by decide +kernel) (by decide +kernel) (by decide +kernel) (by decide +kernel)
    laneTxEnable_waits (henable (benchEntry fun e => .laneTxEnable e 3 1) 3)

theorem facetEnable_waits : valueAfter (fun t => (t.mailbox 0).state)
    (.facetEnable (benchEntry fun e => .facetEnable e 1) 1)
    (waitingUnder (.facetEnable (benchEntry fun e => .facetEnable e 1) 1) (benchEntry fun e => .facetEnable e 1)) = some 1 := by
  decide +kernel

/-- Refutes O15: the enabling of the facet engine does not complete while a buffered write of the same reference waits. -/
theorem not_facetOutput : ¬ Obligations.FacetOutput := by
  intro h
  obtain ⟨-, henable, -⟩ := h
  exact not_completes_of_taken (s := waitingUnder (.facetEnable (benchEntry fun e => .facetEnable e 1) 1)
    (benchEntry fun e => .facetEnable e 1)) (by decide +kernel) (by decide +kernel) (by decide +kernel) (by decide +kernel)
    facetEnable_waits (henable (benchEntry fun e => .facetEnable e 1))

/-- A PARAM.SET of log.trace_commands to 1, from a buffer in the window that reset leaves open. -/
def traceCommandsSet (e : Entry) : Instr := .paramSet e ⟨0x1000, 0x10000, 0⟩ 1 [⟨.known .logTraceCommands 0, 1, true, [1]⟩]

theorem traceCommandsSet_waits : valueAfter (fun t => (t.mailbox 0).state) (traceCommandsSet (benchEntry traceCommandsSet))
    (waitingUnder (traceCommandsSet (benchEntry traceCommandsSet)) (benchEntry traceCommandsSet)) = some 1 := by
  decide +kernel

/-- Refutes O5: a parameter that is in force at once does not complete its PARAM.SET while a buffered write of the same reference waits. -/
theorem not_parameterWritten : ¬ Obligations.ParameterWritten := by
  intro h
  obtain ⟨hatOnce, -⟩ := h
  exact not_completes_of_taken (s := waitingUnder (traceCommandsSet (benchEntry traceCommandsSet)) (benchEntry traceCommandsSet))
    (by decide +kernel) (by decide +kernel) (by decide +kernel) (by decide +kernel) traceCommandsSet_waits
    (hatOnce (benchEntry traceCommandsSet) ⟨0x1000, 0x10000, 0⟩ .logTraceCommands 0 1 [1] rfl rfl (by decide))

end Sys2Proof.Machine
end

section
/-!
PROOFS. What reporting and journalling count: the counts of chapter 17 alone; every other count stays.
-/
namespace Sys2Proof.Machine

-- One theorem after the other: many at once need more stacks than the memory limit of the check allows.
set_option Elab.async false

/-- The counts that reporting and journalling write. -/
def logCounts : List Pn :=
  [.logPmDropInfo, .logPmDropPerf, .logPmDropTrace, .logPmFiltered, .logPmAlarmCoalesced, .logPmJournalRecords, .logPmJournalCoalesced,
    .logPmSecurityCounted]

/-- t has the counts of s but for those of reporting and journalling. -/
structure State.onlyReports (s t : State) : Prop where
  /-- Each other count, at each object. -/
  same : ∀ n, n ∉ logCounts → s.sameCounts t n

theorem onlyReports_refl (s : State) : s.onlyReports s := ⟨fun n _ => sameCounts_refl s n⟩

theorem State.onlyReports.trans {s t u : State} (h : s.onlyReports t) (k : t.onlyReports u) : s.onlyReports u :=
  ⟨fun n hn => (h.same n hn).trans (k.same n hn)⟩

theorem onlyReports_of_counts {s t : State} (h : t.par.counts = s.par.counts) : s.onlyReports t :=
  ⟨fun n _ => sameCounts_of_counts h n⟩

theorem onlyReports_ite {s a b : State} (p : Prop) [Decidable p] (h : s.onlyReports a) (k : s.onlyReports b) :
    s.onlyReports (if p then a else b) := by
  split <;> assumption

theorem State.onlyReports.cnt {s t : State} (h : s.onlyReports t) (n : Pn) (hn : n ∉ logCounts := by decide) {o : Nat}
    (ho : o < 65536 := by omega) : t.cnt n o = s.cnt n o := h.same n hn o ho

theorem onlyReports_foldl {α : Type} (f : State → α → State) (h : ∀ (s : State) (a : α), s.onlyReports (f s a)) (l : List α) (s : State) :
    s.onlyReports (l.foldl f s) := by
  induction l generalizing s with
  | nil => exact onlyReports_refl s
  | cons a r ih => exact (h s a).trans (ih _)

theorem onlyReports_bump (s : State) (n : Pn) (k : Nat) (hn : n ∈ logCounts) : s.onlyReports (s.bump n 0 k) :=
  ⟨fun m hm => sameCounts_bump (fun e => hm (by rw [e]; exact hn)) s (by omega) k⟩

theorem onlyReports_pushEvent (s : State) (cls sev : Nat) (b : Bool) (code obj data : Nat) (p : List Byte) :
    s.onlyReports (s.pushEvent cls sev b code obj data p) := onlyReports_of_counts rfl

theorem onlyReports_perfBump (s : State) (i k : Nat) : s.onlyReports (s.perfBump i k).1 := onlyReports_of_counts rfl

theorem onlyReports_perfQuiet (s : State) (ev k : Nat) : s.onlyReports (s.perfQuiet ev k) :=
  onlyReports_foldl _ (fun s a => onlyReports_ite _ (onlyReports_perfBump s _ k) (onlyReports_refl s)) _ _

theorem onlyReports_dropEvent (s : State) (cls code : Nat) : s.onlyReports (s.dropEvent cls code) := by
  unfold State.dropEvent; dsimp only
  split
  all_goals
    refine State.onlyReports.trans (State.onlyReports.trans ?_ (onlyReports_perfQuiet _ 7 1)) (onlyReports_bump _ _ 1 ?_)
    · exact onlyReports_of_counts rfl
    · decide

theorem onlyReports_dropSummary (s : State) (cls : Nat) : s.onlyReports (s.dropSummary cls) := by
  unfold State.dropSummary; dsimp only; split <;> exact onlyReports_of_counts rfl

theorem onlyReports_softEvent (s : State) (cls code obj data : Nat) : s.onlyReports (s.softEvent cls code obj data) :=
  onlyReports_ite _ (onlyReports_bump s _ 1 (by decide))
    (onlyReports_ite _ ((onlyReports_dropSummary s cls).trans (onlyReports_pushEvent ..)) (onlyReports_dropEvent s cls code))

theorem onlyReports_info (s : State) (code obj data : Nat) : s.onlyReports (s.info code obj data) := onlyReports_softEvent ..

theorem onlyReports_foldEvent (s : State) (code obj : Nat) : s.onlyReports (s.foldEvent code obj) := by
  refine onlyReports_of_counts ?_
  unfold State.foldEvent
  split
  · rfl
  · split
    · rfl
    · split <;> rfl

theorem onlyReports_alarmEvent (s : State) (sev : Nat) (a b : Bool) (code obj data : Nat) (p : List Byte) :
    s.onlyReports (s.alarmEvent sev a b code obj data p) := by
  unfold State.alarmEvent; split
  · exact onlyReports_pushEvent ..
  · split
    · refine State.onlyReports.trans ?_ (onlyReports_bump _ .logPmAlarmCoalesced 1 (by decide))
      exact onlyReports_of_counts rfl
    · exact onlyReports_foldEvent ..

theorem onlyReports_perf_go (ev i k : Nat) (cs : List (Nat × PerfCtr)) (s : State) : s.onlyReports (State.perf.go ev i k cs s) := by
  induction cs generalizing s with
  | nil => exact onlyReports_refl s
  | cons c r ih =>
    obtain ⟨j, c⟩ := c
    unfold State.perf.go; dsimp only; split
    · split
      · exact (onlyReports_perfBump ..).trans (ih _)
      · split
        · exact ((onlyReports_perfBump s j k).trans (onlyReports_perfBump (s.perfBump j k).1 (j + 1) (s.perfBump j k).2)).trans
            ((onlyReports_ite _ (onlyReports_refl _) (onlyReports_softEvent _ 2 0x3001 (j + 1) 0)).trans (ih _))
        · exact ((onlyReports_perfBump ..).trans (onlyReports_softEvent ..)).trans (ih _)
    · exact ih _

theorem onlyReports_perf (s : State) (ev i k : Nat) : s.onlyReports (s.perf ev i k) := onlyReports_perf_go ..

theorem onlyReports_lifeAdd (s : State) (a b k : Nat) : s.onlyReports (s.lifeAdd a b k) := onlyReports_of_counts rfl

theorem onlyReports_jupdate (s : State) : s.onlyReports s.jupdate := onlyReports_of_counts rfl

theorem onlyReports_pushRec (s : State) (own : Bool) (a b c d e f g h i j : Nat) : s.onlyReports (s.pushRec own a b c d e f g h i j) := by
  unfold State.pushRec; dsimp only
  refine State.onlyReports.trans ?_ (onlyReports_jupdate _)
  refine State.onlyReports.trans ?_ (onlyReports_perf _ 5 0 1)
  refine State.onlyReports.trans ?_ (onlyReports_bump _ _ 1 (by decide))
  split <;> exact onlyReports_of_counts rfl

theorem onlyReports_journalAuto (s : State) (code o v : Nat) (c : CmdRef) : s.onlyReports (s.journalAuto code o v c) := by
  refine onlyReports_ite _ (onlyReports_pushRec ..) ?_
  unfold State.coalesce
  refine State.onlyReports.trans ?_ (onlyReports_bump _ .logPmJournalCoalesced _ (by decide))
  exact onlyReports_of_counts rfl

theorem onlyReports_journalAll (c : CmdRef) (recs : List (Nat × Nat × Nat)) (s : State) : s.onlyReports (s.journalAll c recs) := by
  induction recs generalizing s with
  | nil => exact onlyReports_refl s
  | cons x r ih => obtain ⟨o, n, v⟩ := x; exact (onlyReports_pushRec ..).trans (ih _)

theorem onlyReports_journalSecurity (s : State) (a b c d e f g : Nat) : s.onlyReports (s.journalSecurity a b c d e f g) :=
  onlyReports_ite _ (onlyReports_pushRec ..) (onlyReports_bump _ _ _ (by decide))

theorem onlyReports_journalSummary (s : State) (code o n v : Nat) : s.onlyReports (s.journalSummary code o n v) :=
  onlyReports_pushRec ..

end Sys2Proof.Machine
end

section
/-!
PROOFS. The Jaray complex (O48): UNLOCK, apply batches, REMAP, the working SRAM and its aliases, DMA, the march test (R417, R445 to
R457, R461).
-/
namespace Sys2Proof.Machine
-- One theorem after the other: many at once need more stacks than the memory limit of the check allows.
set_option Elab.async false

/-! ### UNLOCK (R417) -/

theorem exec_unlockWrite (v : BitVec 32) {s : State} (h : s.barUp = true) : exec (.unlockWrite v) s = .next (s.unlockReg v) :=
  (congrArg Host.Outcome.next (if_pos h) :)

theorem unlockWrite_key {v : BitVec 32} {s : State} (hbar : s.barUp = true) (h : v = 0xC1A5) : exec (.unlockWrite v) s =
    .next { s with host := { s.host with unlocked := true, unlockTick := s.clk.tick } } := by
  rw [exec_unlockWrite v hbar, State.unlockReg, if_pos h]

theorem unlockWrite_other {v : BitVec 32} {s : State} (hbar : s.barUp = true) (h : v ≠ 0xC1A5) : exec (.unlockWrite v) s =
    .next { s with host := { s.host with unlocked := false, badKeys := min 255 (s.host.badKeys + 1) } } := by
  rw [exec_unlockWrite v hbar, State.unlockReg, if_neg h]

theorem exec_unlockExpiry {s : State} (hon : s.host.unlocked = true) (hlate : s.host.unlockTick + 25000000 ≤ s.clk.tick) :
    exec .unlockExpiry s = .next s.lock := by
  have helapsed : s.elapsed s.host.unlockTick secTicks = true := elapsed_true hlate
  exact if_pos (by rw [hon, helapsed]; rfl)

/-! ### Apply batches (R457) -/

theorem granted_tells (s : State) (m a : Nat) : s.tells (s.granted m a) := tells_perf ..

theorem drop_put_same {α : Type} (t : Table α) (k : Nat) (v : α) : Table.drop (Table.put t k v) k = Table.drop t k := by
  induction t with
  | nil => simp [Table.put, Table.drop]
  | cons x r ih =>
    obtain ⟨j, w⟩ := x
    by_cases h : k < j
    · simp [Table.put, Table.drop, h]
    · by_cases h' : k = j
      · simp [Table.put, Table.drop, h']
      · simp [Table.put, Table.drop, h, h', ih, Ne.symm h']

theorem get_drop_same {α : Type} (d : α) (t : Table α) (k : Nat) : Table.get d (Table.drop t k) k = d := by
  unfold Table.get; rw [Table.find_drop_same]; rfl

theorem get_put_same {α : Type} (d : α) (t : Table α) (k : Nat) (v : α) : Table.get d (Table.put t k v) k = v := by
  unfold Table.get; rw [Table.find_put_same]; rfl

/-- The state whose batch of pair j is dropped. -/
def State.noBatch (s : State) (j : Nat) : State := { s with jcc := { s.jcc with batch := Table.drop s.jcc.batch j } }

/-- A write of a batch meets no register that takes it (R457). -/
def RegWrite.misses (w : RegWrite) : Bool :=
  decide (w.addr < 0x40000000 ∨ 0x50000000 ≤ w.addr) || !regWritable (w.addr - 0x40000000)

theorem queued_batch (j : Nat) (ws : List RegWrite) (s : State) :
    Table.get [] (ws.foldl (fun s w => s.queueWrite j w) s).jcc.batch j = Table.get [] s.jcc.batch j ++ ws ∧
      (ws.foldl (fun s w => s.queueWrite j w) s).noBatch j = s.noBatch j := by
  induction ws generalizing s with
  | nil => exact ⟨(List.append_nil _).symm, rfl⟩
  | cons w r ih =>
    obtain ⟨hget, hdrop⟩ := ih (s.queueWrite j w)
    refine ⟨?_, ?_⟩
    · rw [List.foldl_cons, hget]
      unfold State.queueWrite
      dsimp only
      rw [get_put_same, List.append_assoc, List.singleton_append]
    · rw [List.foldl_cons, hdrop]
      unfold State.queueWrite State.noBatch
      dsimp only
      rw [drop_put_same]

theorem applyBatch_eq (s : State) (j : Nat) : s.applyBatch j =
    if 256 < (Table.get [] s.jcc.batch j).length ∨ (Table.get [] s.jcc.batch j).any RegWrite.misses = true then
      (s.noBatch j).errorTo j (0x40020000 + 0x4000 * j)
    else (Table.get [] s.jcc.batch j).foldl (fun s w => s.regWrite j (w.addr - 0x40000000) w.value) (s.noBatch j) := rfl

theorem exec_applyBatch {j : Fin 2} {ws : List RegWrite} {s u : State} (hon : s.masterOn j = true)
    (hempty : Table.get [] s.jcc.batch j = []) (hu : u = (s.granted j (0x40020000 + 0x4000 * j)).request) :
    exec (.applyBatch j ws) s = .next (
      if 256 < ws.length ∨ ws.any RegWrite.misses = true then (u.noBatch j).errorTo j (0x40020000 + 0x4000 * j)
      else ws.foldl (fun s w => s.regWrite j (w.addr - 0x40000000) w.value) (u.noBatch j)) := by
  have hexec : exec (.applyBatch j ws) s = .next ((ws.foldl (fun s w => s.queueWrite j.val w) u).applyBatch j.val) := by
    rw [hu]; exact if_pos hon
  have hbatch : Table.get [] u.jcc.batch j = [] := by
    rw [hu]
    have hjcc : (s.granted j (0x40020000 + 0x4000 * j)).request.jcc.batch = s.jcc.batch :=
      (congrArg Jcc.batch (granted_jcc s j (0x40020000 + 0x4000 * j)) :)
    rw [hjcc]; exact hempty
  obtain ⟨hget, hdrop⟩ := queued_batch j.val ws u
  rw [hbatch, List.nil_append] at hget
  rw [hexec, applyBatch_eq, hget, hdrop]

theorem errorTo_pair {s : State} {m a : Nat} (hm : m < 2) : s.errorTo m a =
    { s with jcc := { s.jcc with error := true, readData := 0, busError := Table.put s.jcc.busError m a } } := if_pos hm

/-- A batch that is too long, or holds an address that no register takes, is refused whole. -/
theorem misses_of_bad {ws : List RegWrite} (h : 256 < ws.length ∨ (∃ w ∈ ws, w.addr < 0x40000000 ∨ 0x50000000 ≤ w.addr ∨
    regWritable (w.addr - 0x40000000) = false)) : 256 < ws.length ∨ ws.any RegWrite.misses = true := by
  obtain h | ⟨w, hw, h⟩ := h
  · exact .inl h
  · refine .inr (List.any_eq_true.mpr ⟨w, hw, ?_⟩)
    unfold RegWrite.misses
    obtain h | h | h := h <;> simp [h]

theorem takes_of_good {ws : List RegWrite} (hlen : ws.length ≤ 256)
    (h : ∀ w ∈ ws, 0x40000000 ≤ w.addr ∧ w.addr < 0x50000000 ∧ regWritable (w.addr - 0x40000000) = true) :
    ¬(256 < ws.length ∨ ws.any RegWrite.misses = true) := by
  rintro (hlong | hmiss)
  · omega
  · obtain ⟨w, hw, hmiss⟩ := List.any_eq_true.mp hmiss
    obtain ⟨hlow, hhigh, hreg⟩ := h w hw
    unfold RegWrite.misses at hmiss
    rw [hreg, decide_eq_false (by omega)] at hmiss
    exact absurd hmiss (by decide)

section
variable {j : Fin 2} {ws : List RegWrite} {s u : State} (hon : s.masterOn j = true) (hempty : Table.get [] s.jcc.batch j = [])
  (hu : u = (s.granted j (0x40020000 + 0x4000 * j)).request)
include hon hempty hu

theorem applyBatch_refused (hbad : 256 < ws.length ∨ (∃ w ∈ ws, w.addr < 0x40000000 ∨ 0x50000000 ≤ w.addr ∨
    regWritable (w.addr - 0x40000000) = false)) :
    ∃ t, exec (.applyBatch j ws) s = .next t ∧ t.jcc.error = true ∧ t.jcc.readData = 0 ∧ t.host = s.host ∧
      t.jcc.busError = Table.put s.jcc.busError j (0x40020000 + 0x4000 * j) ∧ Table.get [] t.jcc.batch j = [] := by
  have hhost : u.host = s.host := by rw [hu]; exact (granted_tells s j (0x40020000 + 0x4000 * j)).host
  have hbus : u.jcc.busError = s.jcc.busError := by
    rw [hu]; exact (congrArg Jcc.busError (granted_jcc s j (0x40020000 + 0x4000 * j)) :)
  have hexec := exec_applyBatch (ws := ws) hon hempty hu
  rw [if_pos (misses_of_bad hbad), errorTo_pair j.isLt] at hexec
  refine ⟨_, hexec, rfl, rfl, hhost, ?_, get_drop_same ..⟩
  rw [← hbus]
  rfl

theorem applyBatch_applied (hlen : ws.length ≤ 256)
    (hgood : ∀ w ∈ ws, 0x40000000 ≤ w.addr ∧ w.addr < 0x50000000 ∧ regWritable (w.addr - 0x40000000) = true) :
    exec (.applyBatch j ws) s = .next (ws.foldl (fun s w => s.regWrite j (w.addr - 0x40000000) w.value)
      { u with jcc := { u.jcc with batch := Table.drop u.jcc.batch j } }) := by
  have hexec := exec_applyBatch (ws := ws) hon hempty hu
  rw [if_neg (takes_of_good hlen hgood)] at hexec
  exact hexec

end

/-! ### The working SRAM (R444, R450, R451) -/

/-- The base of a view of the working SRAM: home, bit-set, bit-clear. -/
theorem matrixTarget_sram (remap : Bool) {k off : Nat} (hk : k < 3) (hoff : off < 0x800000) :
    matrixTarget remap (0x20000000 + 0x1000000 * k + off) = (.sram k, off) := by
  unfold matrixTarget
  have : k = 0 ∨ k = 1 ∨ k = 2 := by omega
  obtain rfl | rfl | rfl := this
  all_goals grind

theorem reached_sram (s : State) {m k off : Nat} (hm : m < 10) (hk : k < 3) (hoff : off < 0x800000) :
    s.reached m (0x20000000 + 0x1000000 * k + off) = true := by
  have hpcie : m ≠ 10 := by omega
  rw [State.reached, matrixTarget_sram _ hk hoff]
  simp [reaches, hm, hpcie]

theorem writeBeat_sram (s : State) {m k off : Nat} (bs : List Byte) (hm : m < 10) (hk : k < 3) (hoff : off < 0x800000) :
    s.writeBeat m (0x20000000 + 0x1000000 * k + off) bs = s.sramWrite m k off bs := by
  have hreach := reached_sram s hm hk hoff
  unfold State.writeBeat
  rw [matrixTarget_sram _ hk hoff, hreach]
  rfl

theorem exec_registerWrite_sram {m : Fin 14} {k off : Nat} {bs : List Byte} {s : State} (hon : s.masterOn m = true) (hm : m.val < 10)
    (hk : k < 3) (hoff : off < 0x800000) (hne : bs ≠ []) (hfit : off % 16 + bs.length ≤ 16) :
    exec (.registerWrite m (0x20000000 + 0x1000000 * k + off) bs) s =
      .next ((s.granted m (0x20000000 + 0x1000000 * k + off)).request.sramWrite m k off bs).2 := by
  rw [← writeBeat_sram _ bs hm hk hoff]
  have hlen : 0 < bs.length := List.length_pos_iff.mpr hne
  have hpcie : m.val ≠ 10 := by omega
  have hfacet : m.val ≠ 12 := by omega
  refine if_pos ?_
  rw [hon, if_neg hpcie, if_neg hfacet]
  simp only [Bool.true_and, decide_eq_true_eq]
  omega

theorem sramWrite_takes (s : State) (m k off : Nat) (bs : List Byte) (h : k = 0 ∨ s.jcc.sramBad = []) :
    (s.sramWrite m k off bs).1 = true := by
  unfold State.sramWrite
  dsimp only
  rw [if_neg ?_]
  rintro ⟨hk, hbad⟩
  obtain h | h := h
  · exact hk h
  · rw [h] at hbad; simp at hbad

theorem length_getRun {α : Type} (d : α) (t : Table α) (k n : Nat) : (Table.getRun d t k n).length = n := by
  induction n generalizing k with
  | zero => rfl
  | succ n ih => exact congrArg Nat.succ (ih (k + 1))

/-- A beat that the working SRAM takes reads back, as its view makes it. -/
theorem sramWrite_reads {s : State} {m k off : Nat} {bs : List Byte} (h : (s.sramWrite m k off bs).1 = true) :
    Table.getRun 0 (s.sramWrite m k off bs).2.jcc.sram off bs.length =
      List.zipWith (aliased k) (Table.getRun 0 s.jcc.sram off bs.length) bs := by
  have hlen : (List.zipWith (aliased k) (Table.getRun 0 s.jcc.sram off bs.length) bs).length = bs.length := by
    rw [List.length_zipWith, length_getRun, Nat.min_self]
  rw [sramWrite_sram s m k off bs h]
  calc Table.getRun 0 (Table.setRun 0 s.jcc.sram off (List.zipWith (aliased k) (Table.getRun 0 s.jcc.sram off bs.length) bs)) off bs.length
      = Table.getRun 0 (Table.setRun 0 s.jcc.sram off (List.zipWith (aliased k) (Table.getRun 0 s.jcc.sram off bs.length) bs)) off
          (List.zipWith (aliased k) (Table.getRun 0 s.jcc.sram off bs.length) bs).length := by rw [hlen]
    _ = _ := Table.getRun_setRun ..

theorem zipWith_home (xs bs : List Byte) (h : xs.length = bs.length) : List.zipWith (aliased 0) xs bs = bs := by
  induction xs generalizing bs with
  | nil => exact (List.length_eq_zero_iff.mp h.symm).symm
  | cons x r ih =>
    cases bs with
    | nil => exact absurd h (by simp)
    | cons b t => rw [List.zipWith_cons_cons, ih t (Nat.succ.inj h)]; rfl

theorem sramWrite_host (s : State) (m off : Nat) (bs : List Byte) : (s.sramWrite m 0 off bs).2.host = s.host := by
  unfold State.sramWrite
  dsimp only
  rw [if_neg (fun h => h.1 rfl)]

/-- The matrix has granted a request. -/
def State.asked (s : State) (m a : Nat) : State := (s.granted m a).request

theorem asked_sram (s : State) (m a : Nat) : (s.asked m a).jcc.sram = s.jcc.sram :=
  (congrArg Jcc.sram (granted_jcc s m a) :)

theorem asked_sramBad (s : State) (m a : Nat) : (s.asked m a).jcc.sramBad = s.jcc.sramBad :=
  (congrArg Jcc.sramBad (granted_jcc s m a) :)

theorem asked_host (s : State) (m a : Nat) : (s.asked m a).host = s.host :=
  (granted_tells s m a).host

section
variable {m : Fin 14} {off : Nat} {bs : List Byte} {s : State} (hon : s.masterOn m = true) (hm : m.val < 10) (hne : bs ≠ [])
  (hfit : off % 16 + bs.length ≤ 16) (hoff : off < 0x800000)
include hon hm hne hfit hoff

theorem registerWrite_home : ∃ t, exec (.registerWrite m (0x20000000 + off) bs) s = .next t ∧
    Table.getRun 0 t.jcc.sram off bs.length = bs ∧ t.host = s.host ∧
    ∀ a, a < off ∨ off + bs.length ≤ a → Table.get 0 t.jcc.sram a = Table.get 0 s.jcc.sram a := by
  let a := 0x20000000 + 0x1000000 * 0 + off
  have htakes := sramWrite_takes (s.asked m a) m 0 off bs (.inl rfl)
  refine ⟨((s.asked m a).sramWrite m 0 off bs).2, exec_registerWrite_sram (k := 0) hon hm (by omega) hoff hne hfit, ?_, ?_, ?_⟩
  · rw [sramWrite_reads htakes, zipWith_home _ _ (length_getRun ..)]
  · rw [sramWrite_host, asked_host]
  · intro x hx
    rw [sramWrite_outside _ _ _ _ _ htakes hx, asked_sram]

theorem registerWrite_view {k : Nat} (hk : k < 3) (hbad : s.jcc.sramBad = []) :
    ∃ t, exec (.registerWrite m (0x20000000 + 0x1000000 * k + off) bs) s = .next t ∧
      Table.getRun 0 t.jcc.sram off bs.length = List.zipWith (aliased k) (Table.getRun 0 s.jcc.sram off bs.length) bs := by
  let a := 0x20000000 + 0x1000000 * k + off
  have htakes := sramWrite_takes (s.asked m a) m k off bs (.inr (by rw [asked_sramBad, hbad]))
  refine ⟨((s.asked m a).sramWrite m k off bs).2, exec_registerWrite_sram (k := k) hon hm hk hoff hne hfit, ?_⟩
  rw [sramWrite_reads htakes, asked_sram]

end

/-! ### DMA (R461) -/

theorem readByte_sram (s : State) {m off : Nat} (hm : m < 10) (hoff : off < 0x800000) (hbad : s.jcc.sramBad = []) :
    s.readByte m (0x20000000 + off) = (some (Table.get 0 s.jcc.sram off), s) := by
  have hreach := reached_sram s (k := 0) hm (by omega) hoff
  have htarget := matrixTarget_sram s.jcc.remap (k := 0) (by omega) hoff
  rw [Nat.mul_zero, Nat.add_zero] at hreach htarget
  unfold State.readByte
  rw [htarget, hreach]
  dsimp only
  rw [hbad]
  rfl

theorem endWord_sram (s : State) {m off : Nat} (n : Nat) (hoff : off < 0x800000) : s.endWord m (0x20000000 + off) n = s := by
  have htarget := matrixTarget_sram s.jcc.remap (k := 0) (by omega) hoff
  rw [Nat.mul_zero, Nat.add_zero] at htarget
  unfold State.endWord
  rw [htarget]

/-- A read of the working SRAM returns its bytes and leaves the state. -/
theorem readBytes_sram (s : State) {m : Nat} (n : Nat) {off : Nat} (hm : m < 10) (hoff : off + n ≤ 0x800000) (hbad : s.jcc.sramBad = []) :
    s.readBytes m (0x20000000 + off) n = (some (Table.getRun 0 s.jcc.sram off n), s) := by
  induction n generalizing off with
  | zero => rfl
  | succ n ih =>
    unfold State.readBytes
    rw [readByte_sram s hm (by omega) hbad]
    dsimp only
    rw [endWord_sram s n (by omega), Nat.add_assoc, ih (by omega)]
    rfl

/-- One beat from and to the working SRAM. -/
theorem dmaBeats_one (s : State) {m a b : Nat} (hm : m < 10) (ha : a + 16 ≤ 0x800000) (hb : b + 16 ≤ 0x800000) (hbad : s.jcc.sramBad = []) :
    ∃ t, s.dmaBeats m (0x20000000 + a) (0x20000000 + b) 0 1 = (true, t) ∧
      Table.getRun 0 t.jcc.sram b 16 = Table.getRun 0 s.jcc.sram a 16 ∧
      ∀ x, x < b ∨ b + 16 ≤ x → Table.get 0 t.jcc.sram x = Table.get 0 s.jcc.sram x := by
  let u := (s.granted m (0x20000000 + a)).granted m (0x20000000 + b)
  have hjcc : u.jcc = s.jcc := (granted_jcc ..).trans (granted_jcc ..)
  let bs := Table.getRun 0 s.jcc.sram a 16
  have hlen : bs.length = 16 := length_getRun ..
  have htakes := sramWrite_takes u m 0 b bs (.inl rfl)
  have hread : u.readBytes m (0x20000000 + a) 16 = (some bs, u) := by
    rw [readBytes_sram u 16 hm ha (by rw [hjcc, hbad]), hjcc]
  have hwrite : u.writeBeat m (0x20000000 + b) bs = u.sramWrite m 0 b bs := writeBeat_sram u (k := 0) bs hm (by omega) (by omega)
  have hperf : ((u.sramWrite m 0 b bs).2.perf 0x046 (m - 2) 16).jcc = (u.sramWrite m 0 b bs).2.jcc := (tells_perf ..).quiet.jcc_eq
  refine ⟨(u.sramWrite m 0 b bs).2.perf 0x046 (m - 2) 16, ?_, ?_, ?_⟩
  · unfold State.dmaBeats
    dsimp only
    rw [if_pos (by decide), hread]
    dsimp only
    rw [hwrite, ← Prod.eta (u.sramWrite m 0 b bs), htakes]
    rfl
  · have hreads := sramWrite_reads htakes
    rw [hlen, zipWith_home _ _ (by rw [length_getRun, hlen])] at hreads
    rw [hperf, hreads]
  · intro x hx
    rw [hperf, sramWrite_outside _ _ _ _ _ htakes (by rw [hlen]; exact hx), hjcc]

theorem dmaTransfer_sram {ch : Fin 8} {a b : Nat} {s : State} (hon : s.masterOn (ch.val + 2) = true) (ha : a + 16 ≤ 0x800000)
    (hb : b + 16 ≤ 0x800000) (hbad : s.jcc.sramBad = []) :
    ∃ t, exec (.dmaTransfer ch (0x20000000 + a) (0x20000000 + b) ⟨16, none⟩) s = .next t ∧
      Table.getRun 0 t.jcc.sram b 16 = Table.getRun 0 s.jcc.sram a 16 ∧
      ∀ x, x < b ∨ b + 16 ≤ x → Table.get 0 t.jcc.sram x = Table.get 0 s.jcc.sram x := by
  obtain ⟨t, ht, hpost⟩ := dmaBeats_one s.request (m := ch.val + 2) (by omega) ha hb hbad
  refine ⟨t, ?_, hpost⟩
  have hgo : exec (.dmaTransfer ch (0x20000000 + a) (0x20000000 + b) ⟨16, none⟩) s =
      .next (s.request.dmaBeats (ch.val + 2) (0x20000000 + a) (0x20000000 + b) 0 1).2 := if_pos (by rw [hon]; rfl)
  rw [hgo, ht]

/-! ### The march test (R453) -/

/-- A slice that finds no cell bad and does not begin a region: the next slice, or the end of the region. -/
theorem marchTestSlice_clean {s : State} (hon : s.domain 2 = 0) (hoff : s.dev.jcc ≠ .off) (hret : s.dev.jcc ≠ .retained)
    (hslice : s.jcc.slice ≠ 0) : ∃ t, exec (.marchTestSlice 0) s = .next t ∧ t.jcc.region = s.jcc.region ∧ t.jcc.sram = s.jcc.sram ∧
      (s.jcc.slice ≠ 15 → t.jcc.slice = s.jcc.slice + 1 ∧ t.jcc.marchOn = true) ∧
      (s.jcc.slice = 15 → t.jcc.slice = 0 ∧ t.jcc.marchOn = false ∧ t.jcc.nextRegion = (s.jcc.region + 1) % 2048 ∧
        t.cnt .cfgPmMarchRegions 0 = (s.cnt .cfgPmMarchRegions 0 + 1) % 2 ^ 48) := by
  have hexec : ∃ u, exec (.marchTestSlice 0) s = .next (if s.jcc.slice = 15 then u.bump .cfgPmMarchRegions 0 1 else u) ∧
      u.par = s.par ∧ u.jcc = { s.jcc with
        slice := if s.jcc.slice = 15 then 0 else s.jcc.slice + 1
        marchOn := !decide (s.jcc.slice = 15)
        nextRegion := if s.jcc.slice = 15 then (s.jcc.region + 1) % 2048 else s.jcc.nextRegion } := by
    refine ⟨_, (if_neg (by rintro (h | h | h); exacts [h hon, hoff h, hret h])).trans
      (if_neg (fun h => hslice h.1)), rfl, ?_⟩
    dsimp only
    rw [if_neg hslice, if_neg hslice]
    rfl
  obtain ⟨u, hu, hpar, hjcc⟩ := hexec
  have hcnt : u.cnt .cfgPmMarchRegions 0 = s.cnt .cfgPmMarchRegions 0 := by unfold State.cnt; rw [hpar]
  by_cases hlast : s.jcc.slice = 15
  · rw [if_pos hlast] at hu
    have hbump : (u.bump .cfgPmMarchRegions 0 1).jcc = u.jcc := (tells_bump ..).quiet.jcc_eq
    refine ⟨_, hu, ?_, ?_, fun h => absurd hlast h, fun _ => ⟨?_, ?_, ?_, ?_⟩⟩
    · rw [hbump, hjcc]
    · rw [hbump, hjcc]
    · rw [hbump, hjcc]; exact if_pos hlast
    · rw [hbump, hjcc]; simp [hlast]
    · rw [hbump, hjcc]; exact if_pos hlast
    · rw [← hcnt]; exact Table.get_set_same ..
  · rw [if_neg hlast] at hu
    refine ⟨_, hu, ?_, ?_, fun _ => ⟨?_, ?_⟩, fun h => absurd h hlast⟩
    · rw [hjcc]
    · rw [hjcc]
    · rw [hjcc]; exact if_neg hlast
    · rw [hjcc]; simp [hlast]

/-- Settles O48, by what each event of the complex does to the unlock, the batches, the working SRAM and the march test. -/
theorem jarayComplex : Obligations.JarayComplex := by
  unfold Obligations.JarayComplex
  refine ⟨?unlock, ?expiry, ?batch, ?remap, ?sram, ?dma, ?march⟩
  case unlock =>
    exact fun v s hbar => ⟨unlockWrite_key hbar, unlockWrite_other hbar⟩
  case expiry => exact fun s hon hlate => exec_unlockExpiry hon hlate
  case batch =>
    intro j ws s u hon hempty hu
    exact ⟨applyBatch_refused hon hempty hu, applyBatch_applied hon hempty hu⟩
  case remap => exact fun s hon => if_pos ⟨rfl, rfl, hon⟩
  case sram =>
    intro m off bs s hon hm hne hfit hoff
    exact ⟨registerWrite_home hon hm hne hfit hoff, registerWrite_view (k := 1) hon hm hne hfit hoff (by omega),
      registerWrite_view (k := 2) hon hm hne hfit hoff (by omega)⟩
  case dma => exact fun ch a b s hon ha hb hbad => dmaTransfer_sram hon ha hb hbad
  case march => exact fun s hon hoff hret hslice => marchTestSlice_clean hon hoff hret hslice

end Sys2Proof.Machine
end

section
/-!
PROOFS. What faults and their detection do (O40): what a report writes, engines that disagree, the scans, the self-test of the checkers,
and the restart that a failing pair brings (R434, R442, R492, R500 to R516).
-/
namespace Sys2Proof.Machine
-- One theorem after the other: many at once need more stacks than the memory limit of the check allows.
set_option Elab.async false

/-! ### What a report writes of the faults (R515) -/

/-- g has the faults of f but for the records and what goes with writing one. -/
def Faults.noted (f g : Faults) : Prop :=
  g = { f with
    next := g.next
    log := g.log
    mram := g.mram
    lastRegion := g.lastRegion
    injected := g.injected
    maskTick := g.maskTick }

theorem noted_refl (f : Faults) : f.noted f := rfl

theorem Faults.noted.trans {f g h : Faults} (k : f.noted g) (l : g.noted h) : f.noted h := by
  unfold Faults.noted at *; rw [l, k]

section
variable {f g : Faults} (h : f.noted g)
include h

theorem Faults.noted.uncovered : g.uncovered = f.uncovered := (congrArg Faults.uncovered h :)
theorem Faults.noted.parityNew : g.parityNew = f.parityNew := (congrArg Faults.parityNew h :)
theorem Faults.noted.parityBad : g.parityBad = f.parityBad := (congrArg Faults.parityBad h :)
theorem Faults.noted.lasting : g.lasting = f.lasting := (congrArg Faults.lasting h :)

end

theorem noted_of_flt {s t : State} (h : t.flt = s.flt) : s.flt.noted t.flt := by rw [h]; exact noted_refl _

theorem noted_faultToMram (s : State) (r : FaultRec) : s.flt.noted (s.faultToMram r).flt := rfl

theorem noted_openFault (s : State) (cls region location detail action : Nat) (escalated injected : Bool) :
    s.flt.noted (s.openFault cls region location detail action escalated injected).flt := by
  unfold State.openFault
  split
  · exact rfl
  · extract_lets first outcome link action' r _ s1 s2 s3
    have h1 : s.flt.noted s1.flt := rfl
    have h2 : s1.flt.noted s2.flt := by
      refine noted_of_flt ?_
      unfold s2
      generalize outcome = o
      split
      · exact (tells_bump ..).quiet.flt
      · exact ((tells_bump ..).trans (tells_bump ..)).quiet.flt
      · exact (tells_bump ..).quiet.flt
    have h3 : s2.flt.noted s3.flt := by
      unfold s3
      split
      · exact noted_refl _
      · exact noted_faultToMram ..
    exact ((h1.trans h2).trans h3).trans (noted_of_flt (tells_alarmEvent ..).quiet.flt)

theorem noted_report (s : State) (cls region location detail action : Nat) :
    s.flt.noted (s.report cls region location detail action).flt := by
  unfold State.report
  extract_lets mark inj _ s1
  have h1 : s.flt.noted s1.flt := rfl
  exact h1.trans (noted_openFault ..)

theorem noted_detect {region : Nat} (h : 1 < region) (s : State) (cls location detail action : Nat) :
    s.flt.noted (s.detect cls region location detail action).flt := by
  rw [detect_outside h]; exact noted_report ..

/-! ### Masked faults (R512) -/

theorem maskedFault_flt (s : State) (cls region : Nat) : ∃ k, (s.maskedFault cls region).flt = { s.flt with maskTick := k } := by
  unfold State.maskedFault
  extract_lets s1 _ _
  have h1 : s1.flt = s.flt := (tells_bump ..).quiet.flt
  split
  · refine ⟨Table.put s1.flt.maskTick region (s1.clk.tick + 1), (tells_info ..).quiet.flt.trans ?_⟩
    exact (congrArg (fun f : Faults => { f with maskTick := Table.put s1.flt.maskTick region (s1.clk.tick + 1) }) h1 :)
  · exact ⟨s.flt.maskTick, h1⟩

/-- A masked fault counts once. -/
theorem maskedFault_cnt (s : State) (cls region : Nat) :
    (s.maskedFault cls region).cnt .cfgPmFaultMasked 0 = (s.cnt .cfgPmFaultMasked 0 + 1) % 2 ^ 48 := by
  unfold State.maskedFault
  extract_lets s1 _ _
  have h1 : s1.cnt .cfgPmFaultMasked 0 = (s.cnt .cfgPmFaultMasked 0 + 1) % 2 ^ 48 := Table.get_set_same ..
  split
  · exact ((onlyReports_info _ 0x2006 region cls).cnt .cfgPmFaultMasked).trans h1
  · exact h1

/-- Masked faults one after the other count their number. -/
theorem maskedFaults_cnt (cls : Nat) (rs : List Nat) (s : State) :
    (rs.foldl (fun s r => s.maskedFault cls r) s).cnt .cfgPmFaultMasked 0 % 2 ^ 48 =
      (s.cnt .cfgPmFaultMasked 0 + rs.length) % 2 ^ 48 := by
  induction rs generalizing s with
  | nil => rfl
  | cons r rs ih =>
    rw [List.foldl_cons, ih, maskedFault_cnt, List.length_cons]
    omega

/-! ### A fault strikes (R500, R504) -/

/-- A site that names no place of its own. -/
theorem sitePlace_plain {f : FaultSite} (h : f.cls = 1 ∨ f.cls = 6 ∨ f.cls = 7) : sitePlace f = (f.region, f.location) := by
  obtain ⟨cls, region, location, detail, lasting, bursts⟩ := f
  obtain rfl | rfl | rfl : cls = 1 ∨ cls = 6 ∨ cls = 7 := h
  all_goals rfl

theorem sitePlace_dune {f : FaultSite} (h : f.cls = 3 ∨ f.cls = 4) : sitePlace f = (regionOfDune (f.location % 64), f.location % 64) := by
  obtain ⟨cls, region, location, detail, lasting, bursts⟩ := f
  obtain rfl | rfl : cls = 3 ∨ cls = 4 := h
  all_goals rfl

/-- A masked fault of a dune counts as a performance event too (R542). -/
def State.strikeMasked (s : State) (region location : Nat) : State :=
  (if regionOfDune 0 ≤ region ∧ region < regionOfDune 64 then s.perf 0x018 (location % 64) 1 else s).maskedFault 1 region

theorem strikeMasked_cnt (s : State) (region location : Nat) :
    (s.strikeMasked region location).cnt .cfgPmFaultMasked 0 = (s.cnt .cfgPmFaultMasked 0 + 1) % 2 ^ 48 := by
  unfold State.strikeMasked
  rw [maskedFault_cnt]
  split
  · rw [(onlyReports_perf s 0x018 (location % 64) 1).cnt .cfgPmFaultMasked]
  · rfl

theorem strikeMasked_touches (s : State) (region location : Nat) :
    State.touches [.counts, .flt, .log] s (s.strikeMasked region location) :=
  (touches_maskedFault ..).after (touches_ite _ (tells_perf ..).touches.le (touches_refl _ _))

theorem strikeMasked_log (s : State) (region location : Nat) : (s.strikeMasked region location).flt.log = s.flt.log := by
  unfold State.strikeMasked
  obtain ⟨k, hk⟩ := maskedFault_flt
    (if regionOfDune 0 ≤ region ∧ region < regionOfDune 64 then s.perf 0x018 (location % 64) 1 else s) 1 region
  rw [hk]
  dsimp only
  split
  · rw [(tells_perf ..).quiet.flt]
  · rfl

section
variable {f : FaultSite} (s : State) (hl : f.lasting = false)
include hl

theorem strike_masked (hcls : f.cls = 1) (hd : f.detail < 2 ^ 20) : s.strike f = s.strikeMasked f.region f.location := by
  unfold State.strike
  rw [sitePlace_plain (.inl hcls), hl, hcls]
  exact if_neg (by omega)

theorem strike_shadowSoft (hcls : f.cls = 1) (hd : 2 ^ 20 ≤ f.detail) : s.strike f = { s with com := { s.com with
    shadowSoft := (f.detail / 65536 % 4, f.location % 64, f.detail % 65536) :: s.com.shadowSoft } } := by
  unfold State.strike
  rw [sitePlace_plain (.inl hcls), hl, hcls]
  exact if_pos hd

theorem strike_map (hcls : f.cls = 3) : s.strike f = { s with flt := { s.flt with
    mapNew := (f.detail / 65536 % 4, f.location % 64, f.detail % 65536) :: s.flt.mapNew } } := by
  unfold State.strike
  rw [sitePlace_dune (.inl hcls), hl, hcls]
  rfl

theorem strike_shadow (hcls : f.cls = 4) : s.strike f = { s with com := { s.com with
    shadowBad := (f.detail / 65536 % 4, f.location % 64, f.detail % 65536) :: s.com.shadowBad } } := by
  unfold State.strike
  rw [sitePlace_dune (.inr hcls), hl, hcls]
  rfl

theorem strike_field (hcls : f.cls = 6 ∨ f.cls = 7) : s.strike f =
    if s.dev.tmr then { s with flt := { s.flt with tmrBad := f.region :: s.flt.tmrBad } }
    else { s with flt := { s.flt with parityNew := (f.region, f.location) :: s.flt.parityNew } } := by
  unfold State.strike
  rw [sitePlace_plain (.inr hcls), hl]
  obtain hcls | hcls := hcls
  all_goals rw [hcls] <;> rfl

end

/-! ### A pair of the Jaray complex fails (R442, R491, R492) -/

theorem jccFault_eq (s : State) (kind j : Nat) (bursts : List Burst) : s.jccFault kind j bursts =
    ((((s.report (if kind = 3 then 8 else 9) 2 j 0 0x10).sleepReset.trialFails).jccRestart kind (if kind = 3 then 2 else j)
      bursts).modeAfterRestart).countRestart (kind == 4) := by
  unfold State.jccFault
  rw [detect_outside (by omega)]

theorem jccRestart_resets (s : State) (kind cause : Nat) (bursts : List Burst) :
    (s.jccRestart kind cause bursts).dev.jccResets = s.dev.jccResets ∧ (s.jccRestart kind cause bursts).dev.wdtResets = s.dev.wdtResets := by
  rw [(tells_jccRestart s kind cause bursts).quiet.dev]
  constructor
  · exact (congrArg Device.jccResets (beforeRestart_dev s kind cause bursts) :)
  · exact (congrArg Device.wdtResets (beforeRestart_dev s kind cause bursts) :)

theorem State.touches.resets {l : List Part} {s t : State} (h : State.touches l s t) (hl : l.contains Part.dev = false := by rfl) :
    t.dev.jccResets = s.dev.jccResets ∧ t.dev.wdtResets = s.dev.wdtResets :=
  ⟨(congrArg Device.jccResets (h.devBut hl) :), (congrArg Device.wdtResets (h.devBut hl) :)⟩

/-- What counting a restart leaves of the device (R514). -/
theorem countRestart_dev (s : State) (watchdog : Bool) : (s.countRestart watchdog).dev = { s.dev with
    jccResets := s.clk.tick :: s.recent s.dev.jccResets
    wdtResets := if watchdog then s.clk.tick :: s.recent s.dev.wdtResets else s.recent s.dev.wdtResets
    jcc := if (s.recent s.dev.jccResets).length < 15 then s.dev.jcc else .held } := by
  unfold State.countRestart
  extract_lets js ws _ s1 _ s2
  have h2 : s2.dev = { s.dev with jccResets := js, wdtResets := ws, jcc := if (s.recent s.dev.jccResets).length < 15 then s.dev.jcc else .held } := by
    have hlen : js.length = (s.recent s.dev.jccResets).length + 1 := rfl
    unfold s2
    split
    · rw [(tells_bump ..).quiet.dev, if_neg (by omega)]
    · rw [if_pos (by omega)]
  have hout : ∀ p : Bool, (if p then (if s2.dev.role = .holder then s2.bump .cfgPmFaultEscalated 0 1 else s2).faultRelease else s2).dev = s2.dev := by
    intro p
    split
    · rw [(touches_faultRelease _).dev]
      split
      · exact (tells_bump ..).quiet.dev
      · rfl
    · rfl
  exact (hout _).trans h2

/-- What the failure of a pair brings: the reset recorded with its cause, the boot ROM unless 15 restarts are recent, the generation
as it was. -/
theorem jccFault_restarts (s : State) (kind j : Nat) (bursts : List Burst) :
    (s.jccFault kind j bursts).dev.resetKind = kind ∧ (s.jccFault kind j bursts).dev.resetCause = (if kind = 3 then 2 else j) ∧
      (s.jccFault kind j bursts).dev.jcc = (if (s.recent s.dev.jccResets).length < 15 then .bootRom else .held) ∧
      (s.jccFault kind j bursts).dev.wdtResets =
        (if kind = 4 then s.clk.tick :: s.recent s.dev.wdtResets else s.recent s.dev.wdtResets) ∧
      (s.jccFault kind j bursts).com.gen = s.com.gen := by
  rw [jccFault_eq]
  generalize hcause : (if kind = 3 then 2 else j) = cause
  generalize hc : (if kind = 3 then 8 else 9) = cls
  let a := ((s.report cls 2 j 0 0x10).sleepReset.trialFails)
  have ha : State.touches [.host, .counts, .lanes, .tribs, .obs, .pair, .pow, .flt, .log, .sec] s a :=
    (touches_trialFails _).after ((touches_sleepReset _).after (touches_report ..).le)
  have hb := jccRestart_restarted a kind cause bursts
  have htb := touches_jccRestart a kind cause bursts
  have hresets := jccRestart_resets a kind cause bursts
  change _ ∧ _ ∧ (((a.jccRestart kind cause bursts).modeAfterRestart).countRestart (kind == 4)).dev.jcc = _ ∧ _ ∧
    (((a.jccRestart kind cause bursts).modeAfterRestart).countRestart (kind == 4)).com.gen = _
  generalize a.jccRestart kind cause bursts = b at *
  have hm := touches_modeAfterRestart b
  generalize b.modeAfterRestart = m at *
  have htick : m.clk.tick = s.clk.tick := hm.tick.trans (htb.tick.trans ha.tick)
  have hrecent : ∀ l, m.recent l = s.recent l := fun l => by unfold State.recent State.elapsed; rw [htick]
  have hjres : m.dev.jccResets = s.dev.jccResets := hm.resets.1.trans (hresets.1.trans ha.resets.1)
  have hwres : m.dev.wdtResets = s.dev.wdtResets := hm.resets.2.trans (hresets.2.trans ha.resets.2)
  rw [countRestart_dev, (touches_countRestart m _).gen]
  dsimp only
  rw [hrecent, hrecent, hjres, hwres, htick, hm.resetKind, hm.resetCause, hm.runs, hm.gen, hb.kind, hb.cause, hb.runs, hb.gen, ha.gen]
  refine ⟨rfl, rfl, rfl, ?_, rfl⟩
  simp only [beq_iff_eq]

end Sys2Proof.Machine
end

section
/-!
PROOFS. What the engines, the scans and the self-test find, and the end of a record (O40; R433, R434, R507, R508, R516).
-/
namespace Sys2Proof.Machine
-- One theorem after the other: many at once need more stacks than the memory limit of the check allows.
set_option Elab.async false

/-! ### Engines that disagree (R507) -/

theorem abortCaravan_stays (s : State) (byPeer : Bool) :
    (s.abortCaravan byPeer).dev.role = s.dev.role ∧ (s.abortCaravan byPeer).dev.mode = s.dev.mode := by
  unfold State.abortCaravan
  extract_lets s1 _ s2 _ _ s3 s4
  have h1 : s1.dev.role = s.dev.role ∧ s1.dev.mode = s.dev.mode := by
    have hdrop := (touches_dropEntry s).dev
    exact ⟨(congrArg Device.role hdrop :), (congrArg Device.mode hdrop :)⟩
  have h2 : s2.dev.role = s.dev.role ∧ s2.dev.mode = s.dev.mode := by
    unfold s2
    split
    · exact ⟨rfl, rfl⟩
    · exact h1
  have h3 : s3.dev = s2.dev := by
    unfold s3; split <;> rfl
  have h4 : s4.dev = s2.dev := ((tells_bump ..).trans (tells_journalAuto ..)).quiet.dev.trans h3
  have htell : (s4.tell .caravanAbort).dev = s2.dev := (touches_tell ..).dev.trans h4
  split
  · exact ⟨rfl, rfl⟩
  · split
    · rw [h4]; exact h2
    · rw [htell]; exact h2

theorem commitMismatch_role (s : State) : s.commitMismatch.dev.role = s.dev.role := by
  unfold State.commitMismatch
  split
  · rfl
  · extract_lets _ s1 _ s2
    have h1 : s1.dev = s.dev := by unfold s1; split <;> rfl
    have h2 : s2.dev = s1.dev := by unfold s2; split <;> rfl
    split
    · exact (abortCaravan_stays _ false).1.trans (congrArg Device.role h1)
    · split
      · rw [(touches_endCommit ..).dev, h2, h1]
      · split
        · rw [(touches_endCommit ..).dev, h1]
        · rw [(touches_endCommit ..).dev, h1]

theorem engineDisputed_role (s : State) (g : Engine) : (s.engineDisputed g).dev.role = s.dev.role := by
  cases g with
  | commit => exact commitMismatch_role s
  | lease => exact (congrArg Device.role (touches_sendFrame _).dev :)
  | pointer k => rfl
  | dpll => exact (touches_holdOver s).role

theorem holdOver_sel (s : State) : s.holdOver.tim.sel = 31 := by
  unfold State.holdOver State.setDpll
  dsimp only
  generalize (if s.tim.histValid && !s.tim.oxf then Dpll.oasis else Dpll.freerun) = d
  split
  · rfl
  · rw [(tells_journalAuto ..).quiet.tim]
    split
    · rw [(tells_bump ..).quiet.tim]
    · rfl

/-- A holder's release for a fault stands, whatever release stood before (R358). -/
theorem faultRelease_release {s : State} (h : s.dev.role = .holder) : ∃ c, s.faultRelease.pair.release = some (1, c) := by
  unfold State.faultRelease State.releaseSoon
  rw [if_neg (by rw [h]; exact fun k => k rfl)]
  split
  · exact ⟨none, rfl⟩
  · next hrel => exact ⟨_, hrel⟩
  · exact ⟨none, rfl⟩
  · exact ⟨none, rfl⟩

theorem releaseSoon_faultAnn (s : State) (kind : Nat) (c : Option CmdRef) : (s.releaseSoon kind c).pair.faultAnn = s.pair.faultAnn := by
  unfold State.releaseSoon
  dsimp only
  split
  · rfl
  · split
    · rfl
    · rfl
    · split
      · exact (congrArg Pair.faultAnn (touches_failRef s _ 0x0011 0).pair :)
      · rfl
    · rfl

theorem firstOpen_none {s : State} (h : ∀ r ∈ s.flt.log, r.isOpen = false) (cls region : Nat) : s.firstOpen cls region = none := by
  refine List.find?_eq_none.mpr fun r hr => ?_
  unfold State.disturbs
  rw [h r (List.mem_reverse.mp hr)]
  exact Bool.false_ne_true

theorem openRec_none {s : State} (h : ∀ r ∈ s.flt.log, r.isOpen = false) (cls region location : Nat) :
    s.openRec cls region location = none := by
  refine List.find?_eq_none.mpr fun r hr => ?_
  rw [h r hr]
  exact Bool.false_ne_true

/-- Where no record is open, a fault opens one that is not compound. -/
theorem openFault_single {s : State} (h : ∀ r ∈ s.flt.log, r.isOpen = false) (cls region location detail action : Nat) (injected : Bool) :
    ∀ r ∈ (s.openFault cls region location detail action false injected).flt.log, r.isOpen = true → r.outcome ≠ 2 := by
  unfold State.openFault
  rw [openRec_none h, firstOpen_none h]
  extract_lets _ first outcome link action' r s1 s2 s3
  have hlog : (s3.alarmEvent 0 false false 0x1F01 r.fseq 0 (r.bytes ++ List.replicate 16 0)).flt.log = (r :: s.flt.log).take 4096 := by
    rw [(tells_alarmEvent ..).quiet.flt]
    exact (congrArg Faults.log (tells_bump s1 .cfgPmFaultDetected 0 1).quiet.flt :)
  intro x hx hopen
  dsimp only at hx
  rw [hlog] at hx
  obtain rfl | hx := List.mem_cons.mp (List.mem_of_mem_take hx)
  · exact fun (hout : 1 = 2) => absurd hout (by decide)
  · rw [h x hx] at hopen; cases hopen

theorem detect_single {s : State} (h : ∀ r ∈ s.flt.log, r.isOpen = false) (cls region location detail action : Nat) :
    s.detect cls region location detail action = s.report cls region location detail action := by
  unfold State.detect
  refine if_neg ?_
  rintro ⟨-, hcomp⟩
  obtain ⟨r, hr, hbad⟩ := List.any_eq_true.mp hcomp
  simp only [Bool.and_eq_true, beq_iff_eq] at hbad
  obtain ⟨⟨hopen, -⟩, hout⟩ := hbad
  exact openFault_single (s := { s with flt := { s.flt with
    injected := s.flt.injected.filter fun x => !(x.1 == cls && x.2.1 == region && x.2.2 == location) } }) h cls region location detail action
    _ r hr hopen hout

/-- The engines of which a mismatch is noted. -/
def State.withEngine (s : State) (g : Engine) : State :=
  { s with flt := { s.flt with engines := g :: s.flt.engines.filter fun x => x != g } }

/-- A mismatch that no other fault makes compound: its engine stops, and a holder releases (R358, R507). -/
theorem mismatch_single {s : State} (h : ∀ r ∈ s.flt.log, r.isOpen = false) (hheld : s.dev.fatalHeld = none) (g : Engine) :
    ∃ u, State.touches [.counts, .flt, .log] s u ∧ s.mismatch g = ((u.engineDisputed g).withEngine g).faultRelease := by
  unfold State.mismatch
  dsimp only
  rw [detect_single h]
  refine ⟨_, touches_report s 0x0D 1 (engineSite g).1 (engineSite g).2 (if s.dev.role = .holder then 8 else 0), ?_⟩
  refine if_neg ?_
  rw [(touches_report ..).dev, hheld]
  exact Bool.false_ne_true

theorem engineMismatch_detected {s : State} (h : ∀ r ∈ s.flt.log, r.isOpen = false) (hheld : s.dev.fatalHeld = none) (g : Engine) :
    g ∈ (s.mismatch g).flt.engines ∧ (s.mismatch g).dev.role = s.dev.role ∧
      (s.dev.role = .holder → ∃ c, (s.mismatch g).pair.release = some (1, c)) ∧ (g = .lease → (s.mismatch g).pair.faultAnn = true) ∧
      (g = .dpll → (s.mismatch g).tim.sel = 31) := by
  obtain ⟨u, hu, hmis⟩ := mismatch_single h hheld g
  rw [hmis]
  have hdev : ((u.engineDisputed g).withEngine g).dev = (u.engineDisputed g).dev := rfl
  have hrole : ((u.engineDisputed g).withEngine g).dev.role = s.dev.role := by
    rw [hdev, engineDisputed_role, hu.dev]
  have hrel := touches_faultRelease ((u.engineDisputed g).withEngine g)
  refine ⟨?_, ?_, fun hholder => faultRelease_release (hrole.trans hholder), fun hg => ?_, fun hg => ?_⟩
  · rw [hrel.flt]; exact List.mem_cons_self
  · rw [hrel.role, hrole]
  · subst hg
    exact (releaseSoon_faultAnn ..).trans rfl
  · subst hg
    rw [hrel.tim]
    exact holdOver_sel u

/-! ### The scans (R433, R434) -/

theorem tmrScrub_clean {s : State} (h : s.flt.lasting = []) :
    ∃ t, exec .tmrScrub s = .next t ∧ t.flt.tmrBad = [] ∧
      t.cnt .cfgPmFaultMasked 0 % 2 ^ 48 = (s.cnt .cfgPmFaultMasked 0 + s.flt.tmrBad.length) % 2 ^ 48 := by
  refine ⟨_, rfl, ?_, ?_⟩
  · dsimp only
    refine List.filter_eq_nil_iff.mpr fun r _ => ?_
    rw [h]
    exact Bool.false_ne_true
  · exact maskedFaults_cnt 6 s.flt.tmrBad s

theorem parityFound_kept {s : State} {x : Nat × Nat} (hx : 2 ≤ x.1) (hheld : s.dev.fatalHeld = none) :
    (s.parityFound x).dev = s.dev ∧ (s.parityFound x).flt.parityNew = s.flt.parityNew ∧
      (s.parityFound x).flt.parityBad = x :: s.flt.parityBad.filter fun y => y != x := by
  unfold State.parityFound
  extract_lets tim lane s1 _ s2
  have h1 : State.touches [.counts, .flt, .log] s s1 := by
    unfold s1; rw [detect_outside (by omega)]; exact touches_report ..
  have hflt : s.flt.noted s1.flt := noted_detect (by omega) ..
  have h2 : s2.dev = s.dev ∧ s2.flt.parityNew = s.flt.parityNew ∧ s2.flt.parityBad = x :: s.flt.parityBad.filter fun y => y != x :=
    ⟨h1.dev, hflt.parityNew, congrArg (fun l => x :: l.filter fun y => y != x) hflt.parityBad⟩
  rw [if_neg (by rw [h1.dev, hheld]; exact Bool.false_ne_true)]
  split
  · rw [(touches_faultRelease s2).dev, (touches_faultRelease s2).flt]; exact h2
  · exact h2

theorem parityFound_foldl (xs : List (Nat × Nat)) {s : State} (hxs : ∀ x ∈ xs, 2 ≤ x.1) (hheld : s.dev.fatalHeld = none) :
    (xs.foldl State.parityFound s).flt.parityNew = s.flt.parityNew ∧
      ∀ y, y ∈ xs ∨ y ∈ s.flt.parityBad → y ∈ (xs.foldl State.parityFound s).flt.parityBad := by
  induction xs generalizing s with
  | nil => exact ⟨rfl, fun y hy => hy.resolve_left (by simp)⟩
  | cons x xs ih =>
    obtain ⟨hdev, hnew, hbad⟩ := parityFound_kept (s := s) (hxs x List.mem_cons_self) hheld
    obtain ⟨hnews, hbads⟩ := ih (s := s.parityFound x) (fun z hz => hxs z (List.mem_cons_of_mem x hz)) (by rw [hdev]; exact hheld)
    refine ⟨hnews.trans hnew, fun y hy => hbads y ?_⟩
    rw [hbad]
    by_cases hyx : y = x
    · exact .inr (hyx ▸ List.mem_cons_self)
    · obtain hy | hy := hy
      · exact .inl ((List.mem_cons.mp hy).resolve_left hyx)
      · exact .inr (List.mem_cons_of_mem _ (List.mem_filter.mpr ⟨hy, by simpa using hyx⟩))

theorem parityScan_finds {s : State} (h : ∀ x ∈ s.flt.parityNew, 2 ≤ x.1) (hheld : s.dev.fatalHeld = none) :
    ∃ t, exec .parityScan s = .next t ∧ t.flt.parityNew = [] ∧ ∀ x ∈ s.flt.parityNew, x ∈ t.flt.parityBad := by
  have hall : s.flt.parityNew.filter (fun _ => true) = s.flt.parityNew := List.filter_true _
  obtain ⟨hnew, hbad⟩ := parityFound_foldl (s := { s with flt := { s.flt with
    parityNew := s.flt.parityNew.filter fun _ => !true } }) (s.flt.parityNew.filter fun _ => true)
    (fun x hx => h x (List.mem_of_mem_filter hx)) hheld
  refine ⟨_, rfl, hnew.trans (List.filter_false _), fun x hx => hbad x (.inl ?_)⟩
  rw [hall]; exact hx

/-! ### The self-test of the checkers (R508) -/

/-- A region is uncovered after its checkers' test exactly if they fail; no other region changes. -/
theorem checked_uncovered {s : State} (failing : List Nat) {region : Nat} (hregion : 1 < region) (hlast : s.flt.lasting = []) :
    (s.checked failing region).flt.lasting = [] ∧
      ∀ r, r ∈ (s.checked failing region).flt.uncovered ↔ if r = region then r ∈ failing else r ∈ s.flt.uncovered := by
  have hnot : s.lastsAt 0xF region 0 = false := by unfold State.lastsAt; rw [hlast]; rfl
  unfold State.checked
  rw [hnot, Bool.or_false]
  split
  · next hfail =>
    have hfail : region ∈ failing := by simpa using hfail
    have hnoted := noted_detect hregion (s.setUncovered region true) 0xF 0 0 0
    rw [hnoted.lasting, hnoted.uncovered]
    refine ⟨hlast, fun r => ?_⟩
    have hset : (s.setUncovered region true).flt.uncovered = region :: s.flt.uncovered.filter fun r => r != region := rfl
    rw [hset, List.mem_cons, List.mem_filter]
    by_cases hr : r = region
    · simp [hr, hfail]
    · simp [hr]
  · next hpass =>
    have hpass : region ∉ failing := by simpa using hpass
    refine ⟨hlast, fun r => ?_⟩
    have hset : (s.setUncovered region false).flt.uncovered = s.flt.uncovered.filter fun r => r != region := rfl
    rw [hset, List.mem_filter]
    by_cases hr : r = region
    · simp [hr, hpass]
    · simp [hr]

theorem checked_foldl (failing ks : List Nat) {s : State} (hlast : s.flt.lasting = []) (r : Nat) :
    r ∈ (ks.foldl (fun s k => s.checked failing (0x10 + k)) s).flt.uncovered ↔
      if r ∈ ks.map (0x10 + ·) then r ∈ failing else r ∈ s.flt.uncovered := by
  induction ks generalizing s with
  | nil => simp
  | cons k ks ih =>
    obtain ⟨hlast', hunc⟩ := checked_uncovered (s := s) failing (region := 0x10 + k) (by omega) hlast
    rw [List.foldl_cons, ih hlast', hunc, List.map_cons]
    by_cases hr : r ∈ ks.map (0x10 + ·)
    · simp only [hr, List.mem_cons, or_true, if_true]
    · simp only [hr, List.mem_cons, or_false, if_false]

theorem checkerSelfTest_covers {failing : List Nat} {s : State} (hlast : s.flt.lasting = []) :
    ∃ t, exec (.checkerSelfTest failing) s = .next t ∧ ∀ k, k < 8 → (0x10 + k ∈ t.flt.uncovered ↔ 0x10 + k ∈ failing) := by
  refine ⟨_, rfl, fun k hk => ?_⟩
  rw [checked_foldl failing (List.range 8) hlast, if_pos]
  exact List.mem_map.mpr ⟨k, List.mem_range.mpr hk, rfl⟩

/-! ### Records close (R503, R516) -/

theorem misrouteDefectClear_msr (d : Fin 64) (s : State) : ∃ t, exec (.misrouteDefectClear d false) s = .next t ∧
    (64 ≤ (s.dune d).msrClean → (t.dune d).msr = false) ∧ (t.dune d).msa = (s.dune d).msa ∧ ∀ k, k ≠ d.val → t.dune k = s.dune k := by
  refine ⟨_, rfl, ?_⟩
  by_cases hclear : ((s.dune d).msr && decide (64 ≤ (s.dune d).msrClean)) = true
  · rw [if_pos hclear]
    let f : Dune → Dune := fun x => { x with msr := false, msrClean := 0, msrRun := 0 }
    have hsame : (s.modDune d f).dune d = f (s.dune d) := Table.get_set_same ..
    refine ⟨fun _ => ?_, ?_, fun k hk => Table.get_set_other _ _ _ hk⟩
    · exact (congrArg Dune.msr hsame :)
    · exact (congrArg Dune.msa hsame :)
  · rw [if_neg hclear]
    refine ⟨fun h64 => ?_, rfl, fun _ _ => rfl⟩
    rw [decide_eq_true h64, Bool.and_true] at hclear
    simpa using hclear

theorem faultRecordClose_closes {fseq : Nat} {r : FaultRec} {s : State} (hopen : s.recOpen fseq = some r)
    (hlate : s.elapsed r.tick (recoveryTicks r.cls) = true) (hwhole : s.recovered r = true) :
    ∃ t, exec (.faultRecordClose fseq) s = .next t ∧ (∀ x ∈ t.flt.log, x.fseq = fseq → x.isOpen = false) ∧
      t.flt.log.length = s.flt.log.length ∧ t.sw = s.sw := by
  have hexec : ∃ t, exec (.faultRecordClose fseq) s = .next t ∧ t.sw = s.sw ∧
      t.flt.log = s.flt.log.map fun x => if x.fseq = fseq then { x with isOpen := false } else x := by
    change ∃ t, execFaultRecordClose fseq s = .next t ∧ _
    unfold execFaultRecordClose
    rw [hopen]
    dsimp only
    rw [hlate, hwhole]
    exact ⟨_, rfl, rfl, rfl⟩
  obtain ⟨t, ht, hsw, hlog⟩ := hexec
  refine ⟨t, ht, fun x hx hseq => ?_, by rw [hlog, List.length_map], hsw⟩
  rw [hlog] at hx
  obtain ⟨y, -, rfl⟩ := List.mem_map.mp hx
  split at hseq
  · next hy => rw [if_pos hy]
  · next hy => exact absurd hseq hy

/-! ### The statement -/

theorem singleInternalFault_strikes {f : FaultSite} (s : State) (hl : f.lasting = false) :
    (f.cls = 1 → f.detail < 2 ^ 20 → (s.strike f).cnt .cfgPmFaultMasked 0 = (s.cnt .cfgPmFaultMasked 0 + 1) % 2 ^ 48 ∧
      (s.strike f).flt.log = s.flt.log) ∧
    (f.cls = 1 → 2 ^ 20 ≤ f.detail → (s.strike f).sw = s.sw ∧ (s.strike f).com.shadowSoft =
      (f.detail / 65536 % 4, f.location % 64, f.detail % 65536) :: s.com.shadowSoft) ∧
    (f.cls = 3 → (s.strike f).flt.mapNew = (f.detail / 65536 % 4, f.location % 64, f.detail % 65536) :: s.flt.mapNew ∧
      (s.strike f).sw = s.sw) ∧
    (f.cls = 4 → (s.strike f).com.shadowBad = (f.detail / 65536 % 4, f.location % 64, f.detail % 65536) :: s.com.shadowBad ∧
      (s.strike f).sw = s.sw) ∧
    (f.cls = 7 → s.dev.tmr = true → (s.strike f).flt.tmrBad = f.region :: s.flt.tmrBad) ∧
    (f.cls = 7 → s.dev.tmr = false → (s.strike f).flt.parityNew = (f.region, f.location) :: s.flt.parityNew) := by
  refine ⟨fun h hd => ?_, fun h hd => ?_, fun h => ?_, fun h => ?_, fun h ht => ?_, fun h ht => ?_⟩
  · rw [strike_masked s hl h hd]; exact ⟨strikeMasked_cnt .., strikeMasked_log ..⟩
  · rw [strike_shadowSoft s hl h hd]; exact ⟨rfl, rfl⟩
  · rw [strike_map s hl h]; exact ⟨rfl, rfl⟩
  · rw [strike_shadow s hl h]; exact ⟨rfl, rfl⟩
  · rw [strike_field s hl (.inr h), ht, if_pos rfl]
  · rw [strike_field s hl (.inr h), ht, if_neg Bool.false_ne_true]

/-- Settles O40, by what each fault does as it strikes and as it is found. -/
theorem faultsDetected : Obligations.FaultsDetected := by
  unfold Obligations.FaultsDetected
  refine ⟨?strikes, ?lockstep, ?watchdog, ?engines, ?scrub, ?scan, ?selftest, ?misroute, ?close⟩
  case strikes => exact fun f s hl => ⟨_, rfl, singleInternalFault_strikes s hl⟩
  case lockstep =>
    intro bursts s hrun
    have hup : (s.jccUp && ((0 : Fin 2).val == 0 || s.jcc.j1)) = true := by unfold State.jccUp; rw [hrun]; rfl
    obtain ⟨hkind, hcause, hjcc, -, hgen⟩ := jccFault_restarts s 3 0 bursts
    exact ⟨_, if_pos hup, hkind, hcause, hjcc, hgen⟩
  case watchdog =>
    intro j bursts s hrun hj
    have hon : s.watchdogOn j.val = true := by
      unfold State.watchdogOn
      rw [hrun]
      obtain hj | hj := hj
      · rw [hj]; rfl
      · rw [hj, Bool.or_true]; rfl
    obtain ⟨hkind, hcause, hjcc, hwdt, -⟩ := jccFault_restarts s 4 j.val bursts
    exact ⟨_, congrArg Host.Outcome.next (if_pos hon), hkind, hcause, hjcc, hwdt⟩
  case engines => exact fun g s hclosed hheld => ⟨_, rfl, engineMismatch_detected hclosed hheld g⟩
  case scrub => exact fun s hlast => tmrScrub_clean hlast
  case scan => exact fun s hnew hheld => parityScan_finds hnew hheld
  case selftest => exact fun failing s hlast => checkerSelfTest_covers hlast
  case misroute => exact misrouteDefectClear_msr
  case close => exact fun fseq r s hopen hlate hwhole => faultRecordClose_closes hopen hlate hwhole

end Sys2Proof.Machine
end

section
/-!
PROOFS. DIAG commands (O39; R401, R517 to R519).
-/
namespace Sys2Proof.Machine
-- One theorem after the other: many at once need more stacks than the memory limit of the check allows.
set_option Elab.async false

theorem onlyReports_accepted (s : State) (c : CmdRef) (seq : Nat) : s.onlyReports (s.accepted c seq) := by
  unfold State.accepted
  extract_lets _ u
  have hu : s.onlyReports u := by
    unfold u
    exact onlyReports_ite _ (onlyReports_of_counts rfl) (onlyReports_refl s)
  exact onlyReports_ite _ (hu.trans (onlyReports_softEvent ..)) hu

/-- A command that is done is recorded and completed: beside the host interface, the telemetry and the counts nothing more
differs. -/
theorem finish_done_reports {s t : State} (c : CmdRef) (seq : Nat) {res : Nat} {recs : List (Nat × Nat × Nat)}
    (h : s.journalRoom recs.length = true) :
    t.quiet (s.finish c seq (.done t res recs)) ∧ t.onlyReports (s.finish c seq (.done t res recs)) := by
  have hfinish : s.finish c seq (.done t res recs) = ((t.journalAll c recs).accepted c seq).complete c 0 res 0 false := if_pos h
  rw [hfinish]
  refine ⟨((quiet_journalAll c recs t).trans (quiet_accepted ..)).trans (quiet_complete ..), ?_⟩
  exact ((onlyReports_journalAll c recs t).trans (onlyReports_accepted ..)).trans (onlyReports_of_counts (touches_complete ..).counts)

theorem length_faultRecBytes (r : FaultRec) : r.bytes.length = 32 := by
  simp only [FaultRec.bytes, List.length_append, length_leBytes]

/-! ### DIAG.SELFTEST (R519) -/

theorem testFails_touches (s : State) (test item : Nat) : State.touches [.counts, .flt, .log] s (s.testFails test item) := by
  unfold State.testFails
  split
  · exact touches_detectDune ..
  all_goals
    rw [detect_outside (by omega)]
    exact touches_report ..

/-! ### DIAG.MEM_READ (R401) -/

theorem memReadBody_sram {b : Buf} {off : Nat} (c : CmdRef) {s : State} (hlen : b.len ≠ 0) (hoff : off + b.len ≤ 0x800000)
    (hwrite : s.bufWrite b b.len = true) (hbad : s.jcc.sramBad = []) :
    memReadBody b (0x20000000 + off) c s = .done (s.hostWrite b.addr (Table.getRun 0 s.jcc.sram off b.len)) := by
  have htarget : ∀ x, x < 0x800000 → (matrixTarget s.jcc.remap (0x20000000 + x)).1 ≠ .none := fun x hx => by
    have h := matrixTarget_sram s.jcc.remap (k := 0) (by omega) hx
    rw [Nat.mul_zero, Nat.add_zero] at h
    rw [h]; exact nofun
  have hlast : 0x20000000 + off + b.len - 1 = 0x20000000 + (off + b.len - 1) := by omega
  unfold memReadBody
  dsimp only
  rw [hlast, guarded_pass, readBytes_sram s b.len (by omega) hoff hbad]
  have h0 := htarget off (by omega)
  have h1 := htarget (off + b.len - 1) (by omega)
  simp [hlen, hwrite, h0, h1]

/-! ### DIAG.FAULT_INJECT (R518) -/

/-- The place where a fault of the class is injected. -/
def State.marked (s : State) (cls region loc : Nat) : State :=
  { s with flt := { s.flt with injected := (cls, region, loc) :: s.flt.injected } }

/-- What an injection does: a fault that is masked or voted out leaves no mark. -/
def injectAt (cls : Nat) (f : FaultSite) (s : State) : State :=
  if cls = 1 ∨ cls = 6 then s.strike f else (s.marked cls (sitePlace f).1 (sitePlace f).2).strike f

theorem faultInjectBody_eq {cls : Nat} {bursts : List Burst} {s : State} {f : FaultSite} (c : CmdRef) (hlow : cls ≠ 0) (hhigh : cls < 14)
    (hopen : ∀ r ∈ s.flt.log, r.isOpen = false) (hsite : s.firstSite cls = some f) :
    faultInjectBody cls bursts c s = if cls = 8 ∨ cls = 9 then .restart (injectAt cls { f with bursts := bursts }) [(cls, 1, 0)]
      else .done (injectAt cls { f with bursts := bursts } s) 0 [(cls, 1, 0)] := by
  unfold faultInjectBody
  rw [guarded_pass _ (by simp [hlow]; omega), hsite]
  dsimp only
  refine guarded_pass _ fun x hx => ?_
  obtain rfl := List.mem_singleton.mp hx
  refine List.any_eq_false.mpr fun r hr => ?_
  rw [hopen r hr]
  exact Bool.false_ne_true

/-- An injection that only strikes is done at once. -/
theorem finish_inject {cls : Nat} {bursts : List Burst} {s : State} {f : FaultSite} (c : CmdRef) (seq : Nat) (hlow : cls ≠ 0) (hhigh : cls < 14)
    (hjcc : ¬(cls = 8 ∨ cls = 9)) (hroom : s.journalRoom 1 = true) (hopen : ∀ r ∈ s.flt.log, r.isOpen = false)
    (hsite : s.firstSite cls = some f) :
    (injectAt cls { f with bursts := bursts } s).quiet (s.finish c seq (faultInjectBody cls bursts c s)) ∧
      (injectAt cls { f with bursts := bursts } s).onlyReports (s.finish c seq (faultInjectBody cls bursts c s)) := by
  rw [faultInjectBody_eq c hlow hhigh hopen hsite, if_neg hjcc]
  exact finish_done_reports c seq hroom

/-- A pair is served while the boot ROM or the firmware runs (R382, R383). -/
theorem jccUp_of_admits {s : State} {d : CmdDesc} {e : Entry} (h : s.admits d e = true) : s.jccUp = true := by
  have hserves : s.serves e.ring = true := by
    have hstarts : s.starts d e = true := by
      unfold State.admits at h
      simp only [Bool.and_eq_true] at h
      obtain ⟨⟨⟨hstarts, -⟩, -⟩, -⟩ := h
      exact hstarts
    unfold State.starts State.standing at hstarts
    simp only [Bool.and_eq_true] at hstarts
    obtain ⟨⟨⟨⟨hserves, -⟩, -⟩, -⟩, -⟩ := hstarts
    exact hserves
  unfold State.serves at hserves
  unfold State.jccUp
  cases hjcc : s.dev.jcc <;> simp_all

theorem jccUp_of_runs {s t : State} (h : t.dev.jcc = s.dev.jcc) : t.jccUp = s.jccUp := by unfold State.jccUp; rw [h]

/-- The injection of a divergence resets the complex (R442). -/
theorem injectAt_lockstep {s : State} {f : FaultSite} (hup : s.jccUp = true) (hcls : f.cls = 8) (hloc : f.location = 0)
    (hl : f.lasting = false) : injectAt 8 f s = (s.marked 8 2 0).jccFault 3 0 f.bursts := by
  have hplace : sitePlace f = (2, 0) := by
    obtain ⟨cls, region, location, detail, lasting, bursts⟩ := f
    obtain rfl : cls = 8 := hcls
    obtain rfl : location = 0 := hloc
    rfl
  have hup' : (s.marked 8 2 0).jccUp = true := hup
  have hstrike : ∀ u : State, u.jccUp = true → u.strike f = u.jccFault 3 0 f.bursts := fun u hu => by
    unfold State.strike
    rw [hplace, hl, hcls]
    exact if_pos (Bool.and_eq_true_iff.mpr ⟨hu, rfl⟩)
  unfold injectAt
  rw [if_neg (by decide), hplace]
  exact hstrike _ hup'

theorem injectAt_masked (s : State) (bursts : List Burst) :
    injectAt 1 ⟨1, 0x10, 0, 0, false, bursts⟩ s = s.strikeMasked 0x10 0 :=
  strike_masked (f := ⟨1, 0x10, 0, 0, false, bursts⟩) s rfl rfl (Nat.two_pow_pos 20)

/-- The injection of a damaged map entry: the first connection's (R518). -/
theorem injectAt_map (s : State) {key : Nat} (hkey : key < 512 * 4096) (bursts : List Burst) :
    injectAt 3 ⟨3, 0, key / 32768, 2 * 65536 + key % 32768, false, bursts⟩ s = { s with flt := { s.flt with
      injected := (3, 0x10 + key / 32768 / 8, key / 32768) :: s.flt.injected
      mapNew := (2, key / 32768, key % 32768) :: s.flt.mapNew } } := by
  have hdune : key / 32768 % 64 = key / 32768 := by omega
  have hmap : (2 * 65536 + key % 32768) / 65536 % 4 = 2 := by omega
  have hindex : (2 * 65536 + key % 32768) % 65536 = key % 32768 := by omega
  unfold injectAt
  rw [if_neg (by decide), strike_map _ rfl rfl, sitePlace_dune (.inl rfl)]
  dsimp only
  rw [hdune, hmap, hindex]
  rfl

theorem injectAt_field {s : State} (htmr : s.dev.tmr = true) (bursts : List Burst) :
    injectAt 6 ⟨6, 0x20, 0, 0, false, bursts⟩ s = { s with flt := { s.flt with tmrBad := 0x20 :: s.flt.tmrBad } } := by
  refine (strike_field (f := ⟨6, 0x20, 0, 0, false, bursts⟩) s rfl (.inl rfl)).trans ?_
  rw [htmr, if_pos rfl]

/-- Settles O39: the reads leave all but the buffer, a self-test opens records alone, an injection strikes as the fault does. -/
theorem diagnosticCommands : Obligations.DiagnosticCommands := by
  unfold Obligations.DiagnosticCommands
  refine ⟨?read, ?selftest, ?memory, ?masked, ?map, ?field, ?lockstep⟩
  case read =>
    intro e b first rs
    refine completes_told (body := faultReadBody b first) (fun _ => rfl) fun s c _ hp => ?_
    obtain ⟨hlen, hrs, hwrite⟩ := hp
    have hbody : faultReadBody b first c s = .done (s.hostWrite b.addr (rs.flatMap FaultRec.bytes)) rs.length := by
      unfold faultReadBody
      rw [← hrs]
      exact guarded_pass _ (by simp [hlen, hwrite])
    refine ⟨_, [], hbody, rfl, ownPlaceKept_hostWrite .., fun u hu _ _ => ⟨(quiet_hostWrite ..).trans hu.quiet, fun h16 k r hr => ?_⟩⟩
    rw [hu.mem h16]
    exact hostWrite_entry s b.addr (fun x _ => length_faultRecBytes x) hr
  case selftest =>
    intro e test failing
    refine completes_told (body := selftestBody test failing) (fun _ => rfl) fun s c _ hp => ?_
    have htouch : State.touches [.counts, .flt, .log] s (failing.eraseDups.foldl (fun s i => s.testFails test i) s) :=
      touches_foldl (touches_refl _ _) _ fun u i => testFails_touches u test i
    refine ⟨_, [], guarded_pass _ (by simp; omega), rfl, ownPlaceKept_of_host e htouch.host, fun u hu _ _ => ?_⟩
    refine ⟨hu.quiet.com.trans htouch.com, hu.quiet.sw.trans htouch.sw, hu.quiet.lanes.trans htouch.lanes, hu.quiet.dev.trans htouch.dev,
      fun h => ?_⟩
    rw [hu.quiet.flt, h]
    rfl
  case memory =>
    intro e b off
    refine completes_told (body := memReadBody b (0x20000000 + off)) (fun _ => rfl) fun s c _ hp => ?_
    obtain ⟨hlen, hoff, hwrite, hbad⟩ := hp
    refine ⟨_, [], memReadBody_sram c hlen hoff hwrite hbad, rfl, ownPlaceKept_hostWrite ..,
      fun u hu _ _ => ⟨(quiet_hostWrite ..).trans hu.quiet, fun h16 => ?_⟩⟩
    have hreads := hostWrite_reads s b.addr (Table.getRun 0 s.jcc.sram off b.len)
    rw [length_getRun] at hreads
    rw [hu.mem h16, hreads]
  case masked =>
    intro e bursts
    refine accepts_of_finish (body := faultInjectBody 1 bursts) (fun _ => rfl) fun s c hroom hopen => ?_
    obtain ⟨hquiet, hcnt⟩ := finish_inject (bursts := bursts) c e.submitSeq (by decide) (by decide) (by decide) hroom hopen
      (rfl : s.firstSite 1 = some ⟨1, 0x10, 0, 0, false, []⟩)
    dsimp only at hquiet hcnt
    rw [injectAt_masked] at hquiet hcnt
    have htouch := strikeMasked_touches s 0x10 0
    refine ⟨?_, ?_, hquiet.sw.trans htouch.sw, hquiet.dev.trans htouch.dev⟩
    · rw [hcnt.cnt .cfgPmFaultMasked]; exact strikeMasked_cnt ..
    · rw [hquiet.flt]; exact strikeMasked_log ..
  case map =>
    intro e bursts key x rest
    refine accepts_of_finish (body := faultInjectBody 3 bursts) (fun _ => rfl) fun s c hroom ⟨hopen, hconns, hkey⟩ => ?_
    have hsite : s.firstSite 3 = some ⟨3, 0, key / 32768, 2 * 65536 + key % 32768, false, []⟩ := by
      unfold State.firstSite
      dsimp only
      rw [hconns]
      rfl
    obtain ⟨hquiet, -⟩ := finish_inject (bursts := bursts) c e.submitSeq (by decide) (by decide) (by decide) hroom hopen hsite
    dsimp only at hquiet
    rw [injectAt_map s hkey] at hquiet
    refine ⟨?_, hquiet.sw, ?_⟩
    · rw [hquiet.flt]
    · rw [hquiet.flt]; exact List.mem_cons_self
  case field =>
    intro e bursts
    refine accepts_of_finish (body := faultInjectBody 6 bursts) (fun _ => rfl) fun s c hroom ⟨hopen, htmr⟩ => ?_
    have hsite : s.firstSite 6 = some ⟨6, 0x20, 0, 0, false, []⟩ := if_pos htmr
    obtain ⟨hquiet, -⟩ := finish_inject (bursts := bursts) c e.submitSeq (by decide) (by decide) (by decide) hroom hopen hsite
    dsimp only at hquiet
    rw [injectAt_field htmr] at hquiet
    exact ⟨by rw [hquiet.flt], hquiet.sw⟩
  case lockstep =>
    intro e bursts s hadmits hroom hopen
    let d : CmdDesc := ⟨0x1504, 4, false, false, []⟩
    have hserved : (s.served d e).jccUp = true :=
      (jccUp_of_runs (congrArg Device.jcc (quiet_served s d e).dev_eq)).trans (jccUp_of_admits hadmits)
    obtain ⟨u, hquiet, hfinish⟩ := finish_restart (s := s.served d e) (s.servedRef d e) e.submitSeq
      (injectAt 8 ⟨8, 0, 0, 0, false, bursts⟩) (recs := [(8, 1, 0)]) hroom
    have hup : u.jccUp = true := (jccUp_of_runs (congrArg Device.jcc hquiet.dev)).trans hserved
    have hbody := faultInjectBody_eq (cls := 8) (bursts := bursts) (s.servedRef d e) (by decide) (by decide) hopen
      (rfl : (s.served d e).firstSite 8 = some ⟨8, 0, 0, 0, false, []⟩)
    refine ⟨_, (serve_admits _ e s (faultInjectBody 8 bursts) hadmits).trans (congrArg Host.Outcome.next (congrArg
      ((s.served d e).finish (s.servedRef d e) e.submitSeq) hbody)), ?_⟩
    rw [if_pos (.inl rfl)]
    dsimp only
    rw [hfinish, injectAt_lockstep hup rfl rfl rfl]
    obtain ⟨hkind, hcause, -, -, hgen⟩ := jccFault_restarts (u.marked 8 2 0) 3 0 bursts
    exact ⟨hkind, hcause, hgen.trans (congrArg Commit.gen hquiet.com)⟩

end Sys2Proof.Machine
end

section
/-!
PROOFS. The scrub of the shadow bank and a count that no event has reached (what refutes O19).
-/
namespace Sys2Proof.Machine
-- One theorem after the other: many at once need more stacks than the memory limit of the check allows.
set_option Elab.async false

/-- A scrub is due, no entry of the shadow bank is damaged, and map.pm_shadow_ecc stands at 2^48, one above the most that a count of 48
bits holds. -/
def overfullCount : State := {
  clk := { tick := 4096 }
  par := { counts := [(Pn.mapPmShadowEcc.key 0, 2 ^ 48)] } }

/-- Refutes O19: a scrub that finds nothing counts nothing, so a count above 48 bits stays as it is, where the statement has it
reduced. -/
theorem not_mapEntriesRepaired : ¬ Obligations.MapEntriesRepaired := by
  intro h
  obtain ⟨-, -, hscrub, -⟩ := h
  obtain ⟨t, ht, -, hcnt⟩ := hscrub [] overfullCount (by decide +kernel) rfl
  have hafter : valueAfter (fun t => t.cnt .mapPmShadowEcc 0) .shadowScrub overfullCount = some (2 ^ 48) := by decide +kernel
  have hbefore : overfullCount.cnt .mapPmShadowEcc 0 = 2 ^ 48 := by decide +kernel
  rw [valueAfter_next _ ht, hcnt, hbefore] at hafter
  exact absurd hafter (by decide)

end Sys2Proof.Machine
end

section
/-!
PROOFS. The lease and the link of the pair (O33; R341 to R372).
-/
namespace Sys2Proof.Machine
-- One theorem after the other: many at once need more stacks than the memory limit of the check allows.
set_option Elab.async false

/-! ### Frames (R348 to R350) -/

theorem exec_claspFrameSend {s : State} (h : s.pow.removed = false) : exec .claspFrameSend s = .next s.sendFrame :=
  if_neg (by rw [h]; exact Bool.false_ne_true)

theorem sendFrame_head (s : State) :
    (s.sendFrame.pair.frames.head?.map fun f => (f.state, f.lseq)) = some (s.leaseState, s.pair.lseq) := rfl

section
variable {path : LeasePath} {f : LeaseFrame} {s : State} (hpow : s.pow.removed = false) (hlink : path = .sared → s.pair.linkUp = true)
include hpow hlink

theorem claspFrameHeard_read : ¬(s.pow.removed = true ∨ path = .sared ∧ s.pair.linkUp = false) := by
  rintro (h | ⟨h, hdown⟩)
  · rw [hpow] at h; cases h
  · rw [hlink h] at hdown; cases hdown

theorem exec_claspFrameHeard_own (hserial : f.serial = Config.serial.setWidth 32) (hplane : f.plane = s.dev.planeB) :
    exec (.claspFrameHeard path f) s = .next { s with pair := { s.pair with cloop := some s.clk.tick } } :=
  (if_neg (claspFrameHeard_read hpow hlink)).trans (if_pos ⟨hserial, hplane⟩)

theorem exec_claspFrameHeard_peer (hpeer : ¬(f.serial = Config.serial.setWidth 32 ∧ f.plane = s.dev.planeB)) :
    exec (.claspFrameHeard path f) s = .next (s.frameHeard path f) :=
  (if_neg (claspFrameHeard_read hpow hlink)).trans (if_neg hpeer)

end

/-- What the frame heard leaves as the answer to it begins: the unit's role and mode, its straps, and what of the pair decides whether it may
acquire (R350 to R357). -/
structure State.heardFrom (s t : State) (f : LeaseFrame) : Prop where
  role : t.dev.role = s.dev.role
  mode : t.dev.mode = s.dev.mode
  tick : t.clk.tick = s.clk.tick
  peerGen : t.pair.peerGen = f.generation
  faultAnn : t.pair.faultAnn = s.pair.faultAnn
  cstrap : f.primary ≠ s.dev.primary → f.plane ≠ s.dev.planeB → t.pair.cstrap = s.pair.cstrap
  cur : ∀ n o, t.cur n o = s.cur n o

theorem learnGen_pair (s : State) (g : Nat) : (s.learnGen g).pair = { s.pair with peerGen := g } := by
  unfold State.learnGen
  extract_lets _ s1 late _ c
  split
  · rfl
  · split
    · rfl
    · split <;> rfl

theorem abortCaravan_pair (s : State) : (s.abortCaravan true).pair = s.pair := by
  unfold State.abortCaravan
  extract_lets s1 _ s2 _ _ s3 s4
  have h1 : s1.pair = s.pair := (touches_endTimetable s).pair
  have h2 : s2.pair = s.pair := by unfold s2; split <;> exact h1
  have h4 : s4.pair = s.pair := ((tells_bump ..).trans (tells_journalAuto ..)).quiet.pair.trans h2
  split
  · rfl
  · exact h4

theorem peerAbort_pair (s : State) : s.peerAbort.pair = s.pair := by
  unfold State.peerAbort
  extract_lets u
  have hu : u.pair = s.pair := abortCaravan_pair s
  split <;> exact hu

theorem peerAbort_stays (s : State) : s.peerAbort.dev.role = s.dev.role ∧ s.peerAbort.dev.mode = s.dev.mode := by
  unfold State.peerAbort
  extract_lets u
  have hu := abortCaravan_stays s true
  split <;> exact hu

/-- The state in which the unit answers a frame that it has heard. -/
def State.afterFrame (s : State) (path : LeasePath) (f : LeaseFrame) : State :=
  let pins := path == LeasePath.clasp
  let s := { s with pair := { s.pair with
    claspTick := if pins then s.clk.tick else s.pair.claspTick
    claspRun := if pins then s.pair.claspRun + 1 else s.pair.claspRun
    peerState := f.state
    heard := true
    cdual := s.pair.cdual && f.state == 2
    cpair := if f.state = 5 ∧ s.cur .pairEnable 0 = 1 then some s.clk.tick else s.pair.cpair } }
  let s := ((s.strapCheck f).leaseAck f).learnGen f.generation
  if f.caravanAbort then s.peerAbort else s

theorem frameHeard_eq (s : State) (path : LeasePath) (f : LeaseFrame) :
    s.frameHeard path f = if f.state = 2 then (s.afterFrame path f).holdHeard f else (s.afterFrame path f).announceHeard f := rfl

theorem strapCheck_kept (s : State) (f : LeaseFrame) : (s.strapCheck f).pair.faultAnn = s.pair.faultAnn ∧
    (f.primary ≠ s.dev.primary → f.plane ≠ s.dev.planeB → (s.strapCheck f).pair.cstrap = s.pair.cstrap) := by
  unfold State.strapCheck
  split
  · next h => exact ⟨rfl, fun hp hq => (h.elim hp hq).elim⟩
  · exact ⟨rfl, fun _ _ => rfl⟩

theorem afterFrame_heardFrom (s : State) (path : LeasePath) (f : LeaseFrame) : s.heardFrom (s.afterFrame path f) f := by
  unfold State.afterFrame
  extract_lets _ _ s1 s2
  have htouch : State.touches [.com, .pair] s1 s2 :=
    (touches_learnGen ..).after ((touches_leaseAck ..).after (touches_strapCheck ..).le)
  have hpair : s2.pair = { ((s1.strapCheck f).leaseAck f).pair with peerGen := f.generation } := learnGen_pair ..
  obtain ⟨hann, hstrap⟩ := strapCheck_kept s1 f
  have h2 : s.heardFrom s2 f := by
    refine ⟨htouch.role, htouch.mode, htouch.tick, ?_, ?_, fun hp hq => ?_, fun n o => htouch.cur n o⟩
    · rw [hpair]
    · rw [hpair]; exact hann
    · rw [hpair]; exact hstrap hp hq
  split
  · have hstays := peerAbort_stays s2
    have hp := peerAbort_pair s2
    have ht := touches_peerAbort s2
    refine ⟨hstays.1.trans h2.role, hstays.2.trans h2.mode, ht.tick.trans h2.tick, ?_, ?_, fun hq hr => ?_,
      fun n o => (ht.cur n o).trans (h2.cur n o)⟩
    · rw [hp]; exact h2.peerGen
    · rw [hp]; exact h2.faultAnn
    · rw [hp]; exact h2.cstrap hq hr
  · exact h2

/-- A HOLD frame reaches a follower (R350, R352). -/
theorem holdHeard_follower {s : State} (f : LeaseFrame) (h : s.dev.role = .follower) :
    (s.holdHeard f).dev = s.dev ∧ (s.holdHeard f).pair.holdTick = some s.clk.tick ∧
      (s.holdHeard f).pair.ack = some (f.lseq, s.clk.tick) ∧ (s.holdHeard f).pair.peerGen = s.pair.peerGen ∧
      (s.holdHeard f).tim.heard = some (f.tsel, f.tstate) ∧ (s.holdHeard f).pair.cnoh = false := by
  have heq : s.holdHeard f = State.sendFrame { s with
      pair := { s.pair with holdTick := some s.clk.tick, holdSince := true, ack := some (f.lseq, s.clk.tick), cnoh := false }
      tim := { s.tim with heard := some (f.tsel, f.tstate) } } := by
    refine if_pos fun hrole : s.dev.role = .holder => ?_
    rw [h] at hrole; cases hrole
  rw [heq]
  exact ⟨rfl, rfl, rfl, rfl, rfl, rfl⟩

/-! ### Acquisitions and the end of a lease (R351, R354) -/

theorem acquire_takes (s : State) (lease : Nat) (seized : Bool) :
    (s.acquire lease seized).dev.role = .holder ∧ (s.acquire lease seized).pair.leaseEnd = lease ∧
      (s.acquire lease seized).pair.takeover = true := by
  unfold State.acquire
  extract_lets s1 _ _ s2
  have hquiet : s2.quiet ((s2.bump .pairPmAcquire 0 1).lifeAdd 6 0 1) := ((tells_bump ..).trans (tells_lifeAdd ..)).quiet
  have hpair : ((s2.bump .pairPmAcquire 0 1).lifeAdd 6 0 1).pair = s2.pair := hquiet.pair
  refine ⟨?_, ?_, ?_⟩
  · rw [(touches_sendFrame _).dev, hquiet.dev]
  · exact (congrArg Pair.leaseEnd hpair :)
  · exact (congrArg Pair.takeover hpair :)

theorem announceHeard_acquires {s : State} {f : LeaseFrame} (hstate : f.state = 3 ∨ f.state = 4) (hcan : s.canAcquire = true)
    (hstrap : s.pair.cstrap = none) : s.announceHeard f = (s.acquire (s.clk.tick + 10 * msTicks) false).journalAuto 0xA008 0 0 := by
  unfold State.announceHeard
  extract_lets word
  have hword : word = true := by unfold word; obtain h | h := hstate <;> rw [h] <;> rfl
  rw [hword, hcan, hstrap]
  rfl

theorem onlyReports_abandonCopy (s : State) : s.onlyReports s.abandonCopy := onlyReports_of_counts (touches_abandonCopy s).counts

theorem onlyReports_failRef (s : State) (c : Option CmdRef) (st detail : Nat) : s.onlyReports (s.failRef c st detail) :=
  onlyReports_of_counts (touches_failRef ..).counts

theorem onlyReports_sendFrame (s : State) : s.onlyReports s.sendFrame := onlyReports_of_counts (touches_sendFrame s).counts

/-- A commit that ends keeps what is staged, and counts at most itself (R192, R210). -/
theorem endCommit_kept (s : State) (st detail : Nat) : (s.endCommit st detail).com.staged = s.com.staged ∧
    (s.endCommit st detail).cnt .pairPmLapse 0 = s.cnt .pairPmLapse 0 := by
  unfold State.endCommit
  extract_lets _ s1 s2
  split
  · exact ⟨rfl, rfl⟩
  · have h2 : s2.com.staged = s.com.staged ∧ s2.cnt .pairPmLapse 0 = s.cnt .pairPmLapse 0 := by
      unfold s2
      split
      · exact ⟨rfl, sameCounts_bump (n := .pairPmLapse) (by decide) s1 (by omega) 1 0 (by omega)⟩
      · exact ⟨rfl, rfl⟩
    split
    · exact ⟨rfl, rfl⟩
    · rw [(touches_failRef ..).com, (onlyReports_failRef ..).cnt .pairPmLapse]
      exact h2

theorem abortUnarmed_kept (s : State) : s.abortUnarmed.com.staged = s.com.staged ∧
    s.abortUnarmed.cnt .pairPmLapse 0 = s.cnt .pairPmLapse 0 := by
  unfold State.abortUnarmed
  split
  · split
    · exact ⟨rfl, rfl⟩
    · exact endCommit_kept ..
  · exact ⟨rfl, rfl⟩

theorem abandonCopy_staged (s : State) : s.abandonCopy.com.staged = s.com.staged := by
  unfold State.abandonCopy
  extract_lets
  split <;> rfl

/-- The end of a holder's lease: what is staged stays, and the lapse counts (R351, R372). -/
theorem giveUp_lapse (s : State) : (s.giveUp 3).com.staged = s.com.staged ∧
    (s.giveUp 3).cnt .pairPmLapse 0 = (s.cnt .pairPmLapse 0 + 1) % 2 ^ 48 := by
  unfold State.giveUp
  extract_lets s1 _ _ s2 s3 s4 s5
  obtain ⟨hstaged, hcnt⟩ := abortUnarmed_kept s2
  have h2 : s2.com.staged = s.com.staged ∧ s2.cnt .pairPmLapse 0 = s.cnt .pairPmLapse 0 :=
    ⟨abandonCopy_staged s, (onlyReports_abandonCopy s).cnt .pairPmLapse⟩
  have h4 : s4.com.staged = s3.com.staged ∧ s4.cnt .pairPmLapse 0 = (s3.cnt .pairPmLapse 0 + 1) % 2 ^ 48 := by
    unfold s4
    rw [if_pos rfl]
    exact ⟨congrArg Commit.staged (tells_bump ..).quiet.com, Table.get_set_same ..⟩
  have h5 : s5 = s4.journalAuto 0xA009 0 1 := rfl
  refine ⟨?_, ?_⟩
  · rw [(touches_sendFrame s5).com, h5, (tells_journalAuto ..).quiet.com, h4.1, hstaged, h2.1]
  · rw [(onlyReports_sendFrame s5).cnt .pairPmLapse, h5, (onlyReports_journalAuto ..).cnt .pairPmLapse, h4.2, hcnt, h2.2]

theorem holderLeaseExpiry_lapses {s : State} (hrole : s.dev.role = .holder) (hprim : s.dev.primary = false) (hseized : s.pair.seized = false)
    (hend : s.pair.leaseEnd ≤ s.clk.tick) : ∃ t, exec .holderLeaseExpiry s = .next t ∧ t.dev.role = .follower ∧
      t.com.staged = s.com.staged ∧ t.cnt .pairPmLapse 0 = (s.cnt .pairPmLapse 0 + 1) % 2 ^ 48 :=
  ⟨s.giveUp 3, if_pos ⟨hrole, hprim, hseized, elapsed_true hend⟩, congrArg Device.role (giveUp_dev s 3), giveUp_lapse s⟩

theorem silenceAcquisition_acquires {s : State} (hcan : s.canAcquire = true) (hstrap : s.pair.cstrap = none) (hprim : s.dev.primary = true)
    (hheard : s.pair.heard = true) (hsilent : s.silentSince + 300000 ≤ s.clk.tick) :
    ∃ t, exec .silenceAcquisition s = .next t ∧ t.dev.role = .holder ∧ t.pair.takeover = true := by
  have helapsed : s.elapsed s.silentSince (12 * msTicks) = true := elapsed_true hsilent
  obtain ⟨hrole, -, htake⟩ := acquire_takes s 0 false
  have htell := (tells_journalAuto (s.acquire 0 false) 0xA008 0 1 {}).quiet
  refine ⟨_, if_pos (by rw [hcan, hstrap, hprim, hheard, helapsed]; rfl), ?_, ?_⟩
  · rw [htell.dev, hrole]
  · rw [htell.pair, htake]

/-! ### The link (R341 to R347) -/

theorem saredLinkUp_links {s : State} (hdown : s.pair.linkUp = false) (hrun : 64 ≤ s.pair.linkRun) :
    ∃ t, exec .saredLinkUp s = .next t ∧ t.pair.linkUp = true ∧ t.pair.sld = false ∧
      (t.pair.slx = false ↔ (s.sared 0).laneNo = 0 ∧ (s.sared 1).laneNo = 1 ∧ (s.sared 2).laneNo = 2 ∧ (s.sared 3).laneNo = 3) := by
  have hexec : exec .saredLinkUp s = .next _ := if_pos ⟨hdown, hrun⟩
  refine ⟨_, hexec, ?_, ?_, ?_⟩
  · split <;> rfl
  · split <;> rfl
  · split <;> simp [State.tell, and_assoc]

/-- The defects of a lane leave its alignment (R110). -/
theorem defects_align (x : SaredLane) (signal unc : Bool) (n : Nat) :
    (x.defects signal unc n).align = x.align ∧ (x.defects signal unc n).expRsn = x.expRsn ∧ (x.defects signal unc n).offset = x.offset ∧
      (x.defects signal unc n).inv = x.inv := by
  have hsignal : (x.signal signal n).align = x.align ∧ (x.signal signal n).expRsn = x.expRsn ∧ (x.signal signal n).offset = x.offset ∧
      (x.signal signal n).inv = x.inv := by
    unfold SaredLane.signal
    split
    · exact ⟨rfl, rfl, rfl, rfl⟩
    · split <;> exact ⟨rfl, rfl, rfl, rfl⟩
  unfold SaredLane.defects
  dsimp only
  split
  · exact hsignal
  · split <;> exact hsignal

theorem defects_los (x : SaredLane) (unc : Bool) (n : Nat) : (x.defects false unc n).los = true := by
  unfold SaredLane.defects
  dsimp only
  rw [if_pos (.inl rfl)]

/-- What a header tells leaves the alignment and the defects (R343). -/
theorem saredHead_align (s : State) (x : SaredLane) (o : Option SaredIn) :
    (s.saredHead x o).align = x.align ∧ (s.saredHead x o).expRsn = x.expRsn ∧ (s.saredHead x o).offset = x.offset ∧
      (s.saredHead x o).inv = x.inv ∧ (s.saredHead x o).los = x.los := by
  cases o <;> exact ⟨rfl, rfl, rfl, rfl, rfl⟩

/-- What a row leaves in its lane (R341 to R343). -/
def State.saredAfter (s : State) (n : Nat) (row : SaredRow) : SaredLane :=
  let (x, o) := (s.sared n).step row.raw
  let unc := match o with | some r => x.align == .sync && !r.unc.isEmpty | none => false
  s.saredHead (x.defects row.raw.signal unc s.rowNow) o

theorem sared_modSared_same (s : State) (n : Nat) (f : SaredLane → SaredLane) : (s.modSared n f).sared n = f (s.sared n) :=
  Table.get_set_same ..

theorem sared_modSared_other (s : State) {n k : Nat} (f : SaredLane → SaredLane) (h : k ≠ n) : (s.modSared n f).sared k = s.sared k :=
  Table.get_set_other _ _ _ h

theorem sared_of_lanes {s t : State} (h : t.pair.lanes = s.pair.lanes) (k : Nat) : t.sared k = s.sared k := by
  unfold State.sared; rw [h]

/-- A row reaches its lane alone; from one that the lane takes in, of the right peer, the unit learns the peer's mode (R343). -/
theorem saredRowReceived_lane (n : Fin 4) (row : SaredRow) {s : State} (hon : s.domain (lrOf 0) = 0) :
    ∃ t, exec (.saredRowReceived n row) s = .next t ∧ t.sared n = s.saredAfter n row ∧ (∀ k, k ≠ n.val → t.sared k = s.sared k) ∧
      ((s.saredAfter n row).align = .sync → (s.saredAfter n row).hdrOk = true → (s.saredAfter n row).planeOk = true →
        (s.saredAfter n row).serialOk = true → t.pair.peerMode = row.peerMode ∧ t.pair.peerJoined = row.peerJoined) := by
  let x := s.saredAfter n row
  let u : State := { s.modSared n (fun _ => x) with pair := { (s.modSared n fun _ => x).pair with
    bursts := row.bursts.filter fun b => b.master == 11 } }
  have hexec : ∃ a b, exec (.saredRowReceived n row) s = .next (
      if x.align == .sync && x.hdrOk && x.planeOk && x.serialOk then
        { ((u.bump .saredPmCorrSym n.val a).bump .saredPmUncCw n.val b) with pair := {
            ((u.bump .saredPmCorrSym n.val a).bump .saredPmUncCw n.val b).pair with
          peerMode := row.peerMode
          peerJoined := row.peerJoined
          peerStage := row.peerStage
          peerStore := row.peerStore } }
      else (u.bump .saredPmCorrSym n.val a).bump .saredPmUncCw n.val b) := by
    refine ⟨(saredCounts x ((s.sared n).step row.raw).2 row.raw).1, (saredCounts x ((s.sared n).step row.raw).2 row.raw).2,
      (if_neg (fun h => h hon)).trans ?_⟩
    rw [apply_ite Host.Outcome.next]
    rfl
  obtain ⟨a, b, hexec⟩ := hexec
  have hpair : ((u.bump .saredPmCorrSym n.val a).bump .saredPmUncCw n.val b).pair = u.pair :=
    ((tells_bump ..).trans (tells_bump ..)).quiet.pair
  generalize (u.bump .saredPmCorrSym n.val a).bump .saredPmUncCw n.val b = v at hexec hpair
  have hlanes : v.pair.lanes = (s.modSared n fun _ => x).pair.lanes := (congrArg Pair.lanes hpair :)
  refine ⟨_, hexec, ?_, fun k hk => ?_, fun hsync hhdr hplane hserial => ?_⟩
  · refine Eq.trans ?_ (sared_modSared_same s n fun _ => x)
    split <;> exact sared_of_lanes hlanes n
  · refine Eq.trans ?_ (sared_modSared_other s (fun _ => x) hk)
    split <;> exact sared_of_lanes hlanes k
  · rw [if_pos]
    · exact ⟨rfl, rfl⟩
    · simp only [Bool.and_eq_true]
      exact ⟨⟨⟨beq_iff_eq.mpr hsync, hhdr⟩, hplane⟩, hserial⟩

theorem saredAfter_eq (s : State) (n : Nat) (row : SaredRow) : ∃ unc, s.saredAfter n row =
    s.saredHead (((s.sared n).step row.raw).1.defects row.raw.signal unc s.rowNow) ((s.sared n).step row.raw).2 := ⟨_, rfl⟩

/-- The alignment after a row is what the row's step makes it. -/
theorem saredAfter_align (s : State) (n : Nat) (row : SaredRow) :
    (s.saredAfter n row).align = ((s.sared n).step row.raw).1.align ∧ (s.saredAfter n row).expRsn = ((s.sared n).step row.raw).1.expRsn ∧
      (s.saredAfter n row).offset = ((s.sared n).step row.raw).1.offset ∧ (s.saredAfter n row).inv = ((s.sared n).step row.raw).1.inv := by
  obtain ⟨unc, h⟩ := saredAfter_eq s n row
  rw [h]
  obtain ⟨ha, he, ho, hi, -⟩ := saredHead_align s (((s.sared n).step row.raw).1.defects row.raw.signal unc s.rowNow)
    ((s.sared n).step row.raw).2
  obtain ⟨da, de, do', di⟩ := defects_align ((s.sared n).step row.raw).1 row.raw.signal unc s.rowNow
  exact ⟨ha.trans da, he.trans de, ho.trans do', hi.trans di⟩

theorem saredAfter_los (s : State) (n : Nat) {row : SaredRow} (h : row.raw.signal = false) : (s.saredAfter n row).los = true := by
  obtain ⟨unc, heq⟩ := saredAfter_eq s n row
  rw [heq, h]
  exact (saredHead_align ..).2.2.2.2.trans (defects_los ..)

/-! #### The steps of the alignment (R92 to R95) -/

theorem step_confirms {x : SaredLane} {raw : RawRow} {o : Nat} {m : Rsn} {inv : Bool} {rest : List (Nat × Rsn × Bool)} (ha : x.align = .confirm)
    (hc : x.cands = (o, m, inv) :: rest) (ho : raw.offset = o) (hframe : saredFrame raw inv (saredIn raw inv) = true)
    (hrsn : (saredIn raw inv).rsn = m + 1) :
    x.step raw = (({ x with offset := o, inv := inv, cands := [] } : SaredLane).inSync ((saredIn raw inv).rsn + 1) none,
      some (saredIn raw inv)) := by
  unfold SaredLane.step
  rw [ha]
  dsimp only
  rw [hc]
  dsimp only
  rw [if_neg (fun h => h ho), if_pos ⟨hframe, hrsn⟩]

theorem step_misses {x : SaredLane} {raw : RawRow} (ha : x.align = .sync) (ho : raw.offset = x.offset)
    (hframe : saredFrame raw x.inv (saredIn raw x.inv) = false) : x.step raw = (x.missed, some (saredIn raw x.inv)) := by
  unfold SaredLane.step
  rw [ha]
  dsimp only
  rw [if_neg (fun h => h ho), hframe]
  rfl

theorem step_stays {x : SaredLane} {raw : RawRow} (ha : x.align = .sync) (ho : raw.offset = x.offset)
    (hframe : saredFrame raw x.inv (saredIn raw x.inv) = true) (hrsn : (saredIn raw x.inv).rsn = x.expRsn) :
    x.step raw = (x.inSync ((saredIn raw x.inv).rsn + 1) none, some (saredIn raw x.inv)) := by
  unfold SaredLane.step
  rw [ha]
  dsimp only
  rw [if_neg (fun h => h ho), hframe, if_neg (by decide), if_pos (.inl hrsn)]

theorem saredFrame_crc {raw : RawRow} {inv : Bool} {r : SaredIn} (h : saredFrame raw inv r = true) : r.crcOk = true := by
  unfold saredFrame at h
  simp only [Bool.and_eq_true] at h
  exact h.2

/-- A row of the right peer says so (R343, R369). -/
theorem saredHead_right (s : State) (x : SaredLane) {r : SaredIn} (hcrc : r.crcOk = true) (hplane : r.plane ≠ s.dev.planeB)
    (hpeer : s.cur .pairPeerSerial 0 = 0) : (s.saredHead x (some r)).hdrOk = true ∧ (s.saredHead x (some r)).planeOk = true ∧
      (s.saredHead x (some r)).serialOk = true := by
  unfold State.saredHead
  dsimp only
  rw [hpeer]
  exact ⟨hcrc, bne_iff_ne.mpr hplane, rfl⟩

theorem saredRowReceived_taken (n : Fin 4) (row : SaredRow) {s : State} (hon : s.domain (lrOf 0) = 0) :
    ∃ t, exec (.saredRowReceived n row) s = .next t ∧
    (row.raw.signal = false → (t.sared n).los = true) ∧ (∀ k, k ≠ n.val → t.sared k = s.sared k) ∧
    (∀ o m inv rest, (s.sared n).align = .confirm → (s.sared n).cands = (o, m, inv) :: rest → row.raw.offset = o →
      saredFrame row.raw inv (saredIn row.raw inv) = true → (saredIn row.raw inv).rsn = m + 1 →
      (t.sared n).align = .sync ∧ (t.sared n).expRsn = m + 2 ∧ (t.sared n).offset = o ∧ (t.sared n).inv = inv) ∧
    ((s.sared n).align = .sync → row.raw.offset = (s.sared n).offset →
      saredFrame row.raw (s.sared n).inv (saredIn row.raw (s.sared n).inv) = false → (t.sared n).align = .flywheel) ∧
    ((s.sared n).align = .sync → row.raw.offset = (s.sared n).offset →
      saredFrame row.raw (s.sared n).inv (saredIn row.raw (s.sared n).inv) = true →
      (saredIn row.raw (s.sared n).inv).rsn = (s.sared n).expRsn →
      (saredIn row.raw (s.sared n).inv).plane ≠ s.dev.planeB → s.cur .pairPeerSerial 0 = 0 →
      (t.sared n).align = .sync ∧ (t.sared n).expRsn = (s.sared n).expRsn + 1 ∧ t.pair.peerMode = row.peerMode ∧
        t.pair.peerJoined = row.peerJoined) := by
  obtain ⟨t, ht, hlane, hother, hpeer⟩ := saredRowReceived_lane n row hon
  obtain ⟨halign, hexp, hoff, hinv⟩ := saredAfter_align s n row
  refine ⟨t, ht, ?_⟩
  rw [hlane]
  refine ⟨fun h => saredAfter_los s n h, hother, fun o m inv rest ha hc ho hf hr => ?_, fun ha ho hf => ?_,
    fun ha ho hf hr hp hs => ?_⟩
  · have hstep := step_confirms ha hc ho hf hr
    rw [hstep] at halign hexp hoff hinv
    refine ⟨halign, hexp.trans ?_, hoff, hinv⟩
    change (saredIn row.raw inv).rsn + 1 = m + 2
    rw [hr]
    bv_omega
  · rw [halign, step_misses ha ho hf]
    rfl
  · have hstep := step_stays ha ho hf hr
    rw [hstep] at halign hexp
    obtain ⟨unc, heq⟩ := saredAfter_eq s n row
    rw [hstep] at heq
    obtain ⟨hhdr, hplane, hserial⟩ := saredHead_right s _ (saredFrame_crc hf) hp hs
    rw [← heq] at hhdr hplane hserial
    obtain ⟨hmode, hjoined⟩ := hpeer halign hhdr hplane hserial
    refine ⟨halign, hexp.trans ?_, hmode, hjoined⟩
    change (saredIn row.raw (s.sared n).inv).rsn + 1 = (s.sared n).expRsn + 1
    rw [hr]

/-! ### The defects (R369) -/

theorem elapsed_false {s : State} {a d : Nat} (h : s.clk.tick < a + d) : s.elapsed a d = false := decide_eq_false (by omega)

theorem pairDefectIntegration_sets (d : PairDefect) (s : State) : ∃ t, exec (.pairDefectIntegration d) s = .next t ∧
    t = { s with pair := t.pair } ∧
    (d = .sld → s.pair.linkUp = true → t.pair.sld = false) ∧
    (d = .speer → 2 ≤ s.speerCount.1 → t.pair.speer = true) ∧
    (d = .speer → s.speerCount.1 < 2 → 64 ≤ s.speerCount.2 → t.pair.speer = false) ∧
    (d = .cpin → s.pair.claspTick + 75000 ≤ s.clk.tick → t.pair.cpin = true) ∧
    (d = .cpin → s.clk.tick < s.pair.claspTick + 75000 → 3 ≤ s.pair.claspRun → t.pair.cpin = false) ∧
    (d = .cdual → s.dev.role ≠ .holder ∨ s.pair.peerState ≠ 2 → t.pair.cdual = false) := by
  cases d
  case sld => exact ⟨_, rfl, rfl, fun _ h => by simp [h], nofun, nofun, nofun, nofun, nofun⟩
  case slx => exact ⟨_, rfl, rfl, nofun, nofun, nofun, nofun, nofun, nofun⟩
  case speer =>
    refine ⟨{ s with pair := { s.pair with
      speer := decide (2 ≤ s.speerCount.1) || (s.pair.speer && decide (s.speerCount.2 < 64)) } }, rfl, rfl, nofun, fun _ h => ?_,
      fun _ h k => ?_, nofun, nofun, nofun⟩
    · simp [h]
    · simp; omega
  case cpin =>
    by_cases hlate : s.pair.claspTick + 75000 ≤ s.clk.tick
    · have helapsed : s.elapsed s.pair.claspTick (3 * msTicks) = true := elapsed_true hlate
      refine ⟨_, if_pos helapsed, rfl, nofun, nofun, nofun, fun _ _ => rfl, fun _ h => absurd hlate (by omega), nofun⟩
    · have helapsed : ¬s.elapsed s.pair.claspTick (3 * msTicks) = true := by
        rw [elapsed_false (d := 3 * msTicks) (Nat.lt_of_not_le hlate)]; exact Bool.false_ne_true
      refine ⟨_, if_neg helapsed, rfl, nofun, nofun, nofun, fun _ h => absurd h hlate, fun _ _ h => ?_, nofun⟩
      simp; omega
  case cloop => exact ⟨_, rfl, rfl, nofun, nofun, nofun, nofun, nofun, nofun⟩
  case cnoh =>
    by_cases h : s.dev.role = .follower ∧ s.peerLease = false
    · exact ⟨_, if_pos h, rfl, nofun, nofun, nofun, nofun, nofun, nofun⟩
    · exact ⟨_, if_neg h, rfl, nofun, nofun, nofun, nofun, nofun, nofun⟩
  case cdual =>
    refine ⟨_, rfl, rfl, nofun, nofun, nofun, nofun, nofun, fun _ h => ?_⟩
    obtain h | h := h <;> simp [h]
  case cstrap =>
    have hexec : ∃ p, exec (.pairDefectIntegration .cstrap) s = .next { s with pair := p } := by
      change ∃ p, execPairDefectIntegration .cstrap s = _
      unfold execPairDefectIntegration
      dsimp only
      split
      · split <;> exact ⟨_, rfl⟩
      · exact ⟨_, rfl⟩
    obtain ⟨p, hp⟩ := hexec
    exact ⟨_, hp, rfl, nofun, nofun, nofun, nofun, nofun, nofun⟩
  case cpair => exact ⟨_, rfl, rfl, nofun, nofun, nofun, nofun, nofun, nofun⟩

/-! ### The statement -/

/-- Settles O33, by what a frame, the end of a lease, the silence, the link and each defect do. -/
theorem leaseAndLink : Obligations.LeaseAndLink := by
  unfold Obligations.LeaseAndLink
  refine ⟨?send, ?own, ?down, ?hold, ?announce, ?lapse, ?silence, ?up, ?off, ?row, ?defect⟩
  case send =>
    intro s h
    exact ⟨s.sendFrame, exec_claspFrameSend h, sendFrame_head s, rfl, (touches_sendFrame s).dev⟩
  case own => exact fun path f s hpow hlink hserial hplane => exec_claspFrameHeard_own hpow hlink hserial hplane
  case down => exact fun f s h => if_pos (.inr ⟨rfl, h⟩)
  case hold =>
    intro path f s hpow hlink hpeer hrole hstate
    have hheard := afterFrame_heardFrom s path f
    obtain ⟨hdev, hhold, hack, hgen, htim, hcnoh⟩ := holdHeard_follower f (hheard.role.trans hrole)
    rw [hheard.tick] at hhold hack
    refine ⟨_, exec_claspFrameHeard_peer hpow hlink hpeer, ?_⟩
    rw [frameHeard_eq, if_pos hstate]
    exact ⟨by rw [hdev, hheard.role, hrole], hhold, hack, hgen.trans hheard.peerGen, htim, hcnoh⟩
  case announce =>
    intro path f s hpow hlink hplane hprim hcan hstrap hstate
    have hheard := afterFrame_heardFrom s path f
    have hcan' : (s.afterFrame path f).canAcquire = true := by
      unfold State.canAcquire
      rw [hheard.role, hheard.cur, hheard.mode, hheard.faultAnn]
      exact hcan
    have hacq := announceHeard_acquires hstate hcan' ((hheard.cstrap hprim hplane).trans hstrap)
    obtain ⟨hrole, hlease, htake⟩ := acquire_takes (s.afterFrame path f) ((s.afterFrame path f).clk.tick + 10 * msTicks) false
    refine ⟨_, exec_claspFrameHeard_peer hpow hlink fun h => hplane h.2, ?_⟩
    rw [frameHeard_eq, if_neg (by omega), hacq, (tells_journalAuto ..).quiet.dev, (tells_journalAuto ..).quiet.pair]
    exact ⟨hrole, by rw [hlease, hheard.tick]; rfl, htake⟩
  case lapse => exact fun s hrole hprim hseized hend => holderLeaseExpiry_lapses hrole hprim hseized hend
  case silence => exact fun s hcan hstrap hprim hheard hsilent => silenceAcquisition_acquires hcan hstrap hprim hheard hsilent
  case up => exact fun s hdown hrun => saredLinkUp_links hdown hrun
  case off => exact fun n row s h => if_pos h
  case row => exact fun n row s hon => saredRowReceived_taken n row hon
  case defect => exact pairDefectIntegration_sets

end Sys2Proof.Machine
end

section
/-!
PROOFS. Checkpoints, the takeover, what the holder forwards, and the live copy (O34; R229, R363, R364, R366).
-/
namespace Sys2Proof.Machine
-- One theorem after the other: many at once need more stacks than the memory limit of the check allows.
set_option Elab.async false

/-! ### Checkpoints (R363) -/

/-- The slot that a checkpoint fills. -/
def ckptSlot (x : Ckpt) : CkptSlot :=
  { valid := true, len := (Config.ckptBytes x).length, crc := crc32c (Config.ckptBytes x), ck := x }

theorem storeCkpt_pair (s : State) (x : Ckpt) : (s.storeCkpt x).pair = { s.pair with
    ckpts := Table.set {} s.pair.ckpts ((x.seq + 47) % 48) (ckptSlot x)
    ckptSeq := max s.pair.ckptSeq (x.seq + 1) } := rfl

theorem writeCkpt_pair (s : State) : s.writeCkpt.pair.ckptSeq = s.pair.ckptSeq + 1 ∧ s.writeCkpt.pair.ckptTick = s.clk.tick := by
  unfold State.writeCkpt
  extract_lets x s1 _ s2 s3
  have hpair : s3.pair = s2.pair := (tells_bump ..).quiet.pair
  have hseq : s2.pair.ckptSeq = s.pair.ckptSeq + 1 := by
    change max s.pair.ckptSeq (s.pair.ckptSeq + 1) = _
    omega
  have h3 : s3.pair.ckptSeq = s.pair.ckptSeq + 1 ∧ s3.pair.ckptTick = s.clk.tick := by
    rw [hpair]; exact ⟨hseq, rfl⟩
  split <;> exact h3

theorem checkpointReceived_stores (x : Ckpt) {s : State} (hrole : s.dev.role = .follower) (hlink : s.pair.linkUp = true) :
    ∃ t, exec (.checkpointReceived x.seq x.format x.toCkptParts) s = .next t ∧
      Table.get {} t.pair.ckpts ((x.seq + 47) % 48) = ckptSlot x ∧
      (∀ j, j ≠ (x.seq + 47) % 48 → Table.get {} t.pair.ckpts j = Table.get {} s.pair.ckpts j) ∧ x.seq < t.pair.ckptSeq := by
  refine ⟨s.storeCkpt x, if_pos ⟨hrole, hlink⟩, ?_, fun j hj => ?_, ?_⟩
  · exact Table.get_set_same ({} : CkptSlot) s.pair.ckpts ((x.seq + 47) % 48) (ckptSlot x)
  · exact Table.get_set_other ({} : CkptSlot) s.pair.ckpts (ckptSlot x) hj
  · rw [storeCkpt_pair]
    change x.seq < max s.pair.ckptSeq (x.seq + 1)
    omega

/-! ### The takeover (R364) -/

theorem setSession_other (s : State) {k j : Nat} (x : Session) (h : j ≠ k) : (s.setSession k x).session j = s.session j :=
  Table.get_set_other _ _ _ h

/-- A restored session takes a free slot alone. -/
theorem restoreSession_keeps (s : State) (x : CkptSession) {k : Nat} (h : (s.session k).state ≠ .free) :
    (s.restoreSession x).session k = s.session k := by
  unfold State.restoreSession
  extract_lets j
  split
  · next hfree =>
    refine setSession_other s _ fun hk => h ?_
    rw [hk]; exact hfree.1
  · rfl

theorem restoreSessions_keep (xs : List CkptSession) (s : State) {k : Nat} (h : (s.session k).state ≠ .free) :
    (xs.foldl State.restoreSession s).session k = s.session k := by
  induction xs generalizing s with
  | nil => rfl
  | cons x xs ih =>
    have hx := restoreSession_keeps s x h
    exact (ih (s.restoreSession x) (by rw [hx]; exact h)).trans hx

theorem restoreSession_touches (s : State) (x : CkptSession) : State.touches [.host] s (s.restoreSession x) :=
  touches_ite _ (touches_refl _ _).set_host (touches_refl _ _)

/-- What a load of a checkpoint leaves: the checkpoints, the generation and the maps, and every session slot in use. -/
theorem loadCkpt_keeps (s : State) (x : Ckpt) : (s.loadCkpt x).pair.ckpts = s.pair.ckpts ∧ (s.loadCkpt x).com.gen = s.com.gen ∧
    (s.loadCkpt x).sw = s.sw ∧ ∀ k, (s.session k).state ≠ .free → (s.loadCkpt x).session k = s.session k := by
  have htouch : State.touches [.host] s (x.sessions.foldl State.restoreSession s) :=
    touches_foldl (touches_refl _ _) _ fun u a => restoreSession_touches u a
  exact ⟨(congrArg Pair.ckpts htouch.pair :), (congrArg Commit.gen htouch.com :), htouch.sw,
    fun k hk => restoreSessions_keep x.sessions s hk⟩

/-- What the new holder takes of the best checkpoint that it can read. -/
def State.takenOver (s : State) : State :=
  match s.bestCkpt with
  | some c =>
    if (match s.runImage with | some i => i.ckptReadMin | none => 0) ≤ c.ck.format ∧ c.ck.format ≤ s.ckptFormat then s.loadCkpt c.ck else s
  | none => s

theorem takenOver_keeps (s : State) : s.takenOver.pair.ckpts = s.pair.ckpts ∧ s.takenOver.com.gen = s.com.gen ∧
    s.takenOver.sw = s.sw ∧ ∀ k, (s.session k).state ≠ .free → s.takenOver.session k = s.session k := by
  unfold State.takenOver
  generalize (match s.runImage with | some i => i.ckptReadMin | none => 0) = low
  split
  · split
    · exact loadCkpt_keeps ..
    · exact ⟨rfl, rfl, rfl, fun _ _ => rfl⟩
  · exact ⟨rfl, rfl, rfl, fun _ _ => rfl⟩

theorem takeoverLoadComplete_ends {s : State} (htake : s.pair.takeover = true) (hrole : s.dev.role = .holder) (hrun : s.dev.jcc = .running) :
    ∃ t, exec .takeoverLoadComplete s = .next t ∧ t.pair.takeover = false ∧ t.pair.ckpts = s.pair.ckpts ∧ t.com.gen = s.com.gen ∧
      t.sw = s.sw ∧ ∀ k, (s.session k).state ≠ .free → t.session k = s.session k := by
  have hexec : exec .takeoverLoadComplete s = .next (State.journalRestart
      { s.takenOver with pair := { s.takenOver.pair with takeover := false } } 0 s.takenOver.clk.rsn.toNat) := if_pos ⟨htake, hrole, hrun⟩
  obtain ⟨hckpts, hgen, hsw, hsess⟩ := takenOver_keeps s
  have htell := tells_journalRestart { s.takenOver with pair := { s.takenOver.pair with takeover := false } } 0 s.takenOver.clk.rsn.toNat
  have hpair := htell.quiet.pair
  refine ⟨_, hexec, ?_, ?_, ?_, ?_, fun k hk => ?_⟩
  · rw [hpair]
  · rw [hpair]; exact hckpts
  · rw [htell.quiet.com]; exact hgen
  · rw [htell.quiet.sw]; exact hsw
  · refine Eq.trans ?_ (hsess k hk)
    unfold State.session
    rw [htell.host]

/-! ### What the holder forwards (R229, R405) -/

/-- Each named group holds the command as often as it is named (R219). -/
theorem enterProt_group (kind : Nat) (target : Bool) (gs : List Nat) (due : Rsn) (c : CmdRef) (s : State) (k : Nat) :
    (s.enterProt kind target gs due c).group k =
      { s.group k with pend := (s.group k).pend ++ List.replicate (gs.count k) ⟨due, kind, target, c⟩ } := by
  induction gs generalizing s with
  | nil =>
    have hnil : ([] : List Nat).count k = 0 := rfl
    rw [hnil, List.replicate_zero, List.append_nil]
    rfl
  | cons g gs ih =>
    refine (ih (s.modGroup g fun x => { x with pend := x.pend ++ [⟨due, kind, target, c⟩] })).trans ?_
    by_cases h : k = g
    · subst h
      rw [group_modGroup, List.count_cons_self, List.replicate_succ, List.append_assoc, List.singleton_append]
    · rw [group_modGroup_other _ _ _ h, List.count_cons_of_ne (Ne.symm h)]

theorem group_of_prot {s t : State} (h : t.prot = s.prot) (k : Nat) : t.group k = s.group k := by unfold State.group; rw [h]

theorem exec_forwardedCommand (h : ForwardHead) (c : Forwarded) {s : State} (hrole : s.dev.role = .follower) (hlink : s.pair.linkUp = true) :
    exec (.forwardedCommand h c) s = .next (s.takeForward h c) := if_pos ⟨hrole, hlink⟩

/-! ### The live copy (R366) -/

theorem cur_setCur_same (s : State) (n : Pn) (o v : Nat) : (s.setCur n o v).cur n o = v := by
  unfold State.setCur State.cur
  dsimp only
  split
  · next h => rw [Table.find_drop_same, h]; rfl
  · rw [Table.find_put_same]; rfl

theorem cur_setCur_other (s : State) {n m : Pn} {o p : Nat} (v : Nat) (h : m.key p ≠ n.key o) : (s.setCur n o v).cur m p = s.cur m p := by
  unfold State.setCur State.cur
  dsimp only
  split
  · rw [Table.find_drop_other _ h]
  · rw [Table.find_put_other _ _ h]

/-- t has the values of s but for that of n of object o, which is v. -/
def State.setsOne (s t : State) (n : Pn) (o v : Nat) : Prop := t.par.vals = (s.setCur n o v).par.vals

theorem State.setsOne.cur {s t : State} {n : Pn} {o v : Nat} (h : s.setsOne t n o v) :
    t.cur n o = v ∧ ∀ m p, m.key p ≠ n.key o → t.cur m p = s.cur m p := by
  have hcur : ∀ m p, t.cur m p = (s.setCur n o v).cur m p := fun m p => by unfold State.cur; rw [h]
  exact ⟨(hcur n o).trans (cur_setCur_same ..), fun m p hne => (hcur m p).trans (cur_setCur_other _ _ hne)⟩

theorem setsOne_of_touches {l : List Part} {s t : State} {n : Pn} {o v : Nat} (h : State.touches l (s.setCur n o v) t)
    (hl : l.contains Part.par = false := by rfl) : s.setsOne t n o v := h.vals hl

/-- A copied parameter that may be written at any time takes its value, and no other parameter changes with it (R420). -/
theorem putValue_plain (s : State) {n : Pn} (o v : Nat) (hcopied : copiedPn n = true) (hacc : n.desc.acc = .rw)
    (hout : n ∉ [Pn.laneTxEnable, .laneRxEnable, .laneTraceExpected]) : s.setsOne (s.putValue n o v) n o v := by
  unfold State.putValue
  split
  case h_1 => exact absurd List.mem_cons_self hout
  case h_2 => exact absurd (List.mem_cons_of_mem _ List.mem_cons_self) hout
  case h_3 => exact absurd hcopied (by decide)
  case h_4 => exact absurd hcopied (by decide)
  case h_5 => exact absurd hcopied (by decide)
  case h_6 => exact absurd hcopied (by decide)
  case h_7 => exact absurd hcopied (by decide)
  case h_8 => exact setsOne_of_touches (touches_retrace ..)
  case h_9 => exact absurd (List.mem_cons_of_mem _ (List.mem_cons_of_mem _ List.mem_cons_self)) hout
  case h_10 => exact setsOne_of_touches (touches_evalTtim ..)
  case h_11 => exact setsOne_of_touches (touches_evalTtim ..)
  case h_12 =>
    dsimp only
    split <;> rfl
  case h_13 => exact rfl
  case h_14 => exact rfl
  case h_15 => exact rfl
  case h_16 =>
    rw [hacc]
    dsimp only
    split <;> exact rfl

theorem copyParams_one (s : State) {n : Pn} {obj v : Nat} (vals : Table Nat) (hcopied : copiedPn n = true) (hacc : n.desc.acc = .rw)
    (hobj : obj < 65536) (hout : n ∉ [Pn.laneTxEnable, .laneRxEnable, .laneTraceExpected]) (hcur : s.cur n obj ≠ v)
    (hkeys : ((s.copiedVals ++ vals).map (·.1)).eraseDups = [n.key obj])
    (hval : (Table.find vals (n.key obj)).getD (n.dfltOf obj) = v) : s.setsOne (s.copyParams vals) n obj v := by
  have hdiv : Pn.ofNat (n.key obj / 65536) = n := by
    have hidx : n.key obj / 65536 = n.ctorIdx := by unfold Pn.key; omega
    rw [hidx, Pn.ofNat_ctorIdx]
  have hmod : n.key obj % 65536 = obj := by unfold Pn.key; omega
  have henable : (n == .laneTxEnable || n == .laneRxEnable) = false := by
    simp only [List.mem_cons, not_or] at hout
    simp [hout.1, hout.2.1]
  have hone : s.copyParam vals (n.key obj) = s.putValue n obj v := by
    unfold State.copyParam
    rw [hdiv, hmod]
    dsimp only
    rw [hval, if_neg hcur]
  have hcopy : s.copyParams vals = s.copyParam vals (n.key obj) := by
    unfold State.copyParams
    rw [hkeys]
    simp only [List.filter_cons, List.filter_nil, hdiv, hcopied, henable, if_true, Bool.false_and, Bool.not_false, Bool.false_eq_true,
      if_false, List.nil_append, List.append_nil, List.foldl_cons, List.foldl_nil]
  rw [hcopy, hone]
  exact putValue_plain s obj v hcopied hacc hout

/-- The bank that a copy's records make stands as the shadow, and the active one stays (R366). -/
theorem copyBank_shadow (s : State) (b : Bank) : (s.copyBank b).egrB = s.egrB ∧ (s.copyBank b).shadow.egr = b.egr ∧
    (s.copyBank b).shadow.ing = b.ing ∧ (s.copyBank b).shadow.mid = b.mid ∧ (s.copyBank b).shadow.cut = b.cut := by
  have hegr : (s.copyBank b).egrB = (s.setShadow { b with insts := s.descriptors b.conns }).egrB := rfl
  have hshadow : (s.copyBank b).shadow = (s.setShadow { b with insts := s.descriptors b.conns }).shadow := rfl
  rw [hegr, hshadow]
  refine ⟨setShadow_egrB .., ?_⟩
  unfold State.setShadow State.shadow
  cases h : s.sw.egrBank <;> simp [h]

section
variable {s : State} (hrole : s.dev.role = .follower) {j : Nat} (hlive : s.pair.live = some j)
include hrole hlive

theorem exec_liveCopy_params (vals : Table Nat) (h : j = 0) : exec (.liveCopyMessage (.params vals)) s = .next (s.copyParams vals) := by
  change execLiveCopyMessage (.params vals) s = _
  unfold execLiveCopyMessage
  rw [hrole, hlive, h]
  rfl

theorem exec_liveCopy_timing (r : Rsn) (tod sel : Nat) (h : j = 0) : exec (.liveCopyMessage (.timing r tod sel)) s =
    .next { s with pair := { s.pair with liveTime := some (r, tod, sel) } } := by
  change execLiveCopyMessage (.timing r tod sel) s = _
  unfold execLiveCopyMessage
  rw [hrole, hlive, h]
  rfl

theorem exec_liveCopy_dirty (recs : List MapRec) (g : Nat) (h : j ≠ 0) : exec (.liveCopyMessage (.dirty recs g)) s =
    .next (State.copyBank { s with pair := { s.pair with liveGen := g } } (s.shadow.writeAll recs)) := by
  change execLiveCopyMessage (.dirty recs g) s = _
  unfold execLiveCopyMessage
  rw [hrole, hlive]
  exact if_neg h

end

theorem copyBank_pair (s : State) (b : Bank) : (s.copyBank b).pair = s.pair :=
  (touches_setShadow s { b with insts := s.descriptors b.conns }).pair

/-- Settles O34, by what a checkpoint, a takeover, a forwarded command and each message of the copy write. -/
theorem checkpointsAndCopies : Obligations.CheckpointsAndCopies := by
  unfold Obligations.CheckpointsAndCopies
  refine ⟨?write, ?receive, ?takeover, ?prot, ?step, ?caravan, ?param, ?timing, ?dirty⟩
  case write =>
    exact fun s hrole hrun hint hlate hwhen => ⟨s.writeCkpt, if_pos ⟨hrole, hrun, hint, hlate, hwhen⟩, writeCkpt_pair s⟩
  case receive => exact fun x s hrole hlink => checkpointReceived_stores x hrole hlink
  case takeover => exact fun s htake hrole hrun => takeoverLoadComplete_ends htake hrole hrun
  case prot =>
    intro h kind gs target s hrole hlink
    refine ⟨_, exec_forwardedCommand h _ hrole hlink, fun k => ?_⟩
    refine (enterProt_group ..).trans ?_
    rw [group_of_prot (tells_journalCmd ..).quiet.prot]
    rfl
  case step => exact fun h r tod s hrole hlink => exec_forwardedCommand h _ hrole hlink
  case caravan => exact fun h r s hrole hlink => ⟨exec_forwardedCommand h _ hrole hlink, exec_forwardedCommand h _ hrole hlink⟩
  case param =>
    intro n obj v s hcopied hacc hobj hout hrole hlive hcur
    refine ⟨fun hnone => ?_, fun hkeys hdflt => ?_⟩
    · have hset := copyParams_one s [(n.key obj, v)] hcopied hacc hobj hout hcur (by rw [hnone]; rfl)
        (by simp [Table.find])
      exact ⟨_, exec_liveCopy_params hrole hlive _ rfl, hset.cur⟩
    · have hset := copyParams_one s [] hcopied hacc hobj hout hcur (by rw [List.append_nil, hkeys]; rfl) hdflt.symm
      exact ⟨_, exec_liveCopy_params hrole hlive _ rfl, hset.cur⟩
  case timing => exact fun r tod sel s hrole hlive => exec_liveCopy_timing hrole hlive r tod sel rfl
  case dirty =>
    intro recs g j s hrole hlive
    obtain ⟨hegr, hshadow⟩ := copyBank_shadow { s with pair := { s.pair with liveGen := g } } (s.shadow.writeAll recs)
    refine ⟨_, exec_liveCopy_dirty hrole hlive recs g (Nat.succ_ne_zero j), ?_, hegr, hshadow⟩
    rw [copyBank_pair]

end Sys2Proof.Machine
end

section
/-!
PROOFS. Protection: the PROT commands (O24), the timers and defects of a group (O25), merge pairs (O26); R211 to R241.
-/
namespace Sys2Proof.Machine
-- One theorem after the other: many at once need more stacks than the memory limit of the check allows.
set_option Elab.async false

/-! ### PROT commands (R219, R229) -/

theorem enterProt_rest (kind : Nat) (target : Bool) (gs : List Nat) (due : Rsn) (c : CmdRef) (s : State) :
    (s.enterProt kind target gs due c).prot = { s.prot with groups := (s.enterProt kind target gs due c).prot.groups } := by
  induction gs generalizing s with
  | nil => rfl
  | cons g gs ih => exact ih (s.modGroup g fun x => { x with pend := x.pend ++ [⟨due, kind, target, c⟩] })

/-- The boundary at which a PROT command that is accepted now is present. -/
def State.protDue (s : State) : Rsn := s.clk.rsn + (if s.paired && s.pair.linkUp then 2 else 1)

/-- The groups hold the command, and its completion waits for the boundary after it is present. -/
def State.protStored (s : State) (kind : Nat) (target : Bool) (gs : List Nat) (c : CmdRef) : State :=
  let u := s.enterProt kind target gs s.protDue c
  { u with prot := { u.prot with waits := u.prot.waits ++ [(s.protDue + 1, c, gs.length)] } }

theorem acceptProt_prot (s : State) (kind : Nat) (target : Bool) (gs : List Nat) (c : CmdRef) :
    (s.acceptProt kind target gs c).prot = (s.protStored kind target gs c).prot := by
  have heq : s.acceptProt kind target gs c = if s.paired && s.pair.linkUp then
      (s.protStored kind target gs c).forwardCmd c s.protDue (.prot kind gs target) else s.protStored kind target gs c := rfl
  rw [heq]
  split
  · exact (touches_forwardCmd ..).prot
  · rfl

theorem protEntered_of_prot {s t : State} {kind : Nat} {target : Bool} {gs : List Nat} {c : CmdRef}
    (h : t.prot = (s.acceptProt kind target gs c).prot) : s.protEntered t c kind target gs := by
  rw [acceptProt_prot] at h
  have hrest := enterProt_rest kind target gs s.protDue c s
  refine ⟨fun k => ?_, ?_, ?_⟩
  · have hgroup : t.group k = (s.enterProt kind target gs s.protDue c).group k := by unfold State.group; rw [h]; rfl
    exact hgroup.trans (enterProt_group kind target gs s.protDue c s k)
  · rw [h]
    exact (congrArg (fun x : Prot => x.waits ++ [(s.protDue + 1, c, gs.length)]) hrest :)
  · rw [h]
    exact (congrArg Prot.merges hrest :)

theorem protBody_accepts {kind target : Nat} {b : Buf} {gs : List Nat} {refused : Group → Bool} (c : CmdRef) {s : State}
    (hopen : s.protOpen b gs) (htarget : target ≤ 1) (hfree : ∀ k ∈ gs, refused (s.group k) = false) :
    protBody kind target b gs.length gs refused c s =
      .accept (s.acceptProt kind (target == 1) gs c) [(gs.headD 0, gs.length, target)] := by
  obtain ⟨hne, hcount, hlen, hread, hlow, hrole⟩ := hopen
  have hpos : 0 < gs.length := List.length_pos_iff.mpr hne
  unfold protBody
  rw [if_neg (by omega), List.take_length, guarded_pass _ (by simp; omega), checkItems_pass _ _ fun k hk => decide_eq_false (by have := hlow k hk; omega),
    guarded_pass _ (by simp [hread]), checkItems_pass _ _ hfree, guarded_pass _ (by simp [hrole])]

/-- A PROT command that meets no refusal stands in each of its groups. -/
theorem prot_accepts {i : Instr} {e : Entry} {d : CmdDesc} {kind target : Nat} {b : Buf} {gs : List Nat} {refused : Group → Bool}
    {pre : State → Prop} (hx : ∀ s, exec i s = serve (d.of i) e s (protBody kind target b gs.length gs refused)) (htarget : target ≤ 1)
    (hpre : ∀ s, pre s → s.protOpen b gs ∧ ∀ k ∈ gs, refused (s.group k) = false) :
    accepts i e d 1 pre fun c s t => s.protEntered t c kind (target == 1) gs := by
  refine accepts_told hx fun s c _ hp => ?_
  obtain ⟨hopen, hfree⟩ := hpre s hp
  exact ⟨_, _, protBody_accepts c hopen htarget hfree, rfl, fun u hu _ => protEntered_of_prot hu.prot⟩

/-- Settles O24: each PROT command passes its checks and enters its groups. -/
theorem protectionCommands : Obligations.ProtectionCommands := by
  unfold Obligations.ProtectionCommands
  refine ⟨fun e b gs => ?_, fun e b gs => ?_, fun e b gs target => ?_, fun e b gs => ?_⟩
  · exact prot_accepts (target := 0) (fun _ => rfl) (by omega) fun s h => ⟨h, fun _ _ => rfl⟩
  · exact prot_accepts (target := 0) (fun _ => rfl) (by omega) fun s h => ⟨h.1, fun k hk => beq_eq_false_iff_ne.mpr (h.2 k hk)⟩
  · exact prot_accepts (target := target.val) (fun _ => rfl) (by omega) fun s h =>
      ⟨h.1, fun k hk => decide_eq_false (by have := h.2 k hk; omega)⟩
  · exact prot_accepts (target := 0) (fun _ => rfl) (by omega) fun s h => ⟨h, fun _ _ => rfl⟩

/-! ### Groups that are evaluated again (R215 to R218, R228) -/

/-- An evaluation of a group decides what is requested and what is selected next; the rest of the group stays (R217). -/
theorem evalGroup_kept (s : State) (k : Nat) (g : Group) (moved : Bool) :
    (s.evalGroup k g moved).1.eff = g.eff ∧ (s.evalGroup k g moved).1.sel = g.sel ∧ (s.evalGroup k g moved).1.hold = g.hold ∧
      (s.evalGroup k g moved).1.apsl = g.apsl ∧ (s.evalGroup k g moved).1.fe = g.fe := by
  unfold State.evalGroup
  extract_lets rev high secs far empty start wtr loc _ g1 own
  split <;> exact ⟨rfl, rfl, rfl, rfl, rfl⟩

/-- An event of a group leaves every other group. -/
theorem again_other (s : State) {k j : Nat} (g : Group) (moved : Bool) (h : j ≠ k) : (s.again k g moved).group j = s.group j := by
  unfold State.again
  split
  · exact group_modGroup_other _ _ _ h
  · dsimp only
    split
    · rw [group_of_prot (tells_journalAuto ..).quiet.prot]
      exact group_modGroup_other _ _ _ h
    · exact group_modGroup_other _ _ _ h

/-- What an event leaves of its group: g as it stands, or as its evaluation makes it. -/
theorem again_same (s : State) (k : Nat) (g : Group) (moved : Bool) :
    (s.dev.mode.working = false → (s.again k g moved).group k = g) ∧
      (s.dev.mode.working = true → ∃ x, (s.again k g moved).group k = { (s.evalGroup k g moved).1 with cause := x }) := by
  unfold State.again
  constructor
  · intro h
    rw [if_pos h]
    exact group_modGroup ..
  · intro h
    rw [if_neg (by rw [h]; decide)]
    dsimp only
    refine ⟨if (s.evalGroup k g moved).1.next = g.next then g.cause else none, ?_⟩
    split
    · rw [group_of_prot (tells_journalAuto ..).quiet.prot]
      exact group_modGroup ..
    · exact group_modGroup ..

theorem again_kept (s : State) (k : Nat) (g : Group) (moved : Bool) :
    ((s.again k g moved).group k).eff = g.eff ∧ ((s.again k g moved).group k).sel = g.sel ∧ ((s.again k g moved).group k).hold = g.hold ∧
      ((s.again k g moved).group k).apsl = g.apsl ∧ ((s.again k g moved).group k).fe = g.fe := by
  obtain ⟨hidle, hworks⟩ := again_same s k g moved
  cases h : s.dev.mode.working
  · rw [hidle h]; exact ⟨rfl, rfl, rfl, rfl, rfl⟩
  · obtain ⟨x, hx⟩ := hworks h
    rw [hx]
    exact evalGroup_kept s k g moved

theorem onlyReports_modGroup (s : State) (k : Nat) (f : Group → Group) : s.onlyReports (s.modGroup k f) := onlyReports_of_counts rfl

theorem again_counts (s : State) (k : Nat) (g : Group) (moved : Bool) : s.onlyReports (s.again k g moved) := by
  unfold State.again
  split
  · exact onlyReports_modGroup ..
  · dsimp only
    split
    · exact (onlyReports_modGroup ..).trans (onlyReports_journalAuto ..)
    · exact onlyReports_modGroup ..

/-! ### The WTR timer (R218, R241) -/

/-- The group of an alternate stands in 16 bits of its map entry (R182). -/
theorem group_of_groupConns {s : State} {k : Nat} (h : s.groupConns k ≠ []) : k < 65536 := by
  obtain ⟨c, hc⟩ := List.exists_mem_of_ne_nil _ h
  unfold State.groupConns at hc
  obtain ⟨hmem, hk⟩ := List.mem_filter.mp hc
  obtain ⟨x, hx, rfl⟩ := List.mem_map.mp hmem
  unfold Bank.conns at hx
  obtain ⟨y, -, rfl⟩ := List.mem_map.mp hx
  unfold Bank.conn at hk
  dsimp only at hk
  split at hk
  · next a g halt =>
    obtain rfl : g = k := beq_iff_eq.mp hk
    split at halt
    · obtain ⟨-, rfl⟩ := Prod.mk.inj (Option.some.inj halt)
      exact Nat.mod_lt _ (by decide)
    · cases halt
  · cases hk

/-- The group whose timer has run out. -/
def Group.restored (g : Group) : Group := { g with wtr := none, loc := 0x5 }

theorem evalGroup_restored_wtr (s : State) (k : Nat) (g : Group) : (s.evalGroup k g.restored true).1.wtr = none := by
  unfold State.evalGroup
  extract_lets rev high secs far empty start wtr loc _ g1 own
  have hstart : start = false := by
    unfold start
    have hloc : (g.restored.loc == 0xB || g.restored.loc == 0x9) = false := rfl
    rw [hloc]; simp
  have hwtr : wtr = none := by
    unfold wtr
    rw [hstart]
    split
    · rfl
    · rfl
  split <;> exact hwtr

/-- Where nothing else is requested, the request falls to NR and the selection to PRIMARY (R218). -/
theorem evalGroup_restored_idle {s : State} {k : Nat} {g : Group} (hhigh : g.highReq = 0) (hrev : s.flag .protRevertive k = true)
    (hdir : s.flag .protDirection k = false) (hconns : s.groupConns k ≠ []) :
    (s.evalGroup k g.restored true).1.loc = 0 ∧ (s.evalGroup k g.restored true).1.next = false := by
  have hwtr := evalGroup_restored_wtr s k g
  have hempty : (s.groupConns k).isEmpty = false := by simpa using hconns
  have hhigh' : g.restored.highReq = 0 := hhigh
  unfold State.evalGroup at hwtr ⊢
  rw [hdir, hrev, hempty, hhigh'] at *
  simp only [Group.restored] at hwtr ⊢
  simp [Group.demand, reqSel]

theorem wtrExpiry_expires {k n : Nat} {s : State} (hwtr : (s.group k).wtr = some n) (hlate : s.elapsed n (s.eff .protWtr k * secTicks) = true)
    (hconns : s.groupConns k ≠ []) :
    ∃ t, exec (.wtrExpiry k) s = .next t ∧ (t.group k).wtr = none ∧ (t.group k).sel = (s.group k).sel ∧
      t.cnt .protPmWtrExpired k = (s.cnt .protPmWtrExpired k + 1) % 2 ^ 48 ∧
      (s.dev.mode.working = true → (s.group k).highReq = 0 → s.flag .protRevertive k = true → s.flag .protDirection k = false →
        (t.group k).loc = 0 ∧ (t.group k).next = false) ∧
      ∀ j, j ≠ k → t.group j = s.group j := by
  let u := s.again k (s.group k).restored true
  have hexec : exec (.wtrExpiry k) s = .next (u.bump .protPmWtrExpired k 1) := by
    change execWtrExpiry k s = _
    unfold execWtrExpiry
    dsimp only
    rw [hwtr]
    refine if_pos ?_
    rw [hlate]
    simpa using hconns
  have hgroup : ∀ j, (u.bump .protPmWtrExpired k 1).group j = u.group j := group_of_prot (tells_bump ..).quiet.prot
  obtain ⟨hidle, hworks⟩ := again_same s k (s.group k).restored true
  refine ⟨_, hexec, ?_, ?_, ?_, fun hwork hhigh hrev hdir => ?_, fun j hj => ?_⟩
  · rw [hgroup]
    cases hw : s.dev.mode.working
    · rw [hidle hw]; rfl
    · obtain ⟨x, hx⟩ := hworks hw
      rw [hx]
      exact evalGroup_restored_wtr ..
  · rw [hgroup]
    exact (again_kept s k (s.group k).restored true).2.1
  · rw [← (again_counts s k (s.group k).restored true).cnt .protPmWtrExpired (o := k) (ho := group_of_groupConns hconns)]
    exact Table.get_set_same ..
  · rw [hgroup]
    obtain ⟨x, hx⟩ := hworks hwork
    rw [hx]
    exact evalGroup_restored_idle hhigh hrev hdir hconns
  · rw [hgroup]
    exact again_other s _ true hj

/-! ### Hold-offs and the defects of APS (R215, R227, R228) -/

theorem condAt_condSet (c : Bool × Bool × Bool × Bool) (i : Fin 4) (b : Bool) : condAt (condSet c i b) i = b := by
  match i with
  | 0 => rfl
  | 1 => rfl
  | 2 => rfl
  | 3 => rfl

theorem holdoffExpiry_effective {k : Nat} {i : Fin 4} {b : Rsn} {s : State}
    (hheld : (s.group k).hold.find? (fun x => x.1 == i.val) = some (i.val, b)) (hcond : condAt (s.group k).cond i = true)
    (hlate : rsnLe (b + BitVec.ofNat 48 (s.eff .protHoldoff k)) s.clk.rsn = true) :
    ∃ t, exec (.holdoffExpiry k i) s = .next t ∧ condAt (t.group k).eff i = true ∧ (t.group k).sel = (s.group k).sel ∧
      (∀ x ∈ (t.group k).hold, x.1 ≠ i.val) ∧ ∀ j, j ≠ k → t.group j = s.group j := by
  let g : Group := { s.group k with
    eff := condSet (s.group k).eff i.val true
    hold := (s.group k).hold.filter fun x => x.1 != i.val }
  have hexec : exec (.holdoffExpiry k i) s = .next (s.again k g false) := by
    change execHoldoffExpiry k i s = _
    unfold execHoldoffExpiry
    dsimp only
    rw [hheld]
    exact if_pos ⟨hcond, hlate⟩
  obtain ⟨heff, hsel, hhold, -, -⟩ := again_kept s k g false
  refine ⟨_, hexec, ?_, hsel, fun x hx => ?_, fun j hj => again_other s g false hj⟩
  · rw [heff]; exact condAt_condSet ..
  · rw [hhold] at hx
    simpa using (List.mem_filter.mp hx).2

/-- A step that modifies one group, or none. -/
theorem modGroup_rest {s : State} {k : Nat} (f : Group → Group) : ∀ j, j ≠ k → (s.modGroup k f).group j = s.group j :=
  fun _ hj => group_modGroup_other s k f hj

theorem psm_integrates (k : Nat) (s : State) : ∃ t, exec (.apsDefectIntegration k true) s = .next t ∧
    ((s.group k).psm = false → 16384 ≤ (s.group k).psmRun.1 → t.group k = { s.group k with psm := true }) ∧
    ((s.group k).psm = true → 625 ≤ (s.group k).psmRun.2 ∨ s.flag .protDirection k = false → t.group k = { s.group k with psm := false }) ∧
    ∀ j, j ≠ k → t.group j = s.group j := by
  change ∃ t, execApsDefectIntegration k true s = .next t ∧ _
  unfold execApsDefectIntegration
  dsimp only
  rw [if_pos rfl]
  cases hpsm : (s.group k).psm
  · by_cases hrun : 16384 ≤ (s.group k).psmRun.1
    · rw [if_pos (by simp [hrun])]
      exact ⟨_, rfl, fun _ _ => group_modGroup .., nofun, modGroup_rest _⟩
    · rw [if_neg (by simp [hrun]), if_neg (by simp)]
      exact ⟨_, rfl, fun _ h => absurd h hrun, nofun, fun _ _ => rfl⟩
  · rw [if_neg (by simp)]
    by_cases hrun : 625 ≤ (s.group k).psmRun.2 ∨ s.flag .protDirection k = false
    · rw [if_pos (by simpa using hrun)]
      exact ⟨_, rfl, nofun, fun _ _ => group_modGroup .., modGroup_rest _⟩
    · rw [if_neg (by simpa using hrun)]
      exact ⟨_, rfl, nofun, fun _ h => absurd h hrun, fun _ _ => rfl⟩

theorem apsl_integrates (k : Nat) (s : State) : ∃ t, exec (.apsDefectIntegration k false) s = .next t ∧
    (s.flag .protDirection k = true → (s.group k).apsl = false →
      64 ≤ (s.group k).feAge → 3 * (((s.apsMembers (s.eff .protApsLane k)).length + 1) / 2) ≤ (s.group k).feAge →
      (t.group k).apsl = true ∧ (t.group k).fe = none ∧ (t.group k).sel = (s.group k).sel) ∧
    ((s.group k).apsl = true → (s.group k).feAge = 0 → t.group k = { s.group k with apsl := false }) ∧
    ∀ j, j ≠ k → t.group j = s.group j := by
  change ∃ t, execApsDefectIntegration k false s = .next t ∧ _
  unfold execApsDefectIntegration
  dsimp only
  rw [if_neg Bool.false_ne_true]
  by_cases hset : (s.flag .protDirection k && !(s.group k).apsl &&
      decide (max 64 (3 * (((s.apsMembers (s.eff .protApsLane k)).length + 1) / 2)) ≤ (s.group k).feAge)) = true
  · rw [if_pos hset]
    obtain ⟨-, hsel, -, hapsl, hfe⟩ := again_kept s k { s.group k with apsl := true, fe := none } false
    refine ⟨_, rfl, fun _ _ _ _ => ⟨hapsl, hfe, hsel⟩, fun h => ?_, fun j hj => again_other s _ false hj⟩
    rw [h] at hset
    simp at hset
  · rw [if_neg hset]
    by_cases hclear : ((s.group k).apsl && (decide ((s.group k).feAge = 0) || !s.flag .protDirection k)) = true
    · rw [if_pos hclear]
      refine ⟨_, rfl, fun _ h => ?_, fun _ _ => group_modGroup .., modGroup_rest _⟩
      rw [h] at hclear
      simp at hclear
    · rw [if_neg hclear]
      refine ⟨_, rfl, fun hdir hoff h64 hage => absurd ?_ hset, fun hon hage => absurd ?_ hclear, fun _ _ => rfl⟩
      · rw [hdir, hoff, decide_eq_true (Nat.max_le.mpr ⟨h64, hage⟩)]; rfl
      · rw [hon, hage]; rfl

/-- Settles O25, by what each event of a group makes of it and of the others. -/
theorem protectionTimers : Obligations.ProtectionTimers := by
  unfold Obligations.ProtectionTimers
  refine ⟨?hold, ?wtr, ?empty, ?psm, ?apsl, ?forward⟩
  case hold => exact fun k i b s hheld hcond hlate => holdoffExpiry_effective hheld hcond hlate
  case wtr => exact fun k n s hwtr hlate hconns => wtrExpiry_expires hwtr hlate hconns
  case empty =>
    intro k s hconns
    change execWtrExpiry k s = _
    unfold execWtrExpiry
    dsimp only
    split
    · rfl
    · exact if_neg (by rw [hconns]; simp)
  case psm => exact psm_integrates
  case apsl => exact apsl_integrates
  case forward => exact fun l row bytes s hrole hrow => if_pos ⟨hrole, hrow⟩

/-! ### Merge pairs (R232, R235) -/

theorem mergeChecks_pass {s : State} {a b : Nat} (ha : a ≤ 511) (hb : b ≤ 511) (hne : a ≠ b) (htile : a / 8 = b / 8)
    (hfew : (s.prot.merges.filter fun m => m.low / 8 == a / 8).length < 4) (hall : s.prot.merges.length < 256) (hpa : s.pairOf a = none)
    (hpb : s.pairOf b = none) (hmode : s.cur .laneMode a = s.cur .laneMode b) (hclk : s.cur .laneClocking a = s.cur .laneClocking b)
    (hegr : s.egrB.sourceLane (max a b) = false) (hshadow : s.shadow.sourceLane (max a b) = false)
    (htribs : ∀ x ∈ s.tribs, x.2.on = true → x.2.lane ≠ max a b) (hrole : s.dev.role ≠ .follower)
    (hlink : s.paired = true → s.pair.linkUp = true) : ∀ x ∈ s.mergeChecks a b, x.1 = false := by
  have hany : (s.tribs.any fun t => t.2.on && t.2.lane == max a b) = false := by
    refine List.any_eq_false.mpr fun x hx => ?_
    simpa using htribs x hx
  have hdown : (s.paired && !s.pair.linkUp) = false := by
    cases hp : s.paired
    · rfl
    · rw [hlink hp]; rfl
  unfold State.mergeChecks State.holderChecks
  dsimp only
  rw [hpa, hpb, hegr, hshadow, hmode, hclk, hany, hdown]
  rw [htile] at hfew
  simp [hne, htile, hrole]
  exact ⟨⟨ha, hb⟩, hfew, hall⟩

theorem forwardedPair_prot (s : State) (p : Bool) (c : CmdRef) (row : Rsn) (f : Forwarded) :
    (if p then s.forwardCmd c row f else s).prot = s.prot := by
  split
  · exact (touches_forwardCmd ..).prot
  · rfl

theorem mergeEntryEffect_acts (l : Fin 512) (m : Merge) (s : State) (hpair : s.pairOf l = some m) :
    ∃ t, exec (.mergeEntryEffect l) s = .next t ∧
      (m.active = false → rsnLe m.entry s.clk.rsn = true →
        t.prot = { s.prot with merges := s.prot.merges.map fun x => if x.low = m.low then { x with
          active := true
          ref := none } else x }) ∧
      (∀ r, m.active = true → m.ending = some r → rsnLe r s.clk.rsn = true →
        t.prot = { s.prot with merges := s.prot.merges.filter fun x => x.low != m.low }) := by
  change ∃ t, execMergeEntryEffect l s = .next t ∧ _
  unfold execMergeEntryEffect
  rw [hpair]
  dsimp only
  by_cases hbegin : (!m.active && rsnLe m.entry s.clk.rsn) = true
  · rw [if_pos hbegin]
    refine ⟨_, rfl, fun _ _ => ?_, fun r hon => ?_⟩
    · rw [(touches_completeOpt ..).prot, (touches_newAnchor ..).prot, (touches_newAnchor ..).prot]
      rfl
    · rw [hon] at hbegin
      simp at hbegin
  · rw [if_neg hbegin]
    have hnot : ¬(m.active = false ∧ rsnLe m.entry s.clk.rsn = true) := fun h => hbegin (by rw [h.1, h.2]; rfl)
    cases hend : m.ending with
    | none => exact ⟨_, rfl, fun ha hr => absurd ⟨ha, hr⟩ hnot, nofun⟩
    | some r =>
      dsimp only
      by_cases hdue : rsnLe r s.clk.rsn = true
      · rw [if_pos hdue]
        refine ⟨_, rfl, fun ha hr => absurd ⟨ha, hr⟩ hnot, fun _ _ _ _ => ?_⟩
        rw [(touches_completeOpt ..).prot, (touches_completeOpt ..).prot, (touches_aloneAis ..).prot, (touches_aloneAis ..).prot,
          (touches_newAnchor ..).prot, (touches_newAnchor ..).prot]
      · rw [if_neg hdue]
        refine ⟨_, rfl, fun ha hr => absurd ⟨ha, hr⟩ hnot, fun q _ hq hr => ?_⟩
        obtain rfl := Option.some.inj hq
        exact absurd hr hdue

section
variable {l : Fin 512} {m : Merge} {s : State} (hpair : s.pairOf l = some m)
include hpair

theorem exec_mergeDefect (d : MergeDefect) : exec (.mergeDefectIntegration l d) s =
    match d with
    | .mdi => if !m.mdi && decide (2 ≤ m.runs.1) then .next (s.modPair m.low fun x => { x with mdi := true })
      else if m.mdi && decide (8 ≤ m.runs.2.1) then .next (s.modPair m.low fun x => { x with mdi := false }) else .next s
    | .mdiff => if !m.mdiff && m.runs.2.2.1 == 1 then .next (s.modPair m.low fun x => { x with mdiff := true })
      else if m.mdiff && decide (626 ≤ m.runs.2.2.1) then .next (s.modPair m.low fun x => { x with mdiff := false }) else .next s
    | .mskw => if !m.mskw && decide (64 ≤ m.runs.2.2.2.1) then .next (s.modPair m.low fun x => { x with mskw := true })
      else if m.mskw && (decide (64 ≤ m.runs.2.2.2.2) || s.eff .mergeSkewWarn m.low == 0) then
        .next (s.modPair m.low fun x => { x with mskw := false }) else .next s
    | .mpln => if s.planeWrong m.laneA 0 || s.planeWrong m.laneB 1 then .next (s.modPair m.low fun x => { x with mpln := true })
      else if m.mpln && (s.planeRight m.laneA 0 || s.planeRight m.laneB 1) then .next (s.modPair m.low fun x => { x with mpln := false })
      else .next s := by
  change execMergeDefectIntegration l d s = _
  unfold execMergeDefectIntegration
  rw [hpair] <;> cases d <;> rfl

end

/-- Settles O26, by the checks of the two commands, the entry rows, and each defect's integration. -/
theorem mergePairs : Obligations.MergePairs := by
  unfold Obligations.MergePairs
  refine ⟨?create, ?delete, mergeEntryEffect_acts, ?defects⟩
  case create =>
    intro e a b
    refine accepts_told (body := mergeCreateBody a b) (fun _ => rfl) fun s c _ hp => ?_
    obtain ⟨ha, hb, hne, htile, hfew, hall, hpa, hpb, hmode, hclk, hegr, hshadow, htribs, hrole, hlink⟩ := hp
    refine ⟨_, _, guarded_pass _ (mergeChecks_pass ha hb hne htile hfew hall hpa hpb hmode hclk hegr hshadow htribs hrole hlink), rfl,
      fun u hu _ => ?_⟩
    rw [hu.prot, forwardedPair_prot]
    rfl
  case delete =>
    intro e l m
    refine accepts_told (body := mergeDeleteBody l) (fun _ => rfl) fun s c _ hp => ?_
    obtain ⟨hl, hpair, hending, hrole, hlink⟩ := hp
    have hdown : (s.paired && !s.pair.linkUp) = false := by
      cases hp : s.paired
      · rfl
      · rw [hlink hp]; rfl
    have hmerged : s.notMerged l = false := by unfold State.notMerged; rw [hpair]; dsimp only; rw [hending]; rfl
    refine ⟨_, _, guarded_pass _ ?_, rfl, fun u hu _ => ?_⟩
    · unfold State.holderChecks
      rw [hmerged, hdown]
      simp [hrole]
      omega
    · rw [hu.prot, forwardedPair_prot]
      unfold State.endPair
      rw [hpair]
      rfl
  case defects =>
    intro l m s hpair
    refine ⟨fun h k => ?_, fun h k => ?_, fun h k => ?_, fun h k => ?_, fun h k => ?_, fun h k => ?_, fun h => ?_, fun h k l r => ?_⟩
    all_goals rw [exec_mergeDefect hpair]; dsimp only
    · exact if_pos (by simp [h, k])
    · rw [if_neg (by simp [h]), if_pos (by simp [h, k])]
    · exact if_pos (by simp [h, k])
    · rw [if_neg (by simp [h]), if_pos (by simp [h, k])]
    · exact if_pos (by simp [h, k])
    · rw [if_neg (by simp [h]), if_pos (by simp [h, k])]
    · exact if_pos (by simpa using h)
    · rw [if_neg (by simp [k, l]), if_pos (by simpa [h] using r)]

end Sys2Proof.Machine
end

section
/-!
PROOFS. Timing: the commands (O27), the qualification of references (O28), the DPLL (O29), pulses and the time of day (O30); R279 to
R309.
-/
namespace Sys2Proof.Machine
-- One theorem after the other: many at once need more stacks than the memory limit of the check allows.
set_option Elab.async false

/-! ### Commands of the timing subsystem (R287, R298, R299) -/

/-- A command that stores itself for the next boundary. -/
theorem timing_accepts {i : Instr} {e : Entry} {d : CmdDesc} {pre : State → Prop} {body : CmdRef → State → Reply} {kind ref rank : Nat}
    (hx : ∀ s, exec i s = serve (d.of i) e s body) (hb : ∀ s c, pre s → body c s = acceptTiming s kind ref rank c) :
    accepts i e d 1 pre
      (fun c s t => t.tim = { s.tim with cmdPend := s.tim.cmdPend ++ [(s.clk.rsn + 1, kind, ref, rank, c)] }) :=
  accepts_told hx fun s c _ hp => ⟨_, _, hb s c hp, rfl, fun _ hu _ => hu.tim⟩

/-- The boundary at which a TIMING.STEP that is accepted now takes place. -/
def State.stepDue (s : State) : Rsn := s.clk.rsn + (if s.paired then 2 else 1)

/-- A TIMING.STEP waits for its boundary. -/
def State.stepStored (s : State) (c : CmdRef) : State := { s with tim := { s.tim with step := s.tim.step ++ [(s.stepDue, some c)] } }

theorem stepForwarded_keeps (u : State) (p : Bool) (c : CmdRef) (row : Rsn) (f : Forwarded) :
    (if p then u.forwardCmd c row f else u).tim = u.tim ∧ (if p then u.forwardCmd c row f else u).clk = u.clk := by
  have htold := touches_forwardCmd u c row f
  cases p
  · exact ⟨rfl, rfl⟩
  · exact ⟨htold.tim, htold.clk⟩

theorem timingStep_accepts (e : Entry) :
    accepts (.timingStep e) e ⟨0x0A06, 3, false, false, []⟩ 1
      (fun s => s.commitPending = false ∧ s.dev.role ≠ .follower ∧ (s.paired = true → s.pair.linkUp = true))
      (fun c s t => t.tim = { s.tim with step := s.tim.step ++ [(s.clk.rsn + (if s.paired then 2 else 1), some c)] } ∧ t.clk = s.clk) := by
  refine accepts_of_finish (body := timingStepBody) (fun _ => rfl) fun s c hroom ⟨hcommit, hrole, hlink⟩ => ?_
  have hdown : (s.paired && !s.pair.linkUp) = false := by
    cases hp : s.paired
    · rfl
    · rw [hlink hp]; rfl
  unfold timingStepBody State.holderChecks
  rw [guarded_pass _ (by simp [hcommit, hrole, hdown])]
  have hquiet := finish_acceptReserved c e.submitSeq (fun s : State =>
    let u := s.stepStored c
    if u.paired then u.forwardCmd c s.stepDue (.timingStep (u.alignedAt s.stepDue).1 (u.alignedAt s.stepDue).2.1) else u) hroom
  exact ⟨hquiet.tim.trans (stepForwarded_keeps ..).1, hquiet.clk.trans (stepForwarded_keeps ..).2⟩

/-- Settles O27, by the checks that each command passes and what it stores. -/
theorem timingCommands : Obligations.TimingCommands := by
  unfold Obligations.TimingCommands
  refine ⟨fun e i => timing_accepts (body := timingForceBody i) (fun _ => rfl) fun s c ⟨hi, hrole⟩ => ?_,
    fun e i => timing_accepts (body := timingManualBody i) (fun _ => rfl) fun s c ⟨hi, hrole, hok⟩ => ?_,
    fun e => timing_accepts (body := timingHoldoverBody) (fun _ => rfl) fun s c ⟨hrole, hvalid⟩ => ?_,
    fun e => timing_accepts (body := timingClearBody) (fun _ => rfl) fun s c hrole => ?_,
    fun e i rank => timing_accepts (body := timingSetQlBody i rank) (fun _ => rfl) fun s c ⟨hi, hrank, hrole⟩ => ?_,
    timingStep_accepts, fun e seconds => completes_told (body := timingSetTodBody seconds) (fun _ => rfl) fun s c _ hrole => ?_⟩
  · exact guarded_pass _ (by simp [State.notHolder, hrole]; omega)
  · exact guarded_pass _ (by simp [State.notHolder, hrole, hok]; omega)
  · exact guarded_pass _ (by simp [State.notHolder, hrole, hvalid])
  · exact guarded_pass _ (by simpa [State.notHolder] using hrole)
  · exact guarded_pass _ (by simp [State.notHolder, hrole]; omega)
  · exact ⟨_, _, guarded_pass _ (by simpa [State.notHolder] using hrole), rfl, ownPlaceKept_of_host e rfl, fun u hu _ _ => ⟨hu.1.clk, hu.1.tim⟩⟩

/-! ### Qualification (R282 to R284, R305) -/

/-- An input with nine seconds of means, and a cut at the tick under way that left the means none. -/
def cutReference : State := { tim := { inputs := [(0, { meanSecs := 9, cut := some (0, 0) })] } }

/-- Refutes O28: the ten seconds that the limits of a mean need are counted from those that the cut of the tick under way has left, which
may be none where the field meanSecs holds nine; the hard limit then judges nothing. -/
theorem not_referenceQualification : ¬ Obligations.ReferenceQualification := by
  intro h
  obtain ⟨-, -, hmean, -⟩ := h
  obtain ⟨t, ht, -, -, -, hhard, -⟩ := hmean 0 1000000000 0 cutReference
  obtain ⟨hset, -⟩ := hhard (by decide +kernel) (by decide +kernel) (by decide +kernel) (by decide +kernel)
  have hafter : valueAfter (fun t => (t.refIn 0).rfh) (.refMeanUpdate 0 1000000000 0) cutReference = some false := by decide +kernel
  rw [valueAfter_next _ ht] at hafter
  exact absurd (Option.some.inj hafter) (by rw [show (t.refIn 0).rfh = true from hset]; decide)

/-! ### States of the DPLL (R288 to R294) -/

theorem setDpll_tim (s : State) (d : Dpll) : (s.setDpll d).tim = if s.tim.state = d then s.tim else
    { s.tim with
      state := d
      stateTick := s.clk.tick
      calmTick := none
      lockFor := if d = Dpll.acquire then s.cur .timingLockTimeout 0 else s.tim.lockFor
      hist := if d = Dpll.locked then [] else s.tim.hist
      histValid := s.tim.histValid && d != Dpll.freerun } := by
  unfold State.setDpll
  dsimp only
  split
  · rfl
  · refine (tells_journalAuto ..).touches.tim.trans ?_
    split
    · exact (tells_bump ..).touches.tim
    · rfl

@[simp] theorem setDpll_state (s : State) (d : Dpll) : (s.setDpll d).tim.state = d := by
  rw [setDpll_tim]; split <;> simp [*]

@[simp] theorem setDpll_sel (s : State) (d : Dpll) : (s.setDpll d).tim.sel = s.tim.sel := by
  rw [setDpll_tim]; split <;> rfl

@[simp] theorem setDpll_switching (s : State) (d : Dpll) : (s.setDpll d).tim.switching = s.tim.switching := by
  rw [setDpll_tim]; split <;> rfl

theorem setDpll_stateTick {s : State} {d : Dpll} (h : s.tim.state ≠ d) : (s.setDpll d).tim.stateTick = s.clk.tick := by
  rw [setDpll_tim, if_neg h]

theorem holdOver_entered (s : State) : s.holdOver.tim.switching = false ∧ s.holdOver.tim.sel = 31 ∧
    s.holdOver.tim.state = if s.tim.histValid = true ∧ s.tim.oxf = false then .oasis else .freerun := by
  unfold State.holdOver
  dsimp only
  refine ⟨setDpll_switching .., setDpll_sel .., (setDpll_state ..).trans ?_⟩
  cases s.tim.histValid <;> cases s.tim.oxf <;> rfl

/-- Where the selection stays, an evaluation changes nothing. -/
theorem evalRef_stays {s : State} (hcmd : s.tim.cmd ≠ 2 ∨ s.eligible s.tim.cmdInput = true) (hsel : s.wanted = some s.tim.sel) :
    s.evalRef = s := by
  have hkept : (s.tim.cmd == 2 && !s.eligible s.tim.cmdInput) = false := by
    rcases hcmd with h | h
    · simp [h]
    · simp [h]
  unfold State.evalRef
  dsimp only
  split
  · rfl
  · rw [hkept, if_neg Bool.false_ne_true, hsel]
    exact if_pos rfl

/-- The switch under way has no part in the order of the candidates. -/
theorem bestRef_switched (s : State) (b : Bool) (l : List Nat) :
    ({ s with tim := { s.tim with switching := b } } : State).bestRef l = s.bestRef l := by
  induction l with
  | nil => rfl
  | cons i r ih =>
    unfold State.bestRef
    rw [ih]
    rfl

theorem wanted_switched (s : State) (b : Bool) : ({ s with tim := { s.tim with switching := b } } : State).wanted = s.wanted := by
  unfold State.wanted State.candidate
  rw [bestRef_switched]
  rfl

theorem switchComplete_ends {s : State} (hswitch : s.tim.switching = true) :
    ∃ t, exec .switchComplete s = .next t ∧
      (s.tim.cmd = 3 → t.tim.switching = false ∧ t.tim.sel = 31 ∧
        t.tim.state = if s.tim.histValid = true ∧ s.tim.oxf = false then .oasis else .freerun) ∧
      (s.tim.cmd ≠ 3 → s.tim.cmd ≠ 2 ∨ s.eligible s.tim.cmdInput = true → s.wanted = some s.tim.sel →
        t.tim.switching = false ∧ t.tim.sel = s.tim.sel ∧
        t.tim.state = (if s.tim.clampHit = true ∧ s.tim.state = .locked ∧ (s.refIn s.tim.sel).qual = .qualified then .pulled
          else s.tim.state)) := by
  change ∃ t, execSwitchComplete s = .next t ∧ _
  unfold execSwitchComplete
  rw [if_pos hswitch]
  dsimp only
  by_cases hcmd : s.tim.cmd = 3
  · rw [if_pos hcmd]
    exact ⟨_, rfl, fun _ => holdOver_entered _, fun h => absurd hcmd h⟩
  · rw [if_neg hcmd]
    refine ⟨_, rfl, fun h => absurd h hcmd, fun _ hopen hsel => ?_⟩
    rw [evalRef_stays (s := { s with tim := { s.tim with switching := false } }) hopen ((wanted_switched s false).trans hsel)]
    dsimp only
    split
    next h =>
      refine ⟨setDpll_switching .., setDpll_sel .., (setDpll_state ..).trans (if_pos ?_).symm⟩
      simpa [State.refIn, and_assoc, and_comm, and_left_comm] using h
    next h =>
      refine ⟨rfl, rfl, (if_neg fun hall => h ?_).symm⟩
      simpa [State.refIn, and_assoc, and_comm, and_left_comm] using hall

theorem dpllLockAchieved_locks {s : State} (hstate : s.tim.state = .acquire) (hlate : s.elapsed s.tim.stateTick (4 * secTicks) = true) :
    ∃ t, exec .dpllLockAchieved s = .next t ∧ t.tim.state = .locked ∧ t.tim.stateTick = s.clk.tick ∧ t.tim.sel = s.tim.sel :=
  ⟨_, if_pos ⟨hstate, hlate⟩, setDpll_state .., setDpll_stateTick (by rw [hstate]; nofun), setDpll_sel ..⟩

theorem pulledRecovery_locks {n : Nat} {s : State} (hcalm : s.tim.calmTick = some n) (hstate : s.tim.state = .pulled)
    (hlate : s.elapsed n (10 * secTicks) = true) :
    ∃ t, exec .pulledRecovery s = .next t ∧ t.tim.state = .locked ∧ t.tim.sel = s.tim.sel := by
  change ∃ t, execPulledRecovery s = .next t ∧ _
  unfold execPulledRecovery
  rw [hcalm]
  exact ⟨_, if_pos ⟨hstate, hlate⟩, setDpll_state .., setDpll_sel ..⟩

theorem refIn_bump (s : State) (n : Pn) (o k i : Nat) : (s.bump n o k).refIn i = s.refIn i := by
  unfold State.refIn; rw [(tells_bump s n o k).touches.tim]

theorem disqualify_qual (s : State) (i : Nat) : ((s.disqualify i).refIn i).qual = .disqualified := by
  unfold State.disqualify
  split
  · assumption
  · rw [refIn_bump, refIn_modRefIn]

/-- A disqualification leaves the defects of its input. -/
theorem disqualify_defects (s : State) (i : Nat) :
    ((s.disqualify i).refIn i).rnl = (s.refIn i).rnl ∧ ((s.disqualify i).refIn i).barred = (s.refIn i).barred := by
  unfold State.disqualify
  split
  · exact ⟨rfl, rfl⟩
  · rw [refIn_bump, refIn_modRefIn]
    exact ⟨rfl, rfl⟩

theorem lockTimeout_disqualifies {s : State} (hstate : s.tim.state = .acquire) (hsel : s.tim.sel < 24) (hfor : s.tim.lockFor ≠ 0)
    (hlate : s.elapsed s.tim.stateTick (s.tim.lockFor * secTicks) = true) :
    ∃ t, exec .lockTimeout s = .next t ∧
      ((s.refIn s.tim.sel).barred = true → (t.refIn s.tim.sel).rnl = true ∧ (t.refIn s.tim.sel).qual = .disqualified) ∧
      ((s.refIn s.tim.sel).barred = false →
        (t.refIn s.tim.sel).qual = if s.cur .timingRefWtr 0 = 0 then .qualified else .waiting) := by
  refine ⟨_, if_pos ⟨hstate, hsel, hfor, hlate⟩, ?_⟩
  generalize s.tim.sel = i
  have hqual := disqualify_qual (s.modRefIn i fun x => { x with rnl := true }) i
  have hcur : ((s.modRefIn i fun x => { x with rnl := true }).disqualify i).cur .timingRefWtr 0 = s.cur .timingRefWtr 0 :=
    (touches_disqualify ..).cur ..
  obtain ⟨hrnl, hbarred⟩ := disqualify_defects (s.modRefIn i fun x => { x with rnl := true }) i
  rw [refIn_modRefIn] at hrnl hbarred
  revert hqual hcur hrnl hbarred
  generalize (s.modRefIn i fun x => { x with rnl := true }).disqualify i = u
  intro hqual hcur hrnl hbarred
  have hsame : (u.refIn i).barred = (s.refIn i).barred := hbarred
  unfold State.tryWait
  dsimp only
  refine ⟨fun hbar => ?_, fun hbar => ?_⟩
  · rw [if_pos (Or.inr (hsame.trans hbar))]
    exact ⟨hrnl, hqual⟩
  · rw [if_neg (by simp [hqual, hsame, hbar]), refIn_modRefIn, hcur]

theorem ocxoFailure_fails (s : State) : ∃ t, exec .ocxoFailure s = .next t ∧ t.tim.oxf = true ∧ t.tim.histValid = false ∧
    t.tim.state = if s.tim.state = .oasis then .freerun else s.tim.state := by
  refine ⟨_, rfl, ?_⟩
  dsimp only
  by_cases hoasis : s.tim.state = .oasis
  · rw [if_pos hoasis, if_pos hoasis, setDpll_tim]
    rw [if_neg (show ¬ s.tim.state = .freerun by rw [hoasis]; nofun)]
    exact ⟨rfl, rfl, rfl⟩
  · rw [if_neg hoasis, if_neg hoasis]
    exact ⟨rfl, rfl, rfl⟩

theorem ocxoSensorRead_records (x : OcxoSecond) (h : List (Int × Option Int)) (s : State)
    (hh : h = ((x.freqPpt, x.milliK) :: s.tim.hist).take 300) :
    ∃ t, exec (.ocxoSensorRead x) s = .next t ∧ t.tim.osensAt = s.cur .timingOsensAddr 0 ∧ t.tim.sel = s.tim.sel ∧
      (x.milliK = none → t.tim.sensorFails = s.tim.sensorFails + 1 ∧ (4 ≤ s.tim.sensorFails → t.tim.osns = true) ∧
        t.tim.temp = s.tim.temp ∧ t.tim.samples = s.tim.samples) ∧
      (∀ k, x.milliK = some k → t.tim.osns = false ∧ t.tim.sensorFails = 0 ∧ t.tim.temp = some k ∧
        (s.tim.state = .locked → t.tim.samples = ((k, x.freqPpt) :: s.tim.samples).take 86400)) ∧
      (s.tim.state = .locked → t.tim.hist = h ∧
        t.tim.histMean = (if h.length = 300 then meanOf (h.map (·.1)) else s.tim.histMean) ∧
        (t.tim.tempValid = true ↔ 2000 ≤ spanOf (t.tim.samples.map (·.1)))) ∧
      (s.tim.state ≠ .locked → t.tim.hist = s.tim.hist ∧ t.tim.histMean = s.tim.histMean ∧ t.tim.samples = s.tim.samples) := by
  subst hh
  refine ⟨_, rfl, ?_⟩
  dsimp only
  by_cases hlocked : s.tim.state = .locked
  · rw [if_pos hlocked]
    refine ⟨rfl, rfl, fun hnone => ?_, fun k hsome => ?_, fun _ => ⟨rfl, ?_, decide_eq_true_iff⟩, fun h => absurd hlocked h⟩
    · rw [hnone]
      exact ⟨rfl, fun h4 => by simp [Timing.record, h4], rfl, rfl⟩
    · rw [hsome]
      exact ⟨rfl, rfl, rfl, fun _ => rfl⟩
    · simp only [Timing.record, beq_iff_eq]
  · rw [if_neg hlocked]
    refine ⟨rfl, rfl, fun hnone => ?_, fun k hsome => ?_, fun h => absurd h hlocked, fun _ => ⟨rfl, rfl, rfl⟩⟩
    · rw [hnone]
      exact ⟨rfl, fun h4 => by simp [h4], rfl, rfl⟩
    · rw [hsome]
      exact ⟨rfl, rfl, rfl, fun h => absurd h hlocked⟩

/-- Settles O29, event by event. -/
theorem dpllStates : Obligations.DpllStates := by
  unfold Obligations.DpllStates
  exact ⟨fun _ => switchComplete_ends, fun _ => dpllLockAchieved_locks, fun _ _ => pulledRecovery_locks,
    fun _ hstate hlate hoxf => if_pos ⟨hstate, hlate, hoxf⟩, fun _ => lockTimeout_disqualifies, ocxoFailure_fails,
    fun _ hoxf hlate => if_pos ⟨hoxf, hlate⟩, ocxoSensorRead_records⟩

/-! ### PPS and time of day (R295 to R302) -/

theorem alignEdge_pps (s : State) (phase : Int) (i : Nat) : (s.alignEdge phase).ppsIn i = s.ppsIn i := by
  unfold State.alignEdge
  split
  · rfl
  · split
    · split <;> rfl
    · split
      · rfl
      · dsimp only
        split
        · split <;> rfl
        · split
          · split <;> rfl
          · rfl

/-- What an edge leaves of its input. -/
theorem ppsEdge_input (i : Fin 2) (m : PpsMeas) (s : State) :
    ∃ t, exec (.ppsEdge i m) s = .next t ∧ t.ppsIn i = (s.ppsStep i m.devPs).ppsIn i ∧
      t = if (s.ppsStep i m.devPs).governingPps = some i.val then
        (s.ppsStep i m.devPs).alignEdge ((m.phasePs : Int) - ((s.ppsStep i m.devPs).cur .timingPpsDelay i.val : Nat))
      else s.ppsStep i m.devPs := by
  refine ⟨_, rfl, ?_, rfl⟩
  split
  · exact alignEdge_pps ..
  · rfl

/-- An input that keeps its qualification keeps what governs. -/
theorem governingPps_modPpsIn (s : State) (i : Nat) (f : PpsIn → PpsIn) (hf : (f (s.ppsIn i)).qual = (s.ppsIn i).qual) :
    (s.modPpsIn i f).governingPps = s.governingPps := by
  have hqual : ∀ j, ((s.modPpsIn i f).ppsIn j).qual = (s.ppsIn j).qual := fun j => by
    by_cases hj : j = i
    · rw [hj, ppsIn_modPpsIn, hf]
    · rw [ppsIn_modPpsIn_other _ _ _ hj]
  unfold State.governingPps
  rw [hqual, hqual]
  rfl

theorem ppsStep_within {i : Nat} {devPs dev : Int} {s : State} (hlast : (s.ppsIn i).lastTick.isSome = true)
    (hdev : dev = devPs - ((s.cur .timingPpsDelay i : Int) - ((s.ppsIn i).delay : Int)))
    (htol : s.cur .timingPpsTolerance 0 = 0 ∨ dev.natAbs ≤ 1000 * s.cur .timingPpsTolerance 0) :
    ∃ w, s.ppsStep i devPs = s.modPpsIn i fun x => { x with
      lastTick := some s.clk.tick
      okSecs := x.okSecs + 1
      waitFor := w
      bad := 0
      delay := s.cur .timingPpsDelay i } := by
  have hok : (s.cur .timingPpsTolerance 0 == 0 || decide (dev.natAbs ≤ 1000 * s.cur .timingPpsTolerance 0)) = true := by simpa using htol
  refine ⟨if (s.ppsIn i).okSecs = 0 then s.cur .timingPpsWtr 0 else (s.ppsIn i).waitFor, ?_⟩
  unfold State.ppsStep
  dsimp only
  rw [← hdev, hlast, hok]
  refine congrArg (fun x : PpsIn => { s with tim := { s.tim with pps := Table.set {} s.tim.pps i x } }) ?_
  simp

/-- What the edge of the governing input makes of the alignment. -/
theorem alignEdge_measures {s : State} {ph : Int} {sec : Nat} (htod : s.tim.todQual = true) (hmode : s.cur .timingRsnMode 0 ≠ 0)
    (hsec : s.edgeSecond ph = some sec) {err : Int} (herr : err = s.alignError (s.rowOfSecond sec) ph) :
    (s.alignEdge ph).tim.alignErr = err ∧ (s.alignEdge ph).tim.alignMark = some (sec, s.rowOfSecond sec) ∧
      (s.cur .timingStepThreshold 0 ≠ 0 → 1000 * s.cur .timingStepThreshold 0 < err.natAbs → s.maySelfStep = true →
        (∀ x ∈ s.tim.step, x.2 ≠ none) → (s.alignEdge ph).tim.step = s.tim.step ++ [(s.clk.rsn + 1, none)]) ∧
      (s.cur .timingStepThreshold 0 ≠ 0 → 1000 * s.cur .timingStepThreshold 0 < err.natAbs → s.maySelfStep = false →
        (s.alignEdge ph).tim.toff = true ∧ (s.alignEdge ph).tim.step = s.tim.step) := by
  subst herr
  unfold State.alignEdge
  rw [if_neg (by simp [htod]), if_neg hmode, hsec]
  dsimp only
  by_cases hnear : s.cur .timingStepThreshold 0 = 0 ∨
      (s.alignError (s.rowOfSecond sec) ph).natAbs ≤ 1000 * s.cur .timingStepThreshold 0
  · rw [if_pos hnear]
    refine ⟨?_, ?_, fun h0 hfar => ?_, fun h0 hfar => ?_⟩
    · split <;> rfl
    · split <;> rfl
    · rcases hnear with h | h
      · exact absurd h h0
      · omega
    · rcases hnear with h | h
      · exact absurd h h0
      · omega
  · rw [if_neg hnear]
    have hself : ({ s with tim := { s.tim with
        alignErr := s.alignError (s.rowOfSecond sec) ph
        alignMark := some (sec, s.rowOfSecond sec) } } : State).maySelfStep = s.maySelfStep := rfl
    rw [hself]
    cases hmay : s.maySelfStep
    · rw [if_neg Bool.false_ne_true]
      exact ⟨rfl, rfl, fun _ _ h => absurd h Bool.false_ne_true, fun _ _ _ => ⟨rfl, rfl⟩⟩
    · rw [if_pos rfl]
      refine ⟨?_, ?_, fun _ _ _ hnone => ?_, fun _ _ h => absurd h.symm Bool.false_ne_true⟩
      · split <;> rfl
      · split <;> rfl
      · rw [if_neg]
        simpa [Option.isNone_iff_eq_none] using fun r hx => hnone (r, none) hx rfl

theorem ppsEdge_within (i : Fin 2) (m : PpsMeas) (dev : Int) (s : State) (hlast : (s.ppsIn i).lastTick.isSome = true)
    (hdev : dev = m.devPs - ((s.cur .timingPpsDelay i : Int) - ((s.ppsIn i).delay : Int)))
    (htol : s.cur .timingPpsTolerance 0 = 0 ∨ dev.natAbs ≤ 1000 * s.cur .timingPpsTolerance 0) :
    ∃ t, exec (.ppsEdge i m) s = .next t ∧ (t.ppsIn i).okSecs = (s.ppsIn i).okSecs + 1 ∧ (t.ppsIn i).bad = 0 ∧
      (t.ppsIn i).qual = (s.ppsIn i).qual ∧ (t.ppsIn i).lastTick = some s.clk.tick ∧
      (t.ppsIn i).delay = s.cur .timingPpsDelay i ∧
      (∀ ph sec err, ph = (m.phasePs : Int) - (s.cur .timingPpsDelay i : Int) → s.governingPps = some i.val →
        s.tim.todQual = true → s.cur .timingRsnMode 0 ≠ 0 → s.edgeSecond ph = some sec →
        err = s.alignError (s.rowOfSecond sec) ph →
        t.tim.alignErr = err ∧ t.tim.alignMark = some (sec, s.rowOfSecond sec) ∧
        (s.cur .timingStepThreshold 0 ≠ 0 → 1000 * s.cur .timingStepThreshold 0 < err.natAbs → s.maySelfStep = true →
          (∀ x ∈ s.tim.step, x.2 ≠ none) → t.tim.step = s.tim.step ++ [(s.clk.rsn + 1, none)]) ∧
        (s.cur .timingStepThreshold 0 ≠ 0 → 1000 * s.cur .timingStepThreshold 0 < err.natAbs → s.maySelfStep = false →
          t.tim.toff = true ∧ t.tim.step = s.tim.step)) := by
  obtain ⟨w, hstep⟩ := ppsStep_within hlast hdev htol
  obtain ⟨t, ht, hin, heq⟩ := ppsEdge_input i m s
  rw [hstep, ppsIn_modPpsIn] at hin
  refine ⟨t, ht, congrArg PpsIn.okSecs hin, congrArg PpsIn.bad hin, (congrArg PpsIn.qual hin :), congrArg PpsIn.lastTick hin,
    congrArg PpsIn.delay hin, fun ph sec err hph hgov htod hmode hsec herr => ?_⟩
  rw [hstep] at heq
  subst hph
  rw [if_pos ((governingPps_modPpsIn s i _ rfl).trans hgov)] at heq
  rw [heq]
  exact alignEdge_measures (s := s.modPpsIn i _) htod hmode hsec herr

theorem ppsEdge_beyond (i : Fin 2) (m : PpsMeas) (dev : Int) (s : State) (hlast : (s.ppsIn i).lastTick.isSome = true)
    (hbad : 2 ≤ (s.ppsIn i).bad) (hdev : dev = m.devPs - ((s.cur .timingPpsDelay i : Int) - ((s.ppsIn i).delay : Int)))
    (htol : s.cur .timingPpsTolerance 0 ≠ 0) (hfar : 1000 * s.cur .timingPpsTolerance 0 < dev.natAbs) :
    ∃ t, exec (.ppsEdge i m) s = .next t ∧ (t.ppsIn i).qual = false ∧ (t.ppsIn i).pjmp = true := by
  obtain ⟨t, ht, hin, -⟩ := ppsEdge_input i m s
  have hbeyond : (s.cur .timingPpsTolerance 0 == 0 || decide (dev.natAbs ≤ 1000 * s.cur .timingPpsTolerance 0)) = false := by
    simp [htol, hfar]
  have hnone : (s.ppsIn i).lastTick.isNone = false := by rw [← Option.not_isSome, hlast]; rfl
  unfold State.ppsStep at hin
  dsimp only at hin
  rw [ppsIn_modPpsIn, ← hdev, hlast, hbeyond, hnone] at hin
  have hjump : 3 ≤ (s.ppsIn i).bad + 1 := by omega
  exact ⟨t, ht, by rw [hin]; simp [hbad], by rw [hin]; simp [hbad]⟩

theorem todMessage_good (m : TodFrame) (ms sec : Nat) (s : State) (hform : todWellFormed m.bytes = true)
    (hbaud : m.baud = s.cur .timingTodBaud 0) (hgov : s.governingPps.isSome = true) (hlow : 10 ≤ ms) (hhigh : ms ≤ 900)
    (hsec : sec = beNat ((m.bytes.drop 4).take 6)) (hnext : s.tim.todGood = 0 ∨ sec = s.tim.todSec + 1) :
    ∃ t, exec (.todMessage m ms) s = .next t ∧ t.tim.todSec = sec ∧ t.tim.todGood = s.tim.todGood + 1 ∧
      t.tim.todTick = s.clk.tick ∧ (2 ≤ s.tim.todGood → t.tim.todQual = true ∧ t.tim.tode = false) := by
  subst hsec
  change ∃ t, execTodMessage m ms s = .next t ∧ _
  unfold execTodMessage
  dsimp only
  rw [if_pos]
  · exact ⟨_, rfl, rfl, rfl, rfl, fun h2 => ⟨by simp [h2], by simp [h2]⟩⟩
  · simp only [hform, hbaud, hgov, hlow, hhigh, Bool.and_eq_true, decide_eq_true_eq, beq_iff_eq, and_self, true_and, Bool.or_eq_true]
    exact hnext

theorem todMessage_bad (m : TodFrame) (ms : Nat) (s : State)
    (hbad : todWellFormed m.bytes = false ∨ m.baud ≠ s.cur .timingTodBaud 0 ∨ s.governingPps = none ∨ ms < 10 ∨ 900 < ms) :
    ∃ t, exec (.todMessage m ms) s = .next t ∧ t.tim = { s.tim with todGood := 0 } ∧
      t.cnt .timingPmTodBad 0 = (s.cnt .timingPmTodBad 0 + 1) % 2 ^ 48 := by
  change ∃ t, execTodMessage m ms s = .next t ∧ _
  unfold execTodMessage
  dsimp only
  rw [if_neg]
  · exact ⟨_, rfl, (tells_bump ..).touches.tim, Table.get_set_same ..⟩
  simp only [Bool.and_eq_true, decide_eq_true_eq, beq_iff_eq]
  rintro ⟨⟨⟨⟨hform, hbaud⟩, hgov⟩, hlow, hhigh⟩, -⟩
  rcases hbad with h | h | h | h | h
  · rw [h] at hform; exact absurd hform Bool.false_ne_true
  · exact h hbaud
  · rw [h] at hgov; exact absurd hgov Bool.false_ne_true
  · omega
  · omega

/-- Output o after its pulse for second k. -/
def State.pulsed (s : State) (o k : Nat) : PpsOut where
  count := (Table.get {} s.tim.ppsOut o).count + 1
  second := some k
  width := s.cur .timingPpsOutWidth o
  advance := s.cur .timingPpsOutAdvance o

/-- What an output does for the second that is due at it, if one is. -/
def State.pulseFor (s : State) (o : Nat) (due : Option Nat) : State :=
  match due with
  | none => s
  | some k =>
    if (Table.get {} s.tim.ppsOut o).second = some k then s
    else { s with tim := { s.tim with
      ppsEdge := some s.clk.tick
      ppsOut := Table.put s.tim.ppsOut o (s.pulsed o k) } }

/-- The kernel must not compute the second that is due, which counts in cycles: it stands as a variable while `pulse` is unfolded. -/
theorem pulse_pulseFor (s : State) (o : Nat) : s.pulse o = s.pulseFor o (s.edgeDue o) := by
  obtain ⟨due, hdue⟩ : ∃ due, due = State.edgeDue := ⟨_, rfl⟩
  obtain ⟨F, hF⟩ : ∃ F, F = State.pulse := ⟨_, rfl⟩
  rw [← hF, ← hdue]
  delta State.pulse at hF
  rw [← hdue] at hF
  subst hF
  rfl

theorem pulse_out (s : State) (o : Nat) {k : Nat} (hdue : s.edgeDue o = some k) (hnew : (Table.get {} s.tim.ppsOut o).second ≠ some k) :
    s.pulse o = { s with tim := { s.tim with
      ppsEdge := some s.clk.tick
      ppsOut := Table.put s.tim.ppsOut o (s.pulsed o k) } } := by
  rw [pulse_pulseFor, hdue]
  exact if_neg hnew

theorem pulse_none {s : State} {o : Nat} (hdue : s.edgeDue o = none) : s.pulse o = s := by
  rw [pulse_pulseFor, hdue]
  rfl

theorem ppsOutPulse_both (k : Nat) (s : State) (htq : s.tq ≠ 0) (h0 : s.edgeDue 0 = some k) (h1 : s.edgeDue 1 = some k)
    (hnew : ∀ o, o < 2 → (Table.get {} s.tim.ppsOut o).second ≠ some k) :
    ∃ t, exec .ppsOutPulse s = .next t ∧ t.clk = s.clk ∧ t.tim.ppsEdge = some s.clk.tick ∧
      ∀ o, o < 2 → Table.get {} t.tim.ppsOut o = {
        count := (Table.get {} s.tim.ppsOut o).count + 1
        second := some k
        width := s.cur .timingPpsOutWidth o
        advance := s.cur .timingPpsOutAdvance o } := by
  have hother : Table.get {} (s.pulse 0).tim.ppsOut 1 = Table.get {} s.tim.ppsOut 1 := by
    rw [pulse_out s 0 h0 (hnew 0 (by decide))]
    unfold Table.get
    rw [Table.find_put_other _ _ (by decide)]
  have hsame : Table.get {} (s.pulse 0).tim.ppsOut 0 = s.pulsed 0 k := by
    rw [pulse_out s 0 h0 (hnew 0 (by decide))]
    exact get_put_same ..
  have hdue : (s.pulse 0).edgeDue 1 = some k := by rw [pulse_out s 0 h0 (hnew 0 (by decide))]; exact h1
  have hlast := pulse_out (s.pulse 0) 1 hdue (by rw [hother]; exact hnew 1 (by decide))
  refine ⟨_, if_neg htq, ?_⟩
  rw [hlast]
  refine ⟨?_, ?_, fun o ho => ?_⟩
  · rw [pulse_out s 0 h0 (hnew 0 (by decide))]
  · rw [pulse_out s 0 h0 (hnew 0 (by decide))]
  · obtain rfl | rfl : o = 0 ∨ o = 1 := by omega
    · refine Eq.trans ?_ hsame
      unfold Table.get
      rw [Table.find_put_other _ _ (by decide)]
    · refine (get_put_same ..).trans ?_
      unfold State.pulsed
      rw [hother, pulse_out s 0 h0 (hnew 0 (by decide))]
      rfl

/-- Settles O30, event by event. -/
theorem pulsesAndTimeOfDay : Obligations.PulsesAndTimeOfDay := by
  unfold Obligations.PulsesAndTimeOfDay
  refine ⟨ppsEdge_within, ppsEdge_beyond, ?loss, ?qualified, todMessage_good, todMessage_bad, fun _ hlate => if_pos hlate,
    ppsOutPulse_both, ?quiet, ?todOut, ?none⟩
  case loss =>
    refine fun i s => ⟨_, rfl, ?_, ?_, fun j hj => ppsIn_modPpsIn_other _ _ _ hj⟩ <;> rw [ppsIn_modPpsIn]
  case qualified =>
    refine fun i s hqual hlast hwait => ⟨_, if_pos ⟨hqual, hlast, hwait⟩, ?_, ?_, ?_, fun j hj => ppsIn_modPpsIn_other _ _ _ hj⟩ <;>
      rw [ppsIn_modPpsIn]
  case quiet =>
    rintro s (htq | ⟨h0, h1⟩)
    · exact if_pos htq
    · change execPpsOutPulse s = _
      unfold execPpsOutPulse
      rw [pulse_none h0, pulse_none h1, ite_self]
  case todOut =>
    intro n s hedge hlate
    change execTodOutMessage s = _
    unfold execTodOutMessage
    rw [hedge]
    exact if_pos hlate
  case none =>
    intro s hedge
    change execTodOutMessage s = _
    unfold execTodOutMessage
    rw [hedge]

end Sys2Proof.Machine
end

section
/-!
PROOFS. PARAM.GET, PARAM.DESCRIBE and PARAM.SAVE (O4); R421 to R426.
-/
namespace Sys2Proof.Machine
-- One theorem after the other: many at once need more stacks than the memory limit of the check allows.
set_option Elab.async false

/-! ### What a read answers does not depend on the host's memory -/

theorem shadowGen_hostWrite (s : State) (a : Nat) (bs : List Byte) : (s.hostWrite a bs).shadowGen = s.shadowGen := by
  unfold State.shadowGen State.afterReplay
  rw [hostWrite_com]
  split
  · unfold State.setShadow
    rw [hostWrite_sw]
    split <;> rfl
  · rfl

theorem statusLow_hostWrite (s : State) (a : Nat) (bs : List Byte) (n : Pn) (obj : Nat) :
    (s.hostWrite a bs).statusLow n obj = s.statusLow n obj := by
  unfold State.statusLow
  rw [shadowGen_hostWrite]
  rfl

theorem statusOf_hostWrite (s : State) (a : Nat) (bs : List Byte) (n : Pn) (obj : Nat) :
    (s.hostWrite a bs).statusOf n obj = s.statusOf n obj := by
  unfold State.statusOf
  simp only [statusLow_hostWrite]
  rfl

theorem readValue_hostWrite (s : State) (a : Nat) (bs : List Byte) (p : PId) : (s.hostWrite a bs).readValue p = s.readValue p := by
  cases p with
  | known n obj => simp only [State.readValue, statusOf_hostWrite] <;> rfl
  | prev n obj => rfl
  | unknown raw => rfl

/-! ### The entries of PARAM.GET -/

/-- Bytes 4 to 71 of the entry of a parameter that the device knows. -/
def State.gotEntry (s : State) (p : PId) : List Byte :=
  leBytes 2 p.readLen ++ leBytes 2 0 ++ padTo 64 (leBytes p.readLen (s.readValue p))

theorem length_getEntry (s : State) (base : Nat) (p : PId) : (s.getEntry base p).length = 68 := by
  unfold State.getEntry
  split <;> simp [length_leBytes, length_padTo, freeBytes]

theorem gotEntry_hostWrite (s : State) (a : Nat) (bs : List Byte) (p : PId) : (s.hostWrite a bs).gotEntry p = s.gotEntry p := by
  unfold State.gotEntry; rw [readValue_hostWrite]

/-- Nothing is struck: a parity check finds nothing. -/
theorem parityCheck_clean {s : State} (h : s.flt.parityNew = []) (p : Nat × Nat → Bool) : s.parityCheck p = s := by
  have hsame : ({ s with flt := { s.flt with parityNew := [] } } : State) = s := by rw [← h]
  unfold State.parityCheck
  rw [h]
  exact hsame

theorem getRun_of_get {t u : Table Byte} {a n : Nat} (h : ∀ i, a ≤ i → i < a + n → Table.get 0 t i = Table.get 0 u i) :
    Table.getRun 0 t a n = Table.getRun 0 u a n := by
  induction n generalizing a with
  | zero => rfl
  | succ n ih =>
    unfold Table.getRun
    rw [h a (Nat.le_refl _) (by omega), ih fun i h1 h2 => h i (by omega) (by omega)]

/-- The entries of PARAM.GET stand one after the other in the buffer; below them, and elsewhere in the state, nothing changes. -/
theorem writeGets_writes (addr : Nat) (ps : List PId) (k : Nat) (s : State) (hclean : s.flt.parityNew = []) :
    ∃ m, s.writeGets addr k ps = { s with host := { s.host with mem := m } } ∧
      (∀ i, i < addr + 72 * k → Table.get 0 m i = Table.get 0 s.host.mem i) ∧
      ∀ j p, ps[j]? = some p → p.param.isSome = true → Table.getRun 0 m (addr + 72 * (k + j) + 4) 68 = s.gotEntry p := by
  induction ps generalizing s k with
  | nil => exact ⟨s.host.mem, rfl, fun _ _ => rfl, fun j p h => by simp at h⟩
  | cons q r ih =>
    unfold State.writeGets
    dsimp only
    rw [parityCheck_clean hclean]
    obtain ⟨m, hm, hbelow, hreads⟩ := ih (k + 1) (s.hostWrite (addr + 72 * k + 4) (s.getEntry (s.clk.free + 66 * k) q)) hclean
    refine ⟨m, hm, fun i hi => ?_, fun j p hp hknown => ?_⟩
    · rw [hbelow i (by omega)]
      exact Table.get_setRun_outside _ _ _ (Or.inl (by omega))
    · cases j with
      | zero =>
        obtain rfl : q = p := by simpa using hp
        have hread := hostWrite_reads s (addr + 72 * k + 4) (s.getEntry (s.clk.free + 66 * k) q)
        rw [length_getEntry] at hread
        exact (getRun_of_get fun i _ hi => hbelow i (by omega)).trans (hread.trans (if_pos hknown))
      | succ j =>
        have := hreads j p (by simpa using hp) hknown
        rw [gotEntry_hostWrite] at this
        rw [← this]
        congr 1
        omega

theorem paramGet_reads (e : Entry) (b : Buf) (ids : List PId) :
    completes (.paramGet e b ids.length ids) e ⟨0x0201, 1, false, false, []⟩ 0
      (fun s => ids ≠ [] ∧ 72 * ids.length ≤ b.len ∧ s.bufRead b (72 * ids.length) = true ∧ s.bufWrite b (72 * ids.length) = true ∧
        s.flt.parityNew = [])
      (fun _ => (ids.filter fun p => p.param.isNone).length)
      (fun s t => s.quiet { t with clk := s.clk } ∧ t.clk.rsn = s.clk.rsn ∧ t.clk.tod = s.clk.tod ∧
        (16 ≤ e.ring → ∀ k p, ids[k]? = some p → p.param.isSome = true →
          Table.getRun 0 t.host.mem (b.addr + 72 * k + 4) 68 =
            leBytes 2 p.readLen ++ leBytes 2 0 ++ padTo 64 (leBytes p.readLen (s.readValue p)))) := by
  refine completes_told (body := paramGetBody b ids.length ids) (fun _ => rfl) fun s c _ ⟨hne, hlen, hread, hwrite, hclean⟩ => ?_
  have hpos : 0 < ids.length := List.length_pos_iff.mpr hne
  obtain ⟨m, hm, -, hreads⟩ := writeGets_writes b.addr ids 0 s hclean
  refine ⟨{ s with
    host := { s.host with mem := m }
    clk := { s.clk with free := s.clk.free + 66 * ids.length } }, [], ?_, rfl, ⟨fun _ => rfl, fun _ => rfl⟩, fun u hu _ _ => ?_⟩
  · unfold paramGetBody
    rw [if_neg (by omega), List.take_length]
    dsimp only
    rw [hm]
    refine guarded_pass _ fun x hx => ?_
    rcases List.mem_append.mp hx with h | h
    · exact bufChecks_pass (write := false) hlen (by omega) hread x h
    · rw [List.mem_singleton.mp h]; simp [hwrite]
  · have hclk := hu.quiet.clk
    refine ⟨(congrArg (fun x : State => { x with clk := s.clk }) hu.quiet :), (congrArg Clock.rsn hclk :), (congrArg Clock.tod hclk :),
      fun h16 k p hp hknown => ?_⟩
    rw [hu.mem h16]
    have := hreads k p hp hknown
    rwa [Nat.zero_add] at this

theorem paramDescribe_describes (e : Entry) (b : Buf) (ids : List PId) :
    completes (.paramDescribe e b ids.length ids) e ⟨0x0203, 1, false, false, []⟩ 0
      (fun s => ids ≠ [] ∧ 96 * ids.length ≤ b.len ∧ s.bufRead b (96 * ids.length) = true ∧
        s.bufWrite b (96 * ids.length) = true ∧ ∀ p ∈ ids, (resolveId p).param.isSome = true)
      (fun _ => 0)
      (fun s t => s.quiet t ∧ (16 ≤ e.ring →
        Table.getRun 0 t.host.mem b.addr (ids.flatMap descBytes).length = ids.flatMap descBytes)) := by
  refine completes_told (body := paramDescribeBody b ids.length ids) (fun _ => rfl) fun s c _ ⟨hne, hlen, hread, hwrite, hknown⟩ => ?_
  have hpos : 0 < ids.length := List.length_pos_iff.mpr hne
  have hnone : ∀ p ∈ ids, (resolveId p).param.isNone = false := fun p hp => by
    rw [← Option.not_isSome, hknown p hp]; rfl
  refine ⟨s.hostWrite b.addr (ids.flatMap descBytes), [], ?_, rfl, ownPlaceKept_hostWrite .., fun u hu _ _ => ⟨?_, fun h16 => ?_⟩⟩
  · unfold paramDescribeBody
    rw [if_neg (by omega), List.take_length, guarded_pass _ fun x hx => bufChecks_pass (write := false) hlen (by omega) hread x (List.mem_of_mem_take hx),
      checkItems_pass _ _ hnone]
    exact guarded_pass _ (by simp [hread, hwrite])
  · exact (quiet_host ..).trans hu.quiet
  · rw [hu.mem h16]
    exact hostWrite_reads ..

/-- Settles O4: PARAM.GET by the induction on its entries, PARAM.DESCRIBE and PARAM.SAVE by their one write. -/
theorem parametersRead : Obligations.ParametersRead := by
  refine ⟨paramGet_reads, paramDescribe_describes, fun e => completes_told (body := paramSaveBody) (fun _ => rfl) fun s c _ _ =>
    ⟨_, [(0, 1, 0)], rfl, rfl, ownPlaceKept_of_host e (tells_lifeAdd ..).host, fun u hu _ _ => ?_⟩⟩
  have hpar := congrArg State.par hu.quiet
  exact ⟨(congrArg Params.store hpar :), (congrArg Params.storeOk hpar :), (congrArg Params.vals hpar :), (congrArg Params.late hpar :),
    (congrArg Params.buffered hpar :)⟩

end Sys2Proof.Machine
end

section
/-!
PROOFS. Writes to enabled blocks (O6): the LEGACY buffer, the NATIVE refusal, and a PARAM.SET that names an unknown entry; R424, R429,
R430.
-/
namespace Sys2Proof.Machine
-- One theorem after the other: many at once need more stacks than the memory limit of the check allows.
set_option Elab.async false

/-! ### A buffered write applies -/

/-- Values, late values and buffered writes are no concern of what touches no parameter. -/
theorem State.touches.buffered {l : List Part} {s t : State} (h : State.touches l s t) (hl : l.contains Part.par = false := by rfl) :
    t.par.buffered = s.par.buffered :=
  (congrArg Params.buffered (h.1 .par hl) :)

theorem stopTests_buffered (s : State) (l : Nat) (all : Bool) : (s.stopTests l all).par.buffered = s.par.buffered := by
  unfold State.stopTests
  dsimp only
  rw [(touches_endLoop ..).buffered]
  split <;> rfl

/-- A disabled-only parameter takes its value, and no buffered write is lost. -/
theorem putRwd_sets (s : State) (n : Pn) (o v : Nat) :
    (s.putRwd n o v).cur n o = v ∧ (s.putRwd n o v).par.buffered = s.par.buffered := by
  unfold State.putRwd
  split
  · unfold State.putMode
    split
    next h => exact ⟨h, rfl⟩
    next => exact ⟨cur_setCur_same .., stopTests_buffered ..⟩
  · dsimp only
    split
    · exact ⟨cur_setCur_same .., rfl⟩
    · exact ⟨cur_setCur_same .., rfl⟩
  · exact ⟨cur_setCur_same .., rfl⟩

theorem applyBuffered_sets (s : State) (b : Buffered) :
    (s.applyBuffered b).cur b.n b.obj = b.value ∧ (s.applyBuffered b).par.buffered = s.par.buffered.erase b := by
  obtain ⟨hcur, hbuf⟩ := putRwd_sets { s with par := { s.par with buffered := s.par.buffered.erase b } } b.n b.obj b.value
  unfold State.applyBuffered
  dsimp only
  have hdone := fun u : State => touches_bufferedDone u (PId.id (.known b.n b.obj)) b.refs
  rw [(hdone _).cur, (hdone _).buffered]
  split
  · rw [(touches_restartBlock ..).cur, (touches_restartBlock ..).buffered]
    exact ⟨hcur, hbuf⟩
  · exact ⟨hcur, hbuf⟩

/-- The first match of a list is the first of its matches with a further property that it has. -/
theorem find_of_find {α : Type} {p q : α → Bool} {l : List α} {x : α} (h : l.find? p = some x) (hq : q x = true) :
    (l.find? fun y => p y && q y) = some x := by
  induction l with
  | nil => nomatch h
  | cons a r ih =>
    rw [List.find?_cons] at h
    cases hp : p a
    · rw [hp] at h
      rw [List.find?_cons, hp]
      exact ih h
    · rw [hp] at h
      obtain rfl : a = x := Option.some.inj h
      rw [List.find?_cons, hp, hq]
      rfl

theorem legacyWriteApply_applies (n : Pn) (obj : Nat) (b : Buffered) (s : State)
    (hb : s.par.buffered.find? (fun x => x.n == n && x.obj == obj) = some b)
    (hdue : rsnLe b.due s.clk.rsn = true ∨ s.blockOn n.desc.block obj = false) :
    ∃ t, exec (.legacyWriteApply n obj) s = .next t ∧ t.cur n obj = b.value ∧ t.par.buffered = s.par.buffered.erase b := by
  have hnow : (rsnLe b.due s.clk.rsn || !s.blockOn n.desc.block obj) = true := by
    rcases hdue with h | h <;> simp [h]
  have hmine : b.n = n ∧ b.obj = obj := by simpa using List.find?_some hb
  obtain ⟨rfl, rfl⟩ := hmine
  have hfound := find_of_find (q := fun x => rsnLe x.due s.clk.rsn || !s.blockOn b.n.desc.block b.obj) hb hnow
  change ∃ t, execLegacyWriteApply b.n b.obj s = .next t ∧ _
  unfold execLegacyWriteApply
  dsimp only
  rw [hfound]
  exact ⟨_, rfl, applyBuffered_sets s b⟩

/-! ### One entry for a disabled-only parameter -/

theorem rwd_effect (n : Pn) : n.desc.acc = .rwd → n.desc.effect = .disabledOnly := by
  cases n <;> decide

section
variable {n : Pn} (hacc : n.desc.acc = .rwd)
include hacc

theorem windowBad_rwd (s : State) (k v : Nat) : s.windowBad n k v = false := by
  unfold State.windowBad
  split
  · exact absurd hacc (by decide)
  · exact absurd hacc (by decide)
  · rfl

theorem prbsBad_rwd (s : State) (l v : Nat) : s.prbsBad n l v = false := by
  unfold State.prbsBad
  split
  · exact absurd hacc (by decide)
  · exact absurd hacc (by decide)
  · exact absurd hacc (by decide)
  · rfl

/-- Of the refusals of the single parameters those of a disabled-only one read the values and the tributaries. -/
theorem ownRefusal_rwd {s t : State} (hpar : t.par = s.par) (htribs : t.tribs = s.tribs) (obj v : Nat) :
    t.ownRefusal n obj v = s.ownRefusal n obj v := by
  have hcur : ∀ m o, t.cur m o = s.cur m o := fun m o => by unfold State.cur; rw [hpar]
  unfold State.ownRefusal State.hasTribs
  split
  · rw [hcur, htribs]
  · rw [hcur, htribs]
  case h_14 => rfl
  all_goals exact absurd hacc (by decide)

/-- An entry for a disabled-only parameter that has its form is applied, buffered or refused by its block. -/
theorem entry_rwd {obj len : Nat} {bs : List Byte} {c : CmdRef} (u base : State) (hinst : n.instOk obj = true)
    (hrole : n.desc.role ≤ c.role) (hval : n.checkValue obj len (leNat (bs.take len)) = none) :
    SetRun.entry { s := u } base c ⟨.known n obj, len, true, bs⟩ = SetRun.apply { s := u } base c n obj (leNat (bs.take len)) := by
  have hid : (PId.known n obj).param = some (n, obj) := if_pos hinst
  have hok : u.valueRefusal (.known n obj) n obj len (leNat (bs.take len)) = none := by
    unfold State.valueRefusal
    dsimp only
    rw [hval]
    dsimp only
    rw [windowBad_rwd hacc, prbsBad_rwd hacc]
    rfl
  unfold SetRun.entry
  dsimp only
  rw [hid]
  dsimp only
  rw [if_neg (show ¬ true = false by decide), if_neg (show ¬ c.role < (PId.known n obj).role from Nat.not_lt.mpr hrole), hok]
  dsimp only
  rw [if_neg (show ¬ n.desc.acc = .rwk by rw [hacc]; nofun), if_neg Bool.false_ne_true]

variable {obj v : Nat}

/-- The block is enabled. -/
theorem apply_native {u : State} (base : State) (c : CmdRef) (hon : u.blockOn n.desc.block obj = true) (hmode : u.cur .cfgApplyMode 0 = 0) :
    SetRun.apply { s := u } base c n obj v = .error ⟨base.markEnabled n obj, 0x000E, 2⟩ := by
  unfold SetRun.apply
  dsimp only
  rw [if_neg (by rw [rwd_effect n hacc]; simp), if_pos ⟨⟨hacc, hon⟩, hmode⟩]

theorem apply_legacy {u : State} (base : State) (c : CmdRef) (hon : u.blockOn n.desc.block obj = true) (hmode : u.cur .cfgApplyMode 0 = 1)
    (hroom : u.bufferFull n obj = false) (hown : u.ownRefusal n obj v = none) :
    SetRun.apply { s := u } base c n obj v = .ok { s := u.bufferWrite n obj v c, waits := 1 } := by
  unfold SetRun.apply
  dsimp only
  rw [if_neg (by rw [rwd_effect n hacc]; simp), if_neg (by rw [hmode]; simp), if_neg (by rw [hroom]; simp), hown]
  dsimp only
  rw [if_pos ⟨hacc, hon⟩]

end

/-- A first write to a parameter is appended. -/
theorem bufferWrite_first (s : State) (n : Pn) (obj v : Nat) (c : CmdRef)
    (hnone : s.par.buffered.find? (fun x => x.n == n && x.obj == obj) = none) :
    (s.bufferWrite n obj v c).par = { s.par with buffered := s.par.buffered ++
      [⟨n, obj, v, [(c, v % 2 ^ 64)], s.naturalBoundary n.desc.block⟩] } := by
  have hmine : (s.par.buffered.find? fun x => x.n == n && x.obj == obj && !rsnLe x.due s.clk.rsn) = none := by
    refine List.find?_eq_none.mpr fun x hx h => List.find?_eq_none.mp hnone x hx ?_
    exact (Bool.and_eq_true_iff.mp h).1
  unfold State.bufferWrite
  dsimp only
  rw [hmine]

theorem paramSet_one {b : Buf} {s : State} (x : ParamEntry) (c : CmdRef) (hlen : 72 ≤ b.len) (hread : s.bufRead b 72 = true) :
    paramSetBody b 1 [x] c s = setParams [x] c s := by
  unfold paramSetBody
  rw [if_neg (by decide), guarded_pass _ (bufChecks_pass (write := false) hlen (by decide) hread)]
  rfl

/-- As accepts_of_finish, with the reference that belongs to the entry. -/
theorem accepts_of_ref {i : Instr} {e : Entry} {d : CmdDesc} {n : Nat} {pre : State → Prop} {post : CmdRef → State → State → Prop}
    {body : CmdRef → State → Reply} (hx : ∀ s, exec i s = serve (d.of i) e s body)
    (hb : ∀ s c, c.of s e → s.journalRoom n = true → pre s → post c s (s.finish c e.submitSeq (body c s))) : accepts i e d n pre post := by
  intro s ha hj hp
  refine ⟨_, ?_, hb (s.served d e) (s.servedRef d e) ⟨rfl, rfl, rfl, rfl, servedRef_role s d e⟩ hj hp⟩
  rw [hx, serve_admits (d.of i) e s body ha]
  rfl

/-- While the entries of a PARAM.SET are under way its completion is held back. -/
def State.heldFor (s : State) (c : CmdRef) : State := { s with prot := { s.prot with waits := (s.clk.rsn, c, 0) :: s.prot.waits } }

/-- A write that waits in a buffer holds its command's completion back. -/
theorem setParams_waits {s u : State} {c : CmdRef} {x : ParamEntry} (hroom : s.journalRoom 1 = true)
    (hentry : SetRun.entry { s := s.heldFor c } s c x = .ok { s := u, waits := 1 })
    (hmine : (u.par.buffered.any fun b => b.refs.any fun y => y.1 == c) = true) :
    setParams [x] c s = .accept { u with prot := { u.prot with waits := u.prot.waits.erase (s.clk.rsn, c, 0) } } [] := by
  have hall : SetRun.all { s := s.heldFor c } s c 0 [x] = .ok { s := u, waits := 1 } := by
    unfold SetRun.all
    rw [hentry]
    rfl
  unfold setParams
  dsimp only
  rw [show ({ s with prot := { s.prot with waits := (s.clk.rsn, c, 0) :: s.prot.waits } } : State) = s.heldFor c from rfl, hall]
  dsimp only
  rw [if_neg (by rw [show ([] : List (Nat × Nat × Nat)).length + 1 = 1 from rfl, hroom]; decide), hmine]
  rfl

theorem legacySet_waits (e : Entry) (b : Buf) (n : Pn) (obj len : Nat) (bs : List Byte) (hacc : n.desc.acc = .rwd) :
    accepts (.paramSet e b 1 [⟨.known n obj, len, true, bs⟩]) e ⟨0x0202, 0, false, false, []⟩ 1
      (fun s => 72 ≤ b.len ∧ s.bufRead b 72 = true ∧ n.instOk obj = true ∧ n.desc.role ≤ s.callerRole e ∧ len ≤ 64 ∧
        n.checkValue obj len (leNat (bs.take len)) = none ∧ s.blockOn n.desc.block obj = true ∧ s.cur .cfgApplyMode 0 = 1 ∧
        s.bufferFull n obj = false ∧ s.ownRefusal n obj (leNat (bs.take len)) = none ∧
        s.par.buffered.find? (fun x => x.n == n && x.obj == obj) = none)
      (fun c s t => t.par.vals = s.par.vals ∧ t.par.buffered = s.par.buffered ++
        [⟨n, obj, leNat (bs.take len), [(c, leNat (bs.take len) % 2 ^ 64)], s.naturalBoundary n.desc.block⟩]) := by
  refine accepts_of_ref (body := paramSetBody b 1 [⟨.known n obj, len, true, bs⟩]) (fun _ => rfl)
    fun s c hc hroom ⟨hlen, hread, hinst, hrole, _, hval, hon, hmode, hfull, hown, hnone⟩ => ?_
  have hrole : n.desc.role ≤ c.role := by obtain ⟨-, -, -, -, hr⟩ := hc; rw [hr]; exact hrole
  have hpar := bufferWrite_first (s.heldFor c) n obj (leNat (bs.take len)) c hnone
  have hentry : SetRun.entry { s := s.heldFor c } s c ⟨.known n obj, len, true, bs⟩ = _ :=
    (entry_rwd hacc (s.heldFor c) s hinst hrole hval).trans (apply_legacy hacc s c hon hmode hfull
      ((ownRefusal_rwd (s := s) (t := s.heldFor c) hacc rfl rfl obj _).trans hown))
  rw [paramSet_one _ c hlen hread, setParams_waits hroom hentry]
  · have hquiet := quiet_accepted { (s.heldFor c).bufferWrite n obj (leNat (bs.take len)) c with
      prot := { ((s.heldFor c).bufferWrite n obj (leNat (bs.take len)) c).prot with
        waits := ((s.heldFor c).bufferWrite n obj (leNat (bs.take len)) c).prot.waits.erase (s.clk.rsn, c, 0) } } c e.submitSeq
    exact ⟨hquiet.vals.trans (congrArg Params.vals hpar :), hquiet.buffered.trans (congrArg Params.buffered hpar :)⟩
  · rw [hpar]
    simp

/-! ### A write that NATIVE refuses -/

theorem windowOk_quiet {s t : State} (h : s.quiet t) (perm addr len k n : Nat) : t.windowOk perm addr len k n = s.windowOk perm addr len k n := by
  induction n generalizing k with
  | zero => rfl
  | succ n ih =>
    unfold State.windowOk
    dsimp only
    rw [ih, h.eff, h.eff, h.eff]

theorem served_dmaOn (s : State) (d : CmdDesc) (e : Entry) : (s.served d e).host.dmaOn = s.host.dmaOn := by
  rw [served_host]
  unfold State.touch
  split <;> unfold State.take <;> dsimp only <;> split <;> split <;> first | rfl | (split <;> rfl)

theorem served_bufRead (s : State) (d : CmdDesc) (e : Entry) (b : Buf) (n : Nat) : (s.served d e).bufRead b n = s.bufRead b n := by
  unfold State.bufRead State.readOk
  rw [served_dmaOn, windowOk_quiet (quiet_served s d e)]

theorem blockOn_quiet {s t : State} (h : s.quiet t) (b : Block) (obj : Nat) : t.blockOn b obj = s.blockOn b obj := by
  unfold State.blockOn
  simp only [h.cur]

theorem setParams_refused {s u : State} {c : CmdRef} {x : ParamEntry} {st dt : Nat}
    (hentry : SetRun.entry { s := s.heldFor c } s c x = .error ⟨u, st, dt⟩) : setParams [x] c s = .refuseIn u st 0 dt := by
  have hall : SetRun.all { s := s.heldFor c } s c 0 [x] = .error (⟨u, st, dt⟩, 0) := by
    unfold SetRun.all
    rw [hentry]
  unfold setParams
  dsimp only
  rw [show ({ s with prot := { s.prot with waits := (s.clk.rsn, c, 0) :: s.prot.waits } } : State) = s.heldFor c from rfl, hall]

theorem markEnabled_marks (s : State) (n : Pn) (obj : Nat) : s.quiet { s.markEnabled n obj with par := { (s.markEnabled n obj).par with enWrite := s.par.enWrite } } ∧
    (s.markEnabled n obj).par.enWrite = Table.put s.par.enWrite (n.desc.block.key obj) true := by
  have hinfo := quiet_info { s with par := { s.par with enWrite := Table.put s.par.enWrite (n.desc.block.key obj) true } } 0x2003
    (PId.id (.known n obj)) 0
  exact ⟨(congrArg (fun x : State => { x with par := { x.par with enWrite := s.par.enWrite } }) hinfo :), hinfo.enWrite⟩

/-- How the serving of a PARAM.SET of one entry is described (R424). -/
def setDesc (e : Entry) (b : Buf) (n : Pn) (obj len : Nat) (bs : List Byte) : CmdDesc :=
  CmdDesc.of ⟨0x0202, 0, false, false, []⟩ (.paramSet e b 1 [⟨.known n obj, len, true, bs⟩])

theorem nativeSet_refused (e : Entry) (b : Buf) (n : Pn) (obj len : Nat) (bs : List Byte) (s : State) (hacc : n.desc.acc = .rwd)
    (hadmits : s.admits (CmdDesc.of ⟨0x0202, 0, false, false, []⟩ (.paramSet e b 1 [⟨.known n obj, len, true, bs⟩])) e = true)
    (hlen : 72 ≤ b.len) (hread : s.bufRead b 72 = true) (hinst : n.instOk obj = true)
    (hrole : n.desc.role ≤ (s.served ⟨0x0202, 0, false, false, []⟩ e).callerRole e)
    (hval : n.checkValue obj len (leNat (bs.take len)) = none) (hon : s.blockOn n.desc.block obj = true) (hmode : s.cur .cfgApplyMode 0 = 0) :
    ∃ t, exec (.paramSet e b 1 [⟨.known n obj, len, true, bs⟩]) s = .next t ∧ t.par.vals = s.par.vals ∧
      t.par.buffered = s.par.buffered ∧ Table.get false t.par.enWrite (n.desc.block.key obj) = true := by
  have hx : exec (.paramSet e b 1 [⟨.known n obj, len, true, bs⟩]) s = serve (setDesc e b n obj len bs) e s
    (paramSetBody b 1 [⟨.known n obj, len, true, bs⟩]) := rfl
  rw [hx, serve_admits (setDesc e b n obj len bs) e s _ hadmits]
  have hserved := quiet_served s (setDesc e b n obj len bs) e
  have hc : n.desc.role ≤ (s.servedRef (setDesc e b n obj len bs) e).role := by rw [servedRef_role s (setDesc e b n obj len bs) e]; exact hrole
  have hentry : SetRun.entry { s := (s.served (setDesc e b n obj len bs) e).heldFor (s.servedRef (setDesc e b n obj len bs) e) } (s.served (setDesc e b n obj len bs) e) (s.servedRef (setDesc e b n obj len bs) e) ⟨.known n obj, len, true, bs⟩ = _ :=
    (entry_rwd hacc ((s.served (setDesc e b n obj len bs) e).heldFor (s.servedRef (setDesc e b n obj len bs) e)) (s.served (setDesc e b n obj len bs) e) hinst hc hval).trans
      (apply_native hacc (s.served (setDesc e b n obj len bs) e) (s.servedRef (setDesc e b n obj len bs) e) ((blockOn_quiet hserved ..).trans hon) ((hserved.cur ..).trans hmode))
  rw [paramSet_one _ _ hlen ((served_bufRead ..).trans hread), setParams_refused hentry]
  obtain ⟨hmarks, hput⟩ := markEnabled_marks (s.served (setDesc e b n obj len bs) e) n obj
  have hquiet := quiet_refuseCmd ((s.served (setDesc e b n obj len bs) e).markEnabled n obj) (s.servedRef (setDesc e b n obj len bs) e) 0x000E 0 2
  refine ⟨_, rfl, hquiet.vals.trans (hmarks.vals.trans hserved.vals), hquiet.buffered.trans (hmarks.buffered.trans hserved.buffered), ?_⟩
  refine (congrArg (fun x => Table.get false x (n.desc.block.key obj)) (hquiet.enWrite.trans hput)).trans ?_
  exact get_put_same ..

/-! ### An entry that the device does not know -/

/-- t differs from s by what is quiet and by the marks of refused writes. -/
def State.marks (s t : State) : Prop := s.quiet { t with par := { t.par with enWrite := s.par.enWrite } }

theorem State.quiet.marks {s t : State} (h : s.quiet t) : s.marks t := by
  have henWrite := h.enWrite
  unfold State.marks
  rw [← henWrite]
  exact h

theorem State.marks.then {s t u : State} (h : s.marks t) (h' : t.quiet u) : s.marks u :=
  State.quiet.trans h (congrArg (fun x : State => { x with par := { x.par with enWrite := s.par.enWrite } }) h' :)

theorem State.quiet.thenMarks {s t u : State} (h : s.quiet t) (h' : t.marks u) : s.marks u := by
  have h' : t.quiet { u with par := { u.par with enWrite := t.par.enWrite } } := h'
  rw [h.enWrite] at h'
  exact h.trans h'

theorem lock_quiet (s : State) : s.quiet s.lock := rfl

theorem apply_error {r : SetRun} {base : State} {c : CmdRef} {n : Pn} {obj v : Nat} {y : SetStop}
    (h : r.apply base c n obj v = .error y) : base.marks y.s := by
  unfold SetRun.apply at h
  dsimp only at h
  split at h
  · cases h; exact (quiet_refl base).marks
  · split at h
    · cases h; exact (markEnabled_marks base n obj).1
    · split at h
      · cases h; exact (quiet_refl base).marks
      · split at h
        · cases h; exact (quiet_refl base).marks
        · split at h <;> cases h

/-- A refused entry leaves marks only, whatever the entries before it did (R424). -/
theorem entry_error {r : SetRun} {base : State} {c : CmdRef} {x : ParamEntry} {y : SetStop} (h : r.entry base c x = .error y) :
    base.marks y.s := by
  have hstart : base.quiet (if r.keyed then base.lock else base) := quiet_ite _ (lock_quiet base) (quiet_refl base)
  unfold SetRun.entry at h
  dsimp only at h
  split at h
  · cases h; exact hstart.marks
  · split at h
    · cases h; exact hstart.marks
    · split at h
      · cases h; exact hstart.marks
      · split at h
        · cases h; exact hstart.marks
        · split at h
          · split at h
            · cases h; exact (lock_quiet base).marks
            · split at h
              · cases h; exact (lock_quiet base).marks
              · exact (lock_quiet base).thenMarks (apply_error h)
          · exact hstart.thenMarks (apply_error h)

/-- A list that holds an entry the device does not know is refused as a whole. -/
theorem all_unknown {bad : ParamEntry} (hbad : bad.id.param = none) (base : State) (c : CmdRef) (before after : List ParamEntry) (k : Nat)
    (r : SetRun) : ∃ y j, r.all base c k (before ++ bad :: after) = .error (y, j) ∧ base.marks y.s := by
  induction before generalizing k r with
  | nil =>
    have hentry : r.entry base c bad = .error ⟨if r.keyed then base.lock else base, 0x0004, 0⟩ := by
      unfold SetRun.entry
      rw [hbad]
    refine ⟨_, k, ?_, entry_error hentry⟩
    rw [List.nil_append]
    unfold SetRun.all
    rw [hentry]
  | cons x rest ih =>
    rw [List.cons_append]
    unfold SetRun.all
    cases hentry : r.entry base c x with
    | error y => exact ⟨y, k, rfl, entry_error hentry⟩
    | ok r' => exact ih (k + 1) r'

theorem guarded_cases (cs : List (Bool × Nat × Nat)) (r : Reply) : guarded cs r = r ∨ ∃ st res dt, guarded cs r = .refuse st res dt := by
  induction cs with
  | nil => exact Or.inl rfl
  | cons x rest ih =>
    obtain ⟨b, st, d⟩ := x
    cases b
    · exact ih
    · exact Or.inr ⟨_, _, _, rfl⟩

/-- What a PARAM.SET answers to a list with an unknown entry changes nothing but marks. -/
theorem paramSet_unknown {bad : ParamEntry} (hbad : bad.id.param = none) (b : Buf) {count : Nat} {before : List ParamEntry}
    (after : List ParamEntry) (hcount : before.length < count) (c : CmdRef) (seq : Nat) (s : State) :
    s.marks (s.finish c seq (paramSetBody b count (before ++ bad :: after) c s)) := by
  have htake : (before ++ bad :: after).take count = before ++ bad :: after.take (count - before.length - 1) := by
    rw [List.take_append, List.take_of_length_le (Nat.le_of_lt hcount)]
    obtain ⟨m, hm⟩ := Nat.exists_eq_add_of_lt hcount
    rw [show count - before.length = m + 1 by omega]
    rfl
  obtain ⟨y, j, hall, hmarks⟩ := all_unknown hbad s c before (after.take (count - before.length - 1)) 0 { s := s.heldFor c }
  have hset : setParams ((before ++ bad :: after).take count) c s = .refuseIn y.s y.status j y.detail := by
    rw [htake]
    unfold setParams
    dsimp only
    rw [show ({ s with prot := { s.prot with waits := (s.clk.rsn, c, 0) :: s.prot.waits } } : State) = s.heldFor c from rfl, hall]
  unfold paramSetBody
  rw [if_neg (by omega), hset]
  rcases guarded_cases (s.bufChecks b (72 * count) false) (.refuseIn y.s y.status j y.detail) with h | ⟨st, res, dt, h⟩
  · rw [h]
    exact hmarks.then (quiet_refuseCmd ..)
  · rw [h]
    exact (quiet_refuseCmd ..).marks

/-- What a command's own reply leaves, serving adds quiet changes only. -/
theorem serve_marks {d : CmdDesc} {e : Entry} {body : CmdRef → State → Reply} (hbody : ∀ (c : CmdRef) (seq : Nat) (s : State), s.marks (s.finish c seq (body c s)))
    (s : State) : ∃ t, serve d e s body = .next t ∧ s.marks t := by
  unfold serve
  dsimp only
  split
  · split
    · exact ⟨_, rfl, ((quiet_take ..).trans (quiet_complete ..)).marks⟩
    · have hserved : s.quiet (if (descOf d e).urgent = true then
          State.perf (State.perf (State.touch (s.take e.ring) e.session) 0x047 e.ring 1) 0x049 0 1
        else State.perf (State.touch (s.take e.ring) e.session) 0x047 e.ring 1) := quiet_served s (descOf d e) e
      split
      · exact ⟨_, rfl, (hserved.trans (quiet_refuseCmd ..)).marks⟩
      · exact ⟨_, rfl, hserved.thenMarks (hbody ..)⟩
  · exact ⟨s, rfl, (quiet_refl s).marks⟩

/-- Settles O6: the buffered write, the two answers to a write to an enabled block, and the refusal of a list as a whole. -/
theorem writesToEnabledBlocks : Obligations.WritesToEnabledBlocks := by
  refine ⟨legacyWriteApply_applies, legacySet_waits, ?_, fun e b count before after bad s hbad hcount => ?_⟩
  · intro e b n obj len bs s hacc hadmits hlen hread hinst hrole _ hval hon hmode
    exact nativeSet_refused e b n obj len bs s hacc hadmits hlen hread hinst hrole hval hon hmode
  · exact serve_marks (fun c seq s => paramSet_unknown hbad b after hcount c seq s) s

end Sys2Proof.Machine
end

section
/-!
PROOFS. Cut stages (O16); R273.
-/
namespace Sys2Proof.Machine
-- One theorem after the other: many at once need more stacks than the memory limit of the check allows.
set_option Elab.async false

/-- Cut stage 0 passes AIS on, and its disabling is due. -/
def passingAis : State := { obs := { cuts := [(0, { on := true, aisIn := true, pend := [(0, false)] })] } }

/-- Refutes O16: where a stage that passes AIS on is disabled, its AIS ends with it; the statement has nothing but on and pend change. -/
theorem not_cutStagesAndLists : ¬ Obligations.CutStagesAndLists := by
  intro h
  obtain ⟨-, -, heffect, -⟩ := h
  obtain ⟨t, ht, hcut, -⟩ := heffect 0 0 false [] passingAis (by decide +kernel) (by decide +kernel) (by simp)
  have hafter : valueAfter (fun t => (t.cut 0).aisIn) (.cutEnableEffect 0) passingAis = some false := by decide +kernel
  have hstays : (t.cut 0).aisIn = true := (congrArg CutStage.aisIn hcut).trans (by decide +kernel)
  rw [valueAfter_next _ ht, hstays] at hafter
  exact absurd hafter (by decide)

end Sys2Proof.Machine
end

section
/-!
PROOFS. Staging of a delta (O17) and the probe, read and discard of maps (O18); R186 to R191, R246, R265.
-/
namespace Sys2Proof.Machine
-- One theorem after the other: many at once need more stacks than the memory limit of the check allows.
set_option Elab.async false

/-! ### What staging leaves -/

theorem afterReplay_com (s : State) : s.afterReplay.com = { s.com with replaying := false } := by
  unfold State.afterReplay
  cases h : s.com.replaying
  · rw [if_neg Bool.false_ne_true, ← h]
  · rw [if_pos rfl]

theorem afterReplay_egrB (s : State) : s.afterReplay.egrB = s.egrB := by
  unfold State.afterReplay
  split
  · exact setShadow_egrB s s.egrB
  · rfl

/-- What a staged delta keeps of the commit state and of the active maps, and what it adds. -/
structure State.stagedFrom (s t : State) (owner : Nat) (es : List DeltaEntry) (cuts : List (Nat × CutDelta)) : Prop where
  hasDelta : t.com.hasDelta = true
  owner : t.com.owner = if s.com.owner = 0 then owner else s.com.owner
  staged : t.com.staged = (s.com.join es cuts).staged
  stagedCut : t.com.stagedCut = (s.com.join es cuts).stagedCut
  gen : t.com.gen = s.com.gen
  egrB : t.egrB = s.egrB

theorem State.stagedFrom.of_same {s t u : State} {owner : Nat} {es : List DeltaEntry} {cuts : List (Nat × CutDelta)}
    (h : s.stagedFrom t owner es cuts) (hcom : u.com = t.com) (hegr : u.egrB = t.egrB) : s.stagedFrom u owner es cuts := by
  refine ⟨?_, ?_, ?_, ?_, ?_, hegr.trans h.egrB⟩ <;> rw [hcom]
  · exact h.hasDelta
  · exact h.owner
  · exact h.staged
  · exact h.stagedCut
  · exact h.gen

theorem tellIf_com (t : State) (p : Bool) (m : PeerMsg) : (if p then t.tell m else t).com = t.com := by cases p <;> rfl
theorem tellIf_sw (t : State) (p : Bool) (m : PeerMsg) : (if p then t.tell m else t).sw = t.sw := by cases p <;> rfl
theorem tellIf_peerJoined (t : State) (p : Bool) (m : PeerMsg) :
    (if p then t.tell m else t).pair.peerJoined = t.pair.peerJoined := by cases p <;> rfl

theorem stageDelta_egrB (s : State) (owner : Nat) (es : List DeltaEntry) (cuts : List (Nat × CutDelta)) :
    (s.stageDelta owner es cuts).1.egrB = s.egrB := by
  obtain ⟨b, hsw⟩ : ∃ b, (s.stageDelta owner es cuts).1.sw = (s.afterReplay.drawn.setShadow b).sw := by
    unfold State.stageDelta
    dsimp only
    rw [tellIf_sw]
    dsimp only
    rw [(touches_countShadow _ _).sw]
    exact ⟨_, rfl⟩
  exact (egrB_of_sw hsw).trans ((setShadow_egrB ..).trans (afterReplay_egrB s))

theorem stageDelta_staged (s : State) (owner : Nat) (es : List DeltaEntry) (cuts : List (Nat × CutDelta)) :
    s.stagedFrom (s.stageDelta owner es cuts).1 owner es cuts ∧
      (s.stageDelta owner es cuts).1.com.stageWaits = s.com.stageWaits := by
  have hcom := afterReplay_com s
  have hegr := stageDelta_egrB s owner es cuts
  unfold State.stageDelta at hegr ⊢
  dsimp only at hegr ⊢
  generalize s.afterReplay = u at hcom hegr ⊢
  rw [show u.drawn.com = u.com from rfl, hcom] at hegr ⊢
  refine ⟨⟨?_, ?_, ?_, ?_, ?_, hegr⟩, ?_⟩ <;> rw [tellIf_com] <;> rfl

theorem stageDelta_paired (s : State) (owner : Nat) (es : List DeltaEntry) (cuts : List (Nat × CutDelta)) :
    (s.stageDelta owner es cuts).1.paired = s.paired := by
  have hjoined : (s.stageDelta owner es cuts).1.pair.peerJoined = s.pair.peerJoined := by
    have hpair := (touches_afterReplay s).pair
    unfold State.stageDelta
    dsimp only
    rw [tellIf_peerJoined]
    dsimp only
    rw [(touches_countShadow _ _).pair, (touches_setShadow _ _).pair]
    exact congrArg Pair.peerJoined hpair
  unfold State.paired
  rw [(touches_stageDelta s owner es cuts).dev, hjoined]

/-! ### A delta's checks pass for every reply or for none -/

theorem checkItems_noop {α : Type} {l : List α} {bad : α → Bool} {st : Nat} {r : Reply} {b : Bool} (h : checkItems l bad st r = .noop b) :
    r = .noop b ∧ ∀ r', checkItems l bad st r' = r' := by
  unfold checkItems at h ⊢
  split at h
  · nomatch h
  · exact ⟨h, fun _ => rfl⟩

theorem guarded_noop {cs : List (Bool × Nat × Nat)} {r : Reply} {b : Bool} (h : guarded cs r = .noop b) :
    r = .noop b ∧ ∀ r', guarded cs r' = r' := by
  induction cs with
  | nil => exact ⟨h, fun _ => rfl⟩
  | cons x rest ih =>
    obtain ⟨bad, st, d⟩ := x
    cases bad
    · exact ih h
    · nomatch h

theorem checkDup_noop {l : List Nat} {r : Reply} {b : Bool} (h : checkDup l r = .noop b) : r = .noop b ∧ ∀ r', checkDup l r' = r' := by
  unfold checkDup at h ⊢
  split at h
  · nomatch h
  · exact ⟨h, fun _ => rfl⟩

/-- A delta that passes with nothing else to check passes with further checks that pass (R187). -/
theorem deltaChecks_pass {s : State} {cs : Table Conn} {cuts : Table Nat} {es : List DeltaEntry} {mid : List (Bool × Nat × Nat)} {b : Bool}
    (h : s.deltaChecks cs cuts es [] (.noop b) = .noop b) (hmid : ∀ x ∈ mid, x.1 = false) (r : Reply) :
    s.deltaChecks cs cuts es mid r = r := by
  unfold State.deltaChecks at h ⊢
  dsimp only at h ⊢
  obtain ⟨h, hrange⟩ := checkItems_noop h
  obtain ⟨h, hfield⟩ := checkItems_noop h
  obtain ⟨h, hdup⟩ := checkDup_noop (guarded_noop h).1
  obtain ⟨h, hsource⟩ := checkItems_noop h
  obtain ⟨h, howned⟩ := checkItems_noop h
  obtain ⟨h, hroute⟩ := guarded_noop h
  obtain ⟨-, hdown⟩ := checkItems_noop h
  rw [hrange, hfield, guarded_pass _ hmid, hdup, hsource, howned, hroute, hdown]

theorem stageModeChecks_pass {s : State} (h : s.stagingOpen = true) : ∀ x ∈ s.stageModeChecks, x.1 = false := by
  unfold State.stagingOpen at h
  unfold State.stageModeChecks
  simp only [Bool.and_eq_true, decide_eq_true_eq, Bool.not_eq_true', Bool.or_eq_true] at h
  obtain ⟨⟨⟨⟨⟨hmode, hmaint⟩, hcar⟩, hcommit⟩, hrole⟩, hlink⟩ := h
  have hdown : (s.paired && !s.pair.linkUp) = false := by
    rcases hlink with h | h <;> simp [h]
  simp [hmode, hmaint, hcar, hcommit, hrole, hdown]

theorem stageOwned_false {s : State} {c : CmdRef} (h : s.com.hasDelta = true → s.com.owner = 0 ∨ s.com.owner = c.session) :
    s.stageOwned c = false := by
  unfold State.stageOwned
  cases hd : s.com.hasDelta
  · rfl
  · rcases h hd with h | h <;> simp [h]

theorem midChecks_pass {s : State} {b : Buf} {len : Nat} {c : CmdRef} (hread : s.bufRead b len = true)
    (howner : s.com.hasDelta = true → s.com.owner = 0 ∨ s.com.owner = c.session) : ∀ x ∈ s.midChecks b len (s.stageOwned c), x.1 = false := by
  rw [stageOwned_false howner]
  simp [State.midChecks, hread]

theorem countChecks_pass {b : Buf} {count most size : Nat} (hpos : 0 < count) (hmost : count ≤ most) (hlen : size * count ≤ b.len)
    (hsize : 0 < size) : ∀ x ∈ countChecks b count most size, x.1 = false := by
  have hprod : 0 < size * count := Nat.mul_pos hsize hpos
  have h0 : b.len ≠ 0 := by omega
  simp [countChecks, h0]
  omega

theorem dupIndex_nodup {seen l : List Nat} (k : Nat) (hl : l.Nodup) (hseen : ∀ x ∈ l, x ∉ seen) : dupIndex seen l k = none := by
  induction l generalizing seen k with
  | nil => rfl
  | cons x r ih =>
    obtain ⟨hx, hr⟩ := List.nodup_cons.mp hl
    unfold dupIndex
    rw [if_neg (by simpa using hseen x List.mem_cons_self)]
    refine ih (k + 1) hr fun y hy => ?_
    rw [List.mem_cons, not_or]
    exact ⟨fun h => hx (h ▸ hy), hseen y (List.mem_cons_of_mem _ hy)⟩

theorem checkDup_pass {l : List Nat} (r : Reply) (h : l.Nodup) : checkDup l r = r := by
  unfold checkDup
  rw [dupIndex_nodup 0 h fun _ _ => List.not_mem_nil]

/-! ### The staging commands -/

/-- A command that stages changes and answers a number of the result: alone it is done, in a pair it waits for the follower (R188). -/
theorem stages_told {i : Instr} {e : Entry} {d : CmdDesc} {n : Nat} {pre : State → Prop} {res : State → Nat} {post : State → State → Prop}
    {body : CmdRef → State → Reply} {es : List DeltaEntry} {cuts : List (Nat × CutDelta)} (hx : ∀ s, exec i s = serve (d.of i) e s body)
    (hb : ∀ s c, c.of s e → pre s → ∃ recs, body c s = State.staged c ((s.stageDelta e.session es cuts).1, res s) recs ∧ recs.length = n)
    (hpost : ∀ s u, pre s → s.stagedFrom u e.session es cuts → u.sw = (s.stageDelta e.session es cuts).1.sw → post s u) :
    stages i e d n pre res post := by
  constructor
  · refine completes_told hx fun s c hc ⟨hp, halone⟩ => ?_
    obtain ⟨recs, hbody, hrecs⟩ := hb s c hc hp
    obtain ⟨hstaged, -⟩ := stageDelta_staged s e.session es cuts
    have hhost := (touches_stageDelta s e.session es cuts).host
    have hpaired := (stageDelta_paired s e.session es cuts).trans halone
    have hpost := fun u => hpost s u hp
    rw [hbody]
    generalize (s.stageDelta e.session es cuts).1 = x at hstaged hhost hpaired hpost
    refine ⟨x, recs, ?_, hrecs, ownPlaceKept_of_host e hhost, fun u hu _ _ =>
      hpost u (hstaged.of_same hu.quiet.com hu.quiet.egrB) hu.quiet.sw⟩
    unfold State.staged
    dsimp only
    rw [hpaired]
    rfl
  · refine accepts_told hx fun s c hc ⟨hp, hpair⟩ => ?_
    obtain ⟨recs, hbody, hrecs⟩ := hb s c hc hp
    obtain ⟨hstaged, hwaits⟩ := stageDelta_staged s e.session es cuts
    have hpaired := (stageDelta_paired s e.session es cuts).trans hpair
    have hpost := fun u => hpost s u hp
    rw [hbody]
    generalize (s.stageDelta e.session es cuts).1 = x at hstaged hwaits hpaired hpost
    have hwaiting : s.stagedFrom { x with com := { x.com with stageWaits := x.com.stageWaits ++ [(c, res s)] } } e.session es cuts :=
      ⟨hstaged.hasDelta, hstaged.owner, hstaged.staged, hstaged.stagedCut, hstaged.gen, hstaged.egrB⟩
    refine ⟨{ x with com := { x.com with stageWaits := x.com.stageWaits ++ [(c, res s)] } }, recs, ?_, hrecs, fun u hu _ =>
      ⟨hpost u (hwaiting.of_same hu.com hu.egrB) hu.sw, (congrArg Commit.stageWaits hu.com).trans (hwaits ▸ rfl)⟩⟩
    unfold State.staged
    dsimp only
    rw [hpaired]
    rfl

/-- Settles O17: each staging command passes its checks, and its delta joins the staged one. -/
theorem deltaStaged : Obligations.DeltaStaged := by
  refine ⟨fun e b table => ?stage, fun e b dune table => ?cut, fun e obsLane obsGrain lane grain x => ?mirror⟩
  case stage =>
    refine stages_told (body := mapStageBody b table.length table) (es := table.map DeltaEntry.ofWord) (cuts := []) (fun _ => rfl) ?_ ?_
    · intro s c hc ⟨hne, hmost, hlen, hread, howner, hchecks, hopen⟩
      obtain ⟨-, -, hsession, -, -⟩ := hc
      rw [← hsession] at howner
      refine ⟨[(s.com.gen, table.length, 0)], ?_, rfl⟩
      unfold mapStageBody
      dsimp only
      rw [List.take_length, guarded_pass _ (countChecks_pass (List.length_pos_iff.mpr hne) hmost hlen (by decide)),
        deltaChecks_pass hchecks (midChecks_pass hread howner), guarded_pass _ (stageModeChecks_pass hopen), hsession]
    · intro s u _ hu hsw
      refine ⟨hu.hasDelta, hu.owner, ?_, ?_, hu.gen, hu.egrB, ?_⟩
      · rw [hu.staged]
        unfold Commit.join
        dsimp only
        rw [List.map_map]
        rfl
      · rw [hu.stagedCut]
        unfold Commit.join
        simp
      · unfold State.shadow
        rw [hsw]
  case cut =>
    refine stages_told (body := cutStageBody b table.length dune table) (es := [])
      (cuts := table.map fun x => (dune, CutDelta.ofWord x)) (fun _ => rfl) ?_ ?_
    · intro s c hc ⟨hne, hmost, hlen, hread, hdune, hitems, hnodup, hroute, howner, hopen⟩
      obtain ⟨-, -, hsession, -, -⟩ := hc
      rw [← hsession] at howner
      refine ⟨[(dune, table.length, 0)], ?_, rfl⟩
      have hpairs : (table.map CutDelta.ofWord).map (fun x => (dune, x)) = table.map fun x => (dune, CutDelta.ofWord x) := List.map_map ..
      have hcount : ∀ x ∈ countChecks b table.length 65536 8 ++ [(decide (63 < dune), 0x0004, 0)], x.1 = false := fun x hx => by
        rcases List.mem_append.mp hx with h | h
        · exact countChecks_pass (List.length_pos_iff.mpr hne) hmost hlen (by decide) x h
        · rw [List.mem_singleton.mp h]
          simpa using hdune
      unfold cutStageBody
      dsimp only
      rw [List.take_length, hpairs, guarded_pass _ hcount, checkItems_pass _ _ fun x hx => (hitems x hx).1,
        checkItems_pass _ _ fun x hx => (hitems x hx).2.1, guarded_pass _ (midChecks_pass hread howner),
        checkDup_pass _ (by rw [List.map_map]; exact hnodup), checkItems_pass _ _ ?source, guarded_pass _ (by simpa using hroute),
        checkItems_pass _ _ ?down, guarded_pass _ (stageModeChecks_pass hopen), hsession]
      case source =>
        intro x hx
        obtain ⟨-, -, -, hsource⟩ := hitems x hx
        by_cases hop : x.op = 1
        · simp [(hsource hop).1]
        · simp [hop]
      case down =>
        intro x hx
        obtain ⟨-, -, hon, hsource⟩ := hitems x hx
        by_cases hop : x.op = 1
        · simp [hon, (hsource hop).2]
        · simp [hon, hop]
    · intro s u _ hu hsw
      refine ⟨hu.hasDelta, hu.owner, ?_, ?_, hu.gen, hu.egrB⟩
      · rw [hu.stagedCut]
        unfold Commit.join
        dsimp only
        rw [List.map_map]
        rfl
      · rw [hu.staged]
        unfold Commit.join
        simp
  case mirror =>
    refine stages_told (body := loupeMirrorBody obsLane obsGrain lane grain) (es := [connectOf (lane * 4096 + grain) x]) (cuts := [])
      (fun _ => rfl) ?_ ?_
    · intro s c hc ⟨hobs, hlane, hobsGrain, hgrain, hloupe, hconn, hchecks, howner, hopen⟩
      obtain ⟨-, -, hsession, -, -⟩ := hc
      rw [← hsession] at howner
      refine ⟨[(lane, 1, 0)], ?_, rfl⟩
      unfold loupeMirrorBody
      dsimp only
      rw [guarded_pass _ (by simp [hloupe]; omega), hconn]
      dsimp only
      rw [deltaChecks_pass hchecks (by simp [stageOwned_false howner]), guarded_pass _ (stageModeChecks_pass hopen), hsession]
    · intro s u _ hu hsw
      refine ⟨hu.hasDelta, ?_, hu.gen, hu.egrB⟩
      rw [hu.staged]
      exact List.mem_append_right _ (List.mem_singleton.mpr rfl)

/-! ### Probe, read and discard (R180, R187, R188) -/

theorem length_probeBytes (t : Table Bool) : (probeBytes t).length = 512 := by
  unfold probeBytes
  rw [length_flatMap_const allDunes (m := 8) fun x _ => by simp only [List.length_append, length_leBytes]]
  rfl

theorem mapProbe_counts (e : Entry) (b out : Buf) (table : List (BitVec 128)) (es : List DeltaEntry) (hes : es = table.map DeltaEntry.ofWord) :
    completes (.mapProbe e b table.length table out) e ⟨0x0502, 1, true, false, []⟩ 0
      (fun s => table ≠ [] ∧ table.length ≤ 65536 ∧ 16 * table.length ≤ b.len ∧ s.bufRead b (16 * table.length) = true ∧
        512 ≤ out.len ∧ s.bufWrite out 512 = true ∧ s.journalRoom 1 = true ∧
        s.deltaChecks s.afterReplay.shadow.conns s.afterReplay.shadow.cuts es [] (.noop true) = .noop true ∧
        s.stagingOpen = true)
      (fun s => dunesChanged (deliveries s.afterReplay.shadow.conns s.afterReplay.shadow.cuts)
        (deliveries (es.foldl applyEntry s.afterReplay.shadow.conns) s.afterReplay.shadow.cuts))
      (fun s t => s.quiet t ∧ (16 ≤ e.ring → Table.getRun 0 t.host.mem out.addr 512 = probeBytes
        (deliveries (es.foldl applyEntry s.afterReplay.shadow.conns) s.afterReplay.shadow.cuts))) := by
  subst hes
  refine completes_told (body := mapProbeBody b table.length table out) (fun _ => rfl)
    fun s c _ ⟨hne, hmost, hlen, hread, hout, hwrite, hroom, hchecks, hopen⟩ => ?_
  have hcount : ∀ x ∈ countChecks b table.length 65536 16 ++ [(decide (out.len < 512), 0x0004, 0)], x.1 = false := fun x hx => by
    rcases List.mem_append.mp hx with h | h
    · exact countChecks_pass (List.length_pos_iff.mpr hne) hmost hlen (by decide) x h
    · rw [List.mem_singleton.mp h]
      simpa using hout
  have hmode : ∀ x ∈ s.stageModeChecks ++ [(!s.journalRoom 1, 0x000A, 0)], x.1 = false := fun x hx => by
    rcases List.mem_append.mp hx with h | h
    · exact stageModeChecks_pass hopen x h
    · rw [List.mem_singleton.mp h]
      simp [hroom]
  refine ⟨s.hostWrite out.addr (probeBytes (deliveries ((table.map DeltaEntry.ofWord).foldl applyEntry s.afterReplay.shadow.conns)
    s.afterReplay.shadow.cuts)), [], ?_, rfl, ownPlaceKept_hostWrite .., fun u hu _ _ => ⟨(quiet_host ..).trans hu.quiet, fun h16 => ?_⟩⟩
  · unfold mapProbeBody
    dsimp only
    rw [List.take_length, guarded_pass _ hcount, deltaChecks_pass hchecks (by simp [State.midChecks, hread, hwrite]), guarded_pass _ hmode]
  · rw [hu.mem h16, ← length_probeBytes]
    exact hostWrite_reads ..

theorem mapRead_reads (e : Entry) (b : Buf) (first count bank map dune : Nat) :
    completes (.mapRead e b first count bank map dune) e ⟨0x0504, 1, false, false, []⟩ 0
      (fun s => count ≠ 0 ∧ bank ≤ 1 ∧ map ≤ 3 ∧ dune ≤ 63 ∧ first + count ≤ mapEntries map ∧
        mapEntryBytes map * count ≤ b.len ∧ s.bufWrite b (mapEntryBytes map * count) = true)
      (fun _ => 0)
      (fun s t => s.quiet t ∧ (16 ≤ e.ring → ∀ k, k < count →
        Table.getRun 0 t.host.mem (b.addr + mapEntryBytes map * k) (mapEntryBytes map) =
          leBytes (mapEntryBytes map) ((if bank = 0 then s.egrB else s.shadow).entry map dune (first + k)).toNat)) := by
  refine completes_told (body := mapReadBody b first count bank map dune) (fun _ => rfl)
    fun s c _ ⟨hcount, hbank, hmap, hdune, hentries, hlen, hwrite⟩ => ?_
  have hw : 0 < mapEntryBytes map := by unfold mapEntryBytes; split <;> decide
  have hneed : 0 < mapEntryBytes map * count := Nat.mul_pos hw (Nat.pos_of_ne_zero hcount)
  have hrange : ¬ (1 < bank ∨ 3 < map ∨ 63 < dune ∨ mapEntries map < first + count) := by omega
  have hzero : b.len ≠ 0 := by omega
  refine ⟨s.hostWrite b.addr ((List.range count).flatMap fun i =>
    leBytes (mapEntryBytes map) ((if bank = 0 then s.egrB else s.shadow).entry map dune (first + i)).toNat), [], ?_, rfl,
    ownPlaceKept_hostWrite .., fun u hu _ _ => ⟨(quiet_host ..).trans hu.quiet, fun h16 k hk => ?_⟩⟩
  · unfold mapReadBody
    rw [if_neg hcount]
    dsimp only
    refine guarded_pass _ fun x hx => ?_
    rcases List.mem_append.mp hx with h | h
    · rcases List.mem_cons.mp h with h | h
      · rw [h]; simpa using hzero
      · rw [List.mem_singleton.mp h]; exact decide_eq_false hrange
    · exact bufChecks_pass (write := true) hlen hneed hwrite x h
  · rw [hu.mem h16]
    exact hostWrite_entry s b.addr (fun _ _ => length_leBytes ..) (List.getElem?_range hk)

theorem setShadow_shadow (s : State) (b : Bank) : (s.setShadow b).shadow = b := by
  unfold State.setShadow State.shadow
  by_cases h : s.sw.egrBank = true <;> simp [h]

theorem shadow_of_sw {s t : State} (h : t.sw = s.sw) : t.shadow = s.shadow := by
  unfold State.shadow; rw [h]

/-- What is staged is gone, and the shadow bank is as the active one. -/
theorem discardDelta_discards (s : State) : s.discardDelta.com = { s.com.unstaged with replaying := false } ∧
    s.discardDelta.shadow = s.egrB ∧ s.discardDelta.egrB = s.egrB := by
  have hcom := afterReplay_com s
  have hegr := afterReplay_egrB s
  unfold State.discardDelta
  dsimp only
  generalize s.afterReplay = u at hcom hegr
  refine ⟨?_, ?_, ?_⟩
  · rw [tellIf_com, hcom]; rfl
  · rw [shadow_of_sw (tellIf_sw ..)]
    exact (setShadow_shadow u u.egrB).trans hegr
  · rw [egrB_of_sw (tellIf_sw ..)]
    exact (setShadow_egrB u u.egrB).trans hegr

theorem mapDiscard_discards (e : Entry) :
    completes (.mapDiscard e) e ⟨0x0503, 2, false, false, []⟩ 1
      (fun s => s.com.hasDelta = true ∧ (s.com.owner = 0 ∨ s.com.owner = e.session) ∧ s.dev.role ≠ .follower ∧
        s.commitPending = false)
      (fun _ => 0)
      (fun s t => t.com.hasDelta = false ∧ t.com.staged = [] ∧ t.com.stagedCut = [] ∧ t.com.owner = 0 ∧ t.shadow = s.egrB ∧
        t.egrB = s.egrB ∧ t.com.gen = s.com.gen) := by
  refine completes_told (body := mapDiscardBody) (fun _ => rfl) fun s c hc ⟨hdelta, howner, hrole, hcommit⟩ => ?_
  obtain ⟨-, -, hsession, -, -⟩ := hc
  rw [← hsession] at howner
  obtain ⟨hcom, hshadow, hegr⟩ := discardDelta_discards s
  have hhost := (touches_discardDelta s).host
  refine ⟨s.discardDelta, [(s.com.gen, s.com.staged.length + s.com.stagedCut.length, 0)], ?_, rfl, ownPlaceKept_of_host e hhost,
    fun u hu _ _ => ?_⟩
  · unfold mapDiscardBody
    rw [guarded_pass _ (by simp [hcommit, hrole, stageOwned_false fun _ => howner]), if_pos hdelta]
  · rw [hu.quiet.shadow, hu.quiet.egrB, hu.quiet.com, hcom]
    exact ⟨rfl, rfl, rfl, rfl, hshadow, hegr, rfl⟩

/-- Settles O18: the counts, the entries, and the discarded delta. -/
theorem mapProbedReadDiscarded : Obligations.MapProbedReadDiscarded :=
  ⟨mapProbe_counts, mapRead_reads, mapDiscard_discards⟩

end Sys2Proof.Machine
end

section
/-!
PROOFS. Commits: their acceptance (O20), the switch of the banks (O21), the handshake of a pair (O22); R184, R192 to R200.
-/
namespace Sys2Proof.Machine
-- One theorem after the other: many at once need more stacks than the memory limit of the check allows.
set_option Elab.async false

/-! ### Acceptance (R194) -/

section
variable {s : State} {c : CmdRef} (howner : s.com.hasDelta = true → s.com.owner = 0 ∨ s.com.owner = c.session)
  (hbroken : s.instBroken s.afterReplay.shadow.conns = false) (hincomplete : s.instIncomplete s.afterReplay.shadow.conns = false)
  (hmode : s.commitModeBad = false) (hcommit : s.commitPending = false) (hrole : s.dev.role ≠ .follower)
  (hlink : s.paired = true → s.pair.linkUp = true)
include howner hbroken hincomplete hmode hcommit hrole hlink

theorem commitChecks_pass : ∀ x ∈ s.commitChecks c, x.1 = false := by
  have hdown : (s.paired && !s.pair.linkUp) = false := by
    cases hp : s.paired
    · rfl
    · rw [hlink hp]; rfl
  simp [State.commitChecks, stageOwned_false howner, hbroken, hincomplete, hmode, hcommit, hrole, hdown]

end

theorem commitNow_waits (e : Entry) :
    accepts (.commitNow e) e ⟨0x0601, 2, false, false, []⟩ 1
      (fun s => (s.com.hasDelta = true → s.com.owner = 0 ∨ s.com.owner = e.session) ∧
        s.instBroken s.afterReplay.shadow.conns = false ∧ s.instIncomplete s.afterReplay.shadow.conns = false ∧
        s.commitModeBad = false ∧ s.commitPending = false ∧ s.dev.role ≠ .follower ∧ (s.paired = true → s.pair.linkUp = true))
      (fun c s t => t.com = { s.com with pend := some {
          c := s.earliestCommit
          accepted := s.clk.rsn
          armed := false
          ready := false
          handshake := s.paired
          proposed := false
          refused := none
          switched := false
          ref := some c } } ∧ t.sw = s.sw) := by
  refine accepts_of_ref (body := commitNowBody) (fun _ => rfl)
    fun s c hc hroom ⟨howner, hbroken, hincomplete, hmode, hcommit, hrole, hlink⟩ => ?_
  obtain ⟨-, -, hsession, -, -⟩ := hc
  rw [← hsession] at howner
  unfold commitNowBody
  rw [guarded_pass _ (commitChecks_pass howner hbroken hincomplete hmode hcommit hrole hlink)]
  have hquiet := finish_acceptReserved c e.submitSeq (fun s : State => s.pendCommit s.earliestCommit s.clk.rsn c) hroom
  exact ⟨hquiet.com, hquiet.sw⟩

theorem commitAt_waits (e : Entry) (r : Rsn) :
    accepts (.commitAt e r.toNat) e ⟨0x0602, 2, false, false, []⟩ 1
      (fun s => ((r - s.clk.rsn).toNat < 2 ^ 31 ∨ 2 ^ 47 ≤ (r - s.clk.rsn).toNat) ∧ rsnLe s.earliestCommit r = true ∧
        (s.com.hasDelta = true → s.com.owner = 0 ∨ s.com.owner = e.session) ∧
        s.instBroken s.afterReplay.shadow.conns = false ∧ s.instIncomplete s.afterReplay.shadow.conns = false ∧
        s.commitModeBad = false ∧ s.commitPending = false ∧ s.dev.role ≠ .follower ∧ (s.paired = true → s.pair.linkUp = true))
      (fun c s t => t.com = { s.com with pend := some {
          c := r
          accepted := if s.paired then r - 6 else s.clk.rsn
          armed := false
          ready := false
          handshake := s.paired
          proposed := false
          refused := none
          switched := false
          ref := some c } } ∧ t.sw = s.sw) := by
  refine accepts_of_ref (body := commitAtBody r.toNat) (fun _ => rfl)
    fun s c hc hroom ⟨hahead, hearliest, howner, hbroken, hincomplete, hmode, hcommit, hrole, hlink⟩ => ?_
  obtain ⟨-, -, hsession, -, -⟩ := hc
  rw [← hsession] at howner
  have hrow : BitVec.ofNat 48 r.toNat = r := by simp
  have hrange : ¬ (2 ^ 48 ≤ r.toNat ∨ (2 ^ 31 ≤ (r - s.clk.rsn).toNat ∧ (r - s.clk.rsn).toNat < 2 ^ 47)) := by
    have hlt := r.isLt
    omega
  have hall : ∀ x ∈ s.commitChecks c ++ [(!rsnLe s.earliestCommit r, 0x0306, 0)], x.1 = false := fun x hx => by
    rcases List.mem_append.mp hx with h | h
    · exact commitChecks_pass howner hbroken hincomplete hmode hcommit hrole hlink x h
    · rw [List.mem_singleton.mp h]
      simp [hearliest]
  unfold commitAtBody
  dsimp only
  rw [hrow, guarded_pass _ (by simpa using hrange), guarded_pass _ hall]
  have hquiet := finish_acceptReserved c e.submitSeq (fun s : State => s.pendCommit r (if s.paired then r - 6 else s.clk.rsn) c) hroom
  exact ⟨hquiet.com, hquiet.sw⟩

/-- A commit that ends leaves what is staged, and nothing waits. -/
theorem endCommit_com (s : State) (st detail : Nat) : (s.endCommit st detail).com = { s.com with pend := none } := by
  unfold State.endCommit
  extract_lets _ s1 s2
  split
  · next h => rw [← h]
  · have h2 : s2.com = s1.com := by
      unfold s2
      split
      · exact (tells_bump ..).quiet.com
      · rfl
    split
    · rfl
    · rw [(touches_failRef ..).com, h2]

theorem commitCancel_withdraws (e : Entry) (p : PendCommit) :
    accepts (.commitCancel e) e ⟨0x0603, 2, false, true, []⟩ 1
      (fun s => s.com.pend = some p ∧ p.armed = false ∧ s.dev.role ≠ .follower ∧
        (s.com.hasDelta = true → s.com.owner = 0 ∨ s.com.owner = e.session))
      (fun _ s t => t.com.pend = none ∧ t.com.staged = s.com.staged ∧ t.com.hasDelta = s.com.hasDelta ∧ t.com.gen = s.com.gen ∧
        t.sw = s.sw) := by
  refine accepts_of_ref (body := commitCancelBody) (fun _ => rfl) fun s c hc hroom ⟨hpend, harmed, hrole, howner⟩ => ?_
  obtain ⟨-, -, hsession, -, -⟩ := hc
  rw [← hsession] at howner
  unfold commitCancelBody
  rw [hpend]
  dsimp only
  rw [guarded_pass _ (by simp [stageOwned_false howner, hrole, harmed])]
  have htold : ∀ m : PeerMsg, (if p.proposed then s.tell m else s).com = s.com ∧ (if p.proposed then s.tell m else s).sw = s.sw :=
    fun m => ⟨tellIf_com .., tellIf_sw ..⟩
  generalize hu : (if p.proposed then s.tell (.abort (nextGen s.com.gen)) else s) = u
  obtain ⟨hcom, hsw⟩ : u.com = s.com ∧ u.sw = s.sw := hu ▸ htold _
  have hend := endCommit_com u 0x0308 8
  have hquiet : (u.abortCommit 8).quiet (s.finish c e.submitSeq (.done (u.abortCommit 8) 0 [(nextGen s.com.gen, 1, 0)])) := by
    unfold State.finish
    dsimp only
    rw [if_pos (show s.journalRoom [(nextGen s.com.gen, 1, 0)].length = true from hroom)]
    exact ((quiet_journalAll ..).trans (quiet_accepted ..)).trans (quiet_complete ..)
  rw [hquiet.com, hquiet.sw, (touches_abortCommit u 8).sw]
  have hcom' : (u.abortCommit 8).com = { s.com with pend := none } := by rw [← hcom]; exact hend
  rw [hcom']
  exact ⟨rfl, rfl, rfl, rfl, hsw⟩

/-- Settles O20: the checks pass, and the commit waits for its row or is withdrawn. -/
theorem commitsAccepted : Obligations.CommitsAccepted :=
  ⟨commitNow_waits, commitAt_waits, commitCancel_withdraws⟩

/-! ### The switch of the banks (R184, R192, R200) -/

theorem notReady_none {s : State} {c : Rsn} (hecc : s.com.shadowEcc = false) (hlate : s.writesLate s.com.recs c = false) :
    s.notReady c = none := by
  unfold State.notReady
  rw [hecc, hlate]
  rfl

theorem notReady_some {s : State} {c : Rsn} (h : s.com.shadowEcc = true ∨ s.writesLate s.com.recs c = true) :
    ∃ d, s.notReady c = some d := by
  unfold State.notReady
  cases hecc : s.com.shadowEcc
  · have hlate : s.writesLate s.com.recs c = true := h.resolve_left (by rw [hecc]; decide)
    exact ⟨5, by rw [hlate]; rfl⟩
  · exact ⟨3, rfl⟩

theorem commitArming_arms (p : PendCommit) (s : State) (hpend : s.com.pend = some p) (harmed : p.armed = false)
    (hrow : p.c = s.clk.rsn + 2) (hhand : p.handshake = false) (hcatch : p.catchUp = false) (hcopy : p.copyGen = none) :
    ∃ t, exec .commitArming s = .next t ∧ t.sw = s.sw ∧
      (s.com.shadowEcc = false → s.writesLate s.com.recs p.c = false → t.com = { s.com with pend := some { p with armed := true } }) ∧
      (s.com.shadowEcc = true ∨ s.writesLate s.com.recs p.c = true →
        t.com.pend = none ∧ t.com.staged = s.com.staged ∧ t.com.gen = s.com.gen) := by
  have hexec : exec .commitArming s = .next (s.armCommit p) := by
    change execCommitArming s = _
    unfold execCommitArming
    rw [hpend]
    dsimp only
    rw [if_pos (by simp [harmed, hrow])]
  refine ⟨_, hexec, (touches_armCommit s p).sw, fun hecc hlate => ?_, fun h => ?_⟩
  · have harm : s.armCommit p = s.armPend p := by
      unfold State.armCommit
      rw [notReady_none hecc hlate, hcatch, hcopy, hhand]
      rfl
    rw [harm]
    rfl
  · obtain ⟨d, hd⟩ := notReady_some h
    have habort : s.armCommit p = s.abortCommit d := by
      unfold State.armCommit
      rw [hd, hcatch, hcopy, hhand]
      rfl
    have hend : (s.abortCommit d).com = { s.com with pend := none } := endCommit_com ..
    rw [habort, hend]
    exact ⟨rfl, rfl, rfl⟩

theorem afterReplay_ingBank (s : State) : s.afterReplay.sw.ingBank = s.sw.ingBank ∧ s.afterReplay.sw.egrBank = s.sw.egrBank := by
  unfold State.afterReplay State.setShadow
  split
  · split <;> exact ⟨rfl, rfl⟩
  · exact ⟨rfl, rfl⟩

theorem commitIngressSwitch_switches (p : PendCommit) (s : State) (hpend : s.com.pend = some p) (harmed : p.armed = true)
    (hswitched : p.switched = false) (hrow : p.c = s.clk.rsn + 1) :
    ∃ t, exec .commitIngressSwitch s = .next t ∧ t.sw.ingBank = (!s.sw.ingBank) ∧ t.sw.egrBank = s.sw.egrBank ∧ t.egrB = s.egrB ∧
      t.com.pend = some { p with switched := true } ∧ t.com.gen = s.com.gen ∧ t.com.replaying = false ∧
      (s.com.replaying = false → t.shadow = s.shadow) := by
  have hcom := afterReplay_com s
  obtain ⟨hing, hegr⟩ := afterReplay_ingBank s
  change ∃ t, execCommitIngressSwitch s = .next t ∧ _
  unfold execCommitIngressSwitch
  rw [hpend]
  dsimp only
  rw [if_pos (by simp [harmed, hswitched, hrow])]
  refine ⟨_, rfl, ?_, hegr, afterReplay_egrB s, rfl, ?_, ?_, fun hidle => ?_⟩
  · dsimp only; rw [hing]
  · dsimp only; rw [hcom]
  · dsimp only; rw [hcom]
  · have hsame : s.afterReplay = s := by
      unfold State.afterReplay
      rw [hidle]
      rfl
    rw [hsame]
    rfl

/-- What the switch of the egress side leaves. -/
structure State.switchedTo (s t : State) (c : Rsn) (gen : Nat) : Prop where
  gen : t.com.gen = gen
  pend : t.com.pend = none
  staged : t.com.staged = []
  hasDelta : t.com.hasDelta = false
  lastC : t.com.lastC = c
  replaying : t.com.replaying = true
  car : t.com.car = s.com.car
  egrB : t.egrB = s.shadow
  shadow : t.shadow = s.egrB
  ingBank : t.sw.ingBank = s.sw.ingBank
  dev : t.dev = s.dev

theorem State.switchedTo.of_quiet {s t u : State} {c : Rsn} {gen : Nat} (h : s.switchedTo t c gen) (hu : t.quiet u) :
    s.switchedTo u c gen := by
  have hcom := hu.com
  refine ⟨?_, ?_, ?_, ?_, ?_, ?_, ?_, hu.egrB.trans h.egrB, hu.shadow.trans h.shadow, ?_, hu.dev.trans h.dev⟩
  · rw [hcom]; exact h.gen
  · rw [hcom]; exact h.pend
  · rw [hcom]; exact h.staged
  · rw [hcom]; exact h.hasDelta
  · rw [hcom]; exact h.lastC
  · rw [hcom]; exact h.replaying
  · rw [hcom]; exact h.car
  · rw [hu.sw]; exact h.ingBank

theorem quiet_countMoves (s : State) (ms : List (Nat × Nat)) : s.quiet (s.countMoves ms) :=
  quiet_foldl _ (fun _ _ => (((quiet_bump ..).trans (quiet_bump ..)).trans (quiet_perf ..)).trans (quiet_perf ..)) ms s

theorem egrB_flipped (s : State) (x : Table InstTx) :
    ({ s with sw := { s.sw with egrBank := !s.sw.egrBank, instTx := x } } : State).egrB = s.shadow ∧
      ({ s with sw := { s.sw with egrBank := !s.sw.egrBank, instTx := x } } : State).shadow = s.egrB := by
  unfold State.egrB State.shadow
  cases s.sw.egrBank <;> exact ⟨rfl, rfl⟩

theorem switchEgress_switched (s : State) (c : Rsn) (gen : Nat) (recs : List MapRec) (moves : List (Nat × Nat)) :
    s.switchedTo (s.switchEgress c gen recs moves) c gen := by
  unfold State.switchEgress
  extract_lets old touched _ s1 tx _ _ _ _ s2 s3
  have hflip := egrB_flipped s tx
  have h2 : s.switchedTo s2 c gen := ⟨rfl, rfl, rfl, rfl, rfl, rfl, rfl, hflip.1, hflip.2, rfl, rfl⟩
  exact h2.of_quiet ((((quiet_countMoves ..).trans (quiet_bump ..)).trans (quiet_lifeAdd ..)).trans (quiet_perf ..))

theorem commitEgressSwitch_switches (p : PendCommit) (s : State) (hpend : s.com.pend = some p) (harmed : p.armed = true)
    (hswitched : p.switched = true) (hrow : p.c = s.clk.rsn) (hcar : p.caravan = false) (hcatch : p.catchUp = false)
    (hcopy : p.copyGen = none) :
    ∃ t, exec .commitEgressSwitch s = .next t ∧ s.switchedTo t p.c (nextGen s.com.gen) := by
  change ∃ t, execCommitEgressSwitch s = .next t ∧ _
  unfold execCommitEgressSwitch
  rw [hpend]
  dsimp only
  rw [if_pos (by simp [harmed, hswitched, hrow, hcar, hcatch]), hcopy]
  dsimp only [Option.isSome]
  rw [if_neg Bool.false_ne_true, if_neg Bool.false_ne_true]
  have hto := switchEgress_switched s p.c (nextGen s.com.gen) s.com.recs s.com.moves
  split
  · exact ⟨_, rfl, hto⟩
  · split
    · exact ⟨_, rfl, hto.of_quiet (quiet_journalCmd ..)⟩
    · exact ⟨_, rfl, hto.of_quiet (((quiet_log ..).trans (quiet_journalCmd ..)).trans (quiet_complete ..))⟩

theorem commitReplayDone_replays (s : State) (hreplay : s.com.replaying = true) :
    ∃ t, exec .commitReplayDone s = .next t ∧ t.com = { s.com with replaying := false } ∧ t.egrB = s.egrB ∧ t.shadow = s.egrB := by
  have hquiet := quiet_foldl (fun (s' : State) k => s'.perf 0x017 k (recsAt s.com.lastRecs k)) (fun _ _ => quiet_perf ..) allDunes s.afterReplay
  have hshadow : s.afterReplay.shadow = s.egrB := by
    unfold State.afterReplay
    rw [if_pos hreplay]
    exact setShadow_shadow s s.egrB
  exact ⟨_, if_pos hreplay, hquiet.com.trans (afterReplay_com s), hquiet.egrB.trans (afterReplay_egrB s), hquiet.shadow.trans hshadow⟩

theorem catchUpCommit_catches (p : PendCommit) (s : State) (hpend : s.com.pend = some p) (harmed : p.armed = true)
    (hswitched : p.switched = true) (hrow : p.c = s.clk.rsn) (hcatch : p.catchUp = true) :
    ∃ t, exec .catchUpCommit s = .next t ∧ t.com.gen = nextGen s.com.gen ∧ t.com.lag = none ∧ t.com.pend = none ∧ t.egrB = s.shadow := by
  have hto := switchEgress_switched s p.c (nextGen s.com.gen) s.com.recs s.com.moves
  change ∃ t, execCatchUpCommit s = .next t ∧ _
  unfold execCatchUpCommit
  rw [hpend]
  dsimp only
  rw [if_pos (by simp [harmed, hswitched, hrow, hcatch])]
  generalize s.switchEgress p.c (nextGen s.com.gen) s.com.recs s.com.moves = u at hto
  have hquiet := fun v : State => (quiet_journalAuto v 0xA00B (nextGen s.com.gen) p.c.toNat {}).trans (quiet_bump _ .mapPmLag 0 1)
  refine ⟨_, rfl, ?_, ?_, ?_, (hquiet _).egrB.trans hto.egrB⟩
  · rw [(hquiet _).com]; exact hto.gen
  · rw [(hquiet _).com]
  · rw [(hquiet _).com]; exact hto.pend

/-- Settles O21, boundary by boundary. -/
theorem commitSwitchesBanks : Obligations.CommitSwitchesBanks := by
  refine ⟨fun p s hpend harmed hrow hhand hcatch hcopy _ => commitArming_arms p s hpend harmed hrow hhand hcatch hcopy,
    commitIngressSwitch_switches, ?egress, commitReplayDone_replays, catchUpCommit_catches⟩
  case egress =>
    intro p s hpend harmed hswitched hrow hcar hcatch hcopy
    obtain ⟨t, ht, h⟩ := commitEgressSwitch_switches p s hpend harmed hswitched hrow hcar hcatch hcopy
    exact ⟨t, ht, h.gen, h.pend, h.staged, h.hasDelta, h.lastC, h.replaying, h.egrB, h.shadow, h.ingBank⟩

/-! ### The handshake (R197 to R200) -/

/-- Settles O22: each message of the handshake by the branch that its premises select. -/
theorem commitHandshake : Obligations.CommitHandshake := by
  refine ⟨fun m s hrole hlink => ⟨fun hnone => ?_, fun d hsome => ?_⟩, fun p s hpend hhand hproposed harmed => ?_,
    fun p reason s hpend hhand hproposed harmed => ?_, fun c s hsent hrole hrow hpend => ?_, fun s => rfl⟩
  · change execPropose m s = _
    unfold execPropose
    rw [if_pos ⟨hrole, hlink⟩, hnone]
    rfl
  · change execPropose m s = _
    unfold execPropose
    rw [if_pos ⟨hrole, hlink⟩, hsome]
    rfl
  · change execReady s = _
    unfold execReady
    rw [hpend]
    exact if_pos (by simp [hhand, hproposed, harmed])
  · change execRefuse reason s = _
    unfold execRefuse
    rw [hpend]
    exact if_pos (by simp [hhand, hproposed, harmed])
  · change execArm s = _
    unfold execArm
    rw [hsent]
    exact if_pos ⟨hrole, hrow, hpend⟩

end Sys2Proof.Machine
end

section
/-!
PROOFS. Caravan timetables (O23); R201 to R205.
-/
namespace Sys2Proof.Machine
-- One theorem after the other: many at once need more stacks than the memory limit of the check allows.
set_option Elab.async false

/-! ### CARAVAN.LOAD (R201, R202) -/

section
variable {tt blk : Buf} {loopRows : Nat} {table : List (BitVec 128)} {ds : List (List (BitVec 128))} {s : State}

/-- A timetable that can be loaded compiles, and is stored as it compiles. -/
theorem caravanLoad_stores (h : s.loadable tt blk loopRows table ds) (c : CmdRef) :
    ∃ xs z, s.compiled loopRows table ds = some (xs, z) ∧
      caravanLoadBody tt blk table.length ds.length loopRows table ds c s =
        (let u := s.drawn.storeTable xs loopRows s.com.gen
        if u.paired then
          let t := u.tell (.store xs loopRows u.com.gen)
          .accept { t with com := { t.com with loadWaits := t.com.loadWaits ++ [c] } } [(u.com.gen, table.length, loopRows)]
        else .done u 0 [(u.com.gen, table.length, loopRows)]) := by
  obtain ⟨hne, hds, hfew, hblocks, hlen, hblk, hrange, hread, hreadb, hfits, hmode, hmaint, hcommit, hrole, hlink⟩ := h
  have hdown : (s.paired && !s.pair.linkUp) = false := by
    cases hp : s.paired
    · rfl
    · rw [hlink hp]; rfl
  have hpos : 0 < table.length := List.length_pos_iff.mpr hne
  have hdpos : 0 < ds.length := List.length_pos_iff.mpr hds
  unfold State.tableFits at hfits
  cases hcomp : s.compiled loopRows table ds with
  | none => rw [hcomp] at hfits; nomatch hfits
  | some r =>
    obtain ⟨xs, z⟩ := r
    rw [hcomp] at hfits
    simp only [Bool.and_eq_true, decide_eq_true_eq, Option.isNone_iff_eq_none] at hfits
    obtain ⟨⟨hrecs, hstep⟩, hloop⟩ := hfits
    have htable : s.compileTable s.egrB s.egrB (loopRows != 0) (ds.map fun t => t.map DeltaEntry.ofWord)
        (table.map TimetableEntry.ofWord) 0 = .ok (xs, z) := by
      unfold State.compiled at hcomp
      split at hcomp
      · next r hr => rw [hr, Option.some.inj hcomp]
      · nomatch hcomp
    refine ⟨xs, z, rfl, ?_⟩
    unfold caravanLoadBody
    dsimp only
    rw [List.take_length, List.take_length, guarded_pass _ ?sizes, checkItems_pass _ _ ?blocks, guarded_pass _ ?buffers, htable]
    dsimp only
    rw [guarded_pass _ (by simpa using hrecs), hstep]
    dsimp only
    rw [guarded_pass _ ?modes]
    case sizes => simp [hne, hds, hblk]; omega
    case blocks =>
      intro x hx
      obtain ⟨w, hw, rfl⟩ := List.mem_map.mp hx
      exact decide_eq_false (Nat.not_le.mpr (hrange w hw))
    case buffers => simp [hread, hreadb, hfew, hblocks]
    case modes =>
      have hloop' : (loopRows != 0 && (!z.same s.egrB || loopBad xs loopRows)) = false := by
        cases h0 : loopRows == 0 <;> simp_all
      rcases hmode with h | h <;> simp [hloop', h, hmaint, hcommit, hrole, hdown]

end

theorem caravanLoad_alone (e : Entry) (tt blk : Buf) (loopRows : Nat) (table : List (BitVec 128)) (ds : List (List (BitVec 128))) :
    completes (.caravanLoad e tt blk table.length ds.length loopRows table ds) e ⟨0x0701, 2, true, false, []⟩ 1
      (fun s => s.loadable tt blk loopRows table ds ∧ s.paired = false)
      (fun _ => 0)
      (fun s t => s.loaded t loopRows table ds) := by
  refine completes_told (body := caravanLoadBody tt blk table.length ds.length loopRows table ds) (fun _ => rfl)
    fun s c _ ⟨hload, halone⟩ => ?_
  obtain ⟨xs, z, hcomp, hbody⟩ := caravanLoad_stores hload c
  refine ⟨s.drawn.storeTable xs loopRows s.com.gen, [(s.com.gen, table.length, loopRows)], ?_, rfl, ownPlaceKept_of_host e rfl,
    fun u hu _ _ => ?_⟩
  · rw [hbody]
    exact if_neg (by rw [show (s.drawn.storeTable xs loopRows s.com.gen).paired = s.paired from rfl, halone]; decide)
  · have hcom := hu.quiet.com
    unfold State.loaded
    rw [hcomp, hcom, hu.quiet.sw]
    exact ⟨rfl, rfl, rfl, rfl, rfl, rfl, rfl⟩

theorem caravanLoad_paired (e : Entry) (tt blk : Buf) (loopRows : Nat) (table : List (BitVec 128)) (ds : List (List (BitVec 128))) :
    accepts (.caravanLoad e tt blk table.length ds.length loopRows table ds) e ⟨0x0701, 2, true, false, []⟩ 1
      (fun s => s.loadable tt blk loopRows table ds ∧ s.paired = true)
      (fun c s t => s.loaded t loopRows table ds ∧ t.com.loadWaits = s.com.loadWaits ++ [c] ∧
        t.pair.out = s.pair.out ++ [.store t.com.car.entries loopRows s.com.gen]) := by
  refine accepts_told (body := caravanLoadBody tt blk table.length ds.length loopRows table ds) (fun _ => rfl)
    fun s c _ ⟨hload, hpair⟩ => ?_
  obtain ⟨xs, z, hcomp, hbody⟩ := caravanLoad_stores hload c
  have hpaired : (s.drawn.storeTable xs loopRows s.com.gen).paired = true := hpair
  refine ⟨_, _, hbody.trans (if_pos hpaired), rfl, fun u hu _ => ?_⟩
  have hcom := hu.com
  unfold State.loaded
  rw [hcomp, hcom, hu.sw, hu.pair]
  exact ⟨⟨rfl, rfl, rfl, rfl, rfl, rfl, rfl⟩, rfl, rfl⟩

/-! ### CARAVAN.START and CARAVAN.STOP (R203, R204) -/

/-- The mode becomes CARAVAN at row r; in a pair the follower hears of it. -/
def State.caravanStored (s : State) (r : Rsn) (c : CmdRef) : State :=
  let t := { s with
    dev := { s.dev with pend := some ⟨.caravan, r, some c⟩ }
    com := { s.com with car := { s.com.car with
      start := some r
      next := 0
      pass := 0
      stop := none
      startRef := none
      stopRef := none } } }
  if s.paired then t.forwardCmd c r (.caravanStart r) else t

/-- The timetable stops at the boundary of row a + 2; in a pair the follower hears of it. -/
def State.caravanHalted (s : State) (c : CmdRef) : State :=
  let t := { s with
    dev := { s.dev with pend := some ⟨.transport, s.clk.rsn + 2, some c⟩ }
    com := { s.com with car := { s.com.car with stop := some (s.clk.rsn + 2) } } }
  if s.paired then t.forwardCmd c (s.clk.rsn + 2) (.caravanStop (s.clk.rsn + 2)) else t

theorem caravanStart_starts (e : Entry) (r : Rsn) :
    accepts (.caravanStart e r.toNat) e ⟨0x0702, 2, false, false, []⟩ 1
      (fun s => s.dev.role ≠ .follower ∧ s.modePending = false ∧ s.powerBusy = false ∧ s.dev.mode = .transport ∧
        s.startBad r = false)
      (fun c s t => t.dev = { s.dev with pend := some ⟨.caravan, r, some c⟩ } ∧
        t.com.car = { s.com.car with
          start := some r
          next := 0
          pass := 0
          stop := none
          startRef := none
          stopRef := none } ∧
        (s.paired = true → t.pair.out = s.pair.out ++
          [.forward ⟨c.session, c.role, c.cmdId, c.code, r⟩ (.caravanStart r)])) := by
  refine accepts_of_finish (body := caravanStartBody r.toNat) (fun _ => rfl) fun s c hroom ⟨hrole, hpend, hbusy, hmode, hstart⟩ => ?_
  have hrow : BitVec.ofNat 48 r.toNat = r := by simp
  have hchecks : ∀ x ∈ [(decide (2 ^ 48 ≤ r.toNat), 0x0004, 0), (s.dev.role == .follower, 0x0201, 0)] ++
      s.modeChecks (s.dev.mode == .transport) ++ [(s.startBad r, 0x0401, 0)], x.1 = false := by
    have hlt := r.isLt
    simp [State.modeChecks, hrole, hpend, hbusy, hmode, hstart]
    omega
  have hbody : caravanStartBody r.toNat c s = acceptReserved s fun u : State => u.caravanStored r c := by
    unfold caravanStartBody
    dsimp only
    rw [hrow, guarded_pass _ hchecks]
    rfl
  have hquiet := finish_acceptReserved c e.submitSeq (fun u : State => u.caravanStored r c) hroom
  have hpaired : s.reserve.paired = s.paired := rfl
  rw [hbody, hquiet.dev, hquiet.com, hquiet.pair]
  unfold State.caravanStored
  cases hp : s.paired <;> rw [hpaired, hp]
  · exact ⟨rfl, rfl, fun h => absurd h Bool.false_ne_true⟩
  · exact ⟨rfl, rfl, fun _ => rfl⟩

theorem caravanStop_stops (e : Entry) :
    accepts (.caravanStop e) e ⟨0x0703, 2, false, true, []⟩ 1
      (fun s => s.dev.role ≠ .follower ∧ s.modePending = false ∧ s.powerBusy = false ∧ s.dev.mode = .caravan)
      (fun c s t => (t.dev.pend.map fun p => (p.target, p.due, p.ref)) = some (.transport, s.clk.rsn + 2, some c) ∧
        t.com.car = { s.com.car with stop := some (s.clk.rsn + 2) } ∧
        (s.paired = true → t.pair.out = s.pair.out ++
          [.forward ⟨c.session, c.role, c.cmdId, c.code, s.clk.rsn + 2⟩ (.caravanStop (s.clk.rsn + 2))])) := by
  refine accepts_of_finish (body := caravanStopBody) (fun _ => rfl) fun s c hroom ⟨hrole, hpend, hbusy, hmode⟩ => ?_
  have hbody : caravanStopBody c s = acceptReserved s fun u : State => u.caravanHalted c := by
    unfold caravanStopBody
    rw [guarded_pass _ (by simp [State.modeChecks, hrole, hpend, hbusy, hmode])]
    rfl
  have hquiet := finish_acceptReserved c e.submitSeq (fun u : State => u.caravanHalted c) hroom
  have hpaired : s.reserve.paired = s.paired := rfl
  rw [hbody, hquiet.dev, hquiet.com, hquiet.pair]
  unfold State.caravanHalted
  cases hp : s.paired <;> rw [hpaired, hp]
  · exact ⟨rfl, rfl, fun h => absurd h Bool.false_ne_true⟩
  · exact ⟨rfl, rfl, fun _ => rfl⟩

/-! ### The commit of an entry, and the abort (R203 to R205) -/

theorem endTimetable_com {s : State} (h : s.com.pend = none) : s.endTimetable.com = { s.com with car := { s.com.car with
    start := none
    stop := none
    startRef := none
    stopRef := none } } := by
  have hdrop : s.dropEntry = s := by
    unfold State.dropEntry
    rw [h]
  unfold State.endTimetable
  rw [hdrop]

theorem abandonCopy_com {s : State} (h : s.com.pend = none) : s.abandonCopy.com.pend = none ∧ s.abandonCopy.com.gen = s.com.gen := by
  unfold State.abandonCopy
  extract_lets _ _ _ s1 pend
  split
  · exact ⟨h, rfl⟩
  · refine ⟨?_, rfl⟩
    dsimp only
    unfold pend
    rw [h]

/-- Back from CARAVAN to TRANSPORT with nothing pending: no timetable runs, and the maps stay. -/
theorem autoTransport_returns {s : State} (hmode : s.dev.mode = .caravan) (hpend : s.com.pend = none) :
    (s.autoMode .transport).dev.mode = .transport ∧ (s.autoMode .transport).com.car.start = none ∧
      (s.autoMode .transport).com.pend = none ∧ (s.autoMode .transport).com.gen = s.com.gen ∧ (s.autoMode .transport).egrB = s.egrB := by
  obtain ⟨htouch, -⟩ := autoModeBy_entered s .transport none
  obtain ⟨u, hleft, henter⟩ := enterMode_left s .transport
  have hleaves : (s.enterMode .transport).com = s.abandonCopy.endTimetable.com := by
    have hcaravan : s.abandonCopy.dev.mode = .caravan := (congrArg Device.mode (touches_abandonCopy s).dev).trans hmode
    have hleave : s.leavesMode .transport = s.abandonCopy.endTimetable := by
      have htest : (if s.dev.mode = .test ∧ Mode.transport ≠ .test then s.emptyTestSet else s) = s :=
        if_neg fun h => by rw [hmode] at h; nomatch h.1
      have hhold : (if s.dev.role = .holder ∧ Mode.transport.mayHold = false then s.giveUp 0 else s) = s := if_neg fun h => nomatch h.2
      unfold State.leavesMode
      rw [htest]
      dsimp only
      rw [hhold]
      rw [if_neg (show ¬ Mode.transport = .configure by decide), if_neg (show ¬ Mode.transport = .caravan by decide)]
      exact if_pos (Or.inl hcaravan)
    rw [← hleave]
    exact (enterMode_touches s .transport).com
  obtain ⟨hnone, hgen⟩ := abandonCopy_com hpend
  have hcom : (s.autoMode .transport).com = s.abandonCopy.endTimetable.com := htouch.com.trans hleaves
  have hegr : (s.autoMode .transport).egrB = s.egrB :=
    (egrB_of_sw htouch.sw).trans ((egrB_of_sw henter.sw).trans hleft.egrB)
  rw [hcom, endTimetable_com hnone]
  exact ⟨autoModeBy_mode .., rfl, hnone, hgen, hegr⟩

/-- The last entry of a timetable that runs once has committed: its end is journalled, and the store begins anew. -/
def State.entryEnded (s : State) (sf : Nat × Nat × Nat × Nat) : State :=
  let u := (({ s with com := { s.com with car := { s.com.car with sf := sf } } }).journalAuto 0xA00D 0 0).endTimetable
  { u with com := { u.com with car := { u.com.car with next := 0, pass := 0 } } }

theorem entryEnded_rests {s : State} (hpend : s.com.pend = none) (sf : Nat × Nat × Nat × Nat) :
    (s.entryEnded sf).dev.mode = s.dev.mode ∧ (s.entryEnded sf).com.pend = none ∧ (s.entryEnded sf).com.gen = s.com.gen ∧
      (s.entryEnded sf).com.car.start = none ∧ (s.entryEnded sf).egrB = s.egrB := by
  have hquiet := quiet_journalAuto { s with com := { s.com with car := { s.com.car with sf := sf } } } 0xA00D 0 0 {}
  unfold State.entryEnded
  dsimp only
  generalize ({ s with com := { s.com with car := { s.com.car with sf := sf } } } : State).journalAuto 0xA00D 0 0 {} = u at hquiet
  have hnone : u.com.pend = none := by rw [hquiet.com]; exact hpend
  have hegr : u.endTimetable.egrB = s.egrB := (egrB_of_sw (touches_endTimetable u).sw).trans hquiet.egrB
  rw [endTimetable_com hnone, endTimetable_dev, hquiet.dev, hquiet.com]
  exact ⟨rfl, hpend, rfl, rfl, hegr⟩

theorem caravanEntryCommit_commits (p : PendCommit) (s : State) (hpend : s.com.pend = some p) (harmed : p.armed = true)
    (hswitched : p.switched = true) (hrow : p.c = s.clk.rsn) (hcar : p.caravan = true) :
    ∃ t, exec .caravanEntryCommit s = .next t ∧ t.com.gen = nextGen s.com.gen ∧
      t.com.pend = none ∧ t.egrB = s.shadow ∧
      (s.com.car.start.isSome = true → s.com.car.loopRows = 0 → s.com.car.entries.length ≤ s.com.car.next →
        s.dev.mode = .caravan → t.dev.mode = .transport ∧ t.com.car.start = none) ∧
      (s.com.car.loopRows ≠ 0 → t.dev = s.dev) := by
  have hto := switchEgress_switched s p.c (nextGen s.com.gen) s.com.entryRecs s.com.entryMoves
  change ∃ t, execCaravanEntryCommit s = .next t ∧ _
  unfold execCaravanEntryCommit
  generalize State.switchEgress = switch at hto ⊢
  split
  · next h => rw [h] at hpend; nomatch hpend
  next q hq =>
  obtain rfl : q = p := Option.some.inj (hq.symm.trans hpend)
  rw [if_pos (by simp [harmed, hswitched, hrow, hcar])]
  extract_lets g u _ _
  have hto : s.switchedTo u q.c g := hto
  split
  next n a b f _ =>
  extract_lets sf v done w0 _ _ w
  split
  · next hdone =>
    have hall : (u.com.car.start.isSome && u.com.car.loopRows == 0 && decide (u.com.car.entries.length ≤ u.com.car.next)) = true := hdone
    have hloop : u.com.car.loopRows = 0 := by simp at hall; exact hall.1.2
    obtain ⟨hmode, hnone, hgen, hstart, hegr⟩ := entryEnded_rests hto.pend sf
    have hw : u.entryEnded sf = w := rfl
    rw [hw] at hmode hnone hgen hstart hegr
    rw [hto.gen] at hgen
    rw [hto.egrB] at hegr
    rw [hto.dev] at hmode
    rw [hto.car] at hloop
    split
    · next h =>
      obtain ⟨h1, h2, h3, h4, h5⟩ := autoTransport_returns h hnone
      exact ⟨_, rfl, h4.trans hgen, h3, h5.trans hegr, fun _ _ _ _ => ⟨h1, h2⟩, fun h => absurd hloop h⟩
    · next h =>
      exact ⟨_, rfl, hgen, hnone, hegr, fun _ _ _ hcaravan => absurd (hmode.trans hcaravan) h, fun h => absurd hloop h⟩
  · next hdone =>
    refine ⟨v, rfl, hto.gen, hto.pend, hto.egrB, fun h1 h2 h3 => absurd ?_ hdone, fun _ => hto.dev⟩
    have hall : (u.com.car.start.isSome && u.com.car.loopRows == 0 && decide (u.com.car.entries.length ≤ u.com.car.next)) = true := by
      rw [hto.car]
      simp [h1, h2, h3]
    exact hall

theorem caravanAbort_aborts (a : Rsn) (s : State) (hmode : s.dev.mode = .caravan) (hstart : s.com.car.start = some a) :
    ∃ t, exec .caravanAbort s = .next t ∧ t.dev.toTransport = some (s.clk.rsn + 1) ∧ t.dev.mode = .caravan ∧
      t.com.car.start = none ∧ t.com.car.entries = s.com.car.entries ∧ t.sw = s.sw := by
  have hon : s.onTimetable = true := by
    unfold State.onTimetable
    rw [hstart, hmode]
    rfl
  have hcar : s.endTimetable.com.car.start = none ∧ s.endTimetable.com.car.entries = s.com.car.entries := by
    unfold State.endTimetable State.dropEntry
    refine ⟨rfl, ?_⟩
    dsimp only
    split
    · split <;> rfl
    · rfl
  have habort : s.abortCaravan true = (({ s.endTimetable with dev := { s.dev with toTransport := some (s.clk.rsn + 1) } } : State).bump
      .mapPmAborts 0 1).journalAuto 0xA00D 0 1 := by
    unfold State.abortCaravan
    rw [hon, if_neg (by decide), if_pos hmode]
    rfl
  have hquiet := (quiet_bump { s.endTimetable with dev := { s.dev with toTransport := some (s.clk.rsn + 1) } } .mapPmAborts 0 1).trans
    (quiet_journalAuto _ 0xA00D 0 1 {})
  rw [← habort] at hquiet
  refine ⟨s.peerAbort, rfl, ?_⟩
  have hlag : s.peerAbort.dev = (s.abortCaravan true).dev ∧ s.peerAbort.com.car = (s.abortCaravan true).com.car ∧
      s.peerAbort.sw = (s.abortCaravan true).sw := by
    unfold State.peerAbort
    dsimp only
    split <;> exact ⟨rfl, rfl, rfl⟩
  obtain ⟨hdev, hcar', hsw⟩ := hlag
  rw [hdev, hcar', hsw, hquiet.dev, hquiet.com, hquiet.sw]
  exact ⟨rfl, hmode, hcar.1, hcar.2, (touches_endTimetable s).sw⟩

/-- Settles O23, command by command and event by event. -/
theorem caravanTimetable : Obligations.CaravanTimetable := by
  refine ⟨caravanLoad_alone, caravanLoad_paired, ?copy, caravanStart_starts, caravanStop_stops, caravanEntryCommit_commits, caravanAbort_aborts⟩
  case copy =>
    intro loopRows base table blocks s hrole hlink
    exact ⟨_, if_pos ⟨hrole, hlink⟩, rfl, rfl, rfl, rfl, rfl, rfl⟩

end Sys2Proof.Machine
end

section
/-!
PROOFS. Defects of tributaries that integrate over rows (R144, R145).
-/
namespace Sys2Proof.Machine
-- One theorem after the other: many at once need more stacks than the memory limit of the check allows.
set_option Elab.async false

/-- An integration either sets its defect, or clears it, or leaves the state: only its own tributary takes part. -/
theorem setsOrClears_trib (s : State) (k : Nat) (set clear : Prop) {_ : Decidable set} {_ : Decidable clear} (x y : Trib) :
    ∃ t, (if set then Host.Outcome.next (s.setTrib k x) else if clear then .next (s.setTrib k y) else .next s :
        Host.Outcome State Fault Refusal) = .next t ∧ s.otherTribs t k ∧ (set → t.trib k = x) ∧
      (¬set → clear → t.trib k = y) := by
  by_cases hs : set
  · exact ⟨s.setTrib k x, if_pos hs, fun _ => trib_setTrib_other s k x, fun _ => trib_setTrib s k x,
      fun h => absurd hs h⟩
  · by_cases hc : clear
    · exact ⟨s.setTrib k y, by rw [if_neg hs, if_pos hc], fun _ => trib_setTrib_other s k y,
        fun h => absurd h hs, fun _ _ => trib_setTrib s k y⟩
    · exact ⟨s, by rw [if_neg hs, if_neg hc], fun _ _ => rfl, fun h => absurd h hs, fun _ h => absurd h hc⟩

/-- The integration of a tributary that is provisioned, one defect at a time (R144). -/
theorem exec_tribDefectIntegration_on (k : Nat) (d : TribDefect) (s : State) (hon : (s.trib k).on = true) :
    ∃ t, exec (.tribDefectIntegration k d) s = .next t ∧ s.otherTribs t k ∧
      match d with
      | .tais => ((s.trib k).tais = false → 2 ≤ (s.trib k).runs.ais → t.trib k = (s.trib k).enterTais) ∧
          ((s.trib k).tais = true → (s.trib k).runs.leave = true → s.tribsDown (s.trib k).lane = false →
            (t.trib k).tais = false)
      | .tlop => (s.trib k).tais = false → (s.trib k).tlop = false → 8 ≤ (s.trib k).runs.inv →
          t.trib k = { (s.trib k).holdByLop with tlop := true, runs := { slipOk := (s.trib k).runs.slipOk } }
      | .tszm => (s.trib k).tais = false → (s.trib k).tlop = false → (s.trib k).tszm = false →
          3 ≤ (s.trib k).runs.szBad → (t.trib k).tszm = true
      | .tuneq => (s.trib k).tais = false → (s.trib k).tlop = false → (s.trib k).tuneq = false →
          5 ≤ (s.trib k).runs.uneq → (t.trib k).tuneq = true
      | .tplm => (s.trib k).tais = false → (s.trib k).tlop = false → (s.trib k).tplm = false →
          5 ≤ (s.trib k).runs.plmBad → (t.trib k).tplm = true
      | .tsd => (s.trib k).tais = false → (s.trib k).tlop = false → (s.trib k).tsd = false →
          (s.trib k).runs.sdBad = true → (t.trib k).tsd = true
      | .trdi => (s.trib k).tais = false → (s.trib k).tlop = false → (s.trib k).trdi = false →
          3 ≤ (s.trib k).runs.rdiOn → (t.trib k).trdi = true
      | .tslip => (s.trib k).tslip = true → 64 ≤ (s.trib k).runs.slipOk → (t.trib k).tslip = false := by
  have hexec : exec (.tribDefectIntegration k d) s = execTribDefectIntegration k d s := rfl
  rw [hexec]
  cases d with
  | tslip =>
    by_cases h : (s.trib k).tslip = true ∧ 64 ≤ (s.trib k).runs.slipOk
    · refine ⟨s.setTrib k { s.trib k with tslip := false }, ?_, fun _ => trib_setTrib_other s k _, ?_⟩
      · simp [execTribDefectIntegration, hon, h]
      · simp
    · exact ⟨s, by simp [execTribDefectIntegration, hon, h], fun _ _ => rfl, fun a b => absurd ⟨a, b⟩ h⟩
  | _ =>
    simp only [execTribDefectIntegration, hon, Bool.not_true, Bool.false_eq_true, if_false]
    obtain ⟨t, ht, ho, hset, hclear⟩ := setsOrClears_trib s k _ _ _ _
    refine ⟨t, ht, ho, ?_⟩
    simp_all

/-- Settles O14: what each integration does is said by `exec_tribDefectIntegration_on`. -/
theorem tributaryDefects : Obligations.TributaryDefects := by
  unfold Obligations.TributaryDefects
  intro k d s hon
  obtain ⟨t, ht, ho, h⟩ := exec_tribDefectIntegration_on k d s hon
  refine ⟨t, ht, ho, ?_⟩
  cases d with
  | tais => simpa using h
  | tlop =>
    refine ⟨nofun, nofun, fun ha hl => ⟨fun _ hi => ?_, nofun, nofun, nofun, nofun, nofun⟩, nofun⟩
    rw [h ha hl hi]
    simp [Trib.holdByLop]
  | _ => simpa using h

end Sys2Proof.Machine
end

section
/-!
PROOFS. The housekeeping of a lane: its anchor (R101, R233), the bar of an offset (R95) and the wiring detectors.
-/
namespace Sys2Proof.Machine
-- One theorem after the other: many at once need more stacks than the memory limit of the check allows.
set_option Elab.async false

/-! ### The anchor of a lane and of its partner -/

/-- A state change beside the lanes leaves each lane. -/
theorem State.touches.lane {p : List Part} {s t : State} (h : State.touches p s t) (k : Nat)
    (hp : p.contains Part.lanes = false := by rfl) : t.lane k = s.lane k := by
  unfold State.lane
  rw [h.lanes hp]

/-- A state change beside the merge and the protection groups leaves the pairs. -/
theorem State.touches.pairOf {p : List Part} {s t : State} (h : State.touches p s t) (k : Nat)
    (hp : p.contains Part.prot = false := by rfl) : t.pairOf k = s.pairOf k := by
  unfold State.pairOf
  rw [h.prot hp]

/-- The journal's part of an anchor change: no lane takes part. -/
theorem setAnchor_lane_eq (s : State) (l a k : Nat) :
    (s.setAnchor l a).lane k = (s.setLane l { s.lane l with anchor := a }).lane k := by
  unfold State.setAnchor
  dsimp only
  split
  · exact (tells_journalAuto _ _ _ _ {}).touches.lane k
  · rfl

@[simp] theorem setAnchor_lane (s : State) (l a : Nat) : (s.setAnchor l a).lane l = { s.lane l with anchor := a } := by
  rw [setAnchor_lane_eq, lane_setLane]

theorem setAnchor_lane_other (s : State) (l a : Nat) {k : Nat} (hk : k ≠ l) : (s.setAnchor l a).lane k = s.lane k := by
  rw [setAnchor_lane_eq, lane_setLane_other s l _ hk]

/-- The lane that shares the anchor of a lane: its partner in an active pair, else the lane itself (R233). -/
def State.anchorPartner (s : State) (l : Nat) : Nat :=
  match s.pairOf l with
  | some m => if m.active then (if m.low = l then m.high else m.low) else l
  | none => l

theorem shareAnchor_eq (s : State) (l a : Nat) :
    s.shareAnchor l a = if s.anchorPartner l = l ∨ ((s.setAnchor l a).lane (s.anchorPartner l)).anchor = 0 ∧
        ((s.setAnchor l a).lane (s.anchorPartner l)).align ≠ .sync ∧
        ((s.setAnchor l a).lane (s.anchorPartner l)).align ≠ .flywheel then s.setAnchor l a
      else (s.setAnchor l a).setAnchor (s.anchorPartner l) a := rfl

theorem shareAnchor_lane (s : State) (l a : Nat) : (s.shareAnchor l a).lane l = { s.lane l with anchor := a } := by
  rw [shareAnchor_eq]
  split
  · exact setAnchor_lane s l a
  next hp =>
    have hne : l ≠ s.anchorPartner l := fun h => hp (.inl h.symm)
    rw [setAnchor_lane_other _ _ _ hne, setAnchor_lane]

theorem shareAnchor_lane_other (s : State) (l a : Nat) {k : Nat} (hk : k ≠ l) (hp : k ≠ s.anchorPartner l) :
    (s.shareAnchor l a).lane k = s.lane k := by
  rw [shareAnchor_eq]
  split
  · exact setAnchor_lane_other s l a hk
  · rw [setAnchor_lane_other _ _ _ hp, setAnchor_lane_other _ _ _ hk]

/-- A partner in SYNC or FLYWHEEL takes the anchor too (R233). -/
theorem shareAnchor_partner (s : State) (l a : Nat)
    (h : (s.lane (s.anchorPartner l)).align = .sync ∨ (s.lane (s.anchorPartner l)).align = .flywheel) :
    ((s.shareAnchor l a).lane (s.anchorPartner l)).anchor = a := by
  by_cases hp : s.anchorPartner l = l
  · rw [hp, shareAnchor_lane]
  · rw [shareAnchor_eq, if_neg, setAnchor_lane]
    rw [setAnchor_lane_other s l a hp]
    rintro (h' | ⟨_, h1, h2⟩)
    · exact hp h'
    · exact h.elim h1 h2

/-- A pair that a lane belongs to has it as its lower or as its higher lane. -/
theorem pairOf_mem {s : State} {l : Nat} {m : Merge} (h : s.pairOf l = some m) : l = m.low ∨ l = m.high := by
  have hm := List.find?_some h
  simp only [Bool.or_eq_true, beq_iff_eq] at hm
  unfold Merge.low Merge.high
  omega

/-- The partner is the other lane of the pair, or no other lane. -/
theorem anchorPartner_of_pair {s : State} {l : Nat} {m : Merge} (h : s.pairOf l = some m) :
    s.anchorPartner l = l ∨ s.anchorPartner l = m.low ∨ s.anchorPartner l = m.high := by
  unfold State.anchorPartner
  rw [h]
  by_cases ha : m.active = true <;> by_cases hl : m.low = l <;> simp [ha, hl]

theorem anchorPartner_alone {s : State} {l : Nat} (h : s.pairOf l = none) : s.anchorPartner l = l := by
  unfold State.anchorPartner
  rw [h]

/-- The lanes whose θ the anchor must hold are the lane and a partner in SYNC or FLYWHEEL. -/
theorem of_mem_anchorLanes {s : State} {l k : Nat} (h : k ∈ s.anchorLanes l) :
    k = l ∨ k = s.anchorPartner l ∧ ((s.lane k).align = .sync ∨ (s.lane k).align = .flywheel) := by
  unfold State.anchorLanes at h
  unfold State.anchorPartner
  split at h
  next m hm =>
    rcases pairOf_mem hm with hl | hl
    all_goals
      by_cases ha : m.active = true
      · simp only [ha, if_true, List.mem_filter, List.mem_cons, List.not_mem_nil, or_false, Bool.or_eq_true,
          beq_iff_eq] at h ⊢
        grind
      · simp only [ha, Bool.false_eq_true, if_false, List.mem_singleton] at h
        exact .inl h
  next => exact .inl (List.mem_singleton.mp h)

theorem mem_anchorLanes (s : State) (l : Nat) : l ∈ s.anchorLanes l := by
  unfold State.anchorLanes
  split
  next m hm =>
    split
    · rcases pairOf_mem hm with hl | hl <;> simp [← hl]
    · exact List.mem_singleton.mpr rfl
  · exact List.mem_singleton.mpr rfl

/-- The anchor that is shared stands on every lane whose θ it must hold. -/
theorem shareAnchor_anchorLanes (s : State) (l a : Nat) {k : Nat} (hk : k ∈ s.anchorLanes l) :
    ((s.shareAnchor l a).lane k).anchor = a := by
  rcases of_mem_anchorLanes hk with rfl | ⟨rfl, hal⟩
  · rw [shareAnchor_lane]
  · exact shareAnchor_partner s l a hal

/-- Under AUTO after 64 rows of ANF the anchor is chosen again (R101). -/
theorem exec_anchorRechoose (l : Fin 512) (s : State) (hanf : (s.lane l).anf = true) (hrun : 64 ≤ (s.lane l).runs.anfSet)
    (hauto : s.cur .laneAnchor (s.anchorLane l) = 255) (hclk : s.cur .laneClocking l = 0) :
    exec (.anchorRechoose l) s =
      .next ((s.rechoose l).modLane l fun x => { x with runs := { x.runs with anfSet := 0 } }) := by
  have hexec : exec (.anchorRechoose l) s = execAnchorRechoose l s := rfl
  rw [hexec]
  unfold execAnchorRechoose
  simp [hanf, hrun, hauto, hclk]

/-- The anchor of a lane, or whether one is set at all, is not what the reset of its run of ANF changes. -/
theorem anchor_modLane_runs (s : State) (l k : Nat) (f : LaneRuns → LaneRuns) :
    ((s.modLane l fun x => { x with runs := f x.runs }).lane k).anchor = (s.lane k).anchor := by
  by_cases h : k = l
  · rw [h, lane_modLane]
  · rw [lane_modLane_other _ _ _ h]

theorem anchorRechoose_chooses (l : Fin 512) (s : State) (hanf : (s.lane l).anf = true)
    (hrun : 64 ≤ (s.lane l).runs.anfSet) (hauto : s.cur .laneAnchor (s.anchorLane l) = 255)
    (hclk : s.cur .laneClocking l = 0) :
    ∃ t, exec (.anchorRechoose l) s = .next t ∧ (t.lane l).runs.anfSet = 0 ∧
      (∀ k ∈ s.anchorLanes l, (t.lane k).anchor =
        chooseAnchor (s.lane l).anchor ((s.anchorLanes l).map fun k => (s.lane k).theta)) ∧ l.val ∈ s.anchorLanes l ∧
      (s.pairOf l = none → s.otherLanes t l) ∧
      ∀ m, s.pairOf l = some m → ∀ k, k ≠ m.low → k ≠ m.high → t.lane k = s.lane k := by
  refine ⟨_, exec_anchorRechoose l s hanf hrun hauto hclk, by rw [lane_modLane], fun k hk => ?_, mem_anchorLanes s l,
    fun hp k hk => ?_, fun m hm k hlow hhigh => ?_⟩
  · rw [anchor_modLane_runs _ _ _ fun q => { q with anfSet := 0 }]
    exact shareAnchor_anchorLanes s l _ hk
  · rw [lane_modLane_other _ _ _ hk]
    exact shareAnchor_lane_other s l _ hk (by rwa [anchorPartner_alone hp])
  · have hk : k ≠ l.val := by
      rcases pairOf_mem hm with h | h <;> rw [h] <;> assumption
    have hp : k ≠ s.anchorPartner l.val := by
      rcases anchorPartner_of_pair hm with h | h | h <;> rw [h] <;> assumption
    rw [lane_modLane_other _ _ _ hk]
    exact shareAnchor_lane_other s l _ hk hp

/-! ### The bar of an offset, and the wiring detectors -/

theorem offsetBarExpiry_lifts (l : Fin 512) (o k : Nat) (s : State) (hold : s.elapsed k 4096 = true) :
    ∃ t, exec (.offsetBarExpiry l o) s = .next t ∧ (o, k) ∉ (t.lane l).barred ∧ s.otherLanes t l ∧
      ∀ x ∈ (s.lane l).barred, x.1 ≠ o → x ∈ (t.lane l).barred := by
  refine ⟨_, rfl, ?_, fun _ => lane_modLane_other s l _, fun x hx hne => ?_⟩
  · simp [hold]
  · simp [hx, hne]

@[simp] theorem cnt_bump (s : State) (n : Pn) (o k : Nat) (h : s.cnt n o < 2 ^ 48) :
    (s.bump n o k).cnt n o = (s.cnt n o + k) % 2 ^ 48 := by
  unfold State.bump
  split
  next h0 => rw [h0, Nat.add_zero, Nat.mod_eq_of_lt h]
  next => exact Table.get_set_same ..

theorem wiringFault_recorded (l : Fin 512) (a : Fin 16) (b : Fin 4) (s : State) (htx : s.domain (ltOf l) = 0)
    (hrx : s.domain (lrOf l) = 0) (hdc : s.cur .laneRxCoupling l = 1) :
    exec (.wiringFault l a b) s = .next ((s.setLane l { s.lane l with wireTx := a.val, wireRx := b.val }).bump
      .laneWiringEvents l (bitsSet ((s.lane l).wireTx + 16 * (s.lane l).wireRx) (a.val + 16 * b.val))) := by
  have hexec : exec (.wiringFault l a b) s = execWiringFault l a b s := rfl
  rw [hexec]
  unfold execWiringFault
  simp [htx, hrx, hdc]

/-- Settles O9: the anchor by `anchorRechoose_chooses`, the bar by `offsetBarExpiry_lifts`, the detectors by
`wiringFault_recorded`. -/
theorem laneHousekeeping : Obligations.LaneHousekeeping := by
  unfold Obligations.LaneHousekeeping
  refine ⟨anchorRechoose_chooses, fun l o k s _ hold => offsetBarExpiry_lifts l o k s hold,
    fun l a b s htx hrx hdc hcnt => ⟨_, wiringFault_recorded l a b s htx hrx hdc, ?_, fun k hk => ?_, ?_⟩⟩
  · rw [(tells_bump ..).touches.lane, lane_setLane]
  · rw [(tells_bump ..).touches.lane, lane_setLane_other _ _ _ hk]
  · exact cnt_bump _ _ _ _ hcnt

end Sys2Proof.Machine
end

section
/-!
PROOFS. The commands of the tributaries (R123, R124, R149), the pointer generator (R137) and the lockstep of a pair (R147 to R149, R231).
-/
namespace Sys2Proof.Machine
-- One theorem after the other: many at once need more stacks than the memory limit of the check allows.
set_option Elab.async false

/-! ### Ingress AIS puts the tributaries of its lane into TAIS (R134) -/

theorem laneTais_up {s : State} {l : Nat} (h : s.tribsDown l = false) : s.laneTais l = s := by
  unfold State.laneTais
  rw [h]
  rfl

/-- The tributaries in service that read a lane without content enter TAIS; the others stay. -/
theorem laneTais_trib {s : State} {l : Nat} (h : s.tribsDown l = true) (k : Nat) :
    (s.laneTais l).trib k =
      if (s.trib k).on && (s.trib k).lane == s.tribLane l && !(s.trib k).tais then (s.trib k).enterTais else s.trib k := by
  unfold State.laneTais
  rw [if_pos h]
  exact Table.get_mapVals {} (fun _ t => if t.on && t.lane == s.tribLane l && !t.tais then t.enterTais else t) s.tribs k rfl

/-- A tributary that reads another lane stays as it is. -/
theorem laneTais_trib_elsewhere {s : State} {l k : Nat} (h : (s.trib k).lane ≠ s.tribLane l) :
    (s.laneTais l).trib k = s.trib k := by
  cases hd : s.tribsDown l
  · rw [laneTais_up hd]
  · rw [laneTais_trib hd, if_neg (by simp [h])]

theorem laneTais_trib_tais {s : State} {l k : Nat} (hd : s.tribsDown l = true) (hon : (s.trib k).on = true)
    (hl : (s.trib k).lane = s.tribLane l) : ((s.laneTais l).trib k).tais = true := by
  rw [laneTais_trib hd]
  cases h : (s.trib k).tais <;> simp [hon, hl, h, Trib.enterTais]

/-- Nothing of a tributary but its defects and their runs changes where its lane brings AIS. -/
theorem laneTais_trib_cases (s : State) (l k : Nat) :
    (s.laneTais l).trib k = s.trib k ∨ (s.laneTais l).trib k = (s.trib k).enterTais := by
  cases hd : s.tribsDown l
  · exact .inl (by rw [laneTais_up hd])
  · rw [laneTais_trib hd]
    split
    · exact .inr rfl
    · exact .inl rfl

/-- A lane that is not the higher one of a pair has its own tributaries. -/
theorem tribLane_of_not_high {s : State} {l : Nat} (h : ∀ m ∈ s.prot.merges, m.high ≠ l) : s.tribLane l = l := by
  unfold State.tribLane
  split
  next m hm =>
    have hlow := (pairOf_mem hm).resolve_right fun hh => h m (List.mem_of_find?_eq_some hm) hh.symm
    rw [hlow, ite_self]
  next => rfl

/-! ### TRIB.CREATE, TRIB.DELETE and TRIB.REALIGN -/

/-- The tributary that TRIB.CREATE makes, before its lane is asked for AIS (R123, R126). -/
def State.newTrib (s : State) (lane mode : Nat) (gs : List Nat) : Trib :=
  if mode = 0 then { ({} : Trib) with
      on := true
      lane := lane
      grains := gs
      retimed := true
      ring := freshRing s.clk.free gs.length
      fill := 40
      level := 24
      ndf := true
      centring := 1 }
  else { ({} : Trib) with on := true, lane := lane, grains := gs }

/-- What TRIB.CREATE leaves, before the lane is asked for AIS: the new tributary in its place. -/
theorem makeTrib_eq (s : State) (k l mode : Nat) (gs : List Nat) : ∃ t : State,
    s.makeTrib k l mode gs = t.laneTais l ∧ t.trib k = s.newTrib l mode gs ∧ s.otherTribs t k ∧ t.tribsDown l = s.tribsDown l ∧
      t.tribLane l = s.tribLane l := by
  unfold State.makeTrib State.newTrib
  by_cases hm : mode = 0
  · refine ⟨_, rfl, ?_, fun j hj => ?_, ?_, ?_⟩
    · simp [hm]
    · simp only [hm, if_true]
      exact trib_setTrib_other _ _ _ hj
    · simp only [hm, if_true]
      rfl
    · simp only [hm, if_true]
      rfl
  · refine ⟨_, rfl, ?_, fun j hj => ?_, ?_, ?_⟩
    · simp [hm]
    · simp only [hm, if_false]
      exact trib_setTrib_other _ _ _ hj
    · simp only [hm, if_false]
      rfl
    · simp only [hm, if_false]
      rfl

theorem makeTrib_trib_cases (s : State) (k l mode : Nat) (gs : List Nat) :
    (s.makeTrib k l mode gs).trib k = s.newTrib l mode gs ∨
      (s.makeTrib k l mode gs).trib k = (s.newTrib l mode gs).enterTais := by
  obtain ⟨t, heq, hk, -⟩ := makeTrib_eq s k l mode gs
  rw [heq, ← hk]
  exact laneTais_trib_cases t l k

/-- TRIB.CREATE makes its tributary, in TAIS where the lane brings no content, and leaves those of other lanes. -/
theorem makeTrib_makes (s : State) (k l mode : Nat) (gs : List Nat) (hl : s.tribLane l = l) :
    ((s.makeTrib k l mode gs).trib k).on = true ∧ ((s.makeTrib k l mode gs).trib k).lane = l ∧
      ((s.makeTrib k l mode gs).trib k).grains = gs ∧ (((s.makeTrib k l mode gs).trib k).retimed = true ↔ mode = 0) ∧
      (mode = 0 → ((s.makeTrib k l mode gs).trib k).level = 24 ∧ ((s.makeTrib k l mode gs).trib k).centring = 1 ∧
        ((s.makeTrib k l mode gs).trib k).ndf = true) ∧
      (s.tribsDown l = true → ((s.makeTrib k l mode gs).trib k).tais = true) ∧
      ∀ j, j ≠ k → (s.trib j).lane ≠ l → (s.makeTrib k l mode gs).trib j = s.trib j := by
  have hnew : (s.newTrib l mode gs).on = true ∧ (s.newTrib l mode gs).lane = l ∧ (s.newTrib l mode gs).grains = gs ∧
      ((s.newTrib l mode gs).retimed = true ↔ mode = 0) ∧ (mode = 0 → (s.newTrib l mode gs).level = 24 ∧
        (s.newTrib l mode gs).centring = 1 ∧ (s.newTrib l mode gs).ndf = true) := by
    unfold State.newTrib
    by_cases hm : mode = 0 <;> simp [hm]
  obtain ⟨hon, hlane, hgrains, hret, hptr⟩ := hnew
  refine ⟨?_, ?_, ?_, ?_, ?_, fun hd => ?_, fun j hj hne => ?_⟩
  · rcases makeTrib_trib_cases s k l mode gs with h | h <;> rw [h] <;> exact hon
  · rcases makeTrib_trib_cases s k l mode gs with h | h <;> rw [h] <;> exact hlane
  · rcases makeTrib_trib_cases s k l mode gs with h | h <;> rw [h] <;> exact hgrains
  · rcases makeTrib_trib_cases s k l mode gs with h | h <;> rw [h] <;> exact hret
  · rcases makeTrib_trib_cases s k l mode gs with h | h <;> rw [h] <;> exact hptr
  · obtain ⟨t, heq, hk, -, hdown, htl⟩ := makeTrib_eq s k l mode gs
    rw [heq]
    exact laneTais_trib_tais (hdown.trans hd) (by rw [hk, hon]) (by rw [hk, hlane, htl, hl])
  · obtain ⟨t, heq, -, hother, -, htl⟩ := makeTrib_eq s k l mode gs
    rw [heq, laneTais_trib_elsewhere (by rw [hother j hj, htl, hl]; exact hne), hother j hj]

theorem tribChecks_pass {s : State} {k l mode : Nat} {gs : List Nat}
    (hon : ∀ d ∈ (if mode = 0 then List.range 8 else [l / 64]), s.domain (4 + d) = 0) (hfree : (s.trib k).on = false)
    (htaken : ∀ g ∈ gs, s.memberOf (l * 4096 + g) = none) (hhigh : ∀ m ∈ s.prot.merges, m.high ≠ l)
    (hplesio : mode = 1 → s.cur .laneClocking l ≠ 1) (hpool : mode = 0 → s.poolUsed + gs.length ≤ 524288) :
    ∀ x ∈ s.tribChecks k l mode gs, x.1 = false := by
  have h1 : ((if mode = 0 then List.range 8 else [l / 64]).any fun d => s.domain (4 + d) != 0) = false := by
    simp only [List.any_eq_false, bne_iff_ne, ne_eq, Decidable.not_not]
    exact hon
  have h2 : (gs.any fun g => (s.memberOf (l * 4096 + g)).isSome) = false := by
    simp only [List.any_eq_false, Option.isSome_iff_ne_none, ne_eq, Decidable.not_not]
    exact htaken
  have h3 : (s.prot.merges.any fun m => m.high == l) = false := by
    simp only [List.any_eq_false, beq_iff_eq]
    exact hhigh
  have h4 : (mode == 1 && s.cur .laneClocking l == 1) = false := by
    simp only [Bool.and_eq_false_iff, beq_eq_false_iff_ne]
    exact Decidable.not_or_of_imp hplesio
  have h5 : (mode == 0 && decide (524288 < s.poolUsed + gs.length)) = false := by
    simp only [Bool.and_eq_false_iff, beq_eq_false_iff_ne, decide_eq_false_iff_not, Nat.not_lt]
    exact Decidable.not_or_of_imp hpool
  intro x hx
  simp only [State.tribChecks, List.mem_cons, List.not_mem_nil, or_false] at hx
  rcases hx with rfl | rfl | rfl | rfl
  · exact h1
  · dsimp only
    rw [hfree, h2, h3]
    rfl
  · exact h4
  · exact h5

theorem tribCreate_creates (e : Entry) (b : Buf) (grains : List Nat) (k l mode : Nat) :
    completes (.tribCreate e b grains k l grains.length mode) e ⟨0x0401, 2, false, false, []⟩ 1
      (fun s => grains ≠ [] ∧ grains.length ≤ 4096 ∧ 2 * grains.length ≤ b.len ∧ k ≤ 65535 ∧ l ≤ 511 ∧ mode ≤ 1 ∧
        (∀ g ∈ grains, g < s.grainsOf l) ∧ (sortGrains grains).length = grains.length ∧
        s.bufRead b (2 * grains.length) = true ∧
        (∀ d ∈ (if mode = 0 then List.range 8 else [l / 64]), s.domain (4 + d) = 0) ∧ (s.trib k).on = false ∧
        (∀ g ∈ sortGrains grains, s.memberOf (l * 4096 + g) = none) ∧ (∀ m ∈ s.prot.merges, m.high ≠ l) ∧
        (mode = 1 → s.cur .laneClocking l ≠ 1) ∧ (mode = 0 → s.poolUsed + grains.length ≤ 524288))
      (fun _ => 0)
      (fun s t => (t.trib k).on = true ∧ (t.trib k).lane = l ∧ (t.trib k).grains = sortGrains grains ∧
        ((t.trib k).retimed = true ↔ mode = 0) ∧ (mode = 0 → (t.trib k).level = 24 ∧ (t.trib k).centring = 1 ∧ (t.trib k).ndf = true) ∧
        (s.tribsDown l = true → (t.trib k).tais = true) ∧
        ∀ j, j ≠ k → (s.trib j).lane ≠ l → t.trib j = s.trib j) := by
  refine completes_told (body := tribCreateBody b grains k l grains.length mode) (fun _ => rfl)
    fun s c _ ⟨hne, hmost, hlen, hk, hl, hmode, hgrains, hdistinct, hread, hon, hfree, htaken, hhigh, hplesio, hpool⟩ => ?_
  have hcount : 0 < grains.length := List.length_pos_iff.mpr hne
  refine ⟨s.makeTrib k l mode (sortGrains grains), [(k, grains.length, mode)], ?_, rfl,
    ownPlaceKept_of_host e (touches_makeTrib ..).host, fun u hu _ _ => ?_⟩
  · unfold tribCreateBody
    dsimp only
    rw [List.take_length, guarded_pass, checkItems_pass, guarded_pass]
    · intro x hx
      rcases List.mem_append.mp hx with h | h
      · simp only [List.mem_cons, List.not_mem_nil, or_false] at h
        rcases h with rfl | rfl
        · simpa using hdistinct
        · simpa using hread
      · exact tribChecks_pass hon hfree htaken hhigh hplesio (by rwa [hdistinct]) x h
    · exact fun g hg => decide_eq_false (Nat.not_le.mpr (hgrains g hg))
    · intro x hx
      simp only [List.mem_cons, List.not_mem_nil, or_false] at hx
      rcases hx with rfl | rfl
      · simp only [Bool.or_eq_false_iff, beq_eq_false_iff_ne]
        omega
      · exact decide_eq_false (by omega)
  · simp only [hu.quiet.trib]
    exact makeTrib_makes s k l mode _ (tribLane_of_not_high hhigh)

theorem tribDelete_deletes (e : Entry) (k : Nat) :
    completes (.tribDelete e k) e ⟨0x0402, 2, false, false, []⟩ 1
      (fun s => k ≤ 65535 ∧ (s.trib k).on = true ∧ s.sw.bank0.namesTrib (s.trib k) = false ∧
        s.sw.bank1.namesTrib (s.trib k) = false)
      (fun _ => 0)
      (fun s t => t.trib k = {} ∧ s.otherTribs t k) := by
  refine completes_told (body := tribDeleteBody k) (fun _ => rfl) fun s c _ ⟨hk, hon, hb0, hb1⟩ => ?_
  refine ⟨s.setTrib k {}, [(k, 1, 0)], ?_, rfl, ownPlaceKept_of_host e rfl, fun u hu _ _ => ?_⟩
  · unfold tribDeleteBody
    rw [guarded_pass]
    simp [hk, hon, hb0, hb1]
  · exact ⟨(hu.quiet.trib k).trans (trib_setTrib ..),
      fun j hj => (hu.quiet.trib j).trans (trib_setTrib_other _ _ _ hj)⟩

theorem tribRealign_recentres (e : Entry) (k : Nat) :
    completes (.tribRealign e k) e ⟨0x0403, 2, false, true, []⟩ 1
      (fun s => k ≤ 65535 ∧ (s.trib k).on = true ∧ (s.trib k).retimed = true ∧ s.dev.role = .follower ∧ (s.trib k).tdiv = true)
      (fun _ => 0)
      (fun s t => t.trib k = { s.trib k with centring := match (s.trib k).holderAt with
          | some d => ((s.trib k).toStart + d) % 511 + 2
          | none => 1 } ∧ s.otherTribs t k) := by
  refine completes_told (body := tribRealignBody k) (fun _ => rfl) fun s c _ ⟨hk, hon, hret, hrole, htdiv⟩ => ?_
  refine ⟨s.setTrib k { s.trib k with centring := match (s.trib k).holderAt with
      | some d => ((s.trib k).toStart + d) % 511 + 2
      | none => 1 }, [(k, 1, 0)], ?_, rfl, ownPlaceKept_of_host e rfl, fun u hu _ _ => ?_⟩
  · have hstate : ¬(!(s.trib k).tdiv) = true := by simp [htdiv]
    exact (guarded_pass _ (by simp [hk, hon, hret, hrole])).trans (if_neg hstate)
  · exact ⟨(hu.quiet.trib k).trans (trib_setTrib ..),
      fun j hj => (hu.quiet.trib j).trans (trib_setTrib_other _ _ _ hj)⟩

/-- Settles O12: the tributary made, deleted, and re-centred. -/
theorem tributaryCommands : Obligations.TributaryCommands :=
  ⟨tribCreate_creates, tribDelete_deletes, tribRealign_recentres⟩

end Sys2Proof.Machine
end

section
/-!
PROOFS. The pointer generator and the lockstep of a pair (R137, R147 to R149, R231).
-/
namespace Sys2Proof.Machine
-- One theorem after the other: many at once need more stacks than the memory limit of the check allows.
set_option Elab.async false

/-- A state change beside the tributaries leaves each of them. -/
theorem State.touches.trib {p : List Part} {s t : State} (h : State.touches p s t) (k : Nat)
    (hp : p.contains Part.tribs = false := by rfl) : t.trib k = s.trib k := by
  unfold State.trib
  rw [h.tribs hp]

/-- The generator's own decision where an announcement is free to be made (R137, R138). -/
theorem decide'_free {t : Trib} {m : Nat} (h : pmfFree t.txNext m = true) :
    t.decide' m = if t.level < 22 then 1 else if 26 < t.level then 2 else 0 := by
  unfold Trib.decide'
  rw [h]
  by_cases h1 : t.level < 22
  · simp [h1, Nat.le_of_lt_succ h1]
  · have h2 : ¬ t.level ≤ 21 := by omega
    simp [h1, h2, Nat.succ_le_iff]

theorem pointerSample_announces (k : Nat) (s : State) (hon : (s.trib k).on = true) (hret : (s.trib k).retimed = true)
    (hrow : s.clk.rsn.toNat % 32 = 16) (hagree : s.disputed k = false) (hndf : (s.trib k).ndf = false)
    (hfree : pmfFree (s.trib k).txNext ((s.clk.rsn.toNat / 32 + 1) % 2 ^ 43) = true) :
    ∃ t, exec (.pointerSample k) s = .next t ∧ s.otherTribs t k ∧ t.trib k = { s.trib k with
      sample := min 48 (s.trib k).level
      txAnn := if (s.trib k).level < 22 then 1 else if 26 < (s.trib k).level then 2 else 0
      centred := false } := by
  have hexec : exec (.pointerSample k) s = execPointerSample k s := rfl
  rw [hexec, ← decide'_free hfree]
  unfold execPointerSample
  simp only [hon, hret, hrow, hagree, hndf, Bool.false_eq_true, if_false, Bool.and_self, beq_self_eq_true, if_true]
  refine ⟨_, rfl, fun j hj => ?_, ?_⟩
  · split
    · rw [(touches_sendDecision ..).trib, trib_setTrib_other _ _ _ hj]
    · exact trib_setTrib_other _ _ _ hj
  · split
    · rw [(touches_sendDecision ..).trib, trib_setTrib]
    · exact trib_setTrib ..

theorem lockstepDecision_held (pmf : Nat) (d : PtrDecision) (s : State) (hrole : s.dev.role = .follower)
    (hlink : s.pair.linkUp = true) (hdue : rsnLe s.clk.rsn (BitVec.ofNat 48 (32 * pmf) - 4) = true)
    (hon : (s.trib d.trib).on = true) (hret : (s.trib d.trib).retimed = true) :
    exec (.lockstepDecision pmf [d]) s =
      .next (s.setTrib d.trib { s.trib d.trib with decision := some (pmf, d.code % 4, d.toStart) }) := by
  have hexec : exec (.lockstepDecision pmf [d]) s = execLockstepDecision pmf [d] s := rfl
  rw [hexec]
  unfold execLockstepDecision
  rw [if_pos ⟨hrole, hlink, hdue⟩]
  simp only [List.foldl_cons, List.foldl_nil, State.takeDecision, hon, hret, Bool.and_self, if_true]

/-- A lockstep frame is compared by a follower whose link is up (R149, R231). -/
theorem exec_lockstepComparison (f : LockFrame) (s : State) (hrole : s.dev.role = .follower) (hlink : s.pair.linkUp = true) :
    exec (.lockstepComparison f) s =
      .next (f.groups.foldl State.compareSel (f.pointers.foldl State.comparePtr (s.learnGen f.generation))) := by
  have hexec : exec (.lockstepComparison f) s = execLockstepComparison f s := rfl
  rw [hexec]
  exact if_pos ⟨hrole, hlink⟩

/-- What the comparison of a selector group leaves of it (R231). -/
theorem compareSel_group (s : State) (k cmd : Nat) (sel tgt : Bool) :
    (s.compareSel (k, sel, cmd, tgt)).group k =
      if (s.group k).sel = sel ∧ (s.group k).cmd = cmd ∧ (cmd ≠ 3 ∨ (s.group k).target = tgt) then
        { s.group k with divRun := 0, psdiv := false }
      else { s.group k with
        divRun := min 2 ((s.group k).divRun + 1)
        psdiv := (s.group k).psdiv || decide (1 ≤ (s.group k).divRun) } :=
  group_modGroup ..

theorem lockstepComparison_groups (gen k cmd : Nat) (sel tgt : Bool) (s : State) (hrole : s.dev.role = .follower)
    (hlink : s.pair.linkUp = true) :
    ∃ t, exec (.lockstepComparison ⟨gen, [], [(k, sel, cmd, tgt)]⟩) s = .next t ∧
      ((s.group k).sel = sel → (s.group k).cmd = cmd → (cmd = 3 → (s.group k).target = tgt) →
        (t.group k).psdiv = false ∧ (t.group k).divRun = 0) ∧
      ((s.group k).sel ≠ sel → (s.group k).divRun = 0 → (t.group k).psdiv = (s.group k).psdiv ∧ (t.group k).divRun = 1) ∧
      ((s.group k).sel ≠ sel → 1 ≤ (s.group k).divRun → (t.group k).psdiv = true) := by
  have hgroup : (s.learnGen gen).group k = s.group k := by
    unfold State.group
    rw [(touches_learnGen s gen).prot]
  refine ⟨_, exec_lockstepComparison _ s hrole hlink, ?_⟩
  simp only [List.foldl_cons, List.foldl_nil, compareSel_group, hgroup]
  refine ⟨fun hsel hcmd htgt => ?_, fun hsel hrun => ?_, fun hsel hrun => ?_⟩
  · rw [if_pos ⟨hsel, hcmd, Decidable.not_or_of_imp htgt⟩]
    exact ⟨rfl, rfl⟩
  · rw [if_neg fun h => hsel h.1]
    simp [hrun]
  · rw [if_neg fun h => hsel h.1]
    simp [hrun]

/-- The comparison of a tributary: a match, or a mismatch with the distance between the two read positions (R149). -/
theorem comparePtr_trib (s : State) (k ptr dist : Nat) (hon : (s.trib k).on = true) (hret : (s.trib k).retimed = true) :
    s.otherTribs (s.comparePtr (k, ptr, dist)) k ∧
      ((s.trib k).txPtr = ptr → (s.trib k).startAt = dist → ((s.comparePtr (k, ptr, dist)).trib k).tdiv = false) ∧
      (∀ apart, (s.trib k).txPtr ≠ ptr ∨ (s.trib k).startAt ≠ dist → apart = (dist + 511 - (s.trib k).startAt % 511) % 511 →
        ((s.comparePtr (k, ptr, dist)).trib k).tdiv = true ∧
        ((s.comparePtr (k, ptr, dist)).trib k).holderAt = some apart ∧
        (s.cur .tribLockstepRealign k = 0 →
          ((s.comparePtr (k, ptr, dist)).trib k).centring = ((s.trib k).toStart + apart) % 511 + 2)) := by
  unfold State.comparePtr
  simp only [hon, hret, Bool.not_true, Bool.or_self, Bool.false_eq_true, if_false]
  split
  next hsame =>
    refine ⟨fun j hj => trib_setTrib_other _ _ _ hj, fun _ _ => by rw [trib_setTrib], fun _ h => ?_⟩
    exact h.elim (absurd hsame.1) (absurd hsame.2)
  next hdiff =>
    refine ⟨fun j hj => ?_, fun h1 h2 => absurd ⟨h1, h2⟩ hdiff, fun apart _ hapart => ?_⟩
    · split
      · rw [(tells_journalAuto _ _ _ _ {}).touches.trib, trib_setTrib_other _ _ _ hj]
      · exact trib_setTrib_other _ _ _ hj
    · subst hapart
      split
      · rw [(tells_journalAuto _ _ _ _ {}).touches.trib, trib_setTrib]
        exact ⟨rfl, rfl, fun _ => rfl⟩
      next hcur =>
        rw [trib_setTrib]
        exact ⟨rfl, rfl, fun h => absurd h hcur⟩

theorem lockstepComparison_tribs (gen k ptr dist : Nat) (s : State) (hrole : s.dev.role = .follower)
    (hlink : s.pair.linkUp = true) (hon : (s.trib k).on = true) (hret : (s.trib k).retimed = true) :
    ∃ t, exec (.lockstepComparison ⟨gen, [(k, ptr, dist)], []⟩) s = .next t ∧ s.otherTribs t k ∧
      ((s.trib k).txPtr = ptr → (s.trib k).startAt = dist → (t.trib k).tdiv = false) ∧
      (∀ apart, (s.trib k).txPtr ≠ ptr ∨ (s.trib k).startAt ≠ dist → apart = (dist + 511 - (s.trib k).startAt % 511) % 511 →
        (t.trib k).tdiv = true ∧ (t.trib k).holderAt = some apart ∧
        (s.cur .tribLockstepRealign k = 0 → (t.trib k).centring = ((s.trib k).toStart + apart) % 511 + 2)) := by
  have htrib : ∀ j, (s.learnGen gen).trib j = s.trib j := fun j => (touches_learnGen s gen).trib j
  have hcur : (s.learnGen gen).cur .tribLockstepRealign k = s.cur .tribLockstepRealign k := (touches_learnGen s gen).cur _ _
  have h := comparePtr_trib (s.learnGen gen) k ptr dist (by rw [htrib, hon]) (by rw [htrib, hret])
  unfold State.otherTribs at h
  simp only [htrib, hcur] at h
  exact ⟨_, exec_lockstepComparison _ s hrole hlink, h⟩

/-- Settles O13: the sample and its announcement, the holder's decision, and the two comparisons of a lockstep frame. -/
theorem pointersAndLockstep : Obligations.PointersAndLockstep :=
  ⟨pointerSample_announces, lockstepDecision_held, lockstepComparison_groups, lockstepComparison_tribs⟩

end Sys2Proof.Machine
end

section
/-!
PROOFS. Eye scans (R331, R332) and management frames (R402) of a lane.
-/
namespace Sys2Proof.Machine
-- One theorem after the other: many at once need more stacks than the memory limit of the check allows.
set_option Elab.async false

/-! ### Eye scans -/

theorem eyePoints_pos (eyes : Nat) : 0 < eyePoints eyes := by
  unfold eyePoints
  split <;> decide

theorem length_eyeEntry (n : Nat) : (eyeEntry n).length = 4 := length_leBytes ..

theorem eyeScan_accepted (e : Entry) (b : Buf) (l eyes d vstep freeze : Nat) :
    accepts (.laneEyeScan e b l eyes d vstep freeze) e ⟨0x0301, 2, false, false, []⟩ 0
      (fun s => l ≤ 511 ∧ eyes ≤ 3 ∧ 16 ≤ d ∧ d ≤ 32 ∧ 1 ≤ vstep ∧ vstep ≤ 4 ∧ freeze ≤ 1 ∧ 4 * eyePoints eyes ≤ b.len ∧
        s.bufWrite b (4 * eyePoints eyes) = true ∧ (s.lane l).rxOn = true ∧ (s.lane l).test.scan = none ∧ s.scans < 64)
      (fun c s t => t.lane l = { s.lane l with test := { (s.lane l).test with
          scan := some (b, eyes, d, vstep, freeze, c)
          scanWait := s.cur .laneRxAdapt l == 2
          scanEnd := false } } ∧ s.otherLanes t l) := by
  refine accepts_told (body := eyeScanBody b l eyes d vstep freeze) (fun _ => rfl)
    fun s c _ ⟨hl, heyes, hd, hd', hv, hv', hfreeze, hlen, hwrite, hrx, hidle, hscans⟩ => ?_
  have hneed : 0 < 4 * eyePoints eyes := Nat.mul_pos (by decide) (eyePoints_pos eyes)
  refine ⟨_, [], guarded_pass _ fun x hx => ?_, rfl, fun u hu _ =>
    ⟨(hu.lane l).trans (lane_setLane ..), fun k hk => (hu.lane k).trans (lane_setLane_other _ _ _ hk)⟩⟩
  rcases List.mem_append.mp hx with h | h
  · rcases List.mem_append.mp h with h | h
    · simp only [List.mem_cons, List.not_mem_nil, or_false] at h
      rcases h with rfl | rfl
      · exact beq_false_of_ne (by omega)
      · exact decide_eq_false (by omega)
    · exact bufChecks_pass (write := true) hlen hneed hwrite x h
  · simp only [List.mem_cons, List.not_mem_nil, or_false] at h
    rcases h with rfl | rfl | rfl
    · simp [hrx]
    · simp [hidle]
    · exact decide_eq_false (Nat.not_le.mpr hscans)

theorem eyeScan_done (l : Fin 512) (b : Buf) (eyes d v f : Nat) (c : CmdRef) (counts : List Nat) (s : State)
    (hscan : (s.lane l).test.scan = some (b, eyes, d, v, f, c)) (hwait : (s.lane l).test.scanWait = false)
    (hend : (s.lane l).test.scanEnd = false) (hcounts : counts.length = eyePoints eyes) (hlink : s.host.linkUp = true)
    (hwrite : s.bufWrite b (4 * eyePoints eyes) = true) (h16 : 16 ≤ c.ring) :
    ∃ t, exec (.eyeScanDone l counts) s = .next t ∧ (t.lane l).test.scan = none ∧ s.otherLanes t l ∧
      Table.getRun 0 t.host.mem b.addr (4 * eyePoints eyes) = counts.flatMap eyeEntry := by
  have hlen : (counts.flatMap eyeEntry).length = 4 * eyePoints eyes := by
    rw [length_flatMap_const counts (m := 4) fun x _ => length_eyeEntry x, hcounts, Nat.mul_comm]
  have hexec : exec (.eyeScanDone l counts) s = .next (((s.setLane l { s.lane l with
      eqOk := (s.lane l).eqOk && !(s.adaptHeld l && s.cur .laneRxAdapt l == 2)
      test := { (s.lane l).test with scan := none, scanWait := false, scanEnd := false } }).hostWrite b.addr
        (counts.flatMap eyeEntry)).complete c 0 0 0 false) := by
    have hexec : exec (.eyeScanDone l counts) s = execEyeScanDone l counts s := rfl
    have hfits : ∀ x, (s.setLane l x).bufWrite b (4 * eyePoints eyes) = true := fun _ => hwrite
    have hup : ∀ x, (s.setLane l x).host.linkUp = true := fun _ => hlink
    rw [hexec]
    unfold execEyeScanDone
    simp only [hscan, hwait, hend, Bool.false_and, Bool.false_eq_true, if_false, List.take_of_length_le hcounts.le, hlen,
      hfits, hup, Bool.and_self, if_true]
  refine ⟨_, hexec, ?_, fun k hk => ?_, ?_⟩
  · rw [(quiet_complete ..).lane, (quiet_hostWrite ..).lane, lane_setLane]
  · rw [(quiet_complete ..).lane, (quiet_hostWrite ..).lane, lane_setLane_other _ _ _ hk]
  · rw [complete_mem _ _ _ _ _ _ h16, ← hlen]
    exact hostWrite_reads ..

/-! ### Management frames -/

theorem mgmtChecks_pass {s : State} {l ch : Nat} (hl : l ≤ 511) (hch : ch ≤ 1) (hext : ch = 1 → s.cur .laneMode l = 0) :
    ∀ x ∈ s.mgmtChecks l ch, x.1 = false := by
  have h1 : ¬(511 < l ∨ 1 < ch) := by omega
  have h2 : (ch == 1 && s.cur .laneMode l != 0) = false := by
    by_cases h : ch = 1
    · rw [hext h]; exact Bool.and_false _
    · rw [beq_false_of_ne h]; exact Bool.false_and _
  simp [State.mgmtChecks, h1, h2]

theorem mgmtSend_queues (e : Entry) (b : Buf) (l ch : Nat) (frame : List Byte) :
    completes (.laneMgmtSend e b l ch frame) e ⟨0x0302, 2, false, false, []⟩ 1
      (fun s => 1 ≤ b.len ∧ b.len ≤ 4096 ∧ l ≤ 511 ∧ ch ≤ 1 ∧ (ch = 1 → s.cur .laneMode l = 0) ∧ s.bufRead b b.len = true ∧
        (if ch = 0 then (s.lane l).mgmtTx.1 else (s.lane l).mgmtTx.2).length < 16)
      (fun _ => 0)
      (fun s t => (ch = 0 → (t.lane l).mgmtTx = ((s.lane l).mgmtTx.1 ++ [frame.take b.len], (s.lane l).mgmtTx.2)) ∧
        (ch = 1 → (t.lane l).mgmtTx = ((s.lane l).mgmtTx.1, (s.lane l).mgmtTx.2 ++ [frame.take b.len])) ∧ s.otherLanes t l) := by
  refine completes_told (body := mgmtSendBody b l ch frame) (fun _ => rfl)
    fun s c _ ⟨hsome, hmost, hl, hch, hext, hread, hroom⟩ => ?_
  refine ⟨_, [(l, 1, ch)], guarded_pass _ fun x hx => ?_, rfl, ownPlaceKept_of_host e rfl, fun u hu _ _ =>
    ⟨fun h => ?_, fun h => ?_, fun k hk => (hu.quiet.lane k).trans (lane_modLane_other _ _ _ hk)⟩⟩
  · rcases List.mem_append.mp hx with h | h
    · rcases List.mem_append.mp h with h | h
      · simp only [List.mem_cons, List.not_mem_nil, or_false] at h
        rcases h with rfl | rfl
        · exact beq_false_of_ne (by omega)
        · exact decide_eq_false (by omega)
      · exact mgmtChecks_pass hl hch hext x h
    · simp only [List.mem_cons, List.not_mem_nil, or_false] at h
      rcases h with rfl | rfl
      · simp [hread]
      · exact decide_eq_false (Nat.not_le.mpr hroom)
  · rw [hu.quiet.lane, lane_modLane]
    simp [h]
  · rw [hu.quiet.lane, lane_modLane]
    simp [h]

theorem mgmtRecv_delivers (e : Entry) (b : Buf) (l ch : Nat) (f : List Byte) (r : List (List Byte)) :
    completes (.laneMgmtRecv e b l ch) e ⟨0x0303, 2, false, false, []⟩ 0
      (fun s => l ≤ 511 ∧ ch ≤ 1 ∧ (ch = 1 → s.cur .laneMode l = 0) ∧ 1 ≤ b.len ∧ f.length ≤ b.len ∧
        (if ch = 0 then (s.lane l).mgmtRx.1 else (s.lane l).mgmtRx.2) = f :: r ∧ s.bufWrite b f.length = true)
      (fun _ => f.length)
      (fun s t => (if ch = 0 then (t.lane l).mgmtRx.1 else (t.lane l).mgmtRx.2) = r ∧ s.otherLanes t l ∧
        (16 ≤ e.ring → Table.getRun 0 t.host.mem b.addr f.length = f)) := by
  refine completes_told (body := mgmtRecvBody b l ch) (fun _ => rfl)
    fun s c _ ⟨hl, hch, hext, hsome, hlen, hqueue, hwrite⟩ => ?_
  refine ⟨(s.modLane l fun x => { x with
      mgmtRx := if ch = 0 then (r, (s.lane l).mgmtRx.2) else ((s.lane l).mgmtRx.1, r) }).hostWrite b.addr f, [], ?_, rfl,
    ownPlaceKept_hostWrite .., fun u hu _ _ => ⟨?_, fun k hk => ?_, fun h16 => ?_⟩⟩
  · unfold mgmtRecvBody
    dsimp only
    rw [guarded_pass, hqueue]
    · dsimp only
      rw [guarded_pass]
      have hne : b.len ≠ 0 := by omega
      simp [State.bufChecks, hne, hlen, hwrite]
    · intro x hx
      rcases List.mem_append.mp hx with h | h
      · rw [List.mem_singleton.mp h]
        exact beq_false_of_ne (by omega)
      · exact mgmtChecks_pass hl hch hext x h
  · rw [hu.quiet.lane, (quiet_hostWrite ..).lane, lane_modLane]
    by_cases h : ch = 0 <;> simp [h]
  · rw [hu.quiet.lane, (quiet_hostWrite ..).lane, lane_modLane_other _ _ _ hk]
  · rw [hu.mem h16]
    exact hostWrite_reads ..

theorem mgmtRecv_empty (e : Entry) (b : Buf) (l ch : Nat) :
    completes (.laneMgmtRecv e b l ch) e ⟨0x0303, 2, false, false, []⟩ 0
      (fun s => l ≤ 511 ∧ ch ≤ 1 ∧ (ch = 1 → s.cur .laneMode l = 0) ∧ 1 ≤ b.len ∧
        (if ch = 0 then (s.lane l).mgmtRx.1 else (s.lane l).mgmtRx.2) = [])
      (fun _ => 0)
      (fun s t => s.quiet t) := by
  refine completes_told (body := mgmtRecvBody b l ch) (fun _ => rfl) fun s c _ ⟨hl, hch, hext, hsome, hempty⟩ =>
    ⟨s, [], ?_, rfl, ownPlaceKept_of_host e rfl, fun u hu _ _ => hu.quiet⟩
  unfold mgmtRecvBody
  dsimp only
  rw [guarded_pass, hempty]
  intro x hx
  rcases List.mem_append.mp hx with h | h
  · rw [List.mem_singleton.mp h]
    exact beq_false_of_ne (by omega)
  · exact mgmtChecks_pass hl hch hext x h

/-- Settles O11: a scan accepted and done, a frame queued, delivered, and an empty queue. -/
theorem eyeScansAndFrames : Obligations.EyeScansAndFrames :=
  ⟨eyeScan_accepted, eyeScan_done, mgmtSend_queues, mgmtRecv_delivers, mgmtRecv_empty⟩

end Sys2Proof.Machine
end

section
/-!
PROOFS. The test set, injection programmes and loops (R320, R321, R323 to R325), and the entry into HUNT that they share with the alignment
(R92, R110).
-/
namespace Sys2Proof.Machine
-- One theorem after the other: many at once need more stacks than the memory limit of the check allows.
set_option Elab.async false

/-! ### LOF sets, and HUNT is entered (R92, R110) -/

theorem laneTais_lane (s : State) (l k : Nat) : (s.laneTais l).lane k = s.lane k := (touches_laneTais s l).lane k

theorem setLof_lane (s : State) (l : Nat) (counts : Bool) :
    (s.setLof l counts).lane l = if (s.lane l).los then s.lane l else
      { (s.lane l).maskAll with lof := true, runs := { sync := 0 }, secErr := true, secSev := true } := by
  unfold State.setLof
  dsimp only
  split
  · rfl
  · split
    · rw [(tells_bump ..).touches.lane, laneTais_lane, lane_setLane]
    · rw [laneTais_lane, lane_setLane]

theorem setLof_lane_other (s : State) (l : Nat) (counts : Bool) {k : Nat} (hk : k ≠ l) :
    (s.setLof l counts).lane k = s.lane k := by
  unfold State.setLof
  dsimp only
  split
  · rfl
  · split
    · rw [(tells_bump ..).touches.lane, laneTais_lane, lane_setLane_other _ _ _ hk]
    · rw [laneTais_lane, lane_setLane_other _ _ _ hk]

/-- LOF sets where LOS does not mask it. -/
theorem setLof_lof (s : State) (l : Nat) (counts : Bool) (h : (s.lane l).los = false) :
    ((s.setLof l counts).lane l).lof = true := by
  rw [setLof_lane, h]
  rfl

/-- A lane that has lost its alignment, before LOF is asked for (R92, R107). -/
def Lane.hunting (x : Lane) (barred : List (Nat × Nat)) : Lane :=
  { x.rowLost with
    align := .hunt
    cands := []
    jump := none
    held := none
    rcfRun := 0
    pnInv := false
    traceAcc := none
    runs := { x.runs with sync := 0 }
    barred := barred }

theorem enterHunt_eq (s : State) (l : Nat) (bar : Option Nat) : ∃ barred,
    s.enterHunt l bar = (s.setLane l ((s.lane l).hunting barred)).setLof l true := ⟨_, rfl⟩

theorem enterHunt_lane (s : State) (l : Nat) (bar : Option Nat) :
    ((s.enterHunt l bar).lane l).align = .hunt ∧ ((s.enterHunt l bar).lane l).cands = [] ∧
      ((s.enterHunt l bar).lane l).test = (s.lane l).test.reseed ∧
      ((s.lane l).los = false → ((s.enterHunt l bar).lane l).lof = true) := by
  obtain ⟨barred, heq⟩ := enterHunt_eq s l bar
  have hlos : ((s.setLane l ((s.lane l).hunting barred)).lane l).los = (s.lane l).los := by
    rw [lane_setLane]
    rfl
  refine ⟨?_, ?_, ?_, fun h => ?_⟩
  · rw [heq, setLof_lane, lane_setLane]
    split <;> rfl
  · rw [heq, setLof_lane, lane_setLane]
    split <;> rfl
  · rw [heq, setLof_lane, lane_setLane]
    split <;> rfl
  · rw [heq]
    exact setLof_lof _ l true (hlos.trans h)

theorem enterHunt_lane_other (s : State) (l : Nat) (bar : Option Nat) {k : Nat} (hk : k ≠ l) :
    (s.enterHunt l bar).lane k = s.lane k := by
  obtain ⟨barred, heq⟩ := enterHunt_eq s l bar
  rw [heq, setLof_lane_other _ _ _ hk, lane_setLane_other _ _ _ hk]

/-! ### Tests of a lane end (R325, R336) -/

theorem endLoop_lane (s : State) (l : Nat) : (s.endLoop l).lane l = { s.lane l with
    tx := if (s.lane l).test.loop = 0 then (s.lane l).tx else {}
    test := { (s.lane l).test with loop := 0, loopNext := none, far := none, near := [] } } := by
  unfold State.endLoop
  dsimp only
  split
  · rw [(quiet_complete ..).lane, lane_setLane]
  · rw [lane_setLane]

theorem endLoop_lane_other (s : State) (l : Nat) {k : Nat} (hk : k ≠ l) : (s.endLoop l).lane k = s.lane k := by
  unfold State.endLoop
  dsimp only
  split
  · rw [(quiet_complete ..).lane, lane_setLane_other _ _ _ hk]
  · rw [lane_setLane_other _ _ _ hk]

/-- Without a pending TEST.LOOP no command completes. -/
theorem endLoop_host {s : State} {l : Nat} (h : (s.lane l).test.loopNext = none) : (s.endLoop l).host = s.host := by
  unfold State.endLoop
  dsimp only
  rw [h]
  rfl

/-- A pattern of a lane is OFF, and nothing of it waits for a row (R318, R325). -/
def State.patternOff (s : State) (n : Pn) (l : Nat) : State := (s.setCur n l 0).release n l

theorem patternOff_cur (s : State) (n : Pn) (l : Nat) : (s.patternOff n l).cur n l = 0 :=
  (cur_setCur_same s n l 0 : (s.setCur n l 0).cur n l = 0)

theorem patternOff_cur_other (s : State) {n m : Pn} {l : Nat} (h : m.key l ≠ n.key l) :
    (s.patternOff n l).cur m l = s.cur m l :=
  (cur_setCur_other s 0 h : (s.setCur n l 0).cur m l = s.cur m l)

theorem touches_patternOff (s : State) (n : Pn) (l : Nat) : State.touches [.par] s (s.patternOff n l) :=
  (touches_release ..).after (touches_setCur ..)

/-- A lane's generator is OFF, and so is a LINE checker; a PAYLOAD checker goes on (R325, R336). -/
def State.patternsOff (s : State) (l : Nat) : State :=
  if s.cur .lanePrbsRx l = 1 then (s.patternOff .lanePrbsTx l).patternOff .lanePrbsRx l else s.patternOff .lanePrbsTx l

theorem touches_patternsOff (s : State) (l : Nat) : State.touches [.par] s (s.patternsOff l) :=
  touches_ite _ ((touches_patternOff ..).after (touches_patternOff ..)) (touches_patternOff ..)

theorem prbs_keys {l : Nat} (hl : l ≤ 511) : Pn.lanePrbsRx.key l ≠ Pn.lanePrbsTx.key l := fun h =>
  absurd (key_injective (by omega) (by omega) h) (by decide)

theorem patternsOff_tx (s : State) {l : Nat} (hl : l ≤ 511) : (s.patternsOff l).cur .lanePrbsTx l = 0 := by
  unfold State.patternsOff
  split
  · rw [patternOff_cur_other _ (prbs_keys hl).symm, patternOff_cur]
  · exact patternOff_cur ..

theorem patternsOff_rx (s : State) {l : Nat} (h : s.cur .lanePrbsRx l = 1) : (s.patternsOff l).cur .lanePrbsRx l = 0 := by
  unfold State.patternsOff
  rw [if_pos h, patternOff_cur]

theorem stopTests_eq (s : State) (l : Nat) (hl : l ≤ 511) :
    s.stopTests l false = ((s.patternsOff l).modLane l fun x => { x with test := {
      (if s.cur .lanePrbsRx l = 1 then x.test.reseed else x.test) with injRows := 0 } }).endLoop l := by
  have hrx : ((s.setCur .lanePrbsTx l 0).release .lanePrbsTx l).cur .lanePrbsRx l = s.cur .lanePrbsRx l :=
    patternOff_cur_other s (prbs_keys hl)
  unfold State.stopTests State.patternsOff State.patternOff
  simp only [hrx, Bool.false_and, Bool.or_false, beq_iff_eq]

/-- The tests of a lane without a pending TEST.LOOP stop. -/
theorem stopTests_stops (s : State) (l : Nat) (hl : l ≤ 511) (hidle : (s.lane l).test.loopNext = none) :
    ((s.stopTests l false).lane l).test.loop = 0 ∧ ((s.stopTests l false).lane l).test.injRows = 0 ∧
      (s.stopTests l false).cur .lanePrbsTx l = 0 ∧ (s.cur .lanePrbsRx l = 1 → (s.stopTests l false).cur .lanePrbsRx l = 0) ∧
      s.otherLanes (s.stopTests l false) l ∧ (s.stopTests l false).host = s.host := by
  have hoff := touches_patternsOff s l
  rw [stopTests_eq s l hl]
  refine ⟨by rw [endLoop_lane], by rw [endLoop_lane, lane_modLane], ?_, fun h => ?_, fun k hk => ?_, ?_⟩
  · rw [(touches_endLoop ..).cur, (touches_modLane ..).cur, patternsOff_tx s hl]
  · rw [(touches_endLoop ..).cur, (touches_modLane ..).cur, patternsOff_rx s h]
  · rw [endLoop_lane_other _ _ hk, lane_modLane_other _ _ _ hk, hoff.lane]
  · rw [endLoop_host, (touches_modLane ..).host, hoff.host]
    rw [lane_modLane, hoff.lane]
    split <;> exact hidle

/-! ### TEST.LANE (R320, R321) -/

/-- A state change beside the parameters leaves the values in effect. -/
theorem State.touches.eff {p : List Part} {s t : State} (h : State.touches p s t) (n : Pn) (o : Nat)
    (hp : p.contains Part.par = false := by rfl) : t.eff n o = s.eff n o := by
  have hlate : t.par.late = s.par.late := (congrArg Params.late (h.1 .par hp) :)
  unfold State.eff
  rw [hlate, h.cur n o hp]

/-- The LINE checker needs its pattern, TEST and the test set, which no alignment changes. -/
theorem lineChecker_iff (s : State) (l : Nat) : s.lineChecker l = true ↔
    s.eff .lanePrbsRx l = 1 ∧ s.eff .lanePrbsPattern l ≤ 1 ∧ s.dev.mode = .test ∧ (s.lane l).test.under = true := by
  unfold State.lineChecker
  simp only [Bool.and_eq_true, beq_iff_eq, decide_eq_true_eq, and_assoc]

/-- The lane stands in the test set, or no more. -/
def State.setUnder (s : State) (l : Nat) (add : Bool) : State :=
  s.modLane l fun x => { x with test := { x.test with under := add } }

theorem lineChecker_setUnder (s : State) (l : Nat) : (s.setUnder l true).lineChecker l = true ↔
    s.eff .lanePrbsRx l = 1 ∧ s.eff .lanePrbsPattern l ≤ 1 ∧ s.dev.mode = .test := by
  rw [lineChecker_iff, State.setUnder, (touches_modLane ..).eff, (touches_modLane ..).eff, (touches_modLane ..).mode, lane_modLane]
  simp

theorem checkerFrom_idle {t s : State} {l : Nat} (h : t.lineChecker l = true → (t.lane l).rxOn = true → s.lineChecker l = true) :
    t.checkerFrom s l = t := by
  unfold State.checkerFrom
  refine if_neg fun hc => ?_
  simp only [Bool.and_eq_true, Bool.not_eq_true'] at hc
  obtain ⟨⟨ht, hs⟩, hrx⟩ := hc
  exact absurd (h ht hrx) (by rw [hs]; decide)

theorem testLane_served (l add : Nat) (c : CmdRef) (s : State) (hl : l ≤ 511) (hadd : add ≤ 1) (hmode : s.dev.mode = .test) :
    testLaneBody l add c s = .done (((if add = 1 then s else s.stopTests l false).setUnder l (add == 1)).checkerFrom
      (if add = 1 then s else s.stopTests l false) l) 0 [(l, 1, add)] := by
  refine guarded_pass _ fun x hx => ?_
  simp only [List.mem_cons, List.not_mem_nil, or_false] at hx
  rcases hx with rfl | rfl
  · exact decide_eq_false (by omega)
  · simp [hmode]

theorem testLane_adds (e : Entry) (l : Nat) :
    completes (.testLane e l 1) e ⟨0x0E03, 3, false, false, []⟩ 1
      (fun s => l ≤ 511 ∧ s.dev.mode = .test ∧ (s.eff .lanePrbsRx l = 1 → (s.lane l).rxOn = true → (s.lane l).test.under = true))
      (fun _ => 0)
      (fun s t => t.lane l = { s.lane l with test := { (s.lane l).test with under := true } } ∧ s.otherLanes t l) := by
  refine completes_told (body := testLaneBody l 1) (fun _ => rfl) fun s c _ ⟨hl, hmode, hunder⟩ => ?_
  have hidle : (s.setUnder l true).checkerFrom s l = s.setUnder l true := checkerFrom_idle fun hc hrx => by
    obtain ⟨hprbs, hpat, -⟩ := (lineChecker_setUnder s l).mp hc
    rw [State.setUnder, lane_modLane] at hrx
    exact (lineChecker_iff s l).mpr ⟨hprbs, hpat, hmode, hunder hprbs hrx⟩
  refine ⟨s.setUnder l true, [(l, 1, 1)], (testLane_served l 1 c s hl le_rfl hmode).trans ?_, rfl, ownPlaceKept_of_host e rfl,
    fun u hu _ _ => ⟨(hu.quiet.lane l).trans (lane_modLane ..), fun k hk => (hu.quiet.lane k).trans (lane_modLane_other _ _ _ hk)⟩⟩
  rw [if_pos rfl, beq_self_eq_true, hidle]

/-- The checker that starts holds the lane in HUNT, with LOF set (R321). -/
theorem checkerFrom_starts {t s : State} {l : Nat} (ht : t.lineChecker l = true) (hs : s.lineChecker l = false)
    (hrx : (t.lane l).rxOn = true) : ((t.checkerFrom s l).lane l).test.under = (t.lane l).test.under ∧
      ((t.checkerFrom s l).lane l).align = .hunt ∧ ((t.lane l).los = false → ((t.checkerFrom s l).lane l).lof = true) ∧
      t.otherLanes (t.checkerFrom s l) l := by
  have heq : t.checkerFrom s l = (t.enterHunt l none).modLane l fun x => { x with test := x.test.reseed } :=
    if_pos (by rw [ht, hs, hrx]; rfl)
  obtain ⟨halign, -, htest, hlof⟩ := enterHunt_lane t l none
  rw [heq, lane_modLane]
  refine ⟨?_, halign, hlof, fun k hk => ?_⟩
  · rw [htest]
    rfl
  · rw [lane_modLane_other _ _ _ hk, enterHunt_lane_other _ _ _ hk]

theorem testLane_starts (e : Entry) (l : Nat) :
    completes (.testLane e l 1) e ⟨0x0E03, 3, false, false, []⟩ 1
      (fun s => l ≤ 511 ∧ s.dev.mode = .test ∧ s.eff .lanePrbsRx l = 1 ∧ s.eff .lanePrbsPattern l ≤ 1 ∧ (s.lane l).rxOn = true ∧
        (s.lane l).test.under = false)
      (fun _ => 0)
      (fun s t => (t.lane l).test.under = true ∧ (t.lane l).align = .hunt ∧ ((s.lane l).los = false → (t.lane l).lof = true) ∧
        t.lineChecker l = true ∧ s.otherLanes t l) := by
  refine completes_told (body := testLaneBody l 1) (fun _ => rfl) fun s c _ ⟨hl, hmode, hprbs, hpat, hrx, hunder⟩ => ?_
  have hlane : (s.setUnder l true).lane l = { s.lane l with test := { (s.lane l).test with under := true } } := lane_modLane ..
  have hold : s.lineChecker l = false := by
    rw [← Bool.not_eq_true, lineChecker_iff, hunder]
    simp
  have htouch : State.touches [.counts, .lanes, .tribs, .log] s ((s.setUnder l true).checkerFrom s l) :=
    (touches_checkerFrom ..).after (touches_modLane ..).le
  obtain ⟨hu', halign, hlof, hother⟩ := checkerFrom_starts ((lineChecker_setUnder s l).mpr ⟨hprbs, hpat, hmode⟩) hold
    (by rw [hlane]; exact hrx)
  rw [hlane] at hu' hlof
  refine ⟨(s.setUnder l true).checkerFrom s l, [(l, 1, 1)], testLane_served l 1 c s hl le_rfl hmode, rfl,
    ownPlaceKept_of_host e htouch.host, fun u hu _ _ => ⟨?_, ?_, fun h => ?_, ?_, fun k hk => ?_⟩⟩
  · rw [hu.quiet.lane, hu']
  · rw [hu.quiet.lane, halign]
  · rw [hu.quiet.lane, hlof h]
  · rw [lineChecker_iff, hu.quiet.eff, hu.quiet.eff, hu.quiet.dev, hu.quiet.lane, hu', htouch.eff, htouch.eff, htouch.mode]
    exact ⟨hprbs, hpat, hmode, rfl⟩
  · rw [hu.quiet.lane, hother k hk]
    exact lane_modLane_other _ _ _ hk

theorem testLane_removes (e : Entry) (l : Nat) :
    completes (.testLane e l 0) e ⟨0x0E03, 3, false, false, []⟩ 1
      (fun s => l ≤ 511 ∧ s.dev.mode = .test ∧ (s.lane l).test.loopNext = none)
      (fun _ => 0)
      (fun s t => (t.lane l).test.under = false ∧ (t.lane l).test.loop = 0 ∧ (t.lane l).test.injRows = 0 ∧
        t.cur .lanePrbsTx l = 0 ∧ (s.cur .lanePrbsRx l = 1 → t.cur .lanePrbsRx l = 0) ∧ s.otherLanes t l) := by
  refine completes_told (body := testLaneBody l 0) (fun _ => rfl) fun s c _ ⟨hl, hmode, hnone⟩ => ?_
  obtain ⟨hloop, hinj, htx, hrx, hother, hhost⟩ := stopTests_stops s l hl hnone
  have hserved := testLane_served l 0 c s hl (Nat.zero_le _) hmode
  rw [if_neg (by decide)] at hserved
  generalize s.stopTests l false = v at *
  have hidle : (v.setUnder l false).checkerFrom v l = v.setUnder l false := checkerFrom_idle fun hc _ => by
    rw [lineChecker_iff, State.setUnder, lane_modLane] at hc
    exact absurd hc.2.2.2 Bool.false_ne_true
  have hv : ∀ n, (v.setUnder l false).cur n l = v.cur n l := fun n => (touches_modLane ..).cur n l
  refine ⟨v.setUnder l false, [(l, 1, 0)], hserved.trans (by rw [← hidle]; rfl), rfl, ownPlaceKept_of_host e hhost,
    fun u hu _ _ => ?_⟩
  rw [hu.quiet.lane, hu.quiet.cur, hu.quiet.cur, hv, hv, State.setUnder, lane_modLane]
  exact ⟨rfl, hloop, hinj, htx, hrx, fun k hk =>
    (hu.quiet.lane k).trans ((lane_modLane_other _ _ _ hk).trans (hother k hk))⟩

/-! ### TEST.INJECT and TEST.LOOP (R323 to R325) -/

theorem testChecks_pass {s : State} {l : Nat} (hmode : s.dev.mode = .test) (hunder : (s.lane l).test.under = true) :
    ∀ x ∈ s.testChecks l, x.1 = false := by
  simp [State.testChecks, hmode, hunder]

theorem testInject_programmes (e : Entry) (rows l amount kind : Nat) :
    completes (.testInject e rows l amount kind) e ⟨0x0E04, 3, false, false, []⟩ 1
      (fun s => l ≤ 511 ∧ kind ≤ 5 ∧ s.dev.mode = .test ∧ (s.lane l).test.under = true ∧ (s.lane l).txOn = true ∧
        1 ≤ amount ∧ amount ≤ injectMax kind ∧ rows ≠ 0)
      (fun _ => 0)
      (fun s t => t.lane l = { s.lane l with test := { (s.lane l).test with
          injKind := kind
          injAmount := amount
          injRows := rows + 1
          injFrom := s.clk.rsn + 1 } } ∧ s.otherLanes t l) := by
  refine completes_told (body := testInjectBody rows l amount kind) (fun _ => rfl)
    fun s c _ ⟨hl, hkind, hmode, hunder, htx, hsome, hmost, hrows⟩ => ?_
  refine ⟨_, [(l, 1, rows)], (guarded_pass _ fun x hx => ?_).trans (if_neg hrows), rfl, ownPlaceKept_of_host e rfl,
    fun u hu _ _ => ⟨(hu.quiet.lane l).trans (lane_modLane ..), fun k hk =>
      (hu.quiet.lane k).trans (lane_modLane_other _ _ _ hk)⟩⟩
  rcases List.mem_append.mp hx with h | h
  · rcases List.mem_append.mp h with h | h
    · rw [List.mem_singleton.mp h]
      exact decide_eq_false (by omega)
    · exact testChecks_pass hmode hunder x h
  · simp only [List.mem_cons, List.not_mem_nil, or_false] at h
    rcases h with rfl | rfl
    · simp [htx]
    · exact decide_eq_false (by omega)

/-- A loop that still waits is replaced: its command completes, and its lane is left to the new one. -/
theorem testLoop_accepted (e : Entry) (l loop : Nat) :
    accepts (.testLoop e l loop) e ⟨0x0E05, 3, false, false, []⟩ 1
      (fun s => l ≤ 511 ∧ loop ≤ 4 ∧ (s.lane l).rxOn = true ∧ (s.lane l).txOn = true ∧ s.dev.mode = .test ∧
        (s.lane l).test.under = true)
      (fun c s t => t.lane l = { s.lane l with test := { (s.lane l).test with loopNext := some (loop, s.clk.tick, c) } } ∧
        s.otherLanes t l) := by
  refine accepts_told (body := testLoopBody l loop) (fun _ => rfl) fun s c _ ⟨hl, hloop, hrx, htx, hmode, hunder⟩ => ?_
  have hquiet : ∃ v, s.quiet v ∧ (match (s.lane l).test.loopNext with
      | some (_, _, old) => s.complete old 0 0 0 false
      | none => s) = v := by
    cases (s.lane l).test.loopNext with
    | none => exact ⟨s, quiet_refl s, rfl⟩
    | some x => exact ⟨_, quiet_complete .., rfl⟩
  obtain ⟨v, hv, heq⟩ := hquiet
  refine ⟨v.modLane l fun x => { x with test := { x.test with loopNext := some (loop, v.clk.tick, c) } }, [(l, 1, loop)], ?_, rfl,
    fun u hu _ => ⟨?_, fun k hk => ?_⟩⟩
  · rw [← heq]
    refine guarded_pass _ fun x hx => ?_
    rcases List.mem_append.mp hx with h | h
    · simp only [List.mem_cons, List.not_mem_nil, or_false] at h
      rcases h with rfl | rfl
      · exact decide_eq_false (by omega)
      · simp [hrx, htx]
    · exact testChecks_pass hmode hunder x h
  · rw [hu.lane, lane_modLane, hv.lane, hv.clk]
  · rw [hu.lane, lane_modLane_other _ _ _ hk, hv.lane]

/-! ### The events that end them -/

/-- The judgement of the trace changes nothing of a lane's tests. -/
theorem evalTrace_test (s : State) (l : Nat) : ((s.evalTrace l).lane l).test = (s.lane l).test := by
  unfold State.evalTrace
  rw [laneTais_lane]
  unfold State.traceDefects
  dsimp only
  split
  · split
    · rw [lane_setLane]
    · rfl
  · rw [lane_setLane]

theorem evalTrace_lane_other (s : State) (l : Nat) {k : Nat} (hk : k ≠ l) : (s.evalTrace l).lane k = s.lane k := by
  unfold State.evalTrace
  rw [laneTais_lane]
  unfold State.traceDefects
  dsimp only
  split
  · split
    · rw [lane_setLane_other _ _ _ hk]
    · rfl
  · rw [lane_setLane_other _ _ _ hk]

theorem loopEffect_loops (l : Fin 512) (k tick : Nat) (c : CmdRef) (s : State)
    (hnext : (s.lane l).test.loopNext = some (k, tick, c)) :
    ∃ t, exec (.loopEffect l) s = .next t ∧ (t.lane l).test.loop = k ∧ (t.lane l).test.loopNext = none ∧ s.otherLanes t l := by
  have hexec : exec (.loopEffect l) s = .next (((s.setLane l { s.lane l with
      tx := if (s.lane l).test.loop = k then (s.lane l).tx else {}
      test := { (s.lane l).test with loop := k, loopNext := none, far := none, near := [] } }).evalTrace l).complete c 0 0 0
        false) := by
    have hexec : exec (.loopEffect l) s = execLoopEffect l s := rfl
    rw [hexec]
    unfold execLoopEffect
    simp only [hnext]
  refine ⟨_, hexec, ?_, ?_, fun j hj => ?_⟩
  · rw [(quiet_complete ..).lane, evalTrace_test, lane_setLane]
  · rw [(quiet_complete ..).lane, evalTrace_test, lane_setLane]
  · rw [(quiet_complete ..).lane, evalTrace_lane_other _ _ hj, lane_setLane_other _ _ _ hj]

theorem injectionEnd_ends (l : Fin 512) (s : State) (h : (s.lane l).test.injRows = 1) :
    exec (.injectionEnd l) s = .next (s.setLane l { s.lane l with test := { (s.lane l).test with injRows := 0 } }) := by
  have hexec : exec (.injectionEnd l) s = execInjectionEnd l s := rfl
  rw [hexec]
  exact if_pos h

/-- Settles O10: the test set with and without a LINE checker that starts, the injection, the loop, and the two events. -/
theorem laneTests : Obligations.LaneTests :=
  ⟨testLane_adds, testLane_starts, testLane_removes, testInject_programmes, testLoop_accepted, loopEffect_loops, injectionEnd_ends⟩

end Sys2Proof.Machine
end

section
/-!
PROOFS. What the stages of a received row leave of the lanes: the alignment of its own lane, and every other lane (R92 to R118).
-/
namespace Sys2Proof.Machine
-- One theorem after the other: many at once need more stacks than the memory limit of the check allows.
set_option Elab.async false

/-! ### What a stage keeps -/

/-- What the alignment state machine of a lane goes by: its state, candidates, expected row and position, polarity, bars, LOS, LOF, and the
loop that decides what it hears (R92, R95, R110, R324). -/
def Lane.alignment (x : Lane) :=
  (x.align, x.cands, x.expRsn, x.offset, x.pnInv, x.barred, x.los, x.lof, x.test.loop)

/-- A stage that works on lane l alone, where the lane is no part of a pair, and keeps what f reads of the lane. The values in force and the
pairs stay. -/
structure State.onLane {α : Type} (f : Lane → α) (l : Nat) (s t : State) : Prop where
  others : s.pairOf l = none → s.otherLanes t l
  merges : t.prot.merges = s.prot.merges
  vals : t.par.vals = s.par.vals
  own : f (t.lane l) = f (s.lane l)

/-- A stage that works on lane l alone, whatever it does there. -/
abbrev State.onLaneOnly (l : Nat) (s t : State) : Prop := State.onLane (fun _ => ()) l s t

section
variable {α : Type} {f : Lane → α} {l : Nat} {s t u : State}

theorem State.onLane.any (h : State.onLane f l s t) : State.onLaneOnly l s t := ⟨h.others, h.merges, h.vals, rfl⟩

theorem State.onLane.pairOf (h : State.onLane f l s t) (k : Nat) : t.pairOf k = s.pairOf k := by
  unfold State.pairOf
  rw [h.merges]

theorem State.onLane.cur (h : State.onLane f l s t) (n : Pn) (o : Nat) : t.cur n o = s.cur n o := by
  unfold State.cur
  rw [h.vals]

theorem onLane_refl (f : Lane → α) (l : Nat) (s : State) : State.onLane f l s s := ⟨fun _ _ _ => rfl, rfl, rfl, rfl⟩

theorem State.onLane.after (k : State.onLane f l t u) (h : State.onLane f l s t) : State.onLane f l s u where
  others hp j hj := (k.others ((h.pairOf l).trans hp) j hj).trans (h.others hp j hj)
  merges := k.merges.trans h.merges
  vals := k.vals.trans h.vals
  own := k.own.trans h.own

theorem onLane_ite (c : Prop) [Decidable c] (h : State.onLane f l s t) (k : State.onLane f l s u) :
    State.onLane f l s (if c then t else u) := by
  split
  · exact h
  · exact k

/-- What is told, journalled or counted works on no lane. -/
theorem State.touches.onLane {p : List Part} (h : State.touches p s t) (f : Lane → α) (l : Nat)
    (hl : p.contains Part.lanes = false := by rfl) (hm : p.contains Part.prot = false := by rfl)
    (hv : p.contains Part.par = false := by rfl) : State.onLane f l s t :=
  ⟨fun _ k _ => h.lane k hl, by rw [h.prot hm], h.vals hv, by rw [h.lane l hl]⟩

theorem onLane_setLane {x : Lane} (h : f x = f (s.lane l)) : State.onLane f l s (s.setLane l x) :=
  ⟨fun _ _ hk => lane_setLane_other _ _ _ hk, rfl, rfl, by rw [lane_setLane, h]⟩

theorem onLane_modLane {g : Lane → Lane} (h : f (g (s.lane l)) = f (s.lane l)) : State.onLane f l s (s.modLane l g) :=
  onLane_setLane h

theorem onLane_release (f : Lane → α) (l : Nat) (s : State) (n : Pn) (o : Nat) : State.onLane f l s (s.release n o) :=
  ⟨fun _ _ _ => rfl, rfl, rfl, rfl⟩

end

/-! ### The receiver hears the same -/

section
variable {l : Nat} {s t : State} (h : State.onLane Lane.alignment l s t)
include h

theorem State.onLane.align : (t.lane l).align = (s.lane l).align := congrArg (·.1) h.own
theorem State.onLane.cands : (t.lane l).cands = (s.lane l).cands := congrArg (·.2.1) h.own
theorem State.onLane.expRsn : (t.lane l).expRsn = (s.lane l).expRsn := congrArg (·.2.2.1) h.own
theorem State.onLane.offset : (t.lane l).offset = (s.lane l).offset := congrArg (·.2.2.2.1) h.own
theorem State.onLane.pnInv : (t.lane l).pnInv = (s.lane l).pnInv := congrArg (·.2.2.2.2.1) h.own
theorem State.onLane.barred : (t.lane l).barred = (s.lane l).barred := congrArg (·.2.2.2.2.2.1) h.own
theorem State.onLane.los : (t.lane l).los = (s.lane l).los := congrArg (·.2.2.2.2.2.2.1) h.own
theorem State.onLane.lof : (t.lane l).lof = (s.lane l).lof := congrArg (·.2.2.2.2.2.2.2.1) h.own
theorem State.onLane.loop : (t.lane l).test.loop = (s.lane l).test.loop := congrArg (·.2.2.2.2.2.2.2.2) h.own

theorem State.onLane.near : (t.lane l).near = (s.lane l).near := by
  unfold Lane.near
  rw [h.loop]

theorem State.onLane.rxPrecode : t.rxPrecode l = s.rxPrecode l := by
  unfold State.rxPrecode
  rw [h.near, h.cur, h.cur]

theorem State.onLane.rxRow (inv : Bool) (r : RawRow) : t.rxRow l inv r = s.rxRow l inv r := by
  unfold State.rxRow
  rw [h.cur, h.rxPrecode]

theorem State.onLane.huntForm (r : RawRow) : t.huntForm l r = s.huntForm l r := by
  unfold State.huntForm
  rw [h.near, h.cur, h.rxPrecode]

end

/-! ### Counts and the trace -/

theorem onLane_laneTais {α : Type} (f : Lane → α) (l : Nat) (s : State) (k : Nat) : State.onLane f l s (s.laneTais k) :=
  (touches_laneTais s k).onLane f l

theorem onLane_countCodewords (s : State) (l : Nat) (lost : Option Nat) (r : LineRow) (c d : Nat) :
    State.onLane Lane.alignment l s (s.countCodewords l lost r c d) := by
  unfold State.countCodewords
  extract_lets _ _ _ _ _ s1 s2 s3 s4
  have h1 : State.onLane Lane.alignment l s s1 := onLane_modLane rfl
  have h2 : State.touches [.counts, .log] s1 s2 := (tells_bump ..).touches.after ((tells_bump ..).touches.after
    (tells_bump ..).touches.le)
  have h3 : State.touches [.counts, .log] s1 s3 := (tells_bump ..).touches.after ((tells_bump ..).touches.after
    ((touches_countCodewords_hist ..).after h2))
  have h4 : State.touches [.counts, .log] s1 s4 := (tells_lifeAdd ..).touches.after ((tells_lifeAdd ..).touches.after h3)
  exact onLane_ite _ h1 (((tells_perf ..).touches.onLane _ _).after (((tells_perf ..).touches.onLane _ _).after
    ((h4.onLane _ _).after h1)))

theorem onLane_traceDefects (s : State) (l : Nat) : State.onLane Lane.alignment l s (s.traceDefects l) := by
  unfold State.traceDefects
  dsimp only
  split
  · exact onLane_ite _ (onLane_setLane rfl) (onLane_refl ..)
  · exact onLane_setLane rfl

theorem onLane_evalTrace (s : State) (l : Nat) : State.onLane Lane.alignment l s (s.evalTrace l) :=
  (onLane_laneTais _ _ _ _).after (onLane_traceDefects s l)

theorem onLane_laneTraceByte (s : State) (l : Nat) (rsn : Rsn) (b : Byte) :
    State.onLane Lane.alignment l s (s.laneTraceByte l rsn b) := by
  unfold State.laneTraceByte
  extract_lets _ _ _ _ _ _ _ s1
  have h1 : State.onLane Lane.alignment l s s1 := onLane_setLane rfl
  exact onLane_ite _ (onLane_setLane rfl) (onLane_ite _ (onLane_setLane rfl)
    (onLane_ite _ (((tells_bump ..).touches.onLane _ _).after (onLane_setLane rfl))
      (onLane_ite _ ((onLane_evalTrace ..).after h1) h1)))

/-! ### The row judged, and delivered -/

theorem closeTsd_vals (s : State) (k : Nat) : (s.closeTsd k).par.vals = s.par.vals := rfl

theorem startPmf_vals (s : State) (k m : Nat) : (s.startPmf k m).par.vals = s.par.vals := by
  unfold State.startPmf
  extract_lets s1 _ _ _ _ _ s2
  have h2 : s2.par.vals = s.par.vals := ((touches_countExec s k).vals :)
  split
  · exact h2
  · exact (closeTsd_vals ..).trans h2

theorem tribRow_vals (s : State) (k spr : Nat) (rsn : Rsn) (valid ais : Bool) (slots : Table (BitVec 64)) (c : RowContent) :
    (s.tribRow k spr rsn valid ais slots c).par.vals = s.par.vals := by
  unfold State.tribRow
  extract_lets _ _ s1 _ s2 _ _ _ _
  have h1 : s1.par.vals = s.par.vals := by
    simp only [s1]
    split
    · exact startPmf_vals ..
    · rfl
  have h2 : s2.par.vals = s.par.vals := by
    simp only [s2]
    split
    · exact (touches_evalSlot ..).vals.trans h1
    · exact h1
  exact h2

theorem tribRows_go_vals (l : Nat) (rsn : Rsn) (valid ais : Bool) (slots : Table (BitVec 64)) (c : RowContent)
    (ts : List (Nat × Trib)) (s : State) : (State.tribRows.go l rsn valid ais slots c ts s).par.vals = s.par.vals := by
  induction ts generalizing s with
  | nil => rw [State.tribRows.go]
  | cons x r ih =>
    rw [State.tribRows.go, ih]
    split
    · exact tribRow_vals ..
    · rfl

theorem onLane_tribRows {α : Type} (f : Lane → α) (k : Nat) (s : State) (l : Nat) (rsn : Rsn) (valid ais : Bool)
    (slots : Table (BitVec 64)) (c : RowContent) : State.onLane f k s (s.tribRows l rsn valid ais slots c) :=
  have h := touches_tribRows s l rsn valid ais slots c
  ⟨fun _ j _ => h.lane j, by rw [h.prot], tribRows_go_vals .., by rw [h.lane]⟩

theorem onLane_deliver (s : State) (l : Nat) (rsn : Rsn) (valid ais got : Bool) (c : RowContent) (slots : Table (BitVec 64))
    (aps : List Byte) : State.onLane Lane.alignment l s (s.deliver l rsn valid ais got c slots aps) := by
  unfold State.deliver
  extract_lets _ _ _ _ s1 s2
  have h1 : State.onLane Lane.alignment l s s1 := onLane_setLane rfl
  have h2 : State.onLane Lane.alignment l s s2 := onLane_ite _ (((tells_perf ..).touches.onLane _ _).after h1)
    (((tells_perf ..).touches.onLane _ _).after (((tells_bump ..).touches.onLane _ _).after h1))
  split
  · exact onLane_ite _ h2 ((onLane_tribRows ..).after h2)
  · exact (onLane_tribRows ..).after h2

theorem onLane_closeSd (s : State) (l : Nat) : State.onLane Lane.alignment l s (s.closeSd l) := by
  unfold State.closeSd
  extract_lets
  exact (onLane_release ..).after ((onLane_release ..).after (onLane_setLane rfl))

theorem onLane_judge (s : State) (l : Nat) (check : Bool) : State.onLane Lane.alignment l s (s.judge l check) := by
  unfold State.judge
  split
  · exact onLane_refl ..
  · extract_lets _ _ _ _ _ _ s1 s2 s3 _ _ _ s4 s5
    have h1 : State.onLane Lane.alignment l s s1 := onLane_setLane rfl
    have h2 : State.onLane Lane.alignment l s s2 := onLane_ite _ h1 (((tells_bump ..).touches.onLane _ _).after h1)
    have h3 : State.onLane Lane.alignment l s s3 :=
      ((tells_bump ..).touches.onLane _ _).after (((tells_bump ..).touches.onLane _ _).after h2)
    have h4 : State.onLane Lane.alignment l s s4 :=
      onLane_ite _ (State.onLane.after (onLane_setLane rfl) h3) (State.onLane.after (onLane_modLane rfl) h2)
    have h5 : State.onLane Lane.alignment l s s5 := (onLane_deliver ..).after h4
    exact onLane_ite _ ((onLane_closeSd ..).after h5) h5

theorem onLane_missRow (s : State) (l : Nat) (rsn : Rsn) : State.onLane Lane.alignment l s (s.missRow l rsn) := by
  unfold State.missRow
  extract_lets s1 s2
  have h1 : State.onLane Lane.alignment l s s1 := onLane_modLane rfl
  have h2 : State.onLane Lane.alignment l s s2 := (onLane_deliver ..).after h1
  exact onLane_ite _ ((onLane_closeSd ..).after h2) h2

/-! ### What a row carries -/

theorem onLane_mgmtBytes_frames (l ch : Nat) (fs : List (List Byte)) (s : State) :
    State.onLane Lane.alignment l s (State.mgmtBytes.frames l ch fs s) := by
  induction fs generalizing s with
  | nil =>
    rw [State.mgmtBytes.frames]
    exact onLane_refl ..
  | cons x r ih =>
    rw [State.mgmtBytes.frames]
    dsimp only
    split
    · exact (ih _).after ((tells_bump ..).touches.onLane _ _)
    · refine onLane_ite _ ((ih _).after ((tells_bump ..).touches.onLane _ _)) ((ih _).after ?_)
      exact onLane_ite _ (((tells_info ..).touches.onLane _ _).after (((tells_perf ..).touches.onLane _ _).after (onLane_setLane rfl)))
        (((tells_perf ..).touches.onLane _ _).after (onLane_setLane rfl))

theorem onLane_mgmtBytes (s : State) (l : Nat) (bs ext : List Byte) :
    State.onLane Lane.alignment l s (s.mgmtBytes l bs ext) := by
  unfold State.mgmtBytes
  extract_lets _
  exact (onLane_mgmtBytes_frames ..).after ((onLane_mgmtBytes_frames ..).after (onLane_setLane rfl))

theorem onLane_failedFields (s : State) (l : Nat) (r : LineRow) : State.onLane Lane.alignment l s (s.failedFields l r) :=
  onLane_ite _ (onLane_refl ..) (onLane_mgmtBytes ..)

theorem apsRecord_go_merges (gs : List Nat) (req : Nat) (sel sig : Bool) (seq : Nat) (s : State) :
    (State.apsRecord.go gs req sel sig seq s).prot.merges = s.prot.merges := by
  induction gs generalizing s with
  | nil => rw [State.apsRecord.go]
  | cons x r ih =>
    have hcount : ∀ (c : Prop) [Decidable c] (v : State),
        (if c then v else v.bump .protPmFeChanges x 1).prot.merges = v.prot.merges := fun c _ v => by
      split
      · rfl
      · rw [(tells_bump ..).touches.prot]
    rw [State.apsRecord.go, ih]
    exact hcount _ _

theorem apsRecord_merges (s : State) (l : Nat) (r : List Byte) : (s.apsRecord l r).prot.merges = s.prot.merges := by
  unfold State.apsRecord
  dsimp only
  split
  · rfl
  · split
    · rw [(tells_bump ..).touches.prot]
    · split
      · rw [(tells_bump ..).touches.prot]
      · exact apsRecord_go_merges ..

theorem apsRow_merges (s : State) (l : Nat) (aps : List Byte) : (s.apsRow l aps).prot.merges = s.prot.merges := by
  unfold State.apsRow
  split
  · rw [(tells_bump ..).touches.prot]
  · split
    · rfl
    · exact (apsRecord_merges ..).trans (apsRecord_merges ..)

theorem onLane_apsRow {α : Type} (f : Lane → α) (k : Nat) (s : State) (l : Nat) (aps : List Byte) :
    State.onLane f k s (s.apsRow l aps) :=
  have h := touches_apsRow s l aps
  ⟨fun _ j _ => h.lane j, apsRow_merges .., h.vals, by rw [h.lane]⟩

/-- A checker's bit changes no loop. -/
theorem checkBit_loop (w : Nat) (taps : List Nat) (a : LaneTest × Nat × Nat × Nat) (b : Bool) :
    (checkBit w taps a b).1.loop = a.1.loop := by
  unfold checkBit
  dsimp only
  split_ifs <;> rfl

theorem checkBits_loop (w : Nat) (taps : List Nat) (bs : List Bool) (a : LaneTest × Nat × Nat × Nat) :
    (bs.foldl (checkBit w taps) a).1.loop = a.1.loop := by
  induction bs generalizing a with
  | nil => rfl
  | cons b r ih => exact (ih _).trans (checkBit_loop ..)

theorem onLane_checkBits (s : State) (l w : Nat) (taps : List Nat) (bs : List Bool) :
    State.onLane Lane.alignment l s (s.checkBits l w taps bs) := by
  unfold State.checkBits
  have h := checkBits_loop w taps bs ((s.lane l).test, 0, 0, 0)
  exact ((tells_bump ..).touches.onLane _ _).after (((tells_bump ..).touches.onLane _ _).after
    (((tells_bump ..).touches.onLane _ _).after (onLane_modLane (congrArg (fun k => ((s.lane l).align, (s.lane l).cands,
      (s.lane l).expRsn, (s.lane l).offset, (s.lane l).pnInv, (s.lane l).barred, (s.lane l).los, (s.lane l).lof, k)) h))))

theorem onLane_rowFields (s : State) (l : Nat) (r : LineRow) : State.onLane Lane.alignment l s (s.rowFields l r) := by
  unfold State.rowFields
  extract_lets s1 s2 s3
  have h1 : State.onLane Lane.alignment l s s1 := onLane_laneTraceByte ..
  have h2 : State.onLane Lane.alignment l s s2 := (onLane_mgmtBytes ..).after h1
  have h3 : State.onLane Lane.alignment l s s3 := (onLane_apsRow ..).after h2
  exact onLane_ite _ ((onLane_checkBits ..).after h3) h3

theorem onLane_hold (s : State) (l : Nat) (r : LineRow) (rsnOk : Bool) : State.onLane Lane.alignment l s (s.hold l r rsnOk) :=
  onLane_modLane rfl

/-! ### Integration, the anchor, and the far loop -/

theorem integrate_alignment (x : Lane) (locked lockedRow : Bool) (r : Option LineRow) :
    (x.integrate locked lockedRow r).alignment = x.alignment := by
  unfold Lane.integrate
  dsimp only
  split
  · rfl
  · split <;> rfl

theorem onLane_integrateRow (s : State) (l : Nat) (inSync : Bool) (r : Option LineRow) :
    State.onLane Lane.alignment l s (s.integrateRow l inSync r) := by
  unfold State.integrateRow
  refine onLane_modLane ((integrate_alignment ..).trans ?_)
  split <;> rfl

theorem onLane_enterSync (s : State) (l : Nat) (r : LineRow) : State.onLane Lane.alignment l s (s.enterSync l r) :=
  State.onLane.after (onLane_modLane rfl) (onLane_integrateRow ..)

theorem onLane_releaseSd {α : Type} (f : Lane → α) (l : Nat) (s : State) (k : Nat) : State.onLane f l s (s.releaseSd k) :=
  (onLane_release ..).after (onLane_release ..)

theorem onLane_shareAnchor (s : State) (l a : Nat) : State.onLane Lane.alignment l s (s.shareAnchor l a) :=
  have h := touches_shareAnchor s l a
  ⟨fun hp _ hk => shareAnchor_lane_other s l a hk (by rwa [anchorPartner_alone hp]), by rw [h.prot], h.vals, by
    rw [shareAnchor_lane]
    rfl⟩

theorem onLane_anchorAtSync (s : State) (l : Nat) : State.onLane Lane.alignment l s (s.anchorAtSync l) :=
  onLane_ite _ (onLane_refl ..) (onLane_ite _ (onLane_shareAnchor ..) (onLane_shareAnchor ..))

theorem onLane_keepFar (s : State) (l : Nat) (raw : RawRow) : State.onLane Lane.alignment l s (s.keepFar l raw) := by
  unfold State.keepFar
  extract_lets
  exact onLane_ite _ (onLane_refl ..) (onLane_setLane rfl)

theorem onLane_countRest (s : State) (l : Nat) (raw : RawRow) : State.onLane Lane.alignment l s (s.countRest l raw) := by
  unfold State.countRest
  split
  · exact onLane_countCodewords ..
  · exact onLane_refl ..

end Sys2Proof.Machine
end

section
/-!
PROOFS. The alignment state machine over the rows a lane receives (R92 to R96), LOS (R110), and the defects that integrate over rows
(R110, R111).
-/
namespace Sys2Proof.Machine
-- One theorem after the other: many at once need more stacks than the memory limit of the check allows.
set_option Elab.async false

/-! ### A position examined (R92, R94, R95) -/

theorem examine_lane (s : State) (l : Nat) (raw : RawRow) : (s.examine l raw).lane l = { s.lane l with
    align := if (s.openCand l raw).1.isEmpty then .hunt else .confirm
    cands := (s.openCand l raw).1 } := by
  unfold State.examine
  dsimp only
  rw [lane_modLane]
  split
  · rw [(tells_bump ..).touches.lane]
  · rfl

theorem onLane_examine (s : State) (l : Nat) (raw : RawRow) : State.onLaneOnly l s (s.examine l raw) := by
  unfold State.examine
  extract_lets _ s1
  have h1 : State.onLaneOnly l s s1 := onLane_ite _ ((tells_bump ..).touches.onLane _ _) (onLane_refl ..)
  exact State.onLane.after (onLane_modLane rfl) h1

/-- A match whose frame check passes is the candidate that CONFIRM examines. -/
theorem openCand_opens {s : State} {l : Nat} {raw : RawRow} {rev : Bool} (hform : s.huntForm l raw = some rev)
    (hbar : (s.lane l).barred = []) (hnone : (s.lane l).cands = []) (hok : frameCheck rev (s.rxRow l rev raw) = true) :
    (s.openCand l raw).1 = [⟨raw.offset, (s.rxRow l rev raw).rsn, rev, lineCrc (s.rxRow l rev raw),
      !(s.rxRow l rev raw).unc.isEmpty⟩] := by
  unfold State.openCand
  simp [hform, hbar, hnone, hok]

theorem openCand_none {s : State} {l : Nat} {raw : RawRow} (h : s.huntForm l raw = none) :
    (s.openCand l raw).1 = (s.lane l).cands := by
  unfold State.openCand
  simp [h]

/-- Outside SYNC and FLYWHEEL a lane is in HUNT or in CONFIRM; without a match and without a candidate it is in HUNT. -/
theorem examine_align (s : State) (l : Nat) (raw : RawRow) :
    (((s.examine l raw).lane l).align = .hunt ∨ ((s.examine l raw).lane l).align = .confirm) ∧
      ((s.lane l).cands = [] → s.huntForm l raw = none → ((s.examine l raw).lane l).align = .hunt) := by
  rw [examine_lane]
  refine ⟨?_, fun hc hn => ?_⟩
  · dsimp only
    split
    · exact .inl rfl
    · exact .inr rfl
  · rw [openCand_none hn, hc]
    rfl

/-! ### Rows in HUNT and CONFIRM -/

/-- No codeword of a candidate's first row is counted (R118). -/
theorem onLane_unreported (s : State) (l : Nat) : State.onLane Lane.alignment l s
    (if (s.lane l).cands.isEmpty then s else s.modLane l fun x => { x with runcTx := 0 }) :=
  onLane_ite _ (onLane_refl ..) (onLane_modLane rfl)

theorem onLane_rowHunt (s : State) (l : Nat) (raw : RawRow) : State.onLaneOnly l s (s.rowHunt l raw) :=
  (onLane_unreported ..).any.after ((onLane_integrateRow ..).any.after (onLane_examine ..))

/-- A match in HUNT opens a candidate, and CONFIRM examines it (R92, R94). -/
theorem rowHunt_confirms {s : State} {l : Nat} {raw : RawRow} {rev : Bool} (hform : s.huntForm l raw = some rev)
    (hbar : (s.lane l).barred = []) (hnone : (s.lane l).cands = []) (hok : frameCheck rev (s.rxRow l rev raw) = true) :
    ((s.rowHunt l raw).lane l).align = .confirm ∧ ((s.rowHunt l raw).lane l).cands =
      [⟨raw.offset, (s.rxRow l rev raw).rsn, rev, lineCrc (s.rxRow l rev raw), !(s.rxRow l rev raw).unc.isEmpty⟩] := by
  have hcands := openCand_opens hform hbar hnone hok
  have hrest : State.onLane Lane.alignment l (s.examine l raw) (s.rowHunt l raw) :=
    (onLane_unreported ((s.examine l raw).integrateRow l false none) l).after (onLane_integrateRow ..)
  rw [hrest.align, hrest.cands, examine_lane, hcands]
  exact ⟨rfl, rfl⟩

/-- The candidate's next row, at its place and with the row check of the row before, brings SYNC (R92, R101). -/
theorem rowConfirm_syncs {s : State} {l : Nat} {raw : RawRow} {c : Cand} {rest : List Cand} (hcands : (s.lane l).cands = c :: rest)
    (hplace : raw.offset = c.offset) (hok : frameCheck c.rev (s.rxRow l c.rev raw) = true)
    (hrsn : (s.rxRow l c.rev raw).rsn = c.rsn + 1) (hcheck : (s.rxRow l c.rev raw).check = c.crc) :
    ((s.rowConfirm l raw).lane l).align = .sync ∧
      ((s.rowConfirm l raw).lane l).expRsn = (s.rxRow l c.rev raw).rsn + 1 ∧
      ((s.rowConfirm l raw).lane l).offset = c.offset ∧ ((s.rowConfirm l raw).lane l).pnInv = c.rev := by
  unfold State.rowConfirm
  rw [hcands]
  dsimp only
  rw [if_pos hplace, if_pos ⟨hok, hrsn, hcheck⟩]
  generalize s.rxRow l c.rev raw = r
  generalize s.countCodewords l raw.lost r 0 1 = u
  have hrest : ∀ v : State, State.onLane Lane.alignment l v
      (((((v.releaseSd l).anchorAtSync l).enterSync l r).rowFields l r).hold l r true) := fun v =>
    (onLane_hold ..).after ((onLane_rowFields ..).after ((onLane_enterSync ..).after ((onLane_anchorAtSync (v.releaseSd l) l).after
      (onLane_releaseSd _ l v l))))
  rw [(hrest _).align, (hrest _).expRsn, (hrest _).offset, (hrest _).pnInv, lane_modLane]
  exact ⟨rfl, rfl, rfl, rfl⟩

theorem onLane_rowConfirm (s : State) (l : Nat) (raw : RawRow) : State.onLaneOnly l s (s.rowConfirm l raw) := by
  unfold State.rowConfirm
  split
  · exact onLane_rowHunt ..
  next c rest _ =>
    have h1 : ∀ r, State.onLaneOnly l s (s.countCodewords l raw.lost r 0 1) := fun r => (onLane_countCodewords ..).any
    refine onLane_ite _ (onLane_ite _ ?_ ?_) (onLane_examine ..)
    · exact (onLane_hold ..).any.after ((onLane_rowFields ..).any.after ((onLane_enterSync ..).any.after
        ((onLane_anchorAtSync ..).any.after ((onLane_releaseSd ..).after (State.onLane.after (onLane_modLane rfl) (h1 _))))))
    · exact (onLane_integrateRow ..).any.after ((onLane_examine ..).after (State.onLane.after (onLane_modLane rfl)
        (((tells_bump ..).touches.onLane _ _).after (h1 _))))

/-! ### Rows in SYNC and FLYWHEEL -/

theorem onLane_enterHunt (s : State) (l : Nat) (bar : Option Nat) : State.onLaneOnly l s (s.enterHunt l bar) :=
  have h := touches_enterHunt s l bar
  ⟨fun _ _ hk => enterHunt_lane_other _ _ _ hk, by rw [h.prot], h.vals, rfl⟩

/-- The row missed: what FLYWHEEL does with a failed row before the alignment is asked (R72, R105, R110). -/
theorem onLane_missed (s : State) (l : Nat) (r : LineRow) (e : Rsn) :
    State.onLane Lane.alignment l s (((s.failedFields l r).missRow l e).integrateRow l false none) :=
  (onLane_integrateRow ..).after ((onLane_missRow ..).after (onLane_failedFields ..))

/-- A row in SYNC that fails its frame check brings FLYWHEEL (R92). -/
theorem rowSync_flywheels {s : State} {l : Nat} {raw : RawRow} (hbad : frameCheck (s.lane l).pnInv (s.rxRow l (s.lane l).pnInv raw) = false) :
    ((s.rowSync l raw).lane l).align = .flywheel ∧ ((s.rowSync l raw).lane l).expRsn = (s.lane l).expRsn + 1 := by
  unfold State.rowSync
  dsimp only
  rw [hbad, Bool.not_false, if_pos rfl, (onLane_missed ..).align, (onLane_missed ..).expRsn, lane_modLane, (onLane_countCodewords ..).expRsn]
  exact ⟨rfl, rfl⟩

theorem onLane_rowSync (s : State) (l : Nat) (raw : RawRow) : State.onLaneOnly l s (s.rowSync l raw) := by
  unfold State.rowSync
  extract_lets _ r s1 _ bad _ take
  have h1 : State.onLaneOnly l s s1 := (onLane_countCodewords ..).any
  have hbad : ∀ u, State.onLaneOnly l u (bad u) := fun u =>
    (onLane_missed ..).any.after (State.onLane.after (onLane_modLane rfl) (onLane_judge ..).any)
  have htake : ∀ u exp ok jump, State.onLaneOnly l u (take u exp ok jump) := fun u exp ok jump =>
    have h : State.onLaneOnly l u (((((u.judge l _).integrateRow l true (some r)).rowFields l r).hold l r ok).modLane l
        fun x => { x with expRsn := exp, jump := jump }) :=
      State.onLane.after (onLane_modLane rfl) ((onLane_hold ..).any.after ((onLane_rowFields ..).any.after
        ((onLane_integrateRow ..).any.after (onLane_judge ..).any)))
    onLane_ite _ ((onLane_enterHunt ..).after (((tells_bump ..).touches.onLane _ _).after ((onLane_judge ..).any.after h))) h
  refine onLane_ite _ ((hbad _).after h1) ?_
  split
  · exact onLane_ite _ ((htake ..).after (((tells_bump ..).touches.onLane _ _).after h1))
      (onLane_ite _ ((htake ..).after h1) ((hbad _).after h1))
  · exact onLane_ite _ ((htake ..).after h1) ((htake ..).after h1)

/-- A row in FLYWHEEL that is the expected one brings SYNC back (R92). -/
theorem rowFlywheel_syncs {s : State} {l : Nat} {raw : RawRow}
    (hok : frameCheck (s.lane l).pnInv (s.rxRow l (s.lane l).pnInv raw) = true)
    (hrsn : (s.rxRow l (s.lane l).pnInv raw).rsn = (s.lane l).expRsn) :
    ((s.rowFlywheel l raw).lane l).align = .sync ∧
      ((s.rowFlywheel l raw).lane l).expRsn = (s.rxRow l (s.lane l).pnInv raw).rsn + 1 := by
  unfold State.rowFlywheel
  dsimp only
  rw [if_pos ⟨hok, hrsn⟩]
  generalize s.countCodewords l raw.lost (s.rxRow l (s.lane l).pnInv raw) 0 1 = u
  have hrest : ∀ v : State, State.onLane Lane.alignment l v (((v.enterSync l (s.rxRow l (s.lane l).pnInv raw)).rowFields l
      (s.rxRow l (s.lane l).pnInv raw)).hold l (s.rxRow l (s.lane l).pnInv raw) true) := fun v =>
    (onLane_hold ..).after ((onLane_rowFields ..).after (onLane_enterSync ..))
  rw [(hrest _).align, (hrest _).expRsn, lane_modLane]
  exact ⟨rfl, rfl⟩

/-- The polarity of a match in HUNT needs the loop and the parameters of the lane alone (R97, R326). -/
theorem huntForm_enterHunt (s : State) (l : Nat) (bar : Option Nat) (raw : RawRow) :
    (s.enterHunt l bar).huntForm l raw = s.huntForm l raw := by
  obtain ⟨-, -, htest, -⟩ := enterHunt_lane s l bar
  have hcur := (onLane_enterHunt s l bar).cur
  have hnear : ((s.enterHunt l bar).lane l).near = (s.lane l).near := by
    unfold Lane.near
    rw [htest]
    rfl
  unfold State.huntForm State.rxPrecode
  simp only [hnear, hcur]

/-- Any other row in FLYWHEEL brings HUNT, with LOF, and its position is examined like any other (R92, R94, R110). -/
theorem rowFlywheel_hunts {s : State} {l : Nat} {raw : RawRow}
    (hbad : ¬(frameCheck (s.lane l).pnInv (s.rxRow l (s.lane l).pnInv raw) = true ∧
      (s.rxRow l (s.lane l).pnInv raw).rsn = (s.lane l).expRsn)) :
    (((s.rowFlywheel l raw).lane l).align = .hunt ∨ ((s.rowFlywheel l raw).lane l).align = .confirm) ∧
      (s.huntForm l raw = none → ((s.rowFlywheel l raw).lane l).align = .hunt) ∧
      ((s.lane l).los = false → ((s.rowFlywheel l raw).lane l).lof = true) := by
  have heq : ∃ v, State.onLane Lane.alignment l s v ∧ s.rowFlywheel l raw = (v.enterHunt l none).examine l raw := by
    unfold State.rowFlywheel
    dsimp only
    rw [if_neg hbad]
    exact ⟨_, (onLane_missed ..).after (onLane_countCodewords ..), rfl⟩
  obtain ⟨v, hv, heq⟩ := heq
  obtain ⟨-, hcands, -, hlof⟩ := enterHunt_lane v l none
  obtain ⟨heither, hhunt⟩ := examine_align (v.enterHunt l none) l raw
  rw [heq]
  refine ⟨heither, fun h => hhunt hcands ?_, fun h => ?_⟩
  · rw [huntForm_enterHunt, hv.huntForm, h]
  · rw [examine_lane]
    exact hlof (hv.los.trans h)

theorem onLane_rowFlywheel (s : State) (l : Nat) (raw : RawRow) : State.onLaneOnly l s (s.rowFlywheel l raw) := by
  unfold State.rowFlywheel
  extract_lets _ _ s1 s2 _
  have h1 : State.onLaneOnly l s s1 := (onLane_countCodewords ..).any
  have h2 : State.onLaneOnly l s s2 := State.onLane.after (onLane_modLane rfl) h1
  exact onLane_ite _ ((onLane_hold ..).any.after ((onLane_rowFields ..).any.after ((onLane_enterSync ..).any.after h2)))
    ((onLane_examine ..).after ((onLane_enterHunt ..).after ((onLane_missed ..).any.after h1)))

/-! ### The stretch through the state machine -/

theorem onLane_alignRow (s : State) (l : Nat) (raw : RawRow) : State.onLaneOnly l s (s.alignRow l raw) := by
  unfold State.alignRow
  dsimp only
  have hrest : ∀ {u}, State.onLaneOnly l s u → State.onLaneOnly l s (u.countRest l raw) := fun h =>
    (onLane_countRest ..).any.after h
  split
  · exact onLane_refl ..
  · exact onLane_ite _ (hrest (onLane_rowHunt ..)) (onLane_integrateRow ..).any
  · exact hrest (onLane_rowConfirm ..)
  · exact onLane_ite _ (hrest (onLane_rowSync ..)) (onLane_refl ..)
  · exact onLane_ite _ (hrest (onLane_rowFlywheel ..)) (onLane_refl ..)

section
variable {s : State} {l : Nat} {raw : RawRow}

/-- By the state of the lane one of the four stages takes the stretch; the counts that follow keep the alignment. -/
theorem alignRow_hunt (h : (s.lane l).align = .hunt) (hsig : raw.signal = true) :
    State.onLane Lane.alignment l (s.rowHunt l raw) (s.alignRow l raw) := by
  unfold State.alignRow
  simp only [h, hsig, if_true]
  exact onLane_countRest ..

theorem alignRow_confirm (h : (s.lane l).align = .confirm) :
    State.onLane Lane.alignment l (s.rowConfirm l raw) (s.alignRow l raw) := by
  unfold State.alignRow
  simp only [h]
  exact onLane_countRest ..

theorem alignRow_sync (h : (s.lane l).align = .sync) (hat : raw.offset = (s.lane l).offset) :
    State.onLane Lane.alignment l (s.rowSync l raw) (s.alignRow l raw) := by
  unfold State.alignRow
  simp only [h, hat, if_true]
  exact onLane_countRest ..

theorem alignRow_flywheel (h : (s.lane l).align = .flywheel) (hat : raw.offset = (s.lane l).offset) :
    State.onLane Lane.alignment l (s.rowFlywheel l raw) (s.alignRow l raw) := by
  unfold State.alignRow
  simp only [h, hat, if_true]
  exact onLane_countRest ..

end

/-! ### A row at the RX pins -/

/-- The lane has heard the row, before its alignment is asked: the detector of LOS, and what a near loop keeps (R110, R324). -/
def State.heard (s : State) (l : Nat) (w : RawRow) : State :=
  s.modLane l fun x => { x with
    runs := x.runs.signal w.signal s.rowNow
    test := { x.test with near := if x.near then w.levels else [] } }

theorem onLane_heard (s : State) (l : Nat) (w : RawRow) : State.onLane Lane.alignment l s (s.heard l w) := onLane_modLane rfl

/-- What a row leaves of the alignment: the state machine over the stretches heard; a far loop keeps it. -/
theorem exec_laneRowReceived (l : Fin 512) (raw : RawRow) (s : State) (hon : (s.lane l).rxOn = true)
    (hdom : s.domain (lrOf l) = 0) (hline : s.lineChecker l = false) :
    ∃ t, exec (.laneRowReceived l raw) s = .next t ∧ State.onLane Lane.alignment l
      (((s.lane l).loopedElsewhere (s.looped l raw) ++ [s.looped l raw]).foldl (fun s r => s.alignRow l r)
        (s.heard l (s.looped l raw))) t := by
  have hexec : exec (.laneRowReceived l raw) s = execLaneRowReceived l raw s := rfl
  have hheard : (s.heard l (s.looped l raw)).lineChecker l = false := by
    rw [← Bool.not_eq_true, lineChecker_iff, State.heard, (touches_modLane ..).eff, (touches_modLane ..).eff,
      (touches_modLane ..).mode, lane_modLane]
    rwa [← Bool.not_eq_true, lineChecker_iff] at hline
  rw [hexec]
  unfold execLaneRowReceived
  simp only [hon, hdom, Bool.not_true, bne_self_eq_false, Bool.or_self, Bool.false_eq_true, if_false]
  refine ⟨_, rfl, ?_⟩
  change State.onLane _ _ _ (if 3 ≤ (s.lane l).test.loop then _ else _)
  rw [show (State.modLane s l _) = s.heard l (s.looped l raw) from rfl, hheard]
  exact onLane_ite _ (onLane_keepFar ..) (onLane_refl ..)

/-- Without a near loop that has moved the row away from its expected place the row is heard once (R92, R324). -/
theorem loopedElsewhere_nil {x : Lane} {w : RawRow} (h : ∀ o, x.expected = some o → x.near = true → o = 0) :
    x.loopedElsewhere w = [] := by
  unfold Lane.loopedElsewhere
  split
  next o ho => exact if_neg fun hc => hc.2 (h o ho hc.1)
  next => rfl

/-- Under a near loop the row begins at position 0 (R324). -/
theorem looped_offset {s : State} {l : Nat} (raw : RawRow) (h : (s.lane l).near = true) : (s.looped l raw).offset = 0 := by
  unfold State.looped
  dsimp only
  rw [if_pos h]

section
variable {l : Fin 512} {raw : RawRow} {s t : State}

/-- A row at the expected position goes through the state machine once. -/
theorem received_once (h : State.onLane Lane.alignment l.val
    (((s.lane l).loopedElsewhere (s.looped l raw) ++ [s.looped l raw]).foldl (fun s r => s.alignRow l r)
      (s.heard l (s.looped l raw))) t)
    (hat : ∀ o, (s.lane l).expected = some o → (s.looped l raw).offset = o) :
    State.onLane Lane.alignment l.val ((s.heard l (s.looped l raw)).alignRow l (s.looped l raw)) t := by
  rw [loopedElsewhere_nil fun o ho hn => (hat o ho).symm.trans (looped_offset raw hn)] at h
  exact h

end

/-- A match in HUNT where nothing bars it and no candidate stands: CONFIRM with this candidate. -/
theorem received_hunt {l : Fin 512} {raw w : RawRow} {s t : State} (hw : w = s.looped l raw)
    (ht : State.onLane Lane.alignment l.val (((s.lane l).loopedElsewhere w ++ [w]).foldl (fun s r => s.alignRow l r) (s.heard l w)) t)
    {rev : Bool} {r : LineRow} (halign : (s.lane l).align = .hunt) (hsig : w.signal = true)
    (hform : s.huntForm l w = some rev) (hr : r = s.rxRow l rev w) (hbar : (s.lane l).barred = [])
    (hnone : (s.lane l).cands = []) (hok : frameCheck rev r = true) :
    (t.lane l).align = .confirm ∧ (t.lane l).cands = [⟨w.offset, r.rsn, rev, lineCrc r, !r.unc.isEmpty⟩] := by
  subst hw hr
  have hh := onLane_heard s l (s.looped l raw)
  have hal := received_once ht fun o ho => by simp [Lane.expected, halign] at ho
  obtain ⟨h1, h2⟩ := rowHunt_confirms (s := s.heard l (s.looped l raw)) ((hh.huntForm _).trans hform) (hh.barred.trans hbar)
    (hh.cands.trans hnone) (by rwa [hh.rxRow])
  have hstage := alignRow_hunt (hh.align.trans halign) hsig
  rw [hh.rxRow] at h2
  exact ⟨(hal.align.trans hstage.align).trans h1, (hal.cands.trans hstage.cands).trans h2⟩

theorem received_confirm {l : Fin 512} {raw w : RawRow} {s t : State} (hw : w = s.looped l raw)
    (ht : State.onLane Lane.alignment l.val (((s.lane l).loopedElsewhere w ++ [w]).foldl (fun s r => s.alignRow l r) (s.heard l w)) t)
    {c : Cand} {rest : List Cand} {r : LineRow} (halign : (s.lane l).align = .confirm) (hcands : (s.lane l).cands = c :: rest)
    (hplace : w.offset = c.offset) (hr : r = s.rxRow l c.rev w) (hok : frameCheck c.rev r = true) (hrsn : r.rsn = c.rsn + 1)
    (hcheck : r.check = c.crc) :
    (t.lane l).align = .sync ∧ (t.lane l).expRsn = r.rsn + 1 ∧ (t.lane l).offset = c.offset ∧ (t.lane l).pnInv = c.rev := by
  subst hw hr
  have hh := onLane_heard s l (s.looped l raw)
  have hal := received_once ht fun o ho => by simpa [Lane.expected, halign, hcands, hplace] using ho
  obtain ⟨h1, h2, h3, h4⟩ := rowConfirm_syncs (s := s.heard l (s.looped l raw)) (hh.cands.trans hcands) hplace
    (by rwa [hh.rxRow]) (by rwa [hh.rxRow]) (by rwa [hh.rxRow])
  have hstage := alignRow_confirm (raw := s.looped l raw) (hh.align.trans halign)
  rw [hh.rxRow] at h2
  exact ⟨(hal.align.trans hstage.align).trans h1, (hal.expRsn.trans hstage.expRsn).trans h2,
    (hal.offset.trans hstage.offset).trans h3, (hal.pnInv.trans hstage.pnInv).trans h4⟩

section
variable {l : Fin 512} {raw w : RawRow} {s t : State} (hw : w = s.looped l raw)
  (ht : State.onLane Lane.alignment l.val (((s.lane l).loopedElsewhere w ++ [w]).foldl (fun s r => s.alignRow l r) (s.heard l w)) t)
  (hat : w.offset = (s.lane l).offset) {r : LineRow} (hr : r = s.rxRow l (s.lane l).pnInv w)
include hw ht hat hr

theorem received_sync (halign : (s.lane l).align = .sync) (hbad : frameCheck (s.lane l).pnInv r = false) :
    (t.lane l).align = .flywheel ∧ (t.lane l).expRsn = (s.lane l).expRsn + 1 := by
  subst hw hr
  have hh := onLane_heard s l (s.looped l raw)
  have hal := received_once ht fun o ho => by simpa [Lane.expected, halign, hat] using ho
  obtain ⟨h1, h2⟩ := rowSync_flywheels (s := s.heard l (s.looped l raw)) (l := l) (raw := s.looped l raw)
    (by rwa [hh.rxRow, hh.pnInv])
  have hstage := alignRow_sync (raw := s.looped l raw) (hh.align.trans halign) (hat.trans hh.offset.symm)
  rw [hh.expRsn] at h2
  exact ⟨(hal.align.trans hstage.align).trans h1, (hal.expRsn.trans hstage.expRsn).trans h2⟩

theorem received_flywheel_back (halign : (s.lane l).align = .flywheel) (hok : frameCheck (s.lane l).pnInv r = true)
    (hrsn : r.rsn = (s.lane l).expRsn) : (t.lane l).align = .sync ∧ (t.lane l).expRsn = r.rsn + 1 := by
  subst hw hr
  have hh := onLane_heard s l (s.looped l raw)
  have hal := received_once ht fun o ho => by simpa [Lane.expected, halign, hat] using ho
  obtain ⟨h1, h2⟩ := rowFlywheel_syncs (s := s.heard l (s.looped l raw)) (l := l) (raw := s.looped l raw)
    (by rwa [hh.rxRow, hh.pnInv]) (by rwa [hh.rxRow, hh.pnInv, hh.expRsn])
  have hstage := alignRow_flywheel (raw := s.looped l raw) (hh.align.trans halign) (hat.trans hh.offset.symm)
  rw [hh.rxRow, hh.pnInv] at h2
  exact ⟨(hal.align.trans hstage.align).trans h1, (hal.expRsn.trans hstage.expRsn).trans h2⟩

theorem received_flywheel_lost (halign : (s.lane l).align = .flywheel)
    (hbad : ¬(frameCheck (s.lane l).pnInv r = true ∧ r.rsn = (s.lane l).expRsn)) :
    ((t.lane l).align = .hunt ∨ (t.lane l).align = .confirm) ∧ (s.huntForm l w = none → (t.lane l).align = .hunt) ∧
      ((s.lane l).los = false → (t.lane l).lof = true) := by
  subst hw hr
  have hh := onLane_heard s l (s.looped l raw)
  have hal := received_once ht fun o ho => by simpa [Lane.expected, halign, hat] using ho
  obtain ⟨h1, h2, h3⟩ := rowFlywheel_hunts (s := s.heard l (s.looped l raw)) (l := l) (raw := s.looped l raw)
    (by rwa [hh.rxRow, hh.pnInv, hh.expRsn])
  have hstage := alignRow_flywheel (raw := s.looped l raw) (hh.align.trans halign) (hat.trans hh.offset.symm)
  rw [hal.align, hal.lof, hstage.align, hstage.lof]
  exact ⟨h1, fun h => h2 ((hh.huntForm _).trans h), fun h => h3 (hh.los.trans h)⟩

end

/-- The alignment state machine over one row. -/
theorem laneRowReceived_aligns (l : Fin 512) (raw w : RawRow) (s : State) (hon : (s.lane l).rxOn = true)
    (hdom : s.domain (lrOf l) = 0) (hline : s.lineChecker l = false) (hw : w = s.looped l raw) :
    ∃ t, exec (.laneRowReceived l raw) s = .next t ∧ (s.pairOf l = none → s.otherLanes t l) ∧
      (∀ rev r, (s.lane l).align = .hunt → w.signal = true → s.huntForm l w = some rev → r = s.rxRow l rev w →
        (s.lane l).barred = [] → (s.lane l).cands = [] → frameCheck rev r = true →
        (t.lane l).align = .confirm ∧ (t.lane l).cands = [⟨w.offset, r.rsn, rev, lineCrc r, !r.unc.isEmpty⟩]) ∧
      (∀ c rest r, (s.lane l).align = .confirm → (s.lane l).cands = c :: rest → w.offset = c.offset →
        r = s.rxRow l c.rev w → frameCheck c.rev r = true → r.rsn = c.rsn + 1 → r.check = c.crc →
        (t.lane l).align = .sync ∧ (t.lane l).expRsn = r.rsn + 1 ∧ (t.lane l).offset = c.offset ∧ (t.lane l).pnInv = c.rev) ∧
      (∀ r, r = s.rxRow l (s.lane l).pnInv w → w.offset = (s.lane l).offset →
        ((s.lane l).align = .sync → frameCheck (s.lane l).pnInv r = false →
          (t.lane l).align = .flywheel ∧ (t.lane l).expRsn = (s.lane l).expRsn + 1) ∧
        ((s.lane l).align = .flywheel → frameCheck (s.lane l).pnInv r = true → r.rsn = (s.lane l).expRsn →
          (t.lane l).align = .sync ∧ (t.lane l).expRsn = r.rsn + 1) ∧
        ((s.lane l).align = .flywheel → ¬(frameCheck (s.lane l).pnInv r = true ∧ r.rsn = (s.lane l).expRsn) →
          ((t.lane l).align = .hunt ∨ (t.lane l).align = .confirm) ∧
          (s.huntForm l w = none → (t.lane l).align = .hunt) ∧ ((s.lane l).los = false → (t.lane l).lof = true))) := by
  obtain ⟨t, hexec, ht⟩ := exec_laneRowReceived l raw s hon hdom hline
  rw [← hw] at ht
  have hall : ∀ (ws : List RawRow) (u : State), State.onLaneOnly l s u →
      State.onLaneOnly l s (ws.foldl (fun s r => s.alignRow l r) u) := fun ws => by
    induction ws with
    | nil => exact fun _ h => h
    | cons x r ih => exact fun u h => ih _ ((onLane_alignRow ..).after h)
  refine ⟨t, hexec, (ht.any.after (hall _ _ (onLane_heard ..).any)).others,
    fun rev r halign hsig hform hr hbar hnone hok => received_hunt hw ht halign hsig hform hr hbar hnone hok,
    fun c rest r halign hcands hplace hr hok hrsn hcheck => received_confirm hw ht halign hcands hplace hr hok hrsn hcheck,
    fun r hr hat => ⟨received_sync hw ht hat hr, received_flywheel_back hw ht hat hr, received_flywheel_lost hw ht hat hr⟩⟩

/-! ### LOS, and the defects that integrate over rows (R110, R111) -/

/-- No content of a lane with LOS that is no part of a pair reaches its tributaries (R134). -/
theorem tribsDown_of_los {s : State} {l : Nat} {x : Lane} (hp : s.pairOf l = none) (hlos : x.los = true) :
    (s.setLane l x).tribsDown l = true := by
  have hp' : (s.setLane l x).pairOf l = none := hp
  unfold State.tribsDown
  rw [hp']
  unfold State.ingressAis
  dsimp only
  rw [lane_setLane, hlos]
  simp

theorem tribLane_alone {s : State} {l : Nat} (hp : s.pairOf l = none) : s.tribLane l = l := by
  unfold State.tribLane
  rw [hp]

/-- LOS sets: it masks every other defect, and a lane that is no part of a pair brings its tributaries into TAIS. -/
theorem laneSignalLoss_masks (l : Fin 512) (s : State) (hon : (s.lane l).rxOn = true) (hlos : (s.lane l).los = false)
    (hpins : (s.lane l).near = false ∨ (s.lane l).tx.idle = true) :
    ∃ t, exec (.laneSignalLoss l) s = .next t ∧ (t.lane l).los = true ∧ (t.lane l).lof = false ∧ (t.lane l).anf = false ∧
      (t.lane l).unc = false ∧ (t.lane l).lais = false ∧ (t.lane l).sd = false ∧ (t.lane l).tim = false ∧
      (t.lane l).slf = false ∧ (t.lane l).rrdi = false ∧ (t.lane l).anw = false ∧ s.otherLanes t l ∧
      (s.pairOf l = none → ∀ k, (s.trib k).on = true → (s.trib k).lane = l → (t.trib k).tais = true) := by
  have hmasked : ((s.lane l).near && !(s.lane l).tx.idle) = false := by
    rcases hpins with h | h <;> simp [h]
  have hexec : exec (.laneSignalLoss l) s = .next ((s.setLane l { (s.lane l).maskAll with
      los := true
      lof := false
      runs := { sync := (s.lane l).runs.sync }
      secErr := true
      secSev := true }).laneTais l) := by
    have hexec : exec (.laneSignalLoss l) s = execLaneSignalLoss l s := rfl
    rw [hexec]
    unfold execLaneSignalLoss
    simp only [hon, hlos, hmasked, Bool.not_true, Bool.or_self, Bool.false_eq_true, if_false]
  refine ⟨_, hexec, ?_⟩
  rw [laneTais_lane, lane_setLane]
  refine ⟨rfl, rfl, rfl, rfl, rfl, rfl, rfl, rfl, rfl, rfl, fun k hk => ?_, fun hp k hk hl => ?_⟩
  · rw [laneTais_lane, lane_setLane_other _ _ _ hk]
  · exact laneTais_trib_tais (tribsDown_of_los hp rfl) hk (by rw [tribLane_alone (by exact hp)]; exact hl)

/-- What an integration leaves of its lane, beside the remote status that stays for the row just ending (R114). -/
theorem keepRdi_lane (s : State) (l : Nat) (was : Bool × Bool × Bool) :
    ∃ r, (s.keepRdi l was).lane l = { s.lane l with rdiWas := r } := by
  unfold State.keepRdi
  split
  · exact ⟨_, rfl⟩
  · exact ⟨_, lane_modLane ..⟩

theorem keepRdi_lane_other (s : State) (l : Nat) (was : Bool × Bool × Bool) {k : Nat} (hk : k ≠ l) :
    (s.keepRdi l was).lane k = s.lane k := by
  unfold State.keepRdi
  split
  · rfl
  · exact lane_modLane_other _ _ _ hk

/-- An integration either sets its defect, or clears it, or leaves the state: only its own lane takes part. -/
theorem setsOrClears_lane (s : State) (l : Nat) (set clear : Prop) {_ : Decidable set} {_ : Decidable clear} (x y : Lane) :
    s.otherLanes (if set then s.setLane l x else if clear then s.setLane l y else s) l ∧
      (set → (if set then s.setLane l x else if clear then s.setLane l y else s).lane l = x) ∧
      (¬set → clear → (if set then s.setLane l x else if clear then s.setLane l y else s).lane l = y) := by
  by_cases hs : set
  · simp only [hs, if_true]
    exact ⟨fun _ => lane_setLane_other s l x, fun _ => lane_setLane .., fun h => absurd trivial h⟩
  · by_cases hc : clear
    · simp only [hs, hc, if_true, if_false]
      exact ⟨fun _ => lane_setLane_other s l y, False.elim, fun _ _ => lane_setLane ..⟩
    · simp only [hs, hc, if_false]
      exact ⟨fun _ _ => rfl, False.elim, fun _ => False.elim⟩

/-- The integration of a lane's defect, one defect at a time (R110, R111). -/
theorem laneDefect_lane (s : State) (l : Nat) (d : LaneDefect) (hon : (s.lane l).rxOn = true) :
    s.otherLanes (s.laneDefect l d) l ∧
      match d with
      | .los => (s.lane l).los = true → 4 ≤ (s.lane l).runs.losOk → ((s.laneDefect l .los).lane l).los = false ∧
          ((s.lane l).runs.sync < 8 → ((s.laneDefect l .los).lane l).lof = true)
      | .lof => (s.lane l).lof = true → (s.lane l).los = false → 8 ≤ (s.lane l).runs.sync →
          ((s.laneDefect l .lof).lane l).lof = false
      | .anf => (s.lane l).los = false → (s.lane l).lof = false → (s.lane l).anf = false → 2 ≤ (s.lane l).runs.anfBad →
          ((s.laneDefect l .anf).lane l).anf = true
      | .unc => (s.lane l).los = false → (s.lane l).lof = false →
          ((s.lane l).unc = false → 2 ≤ (s.lane l).runs.uncBad → ((s.laneDefect l .unc).lane l).unc = true) ∧
          ((s.lane l).unc = true → 8 ≤ (s.lane l).runs.uncOk → ((s.laneDefect l .unc).lane l).unc = false)
      | .lais => (s.lane l).los = false → (s.lane l).lof = false → (s.lane l).lais = false → 2 ≤ (s.lane l).runs.laisOn →
          ((s.laneDefect l .lais).lane l).lais = true
      | .sd => (s.lane l).los = false → (s.lane l).lof = false →
          ((s.lane l).sd = false → (s.lane l).runs.sdBad = true → ((s.laneDefect l .sd).lane l).sd = true) ∧
          ((s.lane l).sd = true → 4 ≤ (s.lane l).runs.sdOk → ((s.laneDefect l .sd).lane l).sd = false)
      | .rrdi => (s.lane l).los = false → (s.lane l).lof = false → (s.lane l).rrdi = false → 3 ≤ (s.lane l).runs.rdiOn →
          ((s.laneDefect l .rrdi).lane l).rrdi = true
      | .anw => (s.lane l).los = false → (s.lane l).lof = false → (s.lane l).anw = false → 64 ≤ (s.lane l).runs.anwOn →
          ((s.laneDefect l .anw).lane l).anw = true := by
  cases d with
  | los =>
    simp only [State.laneDefect, hon, Bool.not_true, Bool.false_eq_true, if_false]
    split
    · split
      next hsync =>
        refine ⟨fun _ hk => lane_setLane_other _ _ _ hk, fun _ _ => ⟨by rw [lane_setLane], fun h => absurd h (Nat.not_lt.mpr hsync)⟩⟩
      next =>
        refine ⟨fun _ hk => (setLof_lane_other _ _ _ hk).trans (lane_setLane_other _ _ _ hk), fun _ _ => ⟨?_, fun _ => ?_⟩⟩
        · rw [setLof_lane, lane_setLane]
          rfl
        · exact setLof_lof _ _ _ (by rw [lane_setLane])
    next hno =>
      refine ⟨fun _ _ => rfl, fun h1 h2 => absurd ?_ hno⟩
      simp [h1, h2]
  | lof =>
    simp only [State.laneDefect, hon, Bool.not_true, Bool.false_eq_true, if_false]
    split
    · exact ⟨fun _ hk => lane_setLane_other _ _ _ hk, fun _ _ _ => by rw [lane_setLane]⟩
    next hno =>
      refine ⟨fun _ _ => rfl, fun h1 h2 h3 => absurd ?_ hno⟩
      simp [h1, h2, h3]
  | anf =>
    simp only [State.laneDefect, hon, Bool.not_true, Bool.false_eq_true, if_false]
    split
    · refine ⟨fun k hk => ?_, fun _ _ _ _ => ?_⟩
      · rw [laneTais_lane, lane_setLane_other _ _ _ hk]
      · rw [laneTais_lane, lane_setLane]
    next hno =>
      refine ⟨fun k hk => ?_, fun h1 h2 h3 h4 => absurd ?_ hno⟩
      · split
        · exact lane_setLane_other _ _ _ hk
        · rfl
      · simp [h1, h2, h3, h4]
  | _ =>
    simp only [State.laneDefect, hon, Bool.not_true, Bool.false_eq_true, if_false]
    obtain ⟨ho, hset, hclear⟩ := setsOrClears_lane s l _ _ _ _
    refine ⟨ho, ?_⟩
    simp_all

theorem laneDefectIntegration_integrates (l : Fin 512) (d : LaneDefect) (s : State) (hon : (s.lane l).rxOn = true) :
    ∃ t, exec (.laneDefectIntegration l d) s = .next t ∧ s.otherLanes t l ∧
      (d = .los → (s.lane l).los = true → 4 ≤ (s.lane l).runs.losOk → (t.lane l).los = false ∧
        ((s.lane l).runs.sync < 8 → (t.lane l).lof = true)) ∧
      (d = .lof → (s.lane l).lof = true → (s.lane l).los = false → 8 ≤ (s.lane l).runs.sync → (t.lane l).lof = false) ∧
      ((s.lane l).los = false → (s.lane l).lof = false →
        (d = .anf → (s.lane l).anf = false → 2 ≤ (s.lane l).runs.anfBad → (t.lane l).anf = true) ∧
        (d = .unc → (s.lane l).unc = false → 2 ≤ (s.lane l).runs.uncBad → (t.lane l).unc = true) ∧
        (d = .unc → (s.lane l).unc = true → 8 ≤ (s.lane l).runs.uncOk → (t.lane l).unc = false) ∧
        (d = .lais → (s.lane l).lais = false → 2 ≤ (s.lane l).runs.laisOn → (t.lane l).lais = true) ∧
        (d = .sd → (s.lane l).sd = false → (s.lane l).runs.sdBad = true → (t.lane l).sd = true) ∧
        (d = .sd → (s.lane l).sd = true → 4 ≤ (s.lane l).runs.sdOk → (t.lane l).sd = false) ∧
        (d = .rrdi → (s.lane l).rrdi = false → 3 ≤ (s.lane l).runs.rdiOn → (t.lane l).rrdi = true) ∧
        (d = .anw → (s.lane l).anw = false → 64 ≤ (s.lane l).runs.anwOn → (t.lane l).anw = true)) := by
  obtain ⟨hother, h⟩ := laneDefect_lane s l d hon
  obtain ⟨r, hlane⟩ := keepRdi_lane (s.laneDefect l d) l (s.rdiNow l)
  refine ⟨(s.laneDefect l d).keepRdi l (s.rdiNow l), rfl, fun k hk => (keepRdi_lane_other _ _ _ hk).trans (hother k hk), ?_⟩
  rw [hlane]
  cases d with
  | _ => simpa using h

/-- Settles O8: a row by `laneRowReceived_aligns`, LOS by `laneSignalLoss_masks`, the defects by `laneDefect_lane`. -/
theorem laneReceivers : Obligations.LaneReceivers :=
  ⟨laneRowReceived_aligns, laneSignalLoss_masks, laneDefectIntegration_integrates⟩

end Sys2Proof.Machine
end
